-- ==== Sys2Proof/Word.lean ====
section
/-! DEFINITION. The words of the Ilkhen 630: bytes, 32-bit words, the lanes of an 8-byte beat, and the
plainest arithmetic on counters. What a test could show wrong (byte order, rounding, swizzle) is in
Machine/Bits.lean. -/

namespace Sys2Proof

/-- One byte. -/
abbrev Byte := BitVec 8

/-- One 32-bit word: a pixel value, a generation, a tag sequence (00_scope 1.6). -/
abbrev Word := BitVec 32

/-- A byte of a write with its byte strobe (00_scope 1.6: a write carries 8 byte strobes per beat). -/
structure Lane where
  byte : Byte
  strobe : Bool
  deriving DecidableEq, Repr

/-- The four byte positions of one 32-bit word, `b0` at the lowest address (Table 17). -/
structure Quad (α : Type) where
  b0 : α
  b1 : α
  b2 : α
  b3 : α
  deriving DecidableEq, Repr

/-- One 8-byte beat: two words, the even column of a pixel pair in `lo` (00_scope 1.6). -/
structure Beat (α : Type) where
  lo : Quad α
  hi : Quad α
  deriving DecidableEq, Repr

/-- A beat of a write: eight bytes, each with its strobe. -/
abbrev WBeat := Beat Lane

/-- A beat of read data. -/
abbrev RBeat := Beat Byte

/-- A pair indexed by the two rear seats, or by the two film streams (stream 0 is REAR_L's). -/
structure Pair (α : Type) where
  l : α
  r : α
  deriving DecidableEq, Repr

/-- A triple indexed by the three displays. -/
structure Tri (α : Type) where
  c : α
  l : α
  r : α
  deriving DecidableEq, Repr

end Sys2Proof
end

