-- ==== Sys2Proof/Syntax.lean ====
section
/-! DEFINITION. The commands of the Ilkhen 630: one constructor per row of spec/opcode_table.json. The
table gives a row no operands; each operand here is what the outside world brings with the event (a
request's beats, a completion's data or error, a byte on the link), or which of several like things the
event names (a display, a link kind). -/

namespace Sys2Proof

/-- The two rear seats: REAR_L with stream 0 and HP_L, REAR_R with stream 1 and HP_R (chapter 5.1). -/
inductive Seat where
  | left
  | right
  deriving DecidableEq, Repr

/-- The three displays: the centre and the two rear ones. -/
inductive Disp where
  | centre
  | rear (s : Seat)
  deriving DecidableEq, Repr

/-- The layers of a display that read memory, lowest first (chapter 2.3). -/
inductive LayerId where
  | base
  | ov0
  | ov1
  deriving DecidableEq, Repr

/-- The two kinds of body status link frame (Table 45). -/
inductive LinkKind where
  | steering
  | conditions
  deriving DecidableEq, Repr

/-- What a host request asks: a read of some beats, or a write of the beats given (R38). -/
inductive HostOp where
  | read (beats : Nat)
  | write (data : List WBeat)
  deriving DecidableEq, Repr

/-- A host request on the upstream port: its first beat's number (byte address div 8) and what it asks.
Transfers move 8-byte beats aligned to 8 bytes and addresses are 32 bits wide (00_scope 1.6). -/
structure HostReq where
  beatNo : BitVec 29
  op : HostOp
  deriving DecidableEq, Repr

/-- A downstream completion: read data (none for a write) in ascending address order, or an error. -/
inductive Reply where
  | ok (data : List RBeat)
  | error
  deriving DecidableEq, Repr

/-- The commands: one constructor per row of the table, in the table's order. -/
inductive Instr where
  /-- POWER_ON_RESET (R180): PORN falls. -/
  | powerOnReset
  /-- PORN_RELEASE (R180): PORN rises with the straps CBSEL[2:0] at `cbsel`. -/
  | pornRelease (cbsel : BitVec 3)
  /-- HOST_RESET (R180): HRSTN falls. -/
  | hostReset
  /-- HOST_RESET_RELEASE (R38): HRSTN rises. -/
  | hostResetRelease
  /-- CLOCK_CHECK_END (R181): 8 slow-oscillator periods end; `elapsed` reference ticks have passed since
  the step before. -/
  | clockCheckEnd (elapsed : Nat)
  /-- PROFILE_LENGTH_READ (R182): the first two profile bytes arrive, lowest address first. -/
  | profileLengthRead (b0 b1 : Byte)
  /-- PROFILE_READ_DONE (R183): the rest of the profile has been read; `rest` are the bytes from
  address 2 on. -/
  | profileReadDone (rest : List Byte)
  /-- CAMERA_REGION_DEFINE (R44). -/
  | cameraRegionDefine
  /-- TB_TICK (R181): the millisecond tick. -/
  | tbTick
  /-- HOST_REQUEST (R38): the host's request `q` reaches the upstream port. -/
  | hostRequest (q : HostReq)
  /-- ARB_GRANT (R61). -/
  | arbGrant
  /-- BURST_HANDOVER_DONE (R59). -/
  | burstHandoverDone
  /-- HOST_PIECE_DROP (R51). -/
  | hostPieceDrop
  /-- HOST_PIECE_COMPLETE (R52): the downstream completion of a host piece. -/
  | hostPieceComplete (r : Reply)
  /-- LOAD_READ_BURST_COMPLETE (R167). -/
  | loadReadBurstComplete (r : Reply)
  /-- LOAD_REREAD_COMPLETE (R167). -/
  | loadRereadComplete (r : Reply)
  /-- LOAD_CHECK (R169). -/
  | loadCheck
  /-- REPORT_TICK (R177). -/
  | reportTick
  /-- REPORT_BURST_COMPLETE (R179): a report write burst completes, in error or not. -/
  | reportBurstComplete (err : Bool)
  /-- CENTRE_BLANK_EVENT (R110). -/
  | centreBlankEvent
  /-- CENTRE_ACTIVE_EVENT (R125). -/
  | centreActiveEvent
  /-- GUIDE_BUILD_COMPLETE (R124). -/
  | guideBuildComplete
  /-- REAR_BLANK_EVENT (R68) of one rear display. -/
  | rearBlankEvent (s : Seat)
  /-- REAR_ACTIVE_EVENT (R3) of one rear display. -/
  | rearActiveEvent (s : Seat)
  /-- DISPLAY_LINE_END (R1) of one display. -/
  | displayLineEnd (d : Disp)
  /-- LAYER_UNDERRUN (R35): the scan of display `d` reaches display column `col` of a layer whose data
  has not arrived. -/
  | layerUnderrun (d : Disp) (layer : LayerId) (col : Nat)
  /-- SCAN_BURST_COMPLETE (R33): the completion of a scan-out fetch burst of display `d`. -/
  | scanBurstComplete (d : Disp) (r : Reply)
  /-- PWM_PERIOD_END (R15) of one backlight channel. -/
  | pwmPeriodEnd (d : Disp)
  /-- BACKLIGHT_FAULT (R17): the fault input of one channel becomes active. -/
  | backlightFault (d : Disp)
  /-- OUTPUT_FRAME (R97). -/
  | outputFrame
  /-- DUCK_STEP (R96). -/
  | duckStep
  /-- BLOCK_BOUNDARY (R89). -/
  | blockBoundary
  /-- AUDIO_BURST_COMPLETE (R91). -/
  | audioBurstComplete (r : Reply)
  /-- CHIME_STEP_END (R156). -/
  | chimeStepEnd
  /-- FADE_END (R158). -/
  | fadeEnd
  /-- CAMERA_FRAME_START (R104): frame-valid rises; `elapsed` reference ticks have passed since the step
  before. -/
  | cameraFrameStart (elapsed : Nat)
  /-- CAMERA_LINE_START (R101): line-valid rises. -/
  | cameraLineStart
  /-- CAMERA_PIXEL (R100): one pixel, red in bits 23:16, green in 15:8, blue in 7:0. -/
  | cameraPixel (rgb : BitVec 24)
  /-- CAMERA_LINE_END (R101). -/
  | cameraLineEnd
  /-- CAMERA_FRAME_END (R101): frame-valid falls. -/
  | cameraFrameEnd
  /-- CAMERA_BURST_COMPLETE (R105): a camera write burst completes, in error or not. -/
  | cameraBurstComplete (err : Bool)
  /-- CAMERA_LOSS (R103). -/
  | cameraLoss
  /-- REVIN_CHANGE (R107): the REVIN level changes. -/
  | revinChange
  /-- DEBOUNCE_EXPIRY (R107). -/
  | debounceExpiry
  /-- ENGAGE_TIMER_EXPIRY (R111). -/
  | engageTimerExpiry
  /-- FREEZE_TIMER_EXPIRY (R112). -/
  | freezeTimerExpiry
  /-- RELEASE_TIMER_EXPIRY (R115). -/
  | releaseTimerExpiry
  /-- LINK_BYTE_TAKEN (R140): a byte is taken at its stop-bit sample. -/
  | linkByteTaken (b : Byte)
  /-- LINK_STOP_BIT_ERROR (R139). -/
  | linkStopBitError
  /-- GAP_TIMER_EXPIRY (R141). -/
  | gapTimerExpiry
  /-- FRESHNESS_TIMER_EXPIRY (R146) of one kind. -/
  | freshnessTimerExpiry (k : LinkKind)
  /-- LINK_START_BIT (R141). -/
  | linkStartBit
  /-- FAULT_INPUT_RELEASE (R17): the fault input of one channel becomes inactive. -/
  | faultInputRelease (d : Disp)
  deriving DecidableEq, Repr

end Sys2Proof
end

