-- ==== Sys2Proof/Decode.lean ====
section
/-! DEFINITION. The 630 is a block: it fetches no instruction, and no row of spec/opcode_table.json gives
its command any bits ("fixed" and "fields" are empty or absent in all 53 rows). So no word spells a
command, and nothing is encoded. -/

namespace Sys2Proof

/-- The command that a word spells by the table's bits: none, since no row gives bits. -/
def decodeTableWord (_nbits _w : Nat) : Option Instr := none

end Sys2Proof
end

