-- ==== Sys2Proof/Machine/Bits.lean ====
section
/-! DEFINITION. Byte order, rounding, clamping, saturating counters and the swizzle operations: the small
computations of the spec's conventions (00_scope 1.6) and of Table 17. -/

namespace Sys2Proof.Machine

open Sys2Proof

/-! ### Pairs and triples -/

/-- The element of a rear seat or stream. -/
def Pair.get {α : Type} (p : Pair α) : Seat → α
  | .left => p.l
  | .right => p.r

/-- Replace the element of a rear seat or stream. -/
def Pair.set {α : Type} (p : Pair α) (s : Seat) (a : α) : Pair α :=
  match s with
  | .left => { p with l := a }
  | .right => { p with r := a }

/-- The element of a display. -/
def Tri.get {α : Type} (t : Tri α) : Disp → α
  | .centre => t.c
  | .rear .left => t.l
  | .rear .right => t.r

/-- Replace the element of a display. -/
def Tri.set {α : Type} (t : Tri α) (d : Disp) (a : α) : Tri α :=
  match d with
  | .centre => { t with c := a }
  | .rear .left => { t with l := a }
  | .rear .right => { t with r := a }

/-- Apply one function to the three elements. -/
def Tri.map {α β : Type} (f : α → β) (t : Tri α) : Tri β := ⟨f t.c, f t.l, f t.r⟩

/-! ### Counters and arithmetic -/

/-- An event counter: 16 bits, saturating at 65535 (00_scope 1.6). -/
def satInc (n : Nat) : Nat := min (n + 1) 65535

/-- `k` increments of an event counter (00_scope 1.6). -/
def satAdd (n k : Nat) : Nat := min (n + k) 65535

/-- The least multiple of `m` not below `x` (00_scope 1.6). -/
def roundup (x m : Nat) : Nat := (x + m - 1) / m * m

/-- `n / d` rounded to the nearest integer, halves away from zero (00_scope 1.6). -/
def roundDiv (n d : Int) : Int :=
  let q : Int := ((2 * n.natAbs + d.natAbs) / (2 * d.natAbs) : Nat)
  if n.sign * d.sign < 0 then -q else q

/-- `x` held within `lo..hi`. -/
def clampInt (lo hi x : Int) : Int := max lo (min hi x)

/-- `sat` of 00_scope 1.6: clamp to −32768..32767. -/
def sat16 (x : Int) : Int := clampInt (-32768) 32767 x

/-- A 16-bit field read as a signed number. -/
def signed16 (n : Nat) : Int := if n < 32768 then n else (n : Int) - 65536

/-- A 32-bit field read as a signed number. -/
def signed32 (n : Nat) : Int := if n < 2147483648 then n else (n : Int) - 4294967296

/-- A millisecond timer after one timebase tick: one tick less to run (00_scope 1.6). -/
def timerTick (t : Option Nat) : Option Nat := t.map (· - 1)

/-! ### Bytes, words and beats -/

/-- The `n` low bytes of `x`, least significant first: every multi-byte field is little-endian
(00_scope 1.6). -/
def bytesLE : (n x : Nat) → List Byte
  | 0, _ => []
  | n + 1, x => BitVec.ofNat 8 x :: bytesLE n (x / 256)

/-- A field of `n` bytes at offset `off` of the byte function `rd`, little-endian (00_scope 1.6). -/
def fieldLE (rd : Nat → Nat) (off : Nat) : (n : Nat) → Nat
  | 0 => 0
  | n + 1 => rd off + 256 * fieldLE rd (off + 1) n

/-- The four bytes of a word, byte 0 the least significant. -/
def quadOfWord (w : Word) : Quad Byte :=
  { b0 := w.extractLsb' 0 8, b1 := w.extractLsb' 8 8, b2 := w.extractLsb' 16 8, b3 := w.extractLsb' 24 8 }

/-- The word of four bytes, byte 0 the least significant. -/
def wordOfQuad (q : Quad Byte) : Word := q.b3 ++ q.b2 ++ q.b1 ++ q.b0

/-- Element `i` (0..3) of a quad, in address order. -/
def Quad.nth {α : Type} (q : Quad α) (i : Nat) : α :=
  if i % 4 = 0 then q.b0 else if i % 4 = 1 then q.b1 else if i % 4 = 2 then q.b2 else q.b3

/-- Element `i` (0..7) of a beat, in address order. -/
def Beat.nth {α : Type} (b : Beat α) (i : Nat) : α := if i % 8 < 4 then Quad.nth b.lo i else Quad.nth b.hi i

/-- Apply one function to the four elements of a quad. -/
def Quad.map {α β : Type} (f : α → β) (q : Quad α) : Quad β := ⟨f q.b0, f q.b1, f q.b2, f q.b3⟩

/-- Apply one function to the eight elements of a beat. -/
def Beat.map {α β : Type} (f : α → β) (b : Beat α) : Beat β := ⟨Quad.map f b.lo, Quad.map f b.hi⟩

/-- The eight elements of a beat in address order. -/
def Beat.toList {α : Type} (b : Beat α) : List α :=
  [b.lo.b0, b.lo.b1, b.lo.b2, b.lo.b3, b.hi.b0, b.hi.b1, b.hi.b2, b.hi.b3]

/-- A beat of zeros. -/
def zeroBeat : RBeat := ⟨⟨0, 0, 0, 0⟩, ⟨0, 0, 0, 0⟩⟩

/-- The beats of a list of bytes, eight to a beat in address order; a rest of fewer than eight bytes gives
no beat. -/
def beatsOfBytes : List Byte → List RBeat
  | a :: b :: c :: d :: e :: f :: g :: h :: rest => ⟨⟨a, b, c, d⟩, ⟨e, f, g, h⟩⟩ :: beatsOfBytes rest
  | _ => []

/-- A beat of a write with every strobe set. -/
def strobed (b : RBeat) : WBeat := Beat.map (fun x => ⟨x, true⟩) b

/-- Byte `i` of a run of beats as a number; 0 beyond the run. -/
def beatsByte (bs : List RBeat) (i : Nat) : Nat :=
  match bs[i / 8]? with
  | some b => (Beat.nth b i).toNat
  | none => 0

/-- The bits of a byte in the reverse order (Table 17, flag R). -/
def reverseByte (b : Byte) : Byte :=
  b.extractLsb' 0 1 ++ b.extractLsb' 1 1 ++ b.extractLsb' 2 1 ++ b.extractLsb' 3 1 ++
    b.extractLsb' 4 1 ++ b.extractLsb' 5 1 ++ b.extractLsb' 6 1 ++ b.extractLsb' 7 1

/-! ### Swizzle (Table 17) -/

/-- Flag H: bytes 0, 1 exchanged with bytes 2, 3. A strobe moves with its byte. -/
def swapHalves {α : Type} (q : Quad α) : Quad α := ⟨q.b2, q.b3, q.b0, q.b1⟩

/-- Flag B: byte 0 exchanged with byte 1, byte 2 with byte 3. A strobe moves with its byte. -/
def swapBytes {α : Type} (q : Quad α) : Quad α := ⟨q.b1, q.b0, q.b3, q.b2⟩

/-- The two words of a beat exchanged: the pixel exchange of R48. -/
def swapWords {α : Type} (b : Beat α) : Beat α := ⟨b.hi, b.lo⟩

end Sys2Proof.Machine
end

