-- ==== Sys2Proof/Config.lean ====
section
/-! DEFINITION. The fixed quantities of the Ilkhen 630 and the values the spec leaves open. An open value
is an opaque constant: no proof can see it, so a claim that holds here holds whatever the value is. -/

namespace Sys2Proof.Config

/-- Byte `i` (0..7) of the data that accompanies the ERROR response to a read whose last beat would lie
beyond address 0xFFFFFFFF, for the beat at address `a`. The spec gives the response (R38) and no data:
free (log entry 6). -/
opaque beyondTopReadByte : (a i : Nat) → Byte

/-- Whether a rear display keeps, at a host reset, the base pixels of the line it has begun to the end of that line.
R22 says that it does; R5, R37, R78 and Tables 15 and 73 say that it does not, and the spec ranks neither above the
other: free (log entry 42). -/
opaque hostResetKeepsLine : Bool

/-- Upstream queue entries (R38). -/
def queueDepth : Nat := 8

/-- Reference ticks in one millisecond tick (00_scope 1.6, R181). -/
def ticksPerMs : Nat := 24000

/-- Reference ticks in one output frame (R87). -/
def ticksPerFrame : Nat := 500

/-- Reference ticks after which the gap timer has passed its limit (R141). -/
def gapLimit : Nat := 24000

/-- The reported period at a camera loss (R103), in microseconds. -/
def periodLimit : Nat := 1048575

/-- Pixels the camera line buffer holds (R100). -/
def lineBufferSize : Nat := 2048

/-- The values RVC uses in place of the profile until BOOT enters RUNNING (R108). -/
def fixedDebounce : Nat := 20
def fixedEngage : Nat := 1000
def fixedFreeze : Nat := 1000
def fixedRelease : Nat := 0

/-- The last block sequence, at which a stream is exhausted (R89). -/
def lastBlockSeq : Nat := 4294967295

end Sys2Proof.Config
end

