-- ==== Sys2Proof/Machine/State.lean ====
section
/-! DEFINITION. The state of the Ilkhen 630, block by block (00_scope Table 1), as plain data, with every
block's values after power-on reset. Each structure's docstring names the rules that give its fields;
INVENTORY.md lists every field with its rule and reset value. -/

namespace Sys2Proof.Machine

open Sys2Proof

/-! ### Records the host and the profile lay out (chapter 10.8) -/

/-- A swizzle set: any combination of the four flags (Table 17). -/
structure Swz where
  h : Bool
  b : Bool
  r : Bool
  n : Bool
  deriving DecidableEq, Repr

/-- Orientation of a FILM region (R47). -/
inductive Orient where
  | normal
  | mirrorX
  | mirrorY
  | rotate180
  deriving DecidableEq, Repr

/-- The fields of a FILM descriptor (Table 62). -/
structure Film where
  base : Nat
  size : Nat
  width : Nat
  height : Nat
  swz : Swz
  orient : Orient
  seat : Seat
  count : Nat
  deriving DecidableEq, Repr

/-- The fields of an OVERLAY descriptor (Table 62). -/
structure Overlay where
  base : Nat
  size : Nat
  width : Nat
  height : Nat
  swz : Swz
  deriving DecidableEq, Repr

/-- The fields of an AUDIO descriptor (Table 62): a ring of `n` blocks. -/
structure AudioRing where
  base : Nat
  size : Nat
  n : Nat
  deriving DecidableEq, Repr

/-- One entry of a region table, with the fields its kind has and no other (R169: the bytes the layout
does not name for the kind are not read). `absent` is kind NONE. -/
inductive Region where
  | absent
  | film (f : Film)
  | overlay (o : Overlay)
  | audio (a : AudioRing)
  deriving DecidableEq, Repr

/-- Frame-mark modes (R12). -/
inductive MarkMode where
  | off
  | blank
  | flip
  deriving DecidableEq, Repr

/-- One overlay of a scene (Table 10, Table 63). `region` is `none` for 0xFF. -/
structure SceneOverlay where
  region : Option Nat
  la : Nat
  revVisible : Bool
  x : Nat
  y : Nat
  scrT : Nat
  scrS : Nat
  scrB : Nat
  scrP : Nat
  deriving DecidableEq, Repr

/-- A scene record (Table 10, Table 63). -/
structure Scene where
  enable : Bool
  mark : MarkMode
  duty : Nat
  background : Word
  base : Option Nat
  x : Nat
  y : Nat
  ov0 : SceneOverlay
  ov1 : SceneOverlay
  deriving DecidableEq, Repr

/-- One stream's part of the audio record (R85, Table 64). -/
structure StreamRecord where
  enable : Bool
  ring : Nat
  start : Nat
  prime : Nat
  volume : Nat
  deriving DecidableEq, Repr

/-- The cabin route (R95). -/
inductive Route where
  | silent
  | stream (s : Seat)
  deriving DecidableEq, Repr

/-- The audio record of the control block (R85, R95, Table 64). -/
structure AudioRecord where
  streams : Pair StreamRecord
  route : Route
  mute : Bool
  vc : Nat
  duck : Nat
  deriving DecidableEq, Repr

/-- One display's timing and colours in the profile (Table 4). -/
structure DispTiming where
  enable : Nat
  wa : Nat
  ha : Nat
  hb : Nat
  vb : Nat
  d : Nat
  background : Word
  duty : Nat
  period : Nat
  deriving DecidableEq, Repr

/-- The camera fields of the profile (Table 33). -/
structure CameraProfile where
  width : Nat
  height : Nat
  base : Nat
  cx : Nat
  cy : Nat
  px : Nat
  py : Nat
  pw : Nat
  ph : Nat
  unavailable : Word
  deriving DecidableEq, Repr

/-- The reverse fields of the profile (Table 33), with the chime stack depth (Table 68). -/
structure ReverseProfile where
  debounce : Nat
  engage : Nat
  freeze : Nat
  release : Nat
  duty : Nat
  reduce : Nat
  chime : Nat
  depth : Nat
  deriving DecidableEq, Repr

/-- The guide fields of the profile (Table 37). -/
structure GuideProfile where
  k : List Int
  w : Nat
  yb : Nat
  smax : Nat
  lineWidth : Nat
  markerHeight : Nat
  l1 : Nat
  l2 : Nat
  l3 : Nat
  a1 : Int
  a2 : Int
  a3 : Int
  b1 : Int
  b2 : Int
  b3 : Int
  c1 : Int
  c2 : Int
  c3 : Int
  colour1 : Word
  colour2 : Word
  colour3 : Word
  colourStatic : Word
  deriving DecidableEq, Repr

/-- One step of a chime pattern (Table 49). -/
structure ChimeStep where
  tone : Nat
  duration : Nat
  level : Nat
  attack : Nat
  release : Nat
  deriving DecidableEq, Repr

/-- A chime pattern (Table 48). -/
structure Pattern where
  count : Nat
  repeats : Nat
  priority : Nat
  headphones : Nat
  steps : List ChimeStep
  deriving DecidableEq, Repr

/-- The vehicle profile, field by field (Table 68). -/
structure Profile where
  disp : Tri DispTiming
  cam : CameraProfile
  rev : ReverseProfile
  steerMs : Nat
  condMs : Nat
  guide : GuideProfile
  condMap : List Nat
  patterns : List Pattern
  deriving DecidableEq, Repr

/-! ### Pins -/

/-- The levels of the input pins the block keeps in view: HRSTN low (R180), REVIN at reverse (R107), and
the three backlight fault inputs active (R17). Power-on reset does not change an input level. -/
structure Pins where
  hrstnLow : Bool
  revin : Bool
  fault : Tri Bool
  deriving DecidableEq, Repr

/-! ### BOOT and TB -/

/-- Start-up states (R180, Table 67). -/
inductive StartUp where
  | reset
  | clockCheck
  | profileRead
  | running
  | profileFault
  deriving DecidableEq, Repr

/-- Profile states (R180, Table 67). -/
inductive ProfileState where
  | notRead
  | good
  | badLength
  | badSum
  deriving DecidableEq, Repr

/-- BOOT (R180 to R185): `startup` is RESET exactly while PORN is low. `clkCount` is the count of the
measurement in progress (R181), `image` the profile bytes as read, `imageLen` the length once it has
passed, `asked` whether BOOT has asked PATH for the camera region (R44, R184), and `profile` the values
handed to the blocks at the entry to RUNNING (R185). -/
structure BootState where
  startup : StartUp
  clkCount : Nat
  refCount : Nat
  profState : ProfileState
  image : List Byte
  imageLen : Option Nat
  strap : BitVec 3
  cbBase : Nat
  asked : Bool
  profile : Option Profile
  deriving DecidableEq, Repr

/-- BOOT after power-on reset (Table 70). -/
def BootState.init : BootState :=
  { startup := .reset, clkCount := 0, refCount := 0, profState := .notRead, image := [], imageLen := none,
    strap := 0, cbBase := 0x1FFFF000, asked := false, profile := none }

/-- TB (R181): whether it runs, and the reference ticks since its last tick, held at 24,000. -/
structure TimebaseState where
  running : Bool
  sub : Nat
  deriving DecidableEq, Repr

def TimebaseState.init : TimebaseState := { running := false, sub := 0 }

/-! ### PATH and ARB -/

/-- The zones PATH treats alike (Table 16); AUDIO blocks of one ring are one zone, since passing from
block to block is not a cut (R43). Region zones name the table index, film zones the buffer. -/
inductive Zone where
  | plain
  | camera
  | filmPixel (idx buf : Nat)
  | filmTag (idx buf : Nat)
  | filmRest (idx : Nat)
  | overlayPixel (idx : Nat)
  | overlayRest (idx : Nat)
  | audioRing (idx : Nat)
  | audioRest (idx : Nat)
  deriving DecidableEq, Repr

/-- Whether a piece waits to be issued, is issued (granted), or has completed (R38). -/
inductive PieceStatus where
  | unissued
  | issued
  | complete
  deriving DecidableEq, Repr

/-- A burst as it goes downstream: a read or a write of `beats` beats in one ascending physical range
from `addr` (R59). -/
structure Burst where
  write : Bool
  addr : Nat
  beats : Nat
  data : List WBeat
  deriving DecidableEq, Repr

/-- One piece of a host request (R42, R43): its zone and the copy of the descriptor it was classified
with, the run of logical beats it holds, the burst it is issued as (R45 to R50), whether its beats go in
reverse order (R48, R49), and its progress. `got` is the read data in logical order after the inverse
transforms (R46, R50). -/
structure Piece where
  zone : Zone
  desc : Region
  first : Nat
  logical : Nat
  burst : Burst
  reversed : Bool
  drop : Bool
  status : PieceStatus
  err : Bool
  got : List RBeat
  deriving DecidableEq, Repr

/-- An upstream queue entry (R38). -/
structure HostEntry where
  req : HostReq
  pieces : List Piece
  deriving DecidableEq, Repr

/-- A response on the upstream port (R40): to a read or a write, OK or ERROR, with a read's data. -/
structure Response where
  read : Bool
  ok : Bool
  data : List RBeat
  deriving DecidableEq, Repr

/-- The camera region once defined (R44): its start and the size of one slot (Table 16). -/
structure CamRegion where
  base : Nat
  slotBytes : Nat
  deriving DecidableEq, Repr

/-- PATH (R38 to R58): the upstream queue, oldest first; the active region table of 16 entries; the
camera region; the four chime slot shadows; the four path counters. `sent` is the model's own record of
the responses that have left the upstream port since power-on, oldest first. -/
structure PathState where
  queue : List HostEntry
  table : List Region
  cam : Option CamRegion
  shadows : List (BitVec 16)
  dropped : Nat
  partialWatch : Nat
  split : Nat
  fetchErrors : Nat
  sent : List Response
  deriving DecidableEq, Repr

/-- The empty region table: every entry NONE (R42). -/
def emptyTable : List Region := List.replicate 16 .absent

/-- PATH after power-on reset (Table 22). -/
def PathState.init : PathState :=
  { queue := [], table := emptyTable, cam := none, shadows := [0, 0, 0, 0], dropped := 0,
    partialWatch := 0, split := 0, fetchErrors := 0, sent := [] }

/-- Which work a granted burst belongs to (R59). A camera burst carries its pixel count (R100). -/
inductive Owner where
  | host
  | scan (d : Disp)
  | camera (npix : Nat)
  | audio (s : Seat)
  | loadRead
  | loadReread
  | report
  deriving DecidableEq, Repr

/-- A granted burst whose completion has not arrived. `live` is false when its owner will discard the
completion whatever it brings (R41, R93, R101, R173); a scan-out burst's own request says so instead
(`ScanReq.live`); `handed` tells that it has been handed over in full (R59). -/
structure Flight where
  owner : Owner
  live : Bool
  handed : Bool
  burst : Burst
  deriving DecidableEq, Repr

/-- ARB (R59 to R62): the two starvation counts, and the granted bursts in grant order, which is the
order of their completions. -/
structure ArbState where
  hostCount : Nat
  loadCount : Nat
  flights : List Flight
  deriving DecidableEq, Repr

def ArbState.init : ArbState := { hostCount := 0, loadCount := 0, flights := [] }

/-! ### Displays and COMP -/

/-- Content states (R4). -/
inductive Content where
  | noScene
  | scene
  | disabled
  deriving DecidableEq, Repr

/-- Centre views (R7). -/
inductive View where
  | host
  | rear
  deriving DecidableEq, Repr

/-- The centre base choice of RVC (R20, R114). -/
inductive CamBase where
  | engagingFill
  | slot (k : Nat)
  | unavailableFill
  deriving DecidableEq, Repr

/-- The geometry captured for a named region (R19). -/
structure Geom where
  base : Nat
  width : Nat
  height : Nat
  deriving DecidableEq, Repr

/-- The captured geometry of a scene's layers; `none` is an absent layer (R19). -/
structure Captured where
  base : Option Geom
  ov0 : Option Geom
  ov1 : Option Geom
  deriving DecidableEq, Repr

def Captured.empty : Captured := { base := none, ov0 := none, ov1 := none }

/-- The frame record latched at a blank event (R20): the content state and scene, the captured geometry,
the view, the SHOWN film buffer of a rear display (R22), the centre base choice with whether the latched
RVC state is SHOWING, and the rear quality mode of the frame (R10, R11). -/
structure FrameRecord where
  content : Content
  scene : Option Scene
  cap : Captured
  view : View
  film : Option Nat
  camBase : CamBase
  showing : Bool
  reduced : Bool
  deriving DecidableEq, Repr

/-- States of a line slot (R32). -/
inductive SlotPhase where
  | free
  | filling
  | complete
  deriving DecidableEq, Repr

/-- A line slot (R32): the display rows `first` to `last` it is shown on, its source row, how many of the
row's bursts have been requested (or need no request), the data that has arrived by burst number, and
whether an underrun has stopped its requests (R35). -/
structure LineSlot where
  phase : SlotPhase
  first : Nat
  last : Nat
  src : Nat
  asked : Nat
  chunks : List (Nat × List RBeat)
  stopped : Bool
  deriving DecidableEq, Repr

def LineSlot.empty : LineSlot :=
  { phase := .free, first := 0, last := 0, src := 0, asked := 0, chunks := [], stopped := false }

/-- A layer's fetch buffer (R32): four line slots, the next layer row to assign, and the display column
from which the layer has underrun on the current line (R35). -/
structure LayerBuf where
  slots : List LineSlot
  nextRow : Nat
  under : Option Nat
  deriving DecidableEq, Repr

def LayerBuf.empty : LayerBuf := { slots := List.replicate 4 LineSlot.empty, nextRow := 0, under := none }

/-- The base pixels of the present line that a rear display keeps to the end of the line after a host reset (R22, log
entry 42): the slot that held the line's film row, and the display columns, `x1` not included, that show it. -/
structure KeptLine where
  x0 : Nat
  x1 : Nat
  slot : LineSlot
  deriving DecidableEq, Repr

/-- The one burst request an engine has outstanding (R33): presented, or granted and not yet completed;
`live` is false once its data will be discarded (R22, R32, R35, R37), and `counted` is false once an error on it
will not be counted: its data is discarded under R35 or R37 (R36). -/
structure ScanReq where
  layer : LayerId
  slot : Nat
  burst : Nat
  addr : Nat
  beats : Nat
  granted : Bool
  live : Bool
  counted : Bool
  deriving DecidableEq, Repr

/-- A display: its timing generator (R1 to R5), its frame-mark line (R12, R13), and its scan-out engine
(R19 to R37). `lineClk` counts 192 MHz clocks into the current line, held at the line's length; its pixel
position is `lineClk` div the divider. `blanked` tells that the last display event was a blank event (R3). `lineCounted` tells
that the current line is in the underrun counter (R35), `withdraw` that the film base ends with the
current line (R22), and `kept` holds the base pixels a host reset has left to the current line (R22, log entry 42). -/
structure Display where
  running : Bool
  line : Nat
  lineClk : Nat
  blanked : Bool
  frameNo : BitVec 32
  content : Content
  active : Option Scene
  staged : Option Scene
  cap : Captured
  mark : MarkMode
  markHigh : Bool
  frame : Option FrameRecord
  base : LayerBuf
  ov0 : LayerBuf
  ov1 : LayerBuf
  req : Option ScanReq
  underruns : Nat
  lineCounted : Bool
  fault0 : Bool
  fault1 : Bool
  withdraw : Bool
  kept : Option KeptLine
  deriving DecidableEq, Repr

/-- A display after power-on reset (Tables 9 and 15). -/
def Display.init : Display :=
  { running := false, line := 0, lineClk := 0, blanked := false, frameNo := 0, content := .noScene,
    active := none, staged := none, cap := Captured.empty, mark := .off, markHigh := false, frame := none,
    base := LayerBuf.empty, ov0 := LayerBuf.empty, ov1 := LayerBuf.empty, req := none, underruns := 0,
    lineCounted := false, fault0 := false, fault1 := false, withdraw := false, kept := none }

/-- What only the centre holds: the view (R7), the pressure record (R9) with whether the current line
period is already counted, and whether the protected window is kept clear in HOST_VIEW (R27). -/
structure CentreState where
  view : View
  urgentLines : Nat
  underrunFlag : Bool
  calm : Nat
  lineUrgent : Bool
  keepWindow : Bool
  deriving DecidableEq, Repr

def CentreState.init : CentreState :=
  { view := .host, urgentLines := 0, underrunFlag := false, calm := 120, lineUrgent := false,
    keepWindow := false }

/-- What only a rear display holds: the quality mode (R10), the presented set of its last blank event
(R68) and the five presentation counters (R80). -/
structure RearState where
  reduced : Bool
  presented : Option Nat
  dropped : Nat
  repeated : Nat
  reclaimed : Nat
  torn : Nat
  late : Nat
  deriving DecidableEq, Repr

def RearState.init : RearState :=
  { reduced := false, presented := none, dropped := 0, repeated := 0, reclaimed := 0, torn := 0, late := 0 }

/-! ### PRES -/

/-- Film buffer states (R63). -/
inductive BufPhase where
  | free
  | filling
  | ready
  | shown
  deriving DecidableEq, Repr

/-- A captured tag record (R64); `sync` is `none` for NONE. -/
structure TagRecord where
  seqNo : Word
  sync : Option Nat
  minShows : Nat
  hold : Bool
  deriving DecidableEq, Repr

/-- A film buffer: its state, and its tag record while READY or SHOWN (R63). -/
structure FilmBuf where
  phase : BufPhase
  tag : Option TagRecord
  deriving DecidableEq, Repr

/-- A buffer set (R63): the rear display of its descriptor, its buffers, its ready queue with the head
first, and the show count of its SHOWN buffer. -/
structure BufSet where
  seat : Seat
  bufs : List FilmBuf
  ready : List Nat
  shows : Nat
  deriving DecidableEq, Repr

/-- The buffer sets by table index (R63). -/
def noSets : List (Option BufSet) := List.replicate 16 none

/-! ### AUD and MIX -/

/-- Stream states (Table 28). -/
inductive StreamPhase where
  | stopped
  | priming
  | playing
  | underrun
  deriving DecidableEq, Repr

/-- Audio block states (R82). -/
inductive BlockPhase where
  | empty
  | filled
  | playing
  deriving DecidableEq, Repr

/-- A prefetch due or in progress, or finished and waiting for its boundary (R91, R93): its block, the
bursts granted and completed, whether one came back in error, and the data read so far. -/
structure Prefetch where
  block : Nat
  granted : Nat
  back : Nat
  err : Bool
  data : List RBeat
  deriving DecidableEq, Repr

/-- A ring record (R82): the region index, the copy of its descriptor, the block states, the awaited
block (PRIMING, UNDERRUN) or the playing block (PLAYING), the prime count taken at the start (R85), the
stream's prefetch and its play buffer, empty for a block fetched in error (R93). -/
structure RingRecord where
  idx : Nat
  desc : AudioRing
  blocks : List BlockPhase
  awaited : Option Nat
  playing : Option Nat
  prime : Nat
  prefetch : Option Prefetch
  play : List RBeat
  deriving DecidableEq, Repr

/-- A film audio stream (R84). -/
structure Stream where
  phase : StreamPhase
  blockSeq : Nat
  underruns : Nat
  lateWrites : Nat
  ring : Option RingRecord
  deriving DecidableEq, Repr

def Stream.init : Stream := { phase := .stopped, blockSeq := 0, underruns := 0, lateWrites := 0, ring := none }

/-- AUD (R82 to R94): the frame clock, the phase of the next output frame, whether the frame with phase
255 is the one in progress (its end is the block boundary, R87), the reference ticks since the last
output frame, the two streams, and the prefetches waiting for AUD's request slot, the slot's holder
first (R91). -/
structure AudState where
  clock : Bool
  phase : Nat
  lastFrame : Bool
  sub : Nat
  streams : Pair Stream
  due : List Seat
  deriving DecidableEq, Repr

/-- AUD after power-on reset (Table 32). The frame phase and the ticks since an output frame are 0 until the frame clock
starts, the mark of the last frame of a block is clear (DESIGN CHOICE, log entries 10 and 12). -/
def AudState.init : AudState :=
  { clock := false, phase := 0, lastFrame := false, sub := 0, streams := ⟨Stream.init, Stream.init⟩, due := [] }

/-- One output frame: left and right samples of the three outputs (R97). -/
structure OutFrame where
  hpL : Pair Int
  hpR : Pair Int
  cabin : Pair Int
  deriving DecidableEq, Repr

/-- MIX (R95, R96): the mix record, the duck gain and the ramp counter, and the output frame last sent
(none while the outputs are at rest, R87). -/
structure MixState where
  v : Pair Nat
  route : Route
  vc : Nat
  duck : Nat
  mute : Bool
  gain : Nat
  ramp : Nat
  out : Option OutFrame
  deriving DecidableEq, Repr

def MixState.init : MixState :=
  { v := ⟨0, 0⟩, route := .silent, vc := 0, duck := 256, mute := false, gain := 256, ramp := 0, out := none }

/-! ### CAM and RVC -/

/-- Camera states (R103). -/
inductive CamPhase where
  | idle
  | noSignal
  | receiving
  deriving DecidableEq, Repr

/-- Camera slot states (R104). -/
inductive CamSlot where
  | empty
  | writing
  | complete
  | showing
  deriving DecidableEq, Repr

/-- The frame being stored (R101): its slot, the lines begun, the pixels of the current line, whether a
line is open, whether the frame has passed its check, and its bursts formed and not yet completed. -/
structure Writing where
  slot : Nat
  lines : Nat
  col : Nat
  lineOpen : Bool
  passed : Bool
  outstanding : Nat
  deriving DecidableEq, Repr

/-- A camera burst whose pixels are all in the line buffer, waiting for its grant (R100). -/
structure CamBurst where
  addr : Nat
  npix : Nat
  deriving DecidableEq, Repr

/-- CAM (R99 to R106): the camera state, the running period count (`none` when stopped) and the reported
period, the four slots, the arrival list oldest first, the frame being stored, the line buffer oldest
pixel first, the bursts waiting to be granted, and the two counters. -/
structure CamState where
  phase : CamPhase
  period : Option Nat
  reported : Nat
  slots : List CamSlot
  arrivals : List Nat
  writing : Option Writing
  buf : List Word
  bursts : List CamBurst
  received : Nat
  rejected : Nat
  deriving DecidableEq, Repr

def CamState.init : CamState :=
  { phase := .idle, period := none, reported := 0, slots := List.replicate 4 .empty, arrivals := [],
    writing := none, buf := [], bursts := [], received := 0, rejected := 0 }

/-- RVC states (Table 34). -/
inductive RvcPhase where
  | off
  | engaging
  | showing
  | lost
  | releasing
  deriving DecidableEq, Repr

/-- RVC (R105, R107 to R118): whether it has started, its state, the taken level, the fresh flag, and its
four timers as the milliseconds ticks left (`none` when stopped). -/
structure RvcState where
  started : Bool
  phase : RvcPhase
  taken : Bool
  fresh : Bool
  debounce : Option Nat
  engage : Option Nat
  freeze : Option Nat
  release : Option Nat
  deriving DecidableEq, Repr

def RvcState.init : RvcState :=
  { started := false, phase := .off, taken := false, fresh := false, debounce := none, engage := none,
    freeze := none, release := none }

/-! ### GUIDE -/

/-- A span (R134): first and last column, and band 1, 2, 3 or 4 (static). -/
structure Span where
  s : Nat
  e : Nat
  band : Nat
  deriving DecidableEq, Repr

/-- A row of a span table (R120). -/
structure SpanRow where
  spans : List Span
  overfull : Bool
  deriving DecidableEq, Repr

def SpanRow.empty : SpanRow := { spans := [], overfull := false }

/-- A span table with its build record (R120). The empty table is written with no rows: a row that is not
listed is empty and unmarked. -/
structure SpanTable where
  rows : List SpanRow
  angle : Int
  isStatic : Bool
  overfullRows : Nat
  deriving DecidableEq, Repr

def SpanTable.empty : SpanTable := { rows := [], angle := 0, isStatic := false, overfullRows := 0 }

/-- The steering snapshot (R122). -/
structure Snapshot where
  angle : Int
  valid : Bool
  stale : Bool
  deriving DecidableEq, Repr

/-- GUIDE (R120): the two span tables, the snapshot of the build in progress (`none` in IDLE) with its
192 MHz steps done so far (R124), the build-waiting flag and the overrun counter. -/
structure GuideState where
  front : SpanTable
  back : SpanTable
  build : Option Snapshot
  work : Nat
  waiting : Bool
  overruns : Nat
  deriving DecidableEq, Repr

/-- GUIDE after power-on reset (Table 42). The step count of a build, which the spec gives no value while none runs, is 0
until a build starts (DESIGN CHOICE, log entry 10). -/
def GuideState.init : GuideState :=
  { front := SpanTable.empty, back := SpanTable.empty, build := none, work := 0, waiting := false,
    overruns := 0 }

/-! ### LINK -/

/-- The byte receiver (R139): watching for a fall, inside a byte, or waiting for the line to be high after
a stop-bit error. -/
inductive RxPhase where
  | watching
  | inByte
  | waitHigh
  deriving DecidableEq, Repr

/-- What LINK keeps for one kind (Table 43): the last accepted counter, the stale flag, and the freshness
timer as the millisecond ticks left. -/
structure KindState where
  last : Option Nat
  stale : Bool
  timer : Option Nat
  deriving DecidableEq, Repr

def KindState.init : KindState := { last := none, stale := true, timer := none }

/-- LINK (R138, Table 43). The assembler is ASSEMBLING exactly while it holds bytes. `gap` is the gap
timer in reference ticks, `none` when stopped. -/
structure LinkState where
  started : Bool
  rx : RxPhase
  held : List Byte
  gap : Option Nat
  steering : KindState
  conditions : KindState
  angle : Int
  valid : Bool
  conds : BitVec 32
  good : Nat
  checkErrors : Nat
  gaps : Nat
  deriving DecidableEq, Repr

def LinkState.init : LinkState :=
  { started := false, rx := .watching, held := [], gap := none, steering := KindState.init,
    conditions := KindState.init, angle := 0, valid := false, conds := 0, good := 0, checkErrors := 0,
    gaps := 0 }

/-! ### CHIME -/

/-- The reasons a chime entry exists (Table 51). -/
inductive Source where
  | cond (k : Nat)
  | slot (j : Nat)
  | reverse
  deriving DecidableEq, Repr

/-- A resume point (Table 51): a step and the passes left, `none` for indefinite. -/
structure Resume where
  step : Nat
  passes : Option Nat
  deriving DecidableEq, Repr

/-- A chime entry (Table 51). -/
structure ChimeEntry where
  pattern : Nat
  priority : Nat
  sources : List Source
  resume : Option Resume
  arrival : Nat
  deriving DecidableEq, Repr

/-- CHIME states (R151). -/
inductive ChimePhase where
  | idle
  | playing
  | switching
  deriving DecidableEq, Repr

/-- A fade (R158): the faded pattern and step, the fade frame, and the envelope it starts from. -/
structure Fade where
  pattern : Nat
  step : Nat
  m : Nat
  e0 : Nat
  deriving DecidableEq, Repr

/-- Host slot results (R162). -/
inductive SlotResult where
  | blank
  | done
  | cancelled
  | lost
  | refused
  deriving DecidableEq, Repr

/-- CHIME (R148 to R163): whether it has started, its state and collections (the stack bottom first, the
pending list head first), the position of the playing entry (step, frame, passes left), the phase
accumulator, the envelope of the frame last sounded, the fade, the four slot results, and the next
arrival number. -/
structure ChimeState where
  started : Bool
  phase : ChimePhase
  playing : Option ChimeEntry
  stack : List ChimeEntry
  waiting : List ChimeEntry
  step : Nat
  frame : Nat
  passes : Option Nat
  acc : Nat
  lastEnv : Nat
  fade : Option Fade
  results : List SlotResult
  nextArrival : Nat
  deriving DecidableEq, Repr

def ChimeState.init : ChimeState :=
  { started := false, phase := .idle, playing := none, stack := [], waiting := [], step := 0, frame := 0,
    passes := none, acc := 0, lastEnv := 0, fade := none, results := [.blank, .blank, .blank, .blank],
    nextArrival := 0 }

/-! ### LOAD -/

/-- Load states (Table 55). -/
inductive LoadPhase where
  | idle
  | loading
  | checking
  deriving DecidableEq, Repr

/-- How the last load ended (Table 55). -/
inductive LoadOutcome where
  | nothing
  | accepted
  | refused
  deriving DecidableEq, Repr

/-- Refusal codes (Table 67). -/
inductive RefusalCode where
  | nothing
  | badVersion
  | regionOverlap
  | regionKind
  | regionGeometry
  | sceneReference
  | audioReference
  deriving DecidableEq, Repr

/-- What LOAD's one request slot presents (R178): burst `i` of a load's read, the re-read, or burst `i` of
a report. -/
inductive LoadReq where
  | readBurst (i : Nat)
  | reread
  | reportBurst (i : Nat)
  deriving DecidableEq, Repr

/-- A report in flight (R177, R179): the page as formed, its bursts granted and completed, whether one
came back in error, and the causes it carries. -/
structure Report where
  page : List Byte
  granted : Nat
  back : Nat
  err : Bool
  carried : BitVec 10
  deriving DecidableEq, Repr

/-- LOAD (R165, Table 55, R188): its work begun or not; the load state; the latest-seen, load, loaded and
refused generations; the staged copy as beats; the pass in progress (bursts granted, completions back,
stopped by an error); the request slot; the last outcome; the counters; the cause set, the delivered set
and the mask by bit number (Table 57); the reset flags; IRQ; the report record; and the ticks counted
toward the next 16 ms report (R177). -/
structure LoadState where
  begun : Bool
  phase : LoadPhase
  latestGen : Word
  latestScope : Byte
  loadGen : Word
  loadScope : Byte
  loaded : Word
  refused : Word
  staged : List RBeat
  granted : Nat
  back : Nat
  stopping : Bool
  slot : Option LoadReq
  outcome : LoadOutcome
  code : RefusalCode
  badIndex : Nat
  restarts : Nat
  causes : BitVec 10
  delivered : BitVec 10
  mask : BitVec 10
  powerOn : Bool
  hostRst : Bool
  irq : Bool
  reportSeq : BitVec 32
  skipped : Nat
  report : Option Report
  tick16 : Nat
  deriving DecidableEq, Repr

/-- LOAD after power-on reset (R165, Table 59). The counts of a load's pass and of the ticks toward a report are 0 until a
load and LOAD begin (DESIGN CHOICE, log entry 10); the scope beside the latest-seen generation is log entry 17's. -/
def LoadState.init : LoadState :=
  { begun := false, phase := .idle, latestGen := 0, latestScope := 0, loadGen := 0, loadScope := 0,
    loaded := 0, refused := 0, staged := [], granted := 0, back := 0, stopping := false, slot := none,
    outcome := .nothing, code := .nothing, badIndex := 0xFF, restarts := 0, causes := 0, delivered := 0,
    mask := 0, powerOn := true, hostRst := false, irq := false, reportSeq := 0, skipped := 0,
    report := none, tick16 := 0 }

/-! ### BL -/

/-- A backlight channel (R14 to R18): started or not, the counter with its direction, the base, preloaded
and held duties, the output enable and the fault latch. -/
structure PwmState where
  started : Bool
  counter : Nat
  down : Bool
  base : Nat
  preload : Nat
  held : Option Nat
  enabled : Bool
  latch : Bool
  deriving DecidableEq, Repr

def PwmState.init : PwmState :=
  { started := false, counter := 0, down := false, base := 0, preload := 0, held := none, enabled := false,
    latch := false }

/-! ### The machine -/

/-- The state of the 630: its blocks, the levels of its input pins, and the queue of the commands that
wait, first in first out. -/
structure State where
  pins : Pins
  boot : BootState
  tb : TimebaseState
  path : PathState
  arb : ArbState
  disp : Tri Display
  centre : CentreState
  rear : Pair RearState
  sets : List (Option BufSet)
  aud : AudState
  mix : MixState
  cam : CamState
  rvc : RvcState
  guide : GuideState
  link : LinkState
  chime : ChimeState
  load : LoadState
  bl : Tri PwmState
  pending : List Instr
  deriving DecidableEq, Repr

/-- The 630 in power-on reset (R180), with the input pins at the levels they have and the queue given. -/
def State.powerOn (pins : Pins) (pending : List Instr) : State :=
  { pins := pins, boot := BootState.init, tb := TimebaseState.init, path := PathState.init,
    arb := ArbState.init, disp := ⟨Display.init, Display.init, Display.init⟩, centre := CentreState.init,
    rear := ⟨RearState.init, RearState.init⟩, sets := noSets, aud := AudState.init, mix := MixState.init,
    cam := CamState.init, rvc := RvcState.init, guide := GuideState.init, link := LinkState.init,
    chime := ChimeState.init, load := LoadState.init, bl := ⟨PwmState.init, PwmState.init, PwmState.init⟩,
    pending := pending }

/-- The input pins at rest: HRSTN high, REVIN not at reverse, no fault input active (log entry 2). -/
def Pins.rest : Pins := { hrstnLow := false, revin := false, fault := ⟨false, false, false⟩ }

/-- The machine right after power-on reset: PORN low, every block at its power-on values, nothing waiting. -/
def State.reset : State := State.powerOn Pins.rest []

/-- Reasons the machine stops with a fault: there are none. The spec gives the 630 no stop; its error
responses, refusals of a load and fault latches are all effects on its state. -/
inductive Fault where
  deriving DecidableEq, Repr

/-- Reasons a command has no meaning. -/
inductive Refusal where
  /-- Raised by `exec`'s arm of a command that has no meaning yet; safe (no state is reached). -/
  | notModelled (mnemonic : String)
  /-- Raised by the commands that bring data, when an operand has a size no port of the 630 carries
  (`Instr.wf` fails): the term is no command of the table. Safe (no state is reached). -/
  | illFormed
  deriving DecidableEq, Repr

/-- What a step of the 630 answers. -/
abbrev Out := Host.Outcome State Fault Refusal

end Sys2Proof.Machine
end

