-- ==== Sys2Proof/Machine/Ops.lean ====
section
/-! DEFINITION. The named operations over State that every block shares: replacing a block's part of the
state, and the events one block hands another at once (raising a cause, an RVC or camera event is in its
own file). -/

namespace Sys2Proof.Machine

open Sys2Proof

/-! ### Replacing a block's state -/

def State.setPins (s : State) (x : Pins) : State := { s with pins := x }
def State.setBoot (s : State) (x : BootState) : State := { s with boot := x }
def State.setTb (s : State) (x : TimebaseState) : State := { s with tb := x }
def State.setPath (s : State) (x : PathState) : State := { s with path := x }
def State.setArb (s : State) (x : ArbState) : State := { s with arb := x }
def State.setDisps (s : State) (x : Tri Display) : State := { s with disp := x }
def State.setCentre (s : State) (x : CentreState) : State := { s with centre := x }
def State.setRears (s : State) (x : Pair RearState) : State := { s with rear := x }
def State.setSets (s : State) (x : List (Option BufSet)) : State := { s with sets := x }
def State.setAud (s : State) (x : AudState) : State := { s with aud := x }
def State.setMix (s : State) (x : MixState) : State := { s with mix := x }
def State.setCam (s : State) (x : CamState) : State := { s with cam := x }
def State.setRvc (s : State) (x : RvcState) : State := { s with rvc := x }
def State.setGuide (s : State) (x : GuideState) : State := { s with guide := x }
def State.setLink (s : State) (x : LinkState) : State := { s with link := x }
def State.setChime (s : State) (x : ChimeState) : State := { s with chime := x }
def State.setLoad (s : State) (x : LoadState) : State := { s with load := x }
def State.setBls (s : State) (x : Tri PwmState) : State := { s with bl := x }
def State.setPending (s : State) (x : List Instr) : State := { s with pending := x }

/-- One display of the state. -/
def State.display (s : State) (d : Disp) : Display := Tri.get s.disp d

/-- Replace one display. -/
def State.setDisplay (s : State) (d : Disp) (x : Display) : State := s.setDisps (Tri.set s.disp d x)

/-- One backlight channel. -/
def State.pwm (s : State) (d : Disp) : PwmState := Tri.get s.bl d

/-- Replace one backlight channel. -/
def State.setPwm (s : State) (d : Disp) (x : PwmState) : State := s.setBls (Tri.set s.bl d x)

/-- One rear display's own part. -/
def State.rearOf (s : State) (k : Seat) : RearState := Pair.get s.rear k

/-- Replace one rear display's own part. -/
def State.setRear (s : State) (k : Seat) (x : RearState) : State := s.setRears (Pair.set s.rear k x)

/-- Count one downstream error of the 630's own reads and writes (R58). -/
def State.countFetchError (s : State) : State :=
  s.setPath { s.path with fetchErrors := satInc s.path.fetchErrors }

/-! ### Granted bursts (R59) -/

/-- Mark dead the granted bursts that an owner will discard. -/
def killFlights (p : Owner → Bool) (fl : List Flight) : List Flight :=
  fl.map (fun f => if p f.owner then { f with live := false } else f)

/-- Mark dead, in the state, the granted bursts of the owners chosen. -/
def State.kill (s : State) (p : Owner → Bool) : State :=
  s.setArb { s.arb with flights := killFlights p s.arb.flights }

/-- The granted burst whose completion is the next to arrive: the oldest, once it has been handed over in
full (R59). -/
def State.dueFlight (s : State) : Option Flight :=
  match s.arb.flights with
  | [] => none
  | f :: _ => if f.handed then some f else none

/-- Take the oldest granted burst off the list: its completion has arrived. -/
def State.popFlight (s : State) : State := s.setArb { s.arb with flights := s.arb.flights.tail }

/-- The port is free when every granted burst has been handed over in full (R59). -/
def State.portFree (s : State) : Bool := s.arb.flights.all (·.handed)

/-! ### Profile and mode tests -/

/-- The entry to RUNNING has started the profile's blocks (R185). -/
def State.isRunning (s : State) : Bool := s.boot.startup == .running

/-- The RVC state is not OFF: the test of R7, R10, R16 and R96. -/
def State.reversing (s : State) : Bool := s.rvc.phase != .off

end Sys2Proof.Machine
end

