-- ==== Sys2Proof/Machine/Flags.lean ====
section
/-! DEFINITION. The cause set, the delivered set, the mask and IRQ (R174 to R176, Table 57). -/

namespace Sys2Proof.Machine

open Sys2Proof

/-- The ten causes (Table 57). -/
inductive Cause where
  | loadDone
  | loadRefused
  | reverseChange
  | cameraLost
  | chimeResult
  | audioUnderrun
  | writeDropped
  | linkStale
  | backlightFault
  | profileFault
  deriving DecidableEq, Repr

/-- A cause's bit number (Table 57). -/
def Cause.bit : Cause → Nat
  | .loadDone => 0
  | .loadRefused => 1
  | .reverseChange => 2
  | .cameraLost => 3
  | .chimeResult => 4
  | .audioUnderrun => 5
  | .writeDropped => 6
  | .linkStale => 7
  | .backlightFault => 8
  | .profileFault => 9

/-- The set that holds one cause. -/
def Cause.mask (c : Cause) : BitVec 10 := BitVec.twoPow 10 c.bit

/-- The cause set with a cause added; a cause already there stays there as one (R174). -/
def withCause (set : BitVec 10) (c : Cause) : BitVec 10 := set ||| c.mask

/-- Raise a cause into LOAD's cause set (R174). -/
def State.raise (s : State) (c : Cause) : State :=
  s.setLoad { s.load with causes := withCause s.load.causes c }

/-- Whether IRQ is high for a delivered set and a mask: they have a cause in common (R176). -/
def irqLevel (delivered mask : BitVec 10) : Bool := delivered &&& mask != 0

/-- LOAD with IRQ formed again (R176). -/
def LoadState.formIrq (l : LoadState) : LoadState := { l with irq := irqLevel l.delivered l.mask }

/-- An acknowledge of the low 32 bits `w` of the acknowledge word (R175): each named cause leaves the cause
set, the delivered set and the set the report in flight carries, bits 30 and 31 clear the reset flags, and
IRQ is formed again. -/
def LoadState.acknowledge (l : LoadState) (w : Word) : LoadState :=
  let keep : BitVec 10 := ~~~ (w.extractLsb' 0 10)
  LoadState.formIrq
    { l with
      causes := l.causes &&& keep
      delivered := l.delivered &&& keep
      report := l.report.map (fun r => { r with carried := r.carried &&& keep })
      powerOn := l.powerOn && !w.getLsbD 30
      hostRst := l.hostRst && !w.getLsbD 31 }

/-- The cause word of the status page: the cause set in bits 0 to 9, POWER_ON in bit 30, HOST_RESET in
bit 31 (Table 66). -/
def causeWord (causes : BitVec 10) (powerOn hostRst : Bool) : Nat :=
  causes.toNat + (if powerOn then 2 ^ 30 else 0) + (if hostRst then 2 ^ 31 else 0)

end Sys2Proof.Machine
end

