-- ==== Sys2Proof/Machine/Operands.lean ====
section
/-! DEFINITION. The byte layouts of chapter 10.8 that the 630 reads: region descriptors, scene records, the
audio record, the frame tag and the vehicle profile. Each is read through a function from an offset to
the byte there. -/

namespace Sys2Proof.Machine

open Sys2Proof

/-! ### Region geometry -/

/-- The stride of a pixel area: width × 4 bytes. -/
def Film.stride (f : Film) : Nat := f.width * 4

/-- The bytes of a film buffer's pixel area (chapter 4.1). -/
def Film.pixelBytes (f : Film) : Nat := f.width * 4 * f.height

/-- slotsize = roundup(stride × H + 16, 4096) (chapter 4.1). -/
def Film.slotBytes (f : Film) : Nat := roundup (f.width * 4 * f.height + 16) 4096

/-- The start of film buffer `i` (chapter 4.1). -/
def Film.bufBase (f : Film) (i : Nat) : Nat := f.base + i * f.slotBytes

/-- The bytes of an overlay's pixel area (Table 16). -/
def Overlay.pixelBytes (o : Overlay) : Nat := o.width * 4 * o.height

/-- The first byte and the size in bytes of a region; an absent entry has no bytes. -/
def Region.extent : Region → Nat × Nat
  | .absent => (0, 0)
  | .film f => (f.base, f.size)
  | .overlay o => (o.base, o.size)
  | .audio a => (a.base, a.size)

/-- Whether a region holds the byte at `a`. -/
def Region.holds (r : Region) (a : Nat) : Bool :=
  decide (r.extent.1 ≤ a ∧ a < r.extent.1 + r.extent.2)

/-- Whether two byte ranges, each a start and a size, share a byte. -/
def rangesMeet (b1 n1 b2 n2 : Nat) : Bool := decide (b1 < b2 + n2 ∧ b2 < b1 + n1 ∧ 0 < n1 ∧ 0 < n2)

/-- The control block's base for the strap value n: (n + 1) × 0x20000000 − 0x1000 (R180, chapter 3.2). -/
def controlBase (n : BitVec 3) : Nat := (n.toNat + 1) * 0x20000000 - 0x1000

/-- A camera slot's size: roundup(camwidth × camheight × 4, 4096) (chapter 6.1). -/
def CameraProfile.slotBytes (c : CameraProfile) : Nat := roundup (c.width * c.height * 4) 4096

/-- Whether the camera region holds the byte at `a` (Table 16). -/
def CamRegion.holds (c : CamRegion) (a : Nat) : Bool := decide (c.base ≤ a ∧ a < c.base + 4 * c.slotBytes)

/-- Whether a region shares a byte with the camera region. -/
def Region.meetsCam (r : Region) (c : CamRegion) : Bool :=
  rangesMeet r.extent.1 r.extent.2 c.base (4 * c.slotBytes)

/-- The table entry at an index; an index beyond the table holds NONE. -/
def entryAt (table : List Region) (i : Nat) : Region := table.getD i .absent

/-- The FILM descriptor at an index, if the entry is FILM. -/
def filmAt (table : List Region) (i : Nat) : Option Film :=
  match entryAt table i with
  | .film f => some f
  | _ => none

/-! ### Control block records -/

/-- A region field: 0xFF is NONE (chapter 10.8). -/
def regionRef (n : Nat) : Option Nat := if n = 0xFF then none else some n

/-- Table 62: the swizzle flags. -/
def readSwz (n : Nat) : Swz :=
  { h := n.testBit 0, b := n.testBit 1, r := n.testBit 2, n := n.testBit 3 }

/-- Table 62: the orientation codes 0 to 3. -/
def readOrient (n : Nat) : Orient :=
  if n = 1 then .mirrorX else if n = 2 then .mirrorY else if n = 3 then .rotate180 else .normal

/-- Region descriptor `i` of a control block (Table 60, Table 62), reading the fields of its kind. A kind
above 3 is refused before it is read here (R169). -/
def readRegion (rd : Nat → Nat) (i : Nat) : Region :=
  let o := 0x100 + 32 * i
  let base := fieldLE rd (o + 4) 4
  let size := fieldLE rd (o + 8) 4
  let width := fieldLE rd (o + 12) 2
  let height := fieldLE rd (o + 14) 2
  let kind := rd o
  if kind = 1 then
    .film { base := base, size := size, width := width, height := height, swz := readSwz (rd (o + 1)),
            orient := readOrient (rd (o + 2)), seat := if rd (o + 3) = 2 then .right else .left,
            count := rd (o + 16) }
  else if kind = 2 then
    .overlay { base := base, size := size, width := width, height := height, swz := readSwz (rd (o + 1)) }
  else if kind = 3 then
    .audio { base := base, size := size, n := fieldLE rd (o + 18) 2 }
  else .absent

/-- The 16 region descriptors of a control block. -/
def readTable (rd : Nat → Nat) : List Region := (List.range 16).map (readRegion rd)

/-- One overlay of a scene record at `o` (Table 63). -/
def readSceneOverlay (rd : Nat → Nat) (o : Nat) : SceneOverlay :=
  { region := regionRef (rd o), la := rd (o + 1), revVisible := rd (o + 2) != 0, x := fieldLE rd (o + 4) 2,
    y := fieldLE rd (o + 6) 2, scrT := fieldLE rd (o + 8) 2, scrS := fieldLE rd (o + 10) 2,
    scrB := fieldLE rd (o + 12) 2, scrP := fieldLE rd (o + 14) 2 }

/-- The frame-mark mode codes (Table 63). -/
def readMark (n : Nat) : MarkMode := if n = 1 then .blank else if n = 2 then .flip else .off

/-- The start of a display's scene record in the control block (Table 60). -/
def sceneOffset : Disp → Nat
  | .centre => 0x300
  | .rear .left => 0x380
  | .rear .right => 0x400

/-- A display's scene record (Table 63), for values R170 passes. -/
def readScene (rd : Nat → Nat) (d : Disp) : Scene :=
  let o := sceneOffset d
  { enable := rd o != 0, mark := readMark (rd (o + 1)), duty := fieldLE rd (o + 2) 2,
    background := BitVec.ofNat 32 (fieldLE rd (o + 4) 4), base := regionRef (rd (o + 8)),
    x := fieldLE rd (o + 10) 2, y := fieldLE rd (o + 12) 2, ov0 := readSceneOverlay rd (o + 16),
    ov1 := readSceneOverlay rd (o + 32) }

/-- One stream's part of the audio record at `o` (Table 64). -/
def readStreamRecord (rd : Nat → Nat) (o : Nat) : StreamRecord :=
  { enable := rd o != 0, ring := rd (o + 1), start := rd (o + 2), prime := rd (o + 3),
    volume := fieldLE rd (o + 4) 2 }

/-- The route codes (Table 64). -/
def readRoute (n : Nat) : Route :=
  if n = 1 then .stream .left else if n = 2 then .stream .right else .silent

/-- The audio record of a control block (Table 64), for values R170 passes. -/
def readAudio (rd : Nat → Nat) : AudioRecord :=
  { streams := ⟨readStreamRecord rd 0x480, readStreamRecord rd 0x490⟩, route := readRoute (rd 0x4A0),
    mute := rd 0x4A1 != 0, vc := fieldLE rd 0x4A2 2, duck := fieldLE rd 0x4A4 2 }

/-! ### The frame tag -/

/-- The tag record captured from the 16 bytes of a tag write (R64, Table 65). -/
def readTag (bytes : List Byte) : TagRecord :=
  let rd : Nat → Nat := fun i => (bytes.getD i 0).toNat
  let sync := fieldLE rd 4 4
  let shows := rd 8
  { seqNo := BitVec.ofNat 32 (fieldLE rd 0 4), sync := if sync = 0xFFFFFFFF then none else some sync,
    minShows := if shows = 0 then 1 else min shows 8, hold := (rd 9).testBit 0 }

/-! ### The vehicle profile (Table 68) -/

/-- A profile field of `n` bytes at `off`: a field that lies wholly or partly at or beyond the length is
read as zero (R183). -/
def profileField (image : List Byte) (off n : Nat) : Nat :=
  if off + n ≤ image.length then fieldLE (fun i => (image.getD i 0).toNat) off n else 0

/-- The 16-bit words of an image summed; R183 requires 0 modulo 65536. -/
def imageSum : List Byte → Nat
  | a :: b :: rest => a.toNat + 256 * b.toNat + imageSum rest
  | [a] => a.toNat
  | [] => 0

/-- A display's part of the profile (Table 68). -/
def readTiming (im : List Byte) (o : Nat) : DispTiming :=
  { enable := profileField im o 2, wa := profileField im (o + 2) 2, ha := profileField im (o + 4) 2,
    hb := profileField im (o + 6) 2, vb := profileField im (o + 8) 2, d := profileField im (o + 10) 1,
    background := BitVec.ofNat 32 (profileField im (o + 12) 4), duty := profileField im (o + 16) 2,
    period := profileField im (o + 18) 2 }

/-- The camera part of the profile (Table 68). -/
def readCamera (im : List Byte) : CameraProfile :=
  { width := profileField im 0x70 2, height := profileField im 0x72 2, base := profileField im 0x74 4,
    cx := profileField im 0x78 2, cy := profileField im 0x7A 2, px := profileField im 0x7C 2,
    py := profileField im 0x7E 2, pw := profileField im 0x80 2, ph := profileField im 0x82 2,
    unavailable := BitVec.ofNat 32 (profileField im 0x84 4) }

/-- The reverse part of the profile (Table 68). -/
def readReverse (im : List Byte) : ReverseProfile :=
  { debounce := profileField im 0x88 1, engage := profileField im 0x8A 2, freeze := profileField im 0x8C 2,
    release := profileField im 0x8E 2, duty := profileField im 0x90 2, reduce := profileField im 0x92 1,
    chime := profileField im 0x93 1, depth := profileField im 0x94 1 }

/-- The guide part of the profile (Table 68). -/
def readGuide (im : List Byte) : GuideProfile :=
  let coef : Nat → Int := fun i => signed32 (profileField im (0xD0 + 4 * i) 4)
  let colour : Nat → Word := fun i => BitVec.ofNat 32 (profileField im (0xF4 + 4 * i) 4)
  { k := (List.range 17).map (fun i => signed16 (profileField im (0xA0 + 2 * i) 2)),
    w := profileField im 0xC2 2, yb := profileField im 0xC4 2, smax := profileField im 0xC6 2,
    lineWidth := profileField im 0xC8 1, markerHeight := profileField im 0xC9 1,
    l1 := profileField im 0xCA 2, l2 := profileField im 0xCC 2, l3 := profileField im 0xCE 2,
    a1 := coef 0, a2 := coef 1, a3 := coef 2, b1 := coef 3, b2 := coef 4, b3 := coef 5,
    c1 := coef 6, c2 := coef 7, c3 := coef 8,
    colour1 := colour 0, colour2 := colour 1, colour3 := colour 2, colourStatic := colour 3 }

/-- Pattern `i` of the profile (Table 68). The step fields of steps at or beyond the step count are not
read (R183). -/
def readPattern (im : List Byte) (i : Nat) : Pattern :=
  let o := 0x140 + 96 * i
  let count := profileField im o 1
  { count := count, repeats := profileField im (o + 1) 1, priority := profileField im (o + 2) 1,
    headphones := profileField im (o + 3) 1,
    steps := (List.range (min count 8)).map (fun s =>
      let p := o + 4 + 10 * s
      { tone := profileField im p 2, duration := profileField im (p + 2) 2,
        level := profileField im (p + 4) 1, attack := profileField im (p + 5) 1,
        release := profileField im (p + 6) 1 }) }

/-- The vehicle profile of an image (Table 68). -/
def readProfile (im : List Byte) : Profile :=
  { disp := ⟨readTiming im 0x10, readTiming im 0x30, readTiming im 0x50⟩, cam := readCamera im,
    rev := readReverse im, steerMs := profileField im 0x98 2, condMs := profileField im 0x9A 2,
    guide := readGuide im, condMap := (List.range 32).map (fun k => profileField im (0x110 + k) 1),
    patterns := (List.range 16).map (readPattern im) }

end Sys2Proof.Machine
end

