-- ==== Sys2Proof/Machine/Backlight.lean ====
section
/-! DEFINITION. BL, the backlight PWM (R14 to R18): the counter, the duty in effect and the threshold, period
ends, fault latches, and what scene adoptions, the RVC and host reset do to a channel. -/

namespace Sys2Proof.Machine

open Sys2Proof

/-! ### Profile timing -/

/-- A display's part of the profile, once the entry to RUNNING has handed it over (R185). -/
def State.timing (s : State) (d : Disp) : Option DispTiming :=
  match s.boot.profile with
  | some p => some (Tri.get p.disp d)
  | none => none

/-! ### The counter and the output (R14) -/

/-- The tick of the period a channel stands at, 0..P − 1: up from 0 to P/2 − 1, then down to 0. -/
def PwmState.position (c : PwmState) (period : Nat) : Nat :=
  if c.down then period - 1 - c.counter else c.counter

/-- A channel at a tick of its period. -/
def PwmState.moveTo (c : PwmState) (period pos : Nat) : PwmState :=
  if pos < period / 2 then { c with counter := pos, down := false }
  else { c with counter := period - 1 - pos, down := true }

/-- A started channel `n` reference ticks later. -/
def PwmState.advance (c : PwmState) (period n : Nat) : PwmState :=
  if c.started then c.moveTo period ((c.position period + n) % period) else c

/-- The threshold of a duty: (duty × (P/2)) div 4095. -/
def threshold (period duty : Nat) : Nat := duty * (period / 2) / 4095

/-- The profile reverse duty. -/
def State.reverseDuty (s : State) : Nat :=
  match s.boot.profile with
  | some p => p.rev.duty
  | none => 0

/-- R15, R16: the duty in effect of a channel. -/
def State.dutyInEffect (s : State) (d : Disp) : Nat :=
  let c := s.pwm d
  match d with
  | .centre => if s.reversing then max c.base s.reverseDuty else c.held.getD c.base
  | .rear _ => c.base

/-- R14: the level of a channel's output. -/
def State.pwmOutput (s : State) (d : Disp) : Bool :=
  match s.timing d with
  | some t =>
    (s.pwm d).enabled && decide ((s.pwm d).counter < threshold t.period (s.dutyInEffect d))
  | none => false

/-! ### What other blocks' events do to a channel -/

/-- R15: a new scene duty is preloaded in a started channel. -/
def State.preloadDuty (s : State) (d : Disp) (duty : Nat) : State :=
  if (s.pwm d).started then s.setPwm d { s.pwm d with preload := duty } else s

/-- R16: when the RVC returns to OFF, the centre duty in effect becomes the held duty. -/
def State.holdCentre (s : State) : State :=
  if (s.pwm .centre).started then
    s.setPwm .centre { s.pwm .centre with held := some (s.dutyInEffect .centre) }
  else s

/-- R16: when the RVC leaves OFF, a held duty is discarded. -/
def State.dropHeld (s : State) : State := s.setPwm .centre { s.pwm .centre with held := none }

/-- R18: a channel starts, counting up from 0 at its default duty; a fault input already active latches at
once (R17). -/
def State.startPwm (s : State) (d : Disp) (t : DispTiming) : State :=
  let fault := Tri.get s.pins.fault d
  let s' := s.setPwm d
    { started := true, counter := 0, down := false, base := t.duty, preload := t.duty, held := none,
      enabled := !fault, latch := fault }
  if fault then s'.raise .backlightFault else s'

/-- R17: an accepted load clears a channel's fault latch where it finds the fault input inactive; the output
enable is set again. -/
def State.clearLatch (s : State) (d : Disp) : State :=
  if (s.pwm d).started && !Tri.get s.pins.fault d then
    s.setPwm d { s.pwm d with latch := false, enabled := true }
  else s

/-- R17: an accepted load and the three fault latches. -/
def State.clearLatches (s : State) : State :=
  ((s.clearLatch .centre).clearLatch (.rear .left)).clearLatch (.rear .right)

/-! ### The rows -/

/-- PWM_PERIOD_END (R14, R15, R16): the down-count reaches 0; the base duty takes the preloaded duty and a held
duty is discarded. A channel that is not started has no period. -/
def execPwmPeriodEnd (d : Disp) (s : State) : Out :=
  let c := s.pwm d
  if c.started then
    .next (s.setPwm d { c with base := c.preload, held := none, counter := 0, down := true })
  else .next s

/-- BACKLIGHT_FAULT (R17): the fault input becomes active. A started channel latches it, its output is cut and
the cause is raised, again at each later activation. The input of a channel that is not started is not
examined (R18); an input already active does not become active. -/
def execBacklightFault (d : Disp) (s : State) : Out :=
  if Tri.get s.pins.fault d then .next s
  else
    let s1 := s.setPins { s.pins with fault := Tri.set s.pins.fault d true }
    if (s.pwm d).started then
      .next ((s1.setPwm d { s.pwm d with latch := true, enabled := false }).raise .backlightFault)
    else .next s1

/-- FAULT_INPUT_RELEASE (R17): the fault input becomes inactive; the latch stays. -/
def execFaultInputRelease (d : Disp) (s : State) : Out :=
  .next (s.setPins { s.pins with fault := Tri.set s.pins.fault d false })

end Sys2Proof.Machine
end

