-- ==== Sys2Proof/Machine/Chime.lean ====
section
/-! DEFINITION. CHIME, the Chime Sequencer (chapter 9): synthesis, requests, cancels, preemption,
switching, succession, and the host slots' results. -/

namespace Sys2Proof.Machine

open Sys2Proof

/-! ### Patterns (R148) -/

/-- A pattern with no steps. -/
def Pattern.none : Pattern := { count := 0, repeats := 0, priority := 0, headphones := 0, steps := [] }

/-- Pattern `i` of the profile's list. -/
def patternAt (pats : List Pattern) (i : Nat) : Pattern := pats.getD i Pattern.none

/-- The index names a pattern 0..15 that is not empty (R148, R154). -/
def playable (pats : List Pattern) (i : Nat) : Bool := decide (i ≤ 15) && decide ((patternAt pats i).count ≠ 0)

/-- The passes of a fresh start: the repeat count, or indefinite for 0 (R153). -/
def Pattern.fullPasses (p : Pattern) : Option Nat := if p.repeats = 0 then Option.none else some p.repeats

/-- A silent step of no length: what an entry's step reads as beyond the pattern. -/
def ChimeStep.none : ChimeStep := { tone := 0, duration := 0, level := 0, attack := 0, release := 0 }

/-- Step `i` of a pattern. -/
def Pattern.stepAt (p : Pattern) (i : Nat) : ChimeStep := p.steps.getD i ChimeStep.none

/-! ### Synthesis (R149, R150, R158, R161) -/

/-- The phase increment: round(tone × 2^24 / 48,000) (R149). -/
def phaseStep (tone : Nat) : Nat := (roundDiv (tone * 2 ^ 24) 48000).toNat

/-- The triangle value of a phase accumulator (R149). -/
def triangle (acc : Nat) : Int :=
  let p : Int := (acc / 256 : Nat)
  if p < 32768 then 2 * p - 32768 else 98303 - 2 * p

/-- One sample: ((tri × level) div 256 × E) div 256; a silent step gives 0 (R149). -/
def toneSample (st : ChimeStep) (acc env : Nat) : Int :=
  if st.tone = 0 then 0 else (triangle acc * (st.level : Int)) / 256 * (env : Int) / 256

/-- The accumulator after one frame of a step; it stays at 0 in a silent step (R149). -/
def nextAcc (st : ChimeStep) (acc : Nat) : Nat := if st.tone = 0 then acc else (acc + phaseStep st.tone) % 2 ^ 24

/-- The output frames of a step: duration × 48 (R148). -/
def ChimeStep.frames (st : ChimeStep) : Nat := st.duration * 48

/-- The envelope of frame `n` of a step (R150). -/
def envelope (st : ChimeStep) (n : Nat) : Nat :=
  let len := st.frames
  let a := st.attack * 48
  let r := st.release * 48
  let att := if n < a then 256 * n / a else 256
  let rel := if len ≤ n + r ∧ 0 < r then 256 * (len - n) / r else 256
  min att rel

/-- The envelope of frame `m` of a fade that starts from `e0` (R158). -/
def fadeEnvelope (e0 m : Nat) : Nat := e0 * (240 - m) / 240

/-- The sample and the headphones flag CHIME hands MIX at an output frame (R161). -/
def ChimeState.sample (c : ChimeState) (pats : List Pattern) : Int × Bool :=
  match c.phase with
  | .idle => (0, false)
  | .playing =>
    match c.playing with
    | some e =>
      let p := patternAt pats e.pattern
      let st := p.stepAt c.step
      (toneSample st c.acc (envelope st c.frame), p.headphones != 0)
    | none => (0, false)
  | .switching =>
    match c.fade with
    | some f =>
      let p := patternAt pats f.pattern
      (toneSample (p.stepAt f.step) c.acc (fadeEnvelope f.e0 f.m), p.headphones != 0)
    | none => (0, false)

/-- CHIME after the output frame it has sounded: the position or the fade advances by one frame, and the
accumulator with it (R149, R156, R158). -/
def ChimeState.advance (c : ChimeState) (pats : List Pattern) : ChimeState :=
  match c.phase with
  | .idle => c
  | .playing =>
    match c.playing with
    | some e =>
      let st := (patternAt pats e.pattern).stepAt c.step
      { c with frame := c.frame + 1, acc := nextAcc st c.acc, lastEnv := envelope st c.frame }
    | none => c
  | .switching =>
    match c.fade with
    | some f =>
      { c with
        fade := some { f with m := min (f.m + 1) 240 }
        acc := nextAcc ((patternAt pats f.pattern).stepAt f.step) c.acc }
    | none => c

/-! ### Starting and stopping (R153, R157, R158) -/

/-- An entry becomes the playing entry and sounds: at its resume point, which is then discarded, or at
step 0 with its full passes. No frame of it has been sounded yet. -/
def ChimeState.start (c : ChimeState) (pats : List Pattern) (e : ChimeEntry) : ChimeState :=
  let at0 : Resume := { step := 0, passes := (patternAt pats e.pattern).fullPasses }
  let r := e.resume.getD at0
  { c with
    phase := .playing, playing := some { e with resume := none }, step := r.step, frame := 0,
    passes := r.passes, acc := 0, lastEnv := 0, fade := none }

/-- A switch begins (R158): the fade continues the step that was sounding of pattern `pat`, from the
envelope of the last frame sounded. -/
def ChimeState.beginSwitch (c : ChimeState) (pat : Nat) : ChimeState :=
  { c with phase := .switching, fade := some { pattern := pat, step := c.step, m := 0, e0 := c.lastEnv } }

/-- R157: choose a successor between the stack top and the pending list's head: the higher priority, the
stack top on equality. With none, CHIME becomes IDLE. -/
def ChimeState.succeed (c : ChimeState) (pats : List Pattern) : ChimeState :=
  match c.stack.getLast?, c.waiting with
  | some t, w :: ws =>
    if w.priority ≤ t.priority then ChimeState.start { c with stack := c.stack.dropLast } pats t
    else ChimeState.start { c with waiting := ws } pats w
  | some t, [] => ChimeState.start { c with stack := c.stack.dropLast } pats t
  | none, w :: ws => ChimeState.start { c with waiting := ws } pats w
  | none, [] => { c with phase := .idle, playing := none, fade := none }

/-! ### Results (R162) -/

/-- Set the result of each host slot among some sources. -/
def setSlotResults (sources : List Source) (r : SlotResult) (results : List SlotResult) : List SlotResult :=
  sources.foldl (fun acc x =>
    match x with
    | .slot j => acc.set j r
    | _ => acc) results

/-- Whether some sources hold a host slot, so that setting its result raises CHIME_RESULT (R162). -/
def hasSlot (sources : List Source) : Bool :=
  sources.any (fun x =>
    match x with
    | .slot _ => true
    | _ => false)

/-- Set one slot's result. -/
def ChimeState.setResult (c : ChimeState) (j : Nat) (r : SlotResult) : ChimeState :=
  { c with results := c.results.set j r }

/-! ### Requests (R152, R153, R159) -/

/-- Whether some collection holds an entry of a pattern (R152). -/
def ChimeState.holds (c : ChimeState) (pat : Nat) : Bool :=
  c.playing.any (·.pattern == pat) || c.stack.any (·.pattern == pat) || c.waiting.any (·.pattern == pat)

/-- Add a source to an entry of the pattern; a source already there stays there as one (R152). -/
def ChimeEntry.join (src : Source) (pat : Nat) (e : ChimeEntry) : ChimeEntry :=
  if e.pattern = pat ∧ src ∉ e.sources then { e with sources := e.sources ++ [src] } else e

/-- R152: the source joins the pattern's entry, wherever it is. -/
def ChimeState.join (c : ChimeState) (src : Source) (pat : Nat) : ChimeState :=
  { c with
    playing := c.playing.map (ChimeEntry.join src pat), stack := c.stack.map (ChimeEntry.join src pat),
    waiting := c.waiting.map (ChimeEntry.join src pat) }

/-- R153: the place in the pending list after every entry of equal or higher priority. -/
def insertWaiting (e : ChimeEntry) : List ChimeEntry → List ChimeEntry
  | [] => [e]
  | x :: xs => if e.priority ≤ x.priority then x :: insertWaiting e xs else e :: x :: xs

/-- R159: preemption of `old` by `new`, with whether a slot result has been set to LOST. -/
def ChimeState.preempt (c : ChimeState) (pats : List Pattern) (depth : Nat) (old new : ChimeEntry) :
    ChimeState × Bool :=
  let at0 : Resume := { step := 0, passes := (patternAt pats old.pattern).fullPasses }
  let point : Resume := if c.phase = .playing then { step := c.step, passes := c.passes } else old.resume.getD at0
  let lost : List ChimeEntry := if depth ≤ c.stack.length then c.stack.take 1 else []
  let kept := c.stack.drop lost.length
  let lostSources := lost.flatMap (·.sources)
  let c' : ChimeState :=
    { c with
      stack := kept ++ [{ old with resume := some point }], playing := some new,
      results := setSlotResults lostSources .lost c.results }
  (if c.phase = .playing then c'.beginSwitch old.pattern else c', hasSlot lostSources)

/-- R153: place a new entry, with whether a slot result has been set. -/
def ChimeState.place (c : ChimeState) (pats : List Pattern) (depth : Nat) (e : ChimeEntry) : ChimeState × Bool :=
  let wait : ChimeState × Bool :=
    if 8 ≤ c.waiting.length then
      ({ c with results := setSlotResults e.sources .refused c.results }, hasSlot e.sources)
    else ({ c with waiting := insertWaiting e c.waiting }, false)
  match c.phase, c.playing with
  | .idle, _ => (c.start pats e, false)
  | _, some old => if old.priority < e.priority then c.preempt pats depth old e else wait
  | _, none => wait

/-- R152: a request for a pattern on behalf of a source, with whether a slot result has been set. -/
def ChimeState.request (c : ChimeState) (pats : List Pattern) (depth : Nat) (src : Source) (pat : Nat) :
    ChimeState × Bool :=
  if c.holds pat then (c.join src pat, false)
  else
    ChimeState.place { c with nextArrival := c.nextArrival + 1 } pats depth
      { pattern := pat, priority := (patternAt pats pat).priority, sources := [src], resume := none,
        arrival := c.nextArrival }

/-! ### Cancels (R155) -/

/-- An entry without a source. -/
def ChimeEntry.without (src : Source) (e : ChimeEntry) : ChimeEntry :=
  { e with sources := e.sources.filter (· != src) }

/-- A list of entries after a source has left: the entry that has no source left is gone, the others keep
their order (R155). -/
def withoutSource (src : Source) (es : List ChimeEntry) : List ChimeEntry :=
  es.filterMap (fun e =>
    if src ∈ e.sources then
      let e' := e.without src
      if e'.sources.isEmpty then none else some e'
    else some e)

/-- R155: a cancel of one source. Losing the last source in PLAYING begins a switch; in SWITCHING the
fade goes on and no entry is left to play. -/
def ChimeState.cancel (c : ChimeState) (src : Source) : ChimeState :=
  let c' : ChimeState := { c with stack := withoutSource src c.stack, waiting := withoutSource src c.waiting }
  match c.playing with
  | none => c'
  | some e =>
    if src ∈ e.sources then
      let e' := e.without src
      if e'.sources.isEmpty then
        let gone : ChimeState := { c' with playing := none }
        if c.phase = .playing then gone.beginSwitch e.pattern else gone
      else { c' with playing := some e' }
    else c'

/-- Whether a source is among those of the entry of a pattern (R154). -/
def ChimeState.isSourceOf (c : ChimeState) (src : Source) (pat : Nat) : Bool :=
  let t : ChimeEntry → Bool := fun e => e.pattern == pat && decide (src ∈ e.sources)
  c.playing.any t || c.stack.any t || c.waiting.any t

/-! ### Host slots (R154, R163) -/

/-- R154: a chime slot command, with whether a slot result other than NONE has been set. -/
def ChimeState.command (c : ChimeState) (pats : List Pattern) (depth j action pat : Nat) : ChimeState × Bool :=
  if !c.started then (c.setResult j .refused, true)
  else if action = 1 then
    if playable pats pat then
      ChimeState.request ((c.cancel (.slot j)).setResult j .blank) pats depth (.slot j) pat
    else (c.setResult j .refused, true)
  else if action = 2 then
    if 15 < pat then (c.setResult j .refused, true)
    else if c.isSourceOf (.slot j) pat then ((c.cancel (.slot j)).setResult j .cancelled, true)
    else (c, false)
  else (c.setResult j .refused, true)

/-- R163: host reset withdraws the four slot sources; the results become NONE. -/
def ChimeState.hostReset (c : ChimeState) : ChimeState :=
  { ((((c.cancel (.slot 0)).cancel (.slot 1)).cancel (.slot 2)).cancel (.slot 3)) with
    results := [.blank, .blank, .blank, .blank] }

/-! ### Completion (R156) and the end of a fade (R158) -/

/-- R156: the end of the playing step, with whether a slot result has been set to DONE. -/
def ChimeState.stepEnd (c : ChimeState) (pats : List Pattern) : ChimeState × Bool :=
  match c.phase, c.playing with
  | .playing, some e =>
    let again (step : Nat) (passes : Option Nat) : ChimeState :=
      { c with step := step, frame := 0, passes := passes, acc := 0 }
    if c.step + 1 < (patternAt pats e.pattern).count then (again (c.step + 1) c.passes, false)
    else
      match c.passes with
      | none => (again 0 none, false)
      | some n =>
        if 1 < n then (again 0 (some (n - 1)), false)
        else
          (ChimeState.succeed
            { c with playing := none, results := setSlotResults e.sources .done c.results } pats,
            hasSlot e.sources)
  | _, _ => (c, false)

/-- R158: the end of a fade: the waiting playing entry starts, or a successor is chosen. -/
def ChimeState.fadeOver (c : ChimeState) (pats : List Pattern) : ChimeState :=
  match c.phase, c.playing with
  | .switching, some e => c.start pats e
  | .switching, none => c.succeed pats
  | _, _ => c

/-! ### CHIME in the machine -/

/-- The patterns CHIME holds: the profile's, once it has started (R148). -/
def State.patterns (s : State) : List Pattern :=
  match s.boot.profile with
  | some p => p.patterns
  | none => []

/-- The chime stack depth CHIME holds (R148). -/
def State.stackDepth (s : State) : Nat :=
  match s.boot.profile with
  | some p => p.rev.depth
  | none => 0

/-- Take CHIME's new state, raising CHIME_RESULT if a slot result has been set (R162). -/
def State.takeChime (s : State) (x : ChimeState × Bool) : State :=
  let s' := s.setChime x.1
  if x.2 then s'.raise .chimeResult else s'

/-- R152: a request in the machine. -/
def State.chimeRequest (s : State) (src : Source) (pat : Nat) : State :=
  s.takeChime (s.chime.request s.patterns s.stackDepth src pat)

/-- R155: a cancel in the machine. -/
def State.chimeCancel (s : State) (src : Source) : State := s.setChime (s.chime.cancel src)

/-- R152: a condition rise; a condition mapped to NONE or to an empty pattern is ignored (R148). -/
def State.conditionRise (s : State) (k : Nat) : State :=
  match s.boot.profile with
  | some p =>
    if playable s.patterns (p.condMap.getD k 0xFF) then s.chimeRequest (.cond k) (p.condMap.getD k 0xFF) else s
  | none => s

/-- R155: a condition fall. -/
def State.conditionFall (s : State) (k : Nat) : State := s.chimeCancel (.cond k)

/-- R117: RVC's request of the reverse chime, if the profile names a pattern that is not empty and CHIME
has started. -/
def State.reverseChime (s : State) : State :=
  match s.boot.profile with
  | some p =>
    if s.chime.started && playable s.patterns p.rev.chime then s.chimeRequest .reverse p.rev.chime else s
  | none => s

/-- CHIME_STEP_END (R156): the position advances, repeats or finishes; outside PLAYING there is no step to
end. -/
def execChimeStepEnd (s : State) : Out := .next (s.takeChime (s.chime.stepEnd s.patterns))

/-- FADE_END (R158): the waiting entry starts or a successor is chosen; outside SWITCHING there is no fade
to end. -/
def execFadeEnd (s : State) : Out := .next (s.setChime (s.chime.fadeOver s.patterns))

end Sys2Proof.Machine
end

