-- ==== Sys2Proof/Machine/Reverse.lean ====
section
/-! DEFINITION. RVC, the Reverse View Controller (R107 to R118): the reverse input, its timers, and its
state with what each change of it does in other blocks. -/

namespace Sys2Proof.Machine

open Sys2Proof

/-! ### Timer values (R108) -/

/-- The debounce time in use: the profile's from the entry to RUNNING, the fixed one before. -/
def State.debounceTime (s : State) : Nat :=
  match s.boot.profile with
  | some p => p.rev.debounce
  | none => Config.fixedDebounce

/-- The engage time in use. -/
def State.engageTime (s : State) : Nat :=
  match s.boot.profile with
  | some p => p.rev.engage
  | none => Config.fixedEngage

/-- The freeze time in use. -/
def State.freezeTime (s : State) : Nat :=
  match s.boot.profile with
  | some p => p.rev.freeze
  | none => Config.fixedFreeze

/-- The release time in use. -/
def State.releaseTime (s : State) : Nat :=
  match s.boot.profile with
  | some p => p.rev.release
  | none => Config.fixedRelease

/-! ### State changes (Table 34) -/

/-- R118: RVC takes a new state, given with the record it then has: REVERSE_CHANGE is raised, and CAMERA_LOST
at an entry to LOST. -/
def State.rvcEnter (s : State) (r : RvcState) : State :=
  let s' := (s.setRvc r).raise .reverseChange
  if r.phase = .lost then s'.raise .cameraLost else s'

/-- R27: engine C begins to keep the protected window clear if the view is HOST_VIEW. -/
def State.keepWindow (s : State) : State :=
  if s.centre.view = .host then s.setCentre { s.centre with keepWindow := true } else s

/-- R109: from OFF to ENGAGING. -/
def State.leaveOff (s : State) : State :=
  ((s.rvcEnter { s.rvc with phase := .engaging, engage := some s.engageTime }).dropHeld.keepWindow).reverseChime

/-- R115: the entry to OFF: the centre backlight holds its duty, the reverse chime is cancelled. -/
def State.enterOff (s : State) : State :=
  let s1 := s.holdCentre
  (s1.rvcEnter { s1.rvc with phase := .off, engage := none, release := none }).chimeCancel .reverse

/-- R109, R113: the event reverse on. -/
def State.reverseOn (s : State) : State :=
  match s.rvc.phase with
  | .off => s.leaveOff
  | .releasing =>
    s.rvcEnter { s.rvc with phase := if s.rvc.fresh then .showing else .lost, release := none }
  | .engaging => s
  | .showing => s
  | .lost => s

/-- R113: the event reverse off in ENGAGING, SHOWING or LOST. -/
def State.beginRelease (s : State) : State :=
  if s.releaseTime = 0 then s.enterOff
  else s.rvcEnter { s.rvc with phase := .releasing, engage := none, release := some s.releaseTime }

/-- R113: the event reverse off. -/
def State.reverseOff (s : State) : State :=
  match s.rvc.phase with
  | .off => s
  | .releasing => s
  | .engaging => s.beginRelease
  | .showing => s.beginRelease
  | .lost => s.beginRelease

/-- R107: the debounce timer expires; if REVIN differs from the taken level, the taken level changes and gives
its event. -/
def State.takeLevel (s : State) : State :=
  if s.pins.revin = s.rvc.taken then s.setRvc { s.rvc with debounce := none }
  else
    let s1 := s.setRvc { s.rvc with debounce := none, taken := s.pins.revin }
    if s.pins.revin then s1.reverseOn else s1.reverseOff

/-- R108: RVC starts in OFF with its debounce timer started. -/
def RvcState.start : RvcState := { RvcState.init with started := true, debounce := some Config.fixedDebounce }

/-- R105: a frame completion restarts the freeze timer and sets fresh. -/
def State.frameCompletion (s : State) : State :=
  s.setRvc { s.rvc with freeze := some s.freezeTime, fresh := true }

/-- R110 step 3: the transition a centre blank event causes, `made` telling that the blank's camera work made a
slot SHOWING and `shown` that a slot is SHOWING. -/
def State.blankTransition (s : State) (made shown : Bool) : State :=
  match s.rvc.phase with
  | .engaging =>
    if shown && s.rvc.fresh then s.rvcEnter { s.rvc with phase := .showing, engage := none } else s
  | .lost => if made then s.rvcEnter { s.rvc with phase := .showing } else s
  | .off => s
  | .showing => s
  | .releasing => s

/-- R114: the base choice for an RVC state, with the SHOWING slot if there is one. In OFF no choice is handed
and the engaging fill stands for it, unused (DESIGN CHOICE, log entry 35). In SHOWING the rule says that a slot is
always SHOWING and gives no choice for none: the unavailable fill stands for it, under the spans of a frame latched
as SHOWING (DESIGN CHOICE, log entry 44). -/
def RvcState.baseChoice (r : RvcState) (shown : Option Nat) : CamBase :=
  match r.phase, shown with
  | .off, _ => .engagingFill
  | .engaging, _ => .engagingFill
  | .showing, some k => .slot k
  | .showing, none => .unavailableFill
  | .lost, _ => .unavailableFill
  | .releasing, some k => if r.fresh then .slot k else .unavailableFill
  | .releasing, none => .unavailableFill

/-! ### The rows -/

/-- REVIN_CHANGE (R107): the level changes and the debounce timer restarts; with a debounce time of 0 it
expires at the change itself. Before RVC starts only the level changes (R108). -/
def execRevinChange (s : State) : Out :=
  let s1 := s.setPins { s.pins with revin := !s.pins.revin }
  if s.rvc.started then
    if s.debounceTime = 0 then .next s1.takeLevel
    else .next (s1.setRvc { s1.rvc with debounce := some s.debounceTime })
  else .next s1

/-- DEBOUNCE_EXPIRY (R107). With the timer stopped nothing expires. -/
def execDebounceExpiry (s : State) : Out :=
  match s.rvc.debounce with
  | some _ => .next s.takeLevel
  | none => .next s

/-- ENGAGE_TIMER_EXPIRY (R111): ENGAGING becomes LOST. The timer runs in no other state. -/
def execEngageTimerExpiry (s : State) : Out :=
  match s.rvc.engage with
  | some _ =>
    if s.rvc.phase = .engaging then .next (s.rvcEnter { s.rvc with phase := .lost, engage := none })
    else .next (s.setRvc { s.rvc with engage := none })
  | none => .next s

/-- FREEZE_TIMER_EXPIRY (R112): fresh is cleared, and SHOWING becomes LOST. -/
def execFreezeTimerExpiry (s : State) : Out :=
  match s.rvc.freeze with
  | some _ =>
    if s.rvc.phase = .showing then
      .next (s.rvcEnter { s.rvc with phase := .lost, fresh := false, freeze := none })
    else .next (s.setRvc { s.rvc with fresh := false, freeze := none })
  | none => .next s

/-- RELEASE_TIMER_EXPIRY (R115): RELEASING becomes OFF. The timer runs in no other state. -/
def execReleaseTimerExpiry (s : State) : Out :=
  match s.rvc.release with
  | some _ =>
    if s.rvc.phase = .releasing then .next s.enterOff else .next (s.setRvc { s.rvc with release := none })
  | none => .next s

end Sys2Proof.Machine
end

