-- ==== Sys2Proof/Machine/Link.lean ====
section
/-! DEFINITION. LINK, the body status link receiver (chapter 8): assembly and discards, rolling counters,
payloads and freshness. -/

namespace Sys2Proof.Machine

open Sys2Proof

/-- The start marker of a frame (Table 45). -/
def startMarker : Byte := 0x5A

/-- What LINK keeps for a kind. -/
def LinkState.kind (l : LinkState) : LinkKind → KindState
  | .steering => l.steering
  | .conditions => l.conditions

/-- Replace what LINK keeps for a kind. -/
def LinkState.setKind (l : LinkState) (k : LinkKind) (x : KindState) : LinkState :=
  match k with
  | .steering => { l with steering := x }
  | .conditions => { l with conditions := x }

/-- R140: a discard empties the bytes held, stops the gap timer, counts a check error and returns the
assembler to HUNTING. -/
def LinkState.discard (l : LinkState) : LinkState :=
  { l with held := [], gap := none, checkErrors := satInc l.checkErrors }

/-- R140: whether the byte that would be held as number `held.length` (from 0) discards the frame: a kind
that is neither 1 nor 2, or a counter whose upper four bits are not all zero. -/
def badByte (held : List Byte) (b : Byte) : Bool :=
  (held.length == 1 && b != 1 && b != 2) || (held.length == 2 && b.extractLsb' 4 4 != 0)

/-- R142: the check: 0xFF minus the sum, modulo 256, of the second to seventh bytes is the eighth. -/
def checkAgrees (bytes : List Byte) : Bool :=
  let sum := ((bytes.drop 1).take 6).foldl (fun a b => a + b) (0 : Byte)
  decide (0xFF - sum = bytes.getD 7 0)

/-- The conditions 0..31 of a set, ascending. -/
def conditionsOf (set : BitVec 32) : List Nat := (List.range 32).filter (fun k => set.getLsbD k)

/-- R145: hand CHIME the rises of the conditions new in `new`, ascending, and then the falls of those gone
from `old`, ascending. -/
def State.handConditions (s : State) (old new : BitVec 32) : State :=
  let s := (conditionsOf (new &&& ~~~ old)).foldl State.conditionRise s
  (conditionsOf (old &&& ~~~ new)).foldl State.conditionFall s

/-- The profile timeout of a kind (R146). -/
def State.linkTimeout (s : State) (k : LinkKind) : Nat :=
  match s.boot.profile with
  | some p =>
    match k with
    | .steering => p.steerMs
    | .conditions => p.condMs
  | none => 0

/-- R143: what an accepted frame does whatever its kind: the counters, the last accepted counter, the stale
flag and the freshness timer. -/
def LinkState.accepted (l : LinkState) (k : LinkKind) (counter timeout : Nat) : LinkState :=
  let gap : Bool :=
    match (l.kind k).last with
    | none => false
    | some c => decide (counter ≠ (c + 1) % 16)
  LinkState.setKind
    { l with good := satInc l.good, gaps := if gap then satInc l.gaps else l.gaps }
    k { last := some counter, stale := false, timer := some timeout }

/-- R143 to R145: a complete frame: ignored as a duplicate, or accepted with its payload. -/
def State.completeFrame (s : State) (bytes : List Byte) : State :=
  let k : LinkKind := if bytes.getD 1 0 = 1 then .steering else .conditions
  let counter := (bytes.getD 2 0).toNat
  if (s.link.kind k).last = some counter then s
  else
    let l := s.link.accepted k counter (s.linkTimeout k)
    match k with
    | .steering =>
      let raw := (bytes.getD 3 0).toNat + 256 * (bytes.getD 4 0).toNat
      s.setLink { l with angle := signed16 raw, valid := (bytes.getD 5 0).getLsbD 0 }
    | .conditions =>
      let set : BitVec 32 := bytes.getD 6 0 ++ bytes.getD 5 0 ++ bytes.getD 4 0 ++ bytes.getD 3 0
      (s.setLink { l with conds := set }).handConditions l.conds set

/-- R140, R142: a taken byte in the assembler. -/
def State.takeByte (s : State) (b : Byte) : State :=
  let l := s.link
  if l.held.isEmpty then
    if b = startMarker then s.setLink { l with held := [b], gap := some 0 } else s
  else if badByte l.held b then s.setLink l.discard
  else if l.held.length = 7 then
    let bytes := l.held ++ [b]
    if checkAgrees bytes then (s.setLink { l with held := [], gap := none }).completeFrame bytes
    else s.setLink l.discard
  else s.setLink { l with held := l.held ++ [b], gap := some 0 }

/-! ### The byte receiver (R139) -/

/-- Table 44: the reference ticks after a fall at which sample `i` is taken: 0 the start bit, 1 to 8 the data bits 0 to
7, 9 the stop bit, each at the middle of a bit of 96 ticks. -/
def sampleTick (i : Nat) : Nat := 48 + 96 * i

/-- Table 44: the data byte of a line, `line n` telling whether it is high `n` reference ticks after the fall; the least
significant bit is sampled first. -/
def sampledByte (line : Nat → Bool) : Byte :=
  BitVec.ofFnLE (fun i : Fin 8 => line (sampleTick (i + 1)))

/-- R139: what the receiver makes of a fall: the rows that follow it. A start bit sampled high is a disturbance and
gives none; otherwise a byte has begun, which the stop bit's sample ends, high with the byte taken, low with a stop-bit
error. -/
def fallRows (line : Nat → Bool) : List Instr :=
  if line (sampleTick 0) then []
  else [.linkStartBit, if line (sampleTick 9) then .linkByteTaken (sampledByte line) else .linkStopBitError]

/-- LINK has started and its receiver is inside a byte: its start bit has been sampled low (R139). -/
def LinkState.inByte (l : LinkState) : Bool := l.started && l.rx == .inByte

/-- LINK_BYTE_TAKEN (R139, R140): the stop bit is sampled high; the receiver watches for the next fall, and the byte goes
to the assembler. Before LINK starts the line is not examined (R138), and outside a byte no stop bit is sampled. -/
def execLinkByteTaken (b : Byte) (s : State) : Out :=
  if s.link.inByte then .next ((s.setLink { s.link with rx := .watching }).takeByte b) else .next s

/-- LINK_STOP_BIT_ERROR (R139, R140): the stop bit is sampled low; the byte discards a frame being assembled, and the
receiver waits for the line to be high. Outside a byte no stop bit is sampled. -/
def execLinkStopBitError (s : State) : Out :=
  if s.link.inByte then
    let l := if s.link.held.isEmpty then s.link else s.link.discard
    .next (s.setLink { l with rx := .waitHigh })
  else .next s

/-- LINK_START_BIT (R139, R141): the start bit of a fall is sampled low: a byte has begun, which stops the gap timer of an
unfinished frame, at its sample and not at its fall (DEDUCED, log entry 40). Inside a byte no fall is watched for; after a
stop-bit error the fall tells that the line has been high. -/
def execLinkStartBit (s : State) : Out :=
  if s.link.started && s.link.rx != .inByte then .next (s.setLink { s.link with rx := .inByte, gap := none })
  else .next s

/-- GAP_TIMER_EXPIRY (R141): the unfinished frame is discarded and counted. With the gap timer stopped
nothing expires. -/
def execGapTimerExpiry (s : State) : Out :=
  match s.link.gap with
  | some _ => .next (s.setLink s.link.discard)
  | none => .next s

/-- FRESHNESS_TIMER_EXPIRY (R146): the kind goes stale, its last accepted counter becomes absent, for
conditions every held condition falls, and LINK_STALE is raised. With the kind's timer stopped nothing
expires. -/
def execFreshnessTimerExpiry (k : LinkKind) (s : State) : Out :=
  match (s.link.kind k).timer with
  | none => .next s
  | some _ =>
    let l := s.link.setKind k { last := none, stale := true, timer := none }
    match k with
    | .steering => .next ((s.setLink l).raise .linkStale)
    | .conditions =>
      .next (((s.setLink { l with conds := 0 }).handConditions l.conds 0).raise .linkStale)

end Sys2Proof.Machine
end

