-- ==== Sys2Proof/Machine/Time.lean ====
section
/-! DEFINITION. Time between the rows: what `n` reference ticks do to the counters that count them or the
192 MHz clock, and what a timebase tick does to the millisecond timers. -/

namespace Sys2Proof.Machine

open Sys2Proof

/-- The 192 MHz clocks of a display line: (Wa + Hb) × d (R1). -/
def DispTiming.lineClocks (t : DispTiming) : Nat := (t.wa + t.hb) * t.d

/-- A display `n` reference ticks later: its place in the line advances by 8 × n clocks of 192 MHz and is held
at the line's length (R1). -/
def Display.advance (x : Display) (t : DispTiming) (n : Nat) : Display :=
  if x.running then { x with lineClk := min (x.lineClk + 8 * n) t.lineClocks } else x

/-- The counters of the display and backlight of each display, `n` reference ticks later. -/
def State.advanceDisplays (s : State) (n : Nat) : State :=
  match s.boot.profile with
  | none => s
  | some p =>
    (s.setDisps ⟨s.disp.c.advance p.disp.c n, s.disp.l.advance p.disp.l n, s.disp.r.advance p.disp.r n⟩).setBls
      ⟨s.bl.c.advance p.disp.c.period n, s.bl.l.advance p.disp.l.period n, s.bl.r.advance p.disp.r.period n⟩

/-- The machine `n` reference ticks later, with no row's event in between: every counter of reference ticks
or 192 MHz steps counts on, held where its event falls due. -/
def State.advance (s : State) (n : Nat) : State :=
  let s := s.advanceDisplays n
  let s := if s.tb.running then s.setTb { s.tb with sub := min (s.tb.sub + n) Config.ticksPerMs } else s
  let s :=
    if s.boot.startup = .clockCheck then s.setBoot { s.boot with clkCount := min (s.boot.clkCount + n) 0x1FFF } else s
  let s := if s.aud.clock then s.setAud { s.aud with sub := min (s.aud.sub + n) Config.ticksPerFrame } else s
  let s := s.setCam { s.cam with period := s.cam.period.map (fun c => min (c + n) (Config.periodLimit * 24)) }
  let s := s.setLink { s.link with gap := s.link.gap.map (fun g => min (g + n) (Config.gapLimit + 1)) }
  if s.guide.build.isSome then s.setGuide { s.guide with work := s.guide.work + 8 * n } else s

/-- A timebase tick in RVC: each running timer has one tick less to run. -/
def RvcState.tick (r : RvcState) : RvcState :=
  { r with
    debounce := timerTick r.debounce, engage := timerTick r.engage, freeze := timerTick r.freeze,
    release := timerTick r.release }

/-- A timebase tick in one kind's freshness timer. -/
def KindState.tick (k : KindState) : KindState := { k with timer := timerTick k.timer }

/-- A timebase tick in LINK. -/
def LinkState.tick (l : LinkState) : LinkState :=
  { l with steering := l.steering.tick, conditions := l.conditions.tick }

/-- R177: LOAD's count of timebase ticks, 1 to 16 and then 1 again; 16 is each 16th tick from the moment LOAD began
work, at which the count was 0. -/
def LoadState.countTick16 (l : LoadState) : LoadState := { l with tick16 := l.tick16 % 16 + 1 }

/-- TB_TICK (R181): the millisecond tick: every running millisecond timer and LOAD's count toward the next
16 ms report (R177) move by one. Before TB has started there is no tick. -/
def execTbTick (s : State) : Out :=
  if s.tb.running then
    let s1 := ((s.setTb { s.tb with sub := 0 }).setRvc s.rvc.tick).setLink s.link.tick
    .next (if s.load.begun then s1.setLoad s1.load.countTick16 else s1)
  else .next s

end Sys2Proof.Machine
end

