-- ==== Sys2Proof/Machine/Camera.lean ====
section
/-! DEFINITION. CAM, the Camera Store (R99 to R106): the frame being stored, its checks and bursts, the
camera state and period, the slots and the arrival list. -/

namespace Sys2Proof.Machine

open Sys2Proof

/-! ### Slots (R104) -/

/-- The state of slot `k`. -/
def CamState.slot (c : CamState) (k : Nat) : CamSlot := c.slots.getD k .empty

/-- Set the state of slot `k`. -/
def CamState.setSlot (c : CamState) (k : Nat) (x : CamSlot) : CamState := { c with slots := c.slots.set k x }

/-- The SHOWING slot, if there is one. -/
def CamState.shown (c : CamState) : Option Nat := c.slots.findIdx? (· == .showing)

/-- R104: the slot for a new frame: the lowest-indexed EMPTY slot, else the oldest COMPLETE one. -/
def CamState.pick (c : CamState) : Option Nat :=
  match c.slots.findIdx? (· == .empty) with
  | some k => some k
  | none => c.arrivals.find? (fun k => c.slot k == .complete)

/-- R104: the picked slot becomes WRITING and leaves the arrival list; a new frame is stored in it. -/
def CamState.store (c : CamState) (k : Nat) : CamState :=
  { c with
    slots := c.slots.set k .writing
    arrivals := c.arrivals.filter (· != k)
    writing := some { slot := k, lines := 0, col := 0, lineOpen := false, passed := false, outstanding := 0 } }

/-- R101: the frame being stored is rejected: its slot becomes EMPTY, it is counted, its pixels and its
bursts not yet granted are discarded. -/
def CamState.reject (c : CamState) (w : Writing) : CamState :=
  { c with
    slots := c.slots.set w.slot .empty, writing := none, buf := [], bursts := [], rejected := satInc c.rejected }

/-- R105: the slot of the frame being stored becomes COMPLETE and joins the tail of the arrival list. -/
def CamState.complete (c : CamState) (w : Writing) : CamState :=
  { c with slots := c.slots.set w.slot .complete, arrivals := c.arrivals ++ [w.slot], writing := none }

/-- R103: a frame-valid rise in the camera state and the period measurement. -/
def CamState.rise (c : CamState) : CamState :=
  match c.phase with
  | .idle => c
  | .noSignal => { c with phase := .receiving, period := some 0, reported := 0 }
  | .receiving => { c with period := some 0, reported := c.period.getD 0 / 24 }

/-- R102, R104: a frame-valid rise counts the frame, and picks a slot for it or skips it. -/
def CamState.newFrame (c : CamState) : CamState :=
  let c := { c with received := satInc c.received }
  match c.writing with
  | some _ => { c with rejected := satInc c.rejected }
  | none =>
    match c.pick with
    | some k => c.store k
    | none => c

/-! ### The slots at a centre blank event (R106) -/

/-- The newest COMPLETE slot later in the arrival list than the SHOWING one; without a SHOWING slot every
COMPLETE slot counts as later. -/
def CamState.laterComplete (c : CamState) : Option Nat :=
  let later :=
    match c.shown with
    | some k => (c.arrivals.dropWhile (· != k)).drop 1
    | none => c.arrivals
  later.reverse.find? (fun k => c.slot k == .complete)

/-- Slot `j` becomes SHOWING; every slot ahead of it in the arrival list becomes EMPTY and leaves the list. -/
def CamState.showSlot (c : CamState) (j : Nat) : CamState :=
  let ahead := c.arrivals.takeWhile (· != j)
  let freed := ahead.foldl (fun (x : CamState) k => x.setSlot k .empty) c
  { freed.setSlot j .showing with arrivals := c.arrivals.dropWhile (· != j) }

/-- The SHOWING slot becomes EMPTY and leaves the arrival list. -/
def CamState.hideSlot (c : CamState) : CamState :=
  match c.shown with
  | some k => { c.setSlot k .empty with arrivals := c.arrivals.filter (· != k) }
  | none => c

/-- R106: CAM at a centre blank event, with whether it makes a slot SHOWING. -/
def CamState.blank (c : CamState) (view : View) (fresh : Bool) : CamState × Bool :=
  match view with
  | .host => (c.hideSlot, false)
  | .rear =>
    if fresh then
      match c.laterComplete with
      | some j => (c.showSlot j, true)
      | none => (c, false)
    else (c, false)

/-! ### The CAMERA requester (R100) -/

/-- The camera pixel as stored: alpha 0xFF over red, green and blue (R99). -/
def cameraWord (rgb : BitVec 24) : Word := (0xFF : Byte) ++ rgb

/-- The beats of a run of pixels, two to a beat, every strobe set. -/
def pixelBeats : List Word → List WBeat
  | a :: b :: rest => strobed ⟨quadOfWord a, quadOfWord b⟩ :: pixelBeats rest
  | _ => []

/-- The burst CAM presents: the oldest one not granted whose pixels are all in the line buffer. They stand behind
the `handing` pixels of the burst that is being handed over, which have not left the head yet. -/
def CamState.presents (c : CamState) (handing : Nat) : Option Burst :=
  match c.bursts with
  | [] => none
  | b :: _ =>
    some { write := true, addr := b.addr, beats := b.npix / 2, data := pixelBeats ((c.buf.drop handing).take b.npix) }

/-- The pixels a burst has in the line buffer until it has been handed over: those of a camera burst, unless its
frame has been rejected (R100, R101). -/
def Flight.pixels (f : Flight) : Nat :=
  match f.owner with
  | .camera n => if f.live then n else 0
  | _ => 0

/-- The pixels at the head of the line buffer whose burst is being handed over (R100). -/
def ArbState.handing (a : ArbState) : Nat :=
  match a.flights.find? (fun f => !f.handed) with
  | some f => f.pixels
  | none => 0

/-- CAMERA is urgent while the line buffer holds more than 1024 pixels. -/
def CamState.urgent (c : CamState) : Bool := decide (1024 < c.buf.length)

/-- R100: the burst that the pixel at column `col` of line `row` completes, if it completes one. -/
def burstAt (p : CameraProfile) (slot row col : Nat) : List CamBurst :=
  if (col + 1) % 32 = 0 ∨ col + 1 = p.width then
    [{ addr := p.base + slot * p.slotBytes + row * (p.width * 4) + 128 * (col / 32), npix := col % 32 + 1 }]
  else []

/-! ### CAM in the machine -/

/-- The profile's camera values; CAM has started only once they are there (R99). -/
def State.camProfile (s : State) : Option CameraProfile :=
  match s.boot.profile with
  | some p => some p.cam
  | none => none

/-- R101: reject the frame being stored; its granted bursts complete into the EMPTY slot, discarded. -/
def State.rejectFrame (s : State) (w : Writing) : State :=
  (s.kill (fun o =>
    match o with
    | .camera _ => true
    | _ => false)).setCam (s.cam.reject w)

/-- R105: the frame being stored completes, and RVC hears of it. -/
def State.completeCamera (s : State) (w : Writing) : State := (s.setCam (s.cam.complete w)).frameCompletion

/-- R101: a line of the frame ends; a line with fewer than camwidth pixels rejects it. -/
def State.endCameraLine (s : State) (p : CameraProfile) (w : Writing) : State :=
  if w.col < p.width then s.rejectFrame w
  else s.setCam { s.cam with writing := some { w with lineOpen := false } }

/-- R101: frame-valid has fallen and no line is open: the frame fails for want of lines, or passes, and
completes at once if no burst is outstanding (R105). -/
def State.checkFrame (s : State) (p : CameraProfile) (w : Writing) : State :=
  if w.lines < p.height then s.rejectFrame w
  else if w.outstanding = 0 then s.completeCamera w
  else s.setCam { s.cam with writing := some { w with passed := true } }

/-- R100, R101: a pixel of the current line joins the line buffer, or rejects the frame. -/
def State.takePixel (s : State) (p : CameraProfile) (w : Writing) (rgb : BitVec 24) : State :=
  if p.width ≤ w.col ∨ Config.lineBufferSize ≤ s.cam.buf.length then s.rejectFrame w
  else
    let formed := burstAt p w.slot (w.lines - 1) w.col
    s.setCam
      { s.cam with
        buf := s.cam.buf ++ [cameraWord rgb]
        bursts := s.cam.bursts ++ formed
        writing := some { w with col := w.col + 1, outstanding := w.outstanding + formed.length } }

/-! ### The rows -/

/-- CAMERA_FRAME_START (R99, R102, R103, R104): `elapsed` reference ticks after the step before, frame-valid
rises. Until CAM has started the port is ignored. -/
def execCameraFrameStart (elapsed : Nat) (s : State) : Out :=
  let s1 := s.advance elapsed
  if s1.cam.phase = .idle then .next s1 else .next (s1.setCam s1.cam.rise.newFrame)

/-- CAMERA_LINE_START (R101): a line of the frame being stored begins; one beyond camheight rejects it. With
no frame being stored the line is ignored, and a line already begun does not begin. -/
def execCameraLineStart (s : State) : Out :=
  match s.cam.writing, s.camProfile with
  | some w, some p =>
    if w.passed || w.lineOpen then .next s
    else if p.height ≤ w.lines then .next (s.rejectFrame w)
    else .next (s.setCam { s.cam with writing := some { w with lines := w.lines + 1, col := 0, lineOpen := true } })
  | _, _ => .next s

/-- CAMERA_PIXEL (R99, R100, R101). Outside an open line of a frame being stored the pixel is ignored. -/
def execCameraPixel (rgb : BitVec 24) (s : State) : Out :=
  match s.cam.writing, s.camProfile with
  | some w, some p => if w.lineOpen then .next (s.takePixel p w rgb) else .next s
  | _, _ => .next s

/-- CAMERA_LINE_END (R101). Without an open line of a frame being stored it is ignored. -/
def execCameraLineEnd (s : State) : Out :=
  match s.cam.writing, s.camProfile with
  | some w, some p => if w.lineOpen then .next (s.endCameraLine p w) else .next s
  | _, _ => .next s

/-- CAMERA_FRAME_END (R99, R101, R105): frame-valid falls; an open line ends with it, and the frame is
checked. Without a frame being stored it is ignored. -/
def execCameraFrameEnd (s : State) : Out :=
  match s.cam.writing, s.camProfile with
  | some w, some p =>
    if w.passed then .next s
    else if w.lineOpen && decide (w.col < p.width) then .next (s.rejectFrame w)
    else .next (s.checkFrame p { w with lineOpen := false })
  | _, _ => .next s

/-- CAMERA_BURST_COMPLETE (R101, R102, R105): the oldest granted burst is CAMERA's and its completion arrives.
A rejected frame's burst is discarded, an error rejects the frame, and the last burst of a passed frame
completes it. When the oldest granted burst is another requester's, no completion of CAMERA's can arrive
(R59). -/
def execCameraBurstComplete (err : Bool) (s : State) : Out :=
  match s.dueFlight with
  | some f =>
    match f.owner with
    | .camera _ =>
      let s1 := s.popFlight
      match s.cam.writing with
      | some w =>
        if !f.live then .next s1
        else if err then .next (s1.countFetchError.rejectFrame w)
        else
          let w' := { w with outstanding := w.outstanding - 1 }
          if w.passed && w'.outstanding == 0 then .next (s1.completeCamera w')
          else .next (s1.setCam { s1.cam with writing := some w' })
      | none => .next s1
    | _ => .next s
  | none => .next s

/-- CAMERA_LOSS (R103): the running period count reaches its limit in RECEIVING; in the other states it is
stopped. -/
def execCameraLoss (s : State) : Out :=
  if s.cam.phase = .receiving then
    .next (s.setCam { s.cam with phase := .noSignal, period := none, reported := Config.periodLimit })
  else .next s

end Sys2Proof.Machine
end

