-- ==== Sys2Proof/WellFormed.lean ====
section
/-! DEFINITION. Which terms of `Instr` are commands at all: the sizes the spec's ports carry. A term that
fails is refused by name (`Refusal.illFormed`); no port of the 630 can bring it. -/

namespace Sys2Proof

/-- The number of beats of a request. -/
def HostOp.beats : HostOp → Nat
  | .read n => n
  | .write data => data.length

/-- A request carries 1 to 16 beats (00_scope 1.6, R38). -/
def HostReq.wf (q : HostReq) : Bool :=
  decide (1 ≤ q.op.beats ∧ q.op.beats ≤ 16)

/-- A completion of a read of exactly `n` beats, or an error. -/
def Reply.wf (n : Nat) : Reply → Bool
  | .ok data => decide (data.length = n)
  | .error => true

/-- A completion of a burst of at most 16 beats (00_scope 1.6), or an error. -/
def Reply.wfBurst : Reply → Bool
  | .ok data => decide (data.length ≤ 16)
  | .error => true

/-- The sizes of a command's operands. A host request carries 1 to 16 beats (R38). A load read and a
prefetch burst bring 16 beats (R167, R91), the re-read one (R167), and any other burst at most 16. The
profile holds at most 16384 bytes (R182), and LAYER_UNDERRUN names a column of the widest display
(Table 4). -/
def Instr.wf : Instr → Bool
  | .hostRequest q => q.wf
  | .hostPieceComplete r => r.wfBurst
  | .loadReadBurstComplete r => r.wf 16
  | .loadRereadComplete r => r.wf 1
  | .scanBurstComplete _ r => r.wfBurst
  | .audioBurstComplete r => r.wf 16
  | .profileReadDone rest => decide (rest.length ≤ 16382)
  | .layerUnderrun _ _ col => decide (col < 1920)
  | .powerOnReset => true
  | .pornRelease _ => true
  | .hostReset => true
  | .hostResetRelease => true
  | .clockCheckEnd _ => true
  | .profileLengthRead _ _ => true
  | .cameraRegionDefine => true
  | .tbTick => true
  | .arbGrant => true
  | .burstHandoverDone => true
  | .hostPieceDrop => true
  | .loadCheck => true
  | .reportTick => true
  | .reportBurstComplete _ => true
  | .centreBlankEvent => true
  | .centreActiveEvent => true
  | .guideBuildComplete => true
  | .rearBlankEvent _ => true
  | .rearActiveEvent _ => true
  | .displayLineEnd _ => true
  | .pwmPeriodEnd _ => true
  | .backlightFault _ => true
  | .outputFrame => true
  | .duckStep => true
  | .blockBoundary => true
  | .chimeStepEnd => true
  | .fadeEnd => true
  | .cameraFrameStart _ => true
  | .cameraLineStart => true
  | .cameraPixel _ => true
  | .cameraLineEnd => true
  | .cameraFrameEnd => true
  | .cameraBurstComplete _ => true
  | .cameraLoss => true
  | .revinChange => true
  | .debounceExpiry => true
  | .engageTimerExpiry => true
  | .freezeTimerExpiry => true
  | .releaseTimerExpiry => true
  | .linkByteTaken _ => true
  | .linkStopBitError => true
  | .gapTimerExpiry => true
  | .freshnessTimerExpiry _ => true
  | .linkStartBit => true
  | .faultInputRelease _ => true

end Sys2Proof
end

