-- ==== Sys2Proof/Machine/Audio.lean ====
section
/-! DEFINITION. AUD and MIX (chapter 5): rings and block states, stream states, prefetches, the block
boundary, the output frame and the duck gain. -/

namespace Sys2Proof.Machine

open Sys2Proof

/-! ### Rings (R82, R83) -/

/-- A new ring record: every block EMPTY, the start block awaited (R85). -/
def RingRecord.fresh (idx : Nat) (g : AudioRing) (start prime : Nat) : RingRecord :=
  { idx := idx, desc := g, blocks := List.replicate g.n .empty, awaited := some start, playing := none,
    prime := prime, prefetch := none, play := [] }

/-- The successor of a block in ring order (R82). -/
def RingRecord.succ (r : RingRecord) (j : Nat) : Nat := if j + 1 < r.desc.n then j + 1 else 0

/-- The state of block `j`. -/
def RingRecord.block (r : RingRecord) (j : Nat) : BlockPhase := r.blocks.getD j .empty

/-- The block that may play at the next boundary: the awaited one, or the playing one's successor (R91). -/
def RingRecord.target (r : RingRecord) : Option Nat :=
  match r.playing with
  | some p => some (r.succ p)
  | none => r.awaited

/-- The prefetch of a block has finished: all 8 completions have arrived (R91). -/
def RingRecord.fetched (r : RingRecord) (j : Nat) : Bool :=
  match r.prefetch with
  | some p => p.block == j && p.back == 8
  | none => false

/-- The prefetch of a block has begun: its first burst has been granted (R83). -/
def RingRecord.fetchBegun (r : RingRecord) (j : Nat) : Bool :=
  match r.prefetch with
  | some p => p.block == j && decide (1 ≤ p.granted)
  | none => false

/-- A prefetch that has become due. -/
def Prefetch.fresh (j : Nat) : Prefetch := { block := j, granted := 0, back := 0, err := false, data := [] }

/-- Whether a prefetch is due now that has not been begun: the target is FILLED and no prefetch is kept
(R91). -/
def RingRecord.newlyDue (r : RingRecord) : Option Nat :=
  match r.prefetch, r.target with
  | none, some j => if r.block j = .filled then some j else none
  | _, _ => none

/-- AUD with a stream's newly due prefetch added behind those already due (R91). -/
def AudState.makeDue (a : AudState) (k : Seat) : AudState :=
  let st := Pair.get a.streams k
  match st.ring with
  | none => a
  | some r =>
    match r.newlyDue with
    | none => a
    | some j =>
      { a with
        streams := Pair.set a.streams k { st with ring := some { r with prefetch := some (Prefetch.fresh j) } }
        due := a.due ++ [k] }

/-- R83: an audio block write notice on a stream's ring. -/
def Stream.blockWrite (st : Stream) (r : RingRecord) (j : Nat) (blockEnd : Bool) : Stream :=
  match r.block j with
  | .empty => if blockEnd then { st with ring := some { r with blocks := r.blocks.set j .filled } } else st
  | .filled => if r.fetchBegun j then { st with lateWrites := satInc st.lateWrites } else st
  | .playing => { st with lateWrites := satInc st.lateWrites }

/-- R83: the notice taken by one stream, if it names that stream's ring. -/
def AudState.streamWrite (a : AudState) (k : Seat) (idx j : Nat) (blockEnd : Bool) : AudState :=
  let st := Pair.get a.streams k
  match st.ring with
  | none => a
  | some r =>
    if r.idx = idx ∧ st.phase ≠ .stopped then
      AudState.makeDue { a with streams := Pair.set a.streams k (st.blockWrite r j blockEnd) } k
    else a

/-- R83: an audio block write notice; no two streams play from one ring (R85). -/
def AudState.blockWrite (a : AudState) (idx j : Nat) (blockEnd : Bool) : AudState :=
  (a.streamWrite .left idx j blockEnd).streamWrite .right idx j blockEnd

/-! ### Block boundaries (R88 to R90) -/

/-- A block becomes PLAYING from phase 0: the prefetch buffer's contents become the play buffer's, silent
if the block was fetched in error (R91, R93). -/
def RingRecord.playBlock (r : RingRecord) (j : Nat) : RingRecord :=
  let data : List RBeat :=
    match r.prefetch with
    | some p => if p.err then [] else p.data
    | none => []
  { r with blocks := r.blocks.set j .playing, awaited := none, playing := some j, prefetch := none, play := data }

/-- The `c` blocks from `j` in ring order are all FILLED (R88). -/
def RingRecord.primed (r : RingRecord) : (c j : Nat) → Bool
  | 0, _ => true
  | c + 1, j => r.block j == .filled && r.primed c (r.succ j)

/-- R88 to R90: one stream at a block boundary, with whether it enters UNDERRUN from PLAYING. -/
def Stream.boundary (st : Stream) : Stream × Bool :=
  match st.ring with
  | none => (st, false)
  | some r =>
    match st.phase, r.playing, r.awaited with
    | .priming, _, some j =>
      if r.primed r.prime j && r.fetched j then ({ st with phase := .playing, ring := some (r.playBlock j) }, false)
      else (st, false)
    | .underrun, _, some j =>
      if st.blockSeq ≠ Config.lastBlockSeq ∧ r.block j = .filled ∧ r.fetched j = true then
        ({ st with phase := .playing, ring := some (r.playBlock j) }, false)
      else (st, false)
    | .playing, some p, _ =>
      let r := { r with blocks := r.blocks.set p .empty }
      let seqNo := min (st.blockSeq + 1) Config.lastBlockSeq
      let j := r.succ p
      if seqNo ≠ Config.lastBlockSeq ∧ r.block j = .filled ∧ r.fetched j = true then
        ({ st with blockSeq := seqNo, ring := some (r.playBlock j) }, false)
      else
        ({ st with
           phase := .underrun, blockSeq := seqNo, underruns := satInc st.underruns,
           ring := some { r with playing := none, awaited := some j, play := [] } }, true)
    | _, _, _ => (st, false)

/-- A block boundary of one stream in AUD, with whether it underruns; the next prefetch becomes due. -/
def AudState.streamBoundary (a : AudState) (k : Seat) : AudState × Bool :=
  let x := (Pair.get a.streams k).boundary
  (AudState.makeDue { a with streams := Pair.set a.streams k x.1 } k, x.2)

/-! ### The AUDIO requester (R91 to R93) -/

/-- The burst AUD presents: the next of the prefetch that holds the request slot (R91). -/
def AudState.presents (a : AudState) : Option (Seat × Burst) :=
  match a.due with
  | [] => none
  | k :: _ =>
    match (Pair.get a.streams k).ring with
    | none => none
    | some r =>
      match r.prefetch with
      | none => none
      | some p =>
        some (k, { write := false, addr := r.desc.base + 1024 * p.block + 128 * p.granted, beats := 16, data := [] })

/-- R91: the presented burst is granted; after its eighth the slot passes on. -/
def AudState.granted (a : AudState) (k : Seat) : AudState :=
  let st := Pair.get a.streams k
  match st.ring with
  | none => a
  | some r =>
    match r.prefetch with
    | none => a
    | some p =>
      { a with
        streams := Pair.set a.streams k { st with ring := some { r with prefetch := some { p with granted := p.granted + 1 } } }
        due := if p.granted + 1 = 8 then a.due.drop 1 else a.due }

/-- A stream has a prefetch due and unfinished (R92). -/
def Stream.unfinished (st : Stream) : Bool :=
  match st.ring with
  | none => false
  | some r =>
    match r.prefetch with
    | none => false
    | some p => decide (p.back < 8)

/-- R92: AUDIO is urgent while a prefetch is due and unfinished and fewer than 48 output frames remain
before the boundary: from the start of the frame with phase 209 until the boundary. -/
def AudState.urgent (a : AudState) : Bool :=
  (a.streams.l.unfinished || a.streams.r.unfinished) && (a.lastFrame || decide (210 ≤ a.phase))

/-- R91, R93: a prefetch burst's completion in one stream. -/
def Stream.burstBack (st : Stream) (reply : Reply) : Stream :=
  match st.ring with
  | none => st
  | some r =>
    match r.prefetch with
    | none => st
    | some p =>
      let p' : Prefetch :=
        match reply with
        | .ok data => { p with back := p.back + 1, data := p.data ++ data }
        | .error => { p with back := p.back + 1, err := true }
      { st with ring := some { r with prefetch := some p' } }

/-- R93: a stream's prefetch is abandoned: it leaves the request slot, and the bursts already granted are
discarded as they complete. -/
def State.abandonPrefetch (s : State) (k : Seat) : State :=
  (s.kill (fun o => o == .audio k)).setAud { s.aud with due := s.aud.due.filter (· != k) }

/-- A stream becomes STOPPED: its ring record goes and its prefetch is abandoned; the block sequence and
the counters stay (R84 to R86). -/
def State.stopStream (s : State) (k : Seat) : State :=
  let s := s.abandonPrefetch k
  let st := Pair.get s.aud.streams k
  s.setAud { s.aud with streams := Pair.set s.aud.streams k { st with phase := .stopped, ring := none } }

/-- R85: a stream is started anew in PRIMING on a ring. -/
def State.startStream (s : State) (k : Seat) (idx : Nat) (g : AudioRing) (start prime : Nat) : State :=
  let s := s.abandonPrefetch k
  let st := Pair.get s.aud.streams k
  s.setAud
    { s.aud with
      streams := Pair.set s.aud.streams k
        { st with phase := .priming, blockSeq := 0, ring := some (RingRecord.fresh idx g start prime) } }

/-- R85: the stream's ring has changed: another region index, or another descriptor in the table in force. -/
def ringChanged (table : List Region) (r : RingRecord) (idx : Nat) : Bool :=
  r.idx != idx || entryAt table idx != .audio r.desc

/-- R85: what an accepted audio record does to one stream, against the table in force. -/
def State.applyStream (s : State) (k : Seat) (x : StreamRecord) : State :=
  let st := Pair.get s.aud.streams k
  if x.enable then
    let fresh : Bool :=
      match st.ring with
      | none => true
      | some r => st.phase == .stopped || ringChanged s.path.table r x.ring
    if fresh then
      match entryAt s.path.table x.ring with
      | .audio g => s.startStream k x.ring g x.start x.prime
      | _ => s
    else s
  else if st.phase = .stopped then s
  else s.stopStream k

/-- R85, R95: an accepted audio record takes effect. -/
def State.applyAudio (s : State) (x : AudioRecord) : State :=
  let s := (s.applyStream .left x.streams.l).applyStream .right x.streams.r
  s.setMix
    { s.mix with
      v := ⟨x.streams.l.volume, x.streams.r.volume⟩, route := x.route, vc := x.vc, duck := x.duck, mute := x.mute }

/-- R86: a stream whose ring is an entry that PATH has set to NONE becomes STOPPED. -/
def State.loseRing (s : State) (k : Seat) (gone : Nat → Bool) : State :=
  match (Pair.get s.aud.streams k).ring with
  | none => s
  | some r => if gone r.idx then s.stopStream k else s

/-! ### The output frame (R87, R94, R97) -/

/-- A 16-bit signed sample at a byte offset of the play buffer (chapter 5.1). -/
def sampleAt (play : List RBeat) (off : Nat) : Int := signed16 (fieldLE (beatsByte play) off 2)

/-- R94: the left and right samples of a stream at frame phase `f`. -/
def Stream.samples (st : Stream) (f : Nat) : Pair Int :=
  match st.phase, st.ring with
  | .playing, some r => ⟨sampleAt r.play (4 * f), sampleAt r.play (4 * f + 2)⟩
  | _, _ => ⟨0, 0⟩

/-- R97: one headphone sample. -/
def headSample (x : Int) (v : Nat) (h : Int) : Int := sat16 (x * v / 256 + h)

/-- R97: one cabin sample. -/
def cabinSample (x : Int) (vc gain : Nat) (c : Int) : Int := sat16 (x * vc / 256 * gain / 256 + c)

/-- R97: the three outputs for the streams' samples and CHIME's sample and flag. -/
def MixState.mix (m : MixState) (x0 x1 : Pair Int) (chime : Int × Bool) : OutFrame :=
  let h := if chime.2 then chime.1 else 0
  let routed : Pair Int :=
    match m.route with
    | .silent => ⟨0, 0⟩
    | .stream .left => x0
    | .stream .right => x1
  { hpL := ⟨headSample x0.l m.v.l h, headSample x0.r m.v.l h⟩,
    hpR := ⟨headSample x1.l m.v.r h, headSample x1.r m.v.r h⟩,
    cabin := ⟨cabinSample routed.l m.vc m.gain chime.1, cabinSample routed.r m.vc m.gain chime.1⟩ }

/-- R96: the duck gain's target. -/
def State.duckTarget (s : State) : Nat :=
  let d := if s.chime.phase = .idle then 256 else min 256 s.mix.duck
  if s.reversing && s.mix.mute then 0 else d

/-- R96: one step of the duck gain toward its target. -/
def duckStep (gain target : Nat) : Nat :=
  if gain < target then gain + 1 else if target < gain then gain - 1 else gain

/-- OUTPUT_FRAME (R87, R94, R96, R97, R161): the sample pairs are formed and sent; the frame phase, the ramp
counter and CHIME's position advance. Before the frame clock starts there is no output frame. -/
def execOutputFrame (s : State) : Out :=
  if s.aud.clock then
    let f := s.aud.phase
    let out := s.mix.mix (s.aud.streams.l.samples f) (s.aud.streams.r.samples f) (s.chime.sample s.patterns)
    let s1 := s.setMix { s.mix with out := some out, ramp := (s.mix.ramp + 1) % 8 }
    let s2 := s1.setAud { s1.aud with phase := (f + 1) % 256, lastFrame := f == 255, sub := 0 }
    .next (s2.setChime (s2.chime.advance s2.patterns))
  else .next s

/-- DUCK_STEP (R96): the ramp counter is back at 0 and the gain moves one step toward its target. Without the
frame clock there is no step. -/
def execDuckStep (s : State) : Out :=
  if s.aud.clock then
    .next (s.setMix { s.mix with ramp := 0, gain := duckStep s.mix.gain s.duckTarget })
  else .next s

/-- Raise AUDIO_UNDERRUN if a stream has entered UNDERRUN (R90). -/
def State.noteUnderrun (s : State) (b : Bool) : State := if b then s.raise .audioUnderrun else s

/-- BLOCK_BOUNDARY (R87 to R91): both streams take the boundary, stream 0 first, and the next frame has
phase 0. Without the frame clock there is no boundary. -/
def execBlockBoundary (s : State) : Out :=
  if s.aud.clock then
    let x := AudState.streamBoundary { s.aud with phase := 0, lastFrame := false } .left
    let y := x.1.streamBoundary .right
    .next (((s.setAud y.1).noteUnderrun x.2).noteUnderrun y.2)
  else .next s

/-- AUDIO_BURST_COMPLETE (R91, R93): the oldest granted burst is AUDIO's and its completion arrives. An
abandoned prefetch's burst is discarded. When the oldest granted burst is another requester's no
completion of AUDIO's can arrive (R59). -/
def execAudioBurstComplete (r : Reply) (s : State) : Out :=
  if r.wf 16 then
    match s.dueFlight with
    | some f =>
      match f.owner with
      | .audio k =>
        let s1 := s.popFlight
        if f.live then
          let s2 := s1.setAud
            { s1.aud with streams := Pair.set s1.aud.streams k ((Pair.get s1.aud.streams k).burstBack r) }
          .next (match r with
            | .ok _ => s2
            | .error => s2.countFetchError)
        else .next s1
      | _ => .next s
    | none => .next s
  else .refused .illFormed

end Sys2Proof.Machine
end

