-- ==== Sys2Proof/Machine/Pres.lean ====
section
/-! DEFINITION. PRES, film presentation (chapter 4): buffer sets, tag records, buffer states, the ready
queue, and the selection at a rear blank event. -/

namespace Sys2Proof.Machine

open Sys2Proof

/-! ### Buffer sets (R63 to R67) -/

/-- A free buffer. -/
def FilmBuf.fresh : FilmBuf := { phase := .free, tag := none }

/-- A new set for a FILM entry: every buffer FREE, nothing ready, nothing shown (R63). -/
def BufSet.fresh (f : Film) : BufSet :=
  { seat := f.seat, bufs := List.replicate f.count FilmBuf.fresh, ready := [], shows := 0 }

/-- Buffer `i` of a set. -/
def BufSet.buf (b : BufSet) (i : Nat) : FilmBuf := b.bufs.getD i FilmBuf.fresh

/-- Replace buffer `i` of a set. -/
def BufSet.setBuf (b : BufSet) (i : Nat) (x : FilmBuf) : BufSet := { b with bufs := b.bufs.set i x }

/-- The SHOWN buffer of a set, if it has one (R67: at most one). -/
def BufSet.shown (b : BufSet) : Option Nat := b.bufs.findIdx? (fun x => x.phase == .shown)

/-- Take buffer `i` out of the ready queue. -/
def BufSet.unqueue (b : BufSet) (i : Nat) : BufSet := { b with ready := b.ready.filter (· != i) }

/-- R65: a film pixel write notice for buffer `i`. -/
def BufSet.pixelWrite (b : BufSet) (i : Nat) : BufSet :=
  match (b.buf i).phase with
  | .free => b.setBuf i { phase := .filling, tag := none }
  | .filling => b
  | .ready => (b.unqueue i).setBuf i { phase := .filling, tag := none }
  | .shown => b

/-- R66: a film tag write notice for buffer `i`. No notice names a buffer that the set does not have (R55). -/
def BufSet.tagWrite (b : BufSet) (i : Nat) (t : TagRecord) : BufSet :=
  if (b.buf i).phase ≠ .shown ∧ i < b.bufs.length then
    let b' := (b.unqueue i).setBuf i { phase := .ready, tag := some t }
    { b' with ready := b'.ready ++ [i] }
  else b

/-- The set loses its SHOWN buffer: it becomes FREE, its record and the show count are discarded (R68). -/
def BufSet.hide (b : BufSet) : BufSet :=
  match b.shown with
  | some i => { b.setBuf i FilmBuf.fresh with shows := 0 }
  | none => { b with shows := 0 }

/-! ### Selection (R69 to R73) -/

/-- R70: a READY buffer is eligible for a stream as it stands. -/
def eligible (st : Stream) (x : FilmBuf) : Bool :=
  match x.tag with
  | none => false
  | some t =>
    match t.sync with
    | none => true
    | some b => st.phase != .playing || decide (b ≤ st.blockSeq)

/-- R73: a frame flipped to now is late. -/
def isLate (st : Stream) (x : FilmBuf) : Bool :=
  match x.tag with
  | none => false
  | some t =>
    match t.sync with
    | none => false
    | some b => st.phase == .playing && decide (b + 2 < st.blockSeq)

/-- What a selection does: the set after it, whether it flipped, how many offered frames it dropped, and
whether it counts a repeat or a late frame. -/
structure Selection where
  set : BufSet
  flipped : Bool
  dropped : Nat
  repeated : Bool
  late : Bool
  deriving DecidableEq, Repr

/-- R71: the flip to candidate `c`: the buffers ahead of it in the queue and the SHOWN one become FREE. -/
def BufSet.flip (b : BufSet) (c : Nat) : BufSet :=
  let ahead := b.ready.takeWhile (· != c)
  let freed := ahead.foldl (fun (x : BufSet) i => x.setBuf i FilmBuf.fresh) b.hide
  let freed := freed.setBuf c { phase := .shown, tag := (b.buf c).tag }
  { freed with ready := (b.ready.dropWhile (· != c)).drop 1, shows := 0 }

/-- R71: the candidate, the eligible buffer nearest the tail of the ready queue. -/
def BufSet.candidate (b : BufSet) (st : Stream) : Option Nat :=
  b.ready.reverse.find? (fun i => eligible st (b.buf i))

/-- R69 to R73: the selection on the presented set, with the seat's stream as it stands. -/
def BufSet.select (b : BufSet) (st : Stream) : Selection :=
  let b := if b.shown.isSome then { b with shows := min (b.shows + 1) 255 } else b
  let shownTag : Option TagRecord := b.shown.bind (fun i => (b.buf i).tag)
  let held : Bool :=
    match shownTag with
    | some t => decide (b.shows < t.minShows)
    | none => false
  if held then { set := b, flipped := false, dropped := 0, repeated := false, late := false }
  else
    match b.candidate st with
    | some c =>
      { set := b.flip c, flipped := true, dropped := (b.ready.takeWhile (· != c)).length, repeated := false,
        late := isLate st (b.buf c) }
    | none =>
      { set := b, flipped := false, dropped := 0,
        repeated := match shownTag with
          | some t => !t.hold
          | none => false,
        late := false }

/-! ### PRES in the machine -/

/-- The set at a table index, if there is one. -/
def State.setAt (s : State) (i : Nat) : Option BufSet := (s.sets[i]?).join

/-- Replace the set at a table index. -/
def State.putSet (s : State) (i : Nat) (b : BufSet) : State := s.setSets (s.sets.set i (some b))

/-- R65, R80: a film pixel write notice in the machine. -/
def State.filmPixelWrite (s : State) (i buf : Nat) : State :=
  match s.setAt i with
  | none => s
  | some b =>
    let r := s.rearOf b.seat
    let r' : RearState :=
      match (b.buf buf).phase with
      | .ready => { r with reclaimed := satInc r.reclaimed }
      | .shown => { r with torn := satInc r.torn }
      | .free => r
      | .filling => r
    (s.putSet i (b.pixelWrite buf)).setRear b.seat r'

/-- R64, R66, R80: a film tag write notice in the machine. -/
def State.filmTagWrite (s : State) (i buf : Nat) (bytes : List Byte) : State :=
  match s.setAt i with
  | none => s
  | some b =>
    let r := s.rearOf b.seat
    let r' : RearState := if (b.buf buf).phase = .shown then { r with torn := satInc r.torn } else r
    (s.putSet i (b.tagWrite buf (readTag bytes))).setRear b.seat r'

/-- R68: the set a rear display presents: the one at the index its active scene's base names, if a set
exists there. -/
def State.presentedNow (s : State) (k : Seat) : Option Nat :=
  let d := s.display (.rear k)
  match d.content, d.active with
  | .noScene, _ => none
  | _, none => none
  | _, some sc =>
    match sc.base with
    | some i => if (s.setAt i).isSome then some i else none
    | none => none

/-- R68: at a blank event, the set that ceases to be presented loses its SHOWN buffer. -/
def State.changePresented (s : State) (k : Seat) (now : Option Nat) : State :=
  let r := s.rearOf k
  let s :=
    match r.presented with
    | some i =>
      if now = some i then s
      else
        match s.setAt i with
        | some b => s.putSet i b.hide
        | none => s
    | none => s
  s.setRear k { r with presented := now }

/-- R68 to R73, R80: the selection at a rear blank event in the machine, with whether it flipped. -/
def State.selectFilm (s : State) (k : Seat) : State × Bool :=
  let now := s.presentedNow k
  let s := s.changePresented k now
  match now with
  | none => (s, false)
  | some i =>
    match s.setAt i with
    | none => (s, false)
    | some b =>
      let x := b.select (Pair.get s.aud.streams b.seat)
      let r := s.rearOf b.seat
      ((s.putSet i x.set).setRear b.seat
        { r with
          dropped := satAdd r.dropped x.dropped
          repeated := if x.repeated then satInc r.repeated else r.repeated
          late := if x.late then satInc r.late else r.late },
        x.flipped)

/-- The SHOWN buffer of the set a rear display presents (R76, R20). -/
def State.shownFilm (s : State) (k : Seat) : Option Nat :=
  match (s.rearOf k).presented with
  | some i => (s.setAt i).bind BufSet.shown
  | none => none

/-- R77: the sets after a change of the table: an unchanged FILM entry keeps its set, a changed one loses
it, and a new FILM entry gets a fresh set. -/
def remakeSets (old new : List Region) (sets : List (Option BufSet)) : List (Option BufSet) :=
  (List.range 16).map (fun i =>
    match entryAt new i with
    | .film f => if entryAt old i = .film f then (sets[i]?).join else some (BufSet.fresh f)
    | _ => none)

/-- Whether the set at an index is reset by a change of the table (R77). -/
def setReset (old new : List Region) (i : Nat) : Bool :=
  (filmAt old i).isSome && (entryAt old i != entryAt new i)

/-- R77: what a change of the table does to a rear display that presents a reset set: its engine withdraws
the film base at the end of the current line (R22), and it presents no set where none for it is made
anew at the index. -/
def State.withdrawReset (s : State) (old new : List Region) (k : Seat) : State :=
  match (s.rearOf k).presented with
  | none => s
  | some i =>
    if setReset old new i then
      let stays : Bool := ((filmAt new i).map (·.seat)) == some k
      let d := s.display (.rear k)
      (s.setRear k { s.rearOf k with presented := if stays then some i else none }).setDisplay (.rear k)
        { d with withdraw := true }
    else s

/-- R77: PRES at a change of the table, in the machine. -/
def State.tableChanged (s : State) (old new : List Region) : State :=
  ((s.setSets (remakeSets old new s.sets)).withdrawReset old new .left).withdrawReset old new .right

end Sys2Proof.Machine
end

