-- ==== Sys2Proof/Machine/Status.lean ====
section
/-! DEFINITION. The status page (Table 66, Table 67, R187): its 1024 bytes as a report carries them. -/

namespace Sys2Proof.Machine

open Sys2Proof

/-! ### Codes (Table 67) -/

def StartUp.code : StartUp → Nat
  | .reset => 0
  | .clockCheck => 1
  | .profileRead => 2
  | .running => 3
  | .profileFault => 4

def ProfileState.code : ProfileState → Nat
  | .notRead => 0
  | .good => 1
  | .badLength => 2
  | .badSum => 3

def LoadPhase.code : LoadPhase → Nat
  | .idle => 0
  | .loading => 1
  | .checking => 2

def LoadOutcome.code : LoadOutcome → Nat
  | .nothing => 0
  | .accepted => 1
  | .refused => 2

def RefusalCode.code : RefusalCode → Nat
  | .nothing => 0
  | .badVersion => 1
  | .regionOverlap => 2
  | .regionKind => 3
  | .regionGeometry => 4
  | .sceneReference => 5
  | .audioReference => 6

def Content.code : Content → Nat
  | .noScene => 0
  | .scene => 1
  | .disabled => 2

def View.code : View → Nat
  | .host => 0
  | .rear => 1

def BufPhase.code : BufPhase → Nat
  | .free => 0
  | .filling => 1
  | .ready => 2
  | .shown => 3

def CamPhase.code : CamPhase → Nat
  | .idle => 0
  | .noSignal => 1
  | .receiving => 2

def RvcPhase.code : RvcPhase → Nat
  | .off => 0
  | .engaging => 1
  | .showing => 2
  | .lost => 3
  | .releasing => 4

def StreamPhase.code : StreamPhase → Nat
  | .stopped => 0
  | .priming => 1
  | .playing => 2
  | .underrun => 3

def ChimePhase.code : ChimePhase → Nat
  | .idle => 0
  | .playing => 1
  | .switching => 2

def SlotResult.code : SlotResult → Nat
  | .blank => 0
  | .done => 1
  | .cancelled => 2
  | .lost => 3
  | .refused => 4

/-- A flag as 0 or 1. -/
def flag (b : Bool) : Nat := if b then 1 else 0

/-! ### Fields -/

/-- Bytes followed by zeros up to `n`: bytes without a field are written as zero (chapter 10.8). -/
def padZero (n : Nat) (bs : List Byte) : List Byte := bs ++ List.replicate (n - bs.length) 0

/-- A collection field of `n` positions of one byte: the entries, then 0xFF (R187). -/
def collection (n : Nat) (xs : List Nat) : List Byte :=
  (xs.take n).map (BitVec.ofNat 8) ++ List.replicate (n - xs.length) 0xFF

/-- The low 16 bits of a signed number. -/
def signedField (x : Int) : List Byte := bytesLE 2 (x % 65536).toNat

/-- Offsets 0x000 to 0x03F: LOAD's own record. -/
def pageHead (s : State) : List Byte :=
  let l := s.load
  padZero 64
    (bytesLE 4 l.reportSeq.toNat ++ bytesLE 4 (causeWord l.causes l.powerOn l.hostRst) ++
      bytesLE 1 s.boot.startup.code ++ bytesLE 1 s.boot.profState.code ++ bytesLE 2 s.boot.refCount ++
      bytesLE 4 l.mask.toNat ++ bytesLE 1 l.phase.code ++ bytesLE 1 l.outcome.code ++ bytesLE 1 l.code.code ++
      bytesLE 1 l.badIndex ++ bytesLE 4 l.loaded.toNat ++ bytesLE 4 l.refused.toNat ++ bytesLE 4 l.latestGen.toNat ++
      bytesLE 4 l.loadGen.toNat ++ bytesLE 2 l.restarts ++ bytesLE 2 l.skipped)

/-- Offsets +0 to +10 of a display record, with the view and quality mode as given. -/
def displayHead (x : Display) (view quality : Nat) : List Byte :=
  bytesLE 1 (flag x.running) ++ bytesLE 1 x.content.code ++ bytesLE 1 view ++ bytesLE 1 quality ++
    bytesLE 4 x.frameNo.toNat ++ bytesLE 2 x.underruns ++ bytesLE 1 (flag x.fault0 + 2 * flag x.fault1)

/-- The centre record; its rear fields are zero. -/
def centreRecord (s : State) : List Byte := padZero 64 (displayHead s.disp.c s.centre.view.code 0)

/-- The buffers' states of a set, 0xFF beyond its count. -/
def bufferStates (b : Option BufSet) : List Byte :=
  collection 3
    (match b with
     | some b => b.bufs.map (·.phase.code)
     | none => [])

/-- The tag sequence of the SHOWN buffer, 0 where there is none (R187). -/
def shownSequence (b : Option BufSet) : Nat :=
  match b with
  | none => 0
  | some b =>
    match b.shown with
    | none => 0
    | some i =>
      match (b.buf i).tag with
      | some t => t.seqNo.toNat
      | none => 0

/-- A rear record (Table 66, R81, R187). -/
def rearRecord (s : State) (k : Seat) : List Byte :=
  let r := s.rearOf k
  let b := r.presented.bind s.setAt
  padZero 64
    (displayHead (s.display (.rear k)) 0 (flag r.reduced) ++ bytesLE 1 (r.presented.getD 0xFF) ++
      bytesLE 1 ((b.bind BufSet.shown).getD 0xFF) ++ bufferStates b ++ bytesLE 4 (shownSequence b) ++
      bytesLE 2 r.dropped ++ bytesLE 2 r.repeated ++ bytesLE 2 r.reclaimed ++ bytesLE 2 r.torn ++ bytesLE 2 r.late)

/-- Offsets 0x100 to 0x10F: the camera and RVC (R118). -/
def cameraRecord (s : State) : List Byte :=
  padZero 16
    (bytesLE 1 s.cam.phase.code ++ bytesLE 1 s.rvc.phase.code ++ bytesLE 2 0 ++ bytesLE 4 s.cam.reported ++
      bytesLE 2 s.cam.received ++ bytesLE 2 s.cam.rejected)

/-- Offsets 0x110 to 0x11F: the guide (R137) and the link (R147). -/
def guideLinkRecord (s : State) : List Byte :=
  let g := s.guide
  padZero 16
    (signedField g.front.angle ++ bytesLE 1 (flag g.front.isStatic) ++ bytesLE 1 0 ++ bytesLE 2 g.front.overfullRows ++
      bytesLE 2 g.overruns ++ bytesLE 2 s.link.good ++ bytesLE 2 s.link.checkErrors ++ bytesLE 2 s.link.gaps ++
      bytesLE 1 (flag s.link.steering.stale + 2 * flag s.link.conditions.stale))

/-- A stream record (R98). -/
def streamRecord (x : Stream) : List Byte :=
  padZero 16
    (bytesLE 1 x.phase.code ++ bytesLE 3 0 ++ bytesLE 4 x.blockSeq ++ bytesLE 2 x.underruns ++ bytesLE 2 x.lateWrites)

/-- Offsets 0x140 to 0x157: the chimes (R164, R187). -/
def chimeRecord (c : ChimeState) : List Byte :=
  padZero 24
    (bytesLE 1 c.phase.code ++ bytesLE 1 ((c.playing.map (·.pattern)).getD 0xFF) ++ bytesLE 1 c.stack.length ++
      bytesLE 1 c.waiting.length ++ collection 4 (c.stack.map (·.pattern)) ++
      collection 8 (c.waiting.map (·.pattern)) ++ c.results.flatMap (fun r => bytesLE 1 r.code))

/-- Offsets 0x158 to 0x160: the path counters and the fault latches. -/
def pathRecord (s : State) : List Byte :=
  bytesLE 2 s.path.dropped ++ bytesLE 2 s.path.partialWatch ++ bytesLE 2 s.path.split ++
    bytesLE 2 s.path.fetchErrors ++
    bytesLE 1 (flag s.bl.c.latch + 2 * flag s.bl.l.latch + 4 * flag s.bl.r.latch)

/-- The status page a report formed now carries (Table 66): 1024 bytes, the report sequence in the first and
the last word (R179). -/
def State.statusPage (s : State) : List Byte :=
  padZero 0x3FC
    (pageHead s ++ centreRecord s ++ rearRecord s .left ++ rearRecord s .right ++ cameraRecord s ++
      guideLinkRecord s ++ streamRecord s.aud.streams.l ++ streamRecord s.aud.streams.r ++ chimeRecord s.chime ++
      pathRecord s) ++ bytesLE 4 s.load.reportSeq.toNat

end Sys2Proof.Machine
end

