-- ==== Sys2Proof/Machine/Load.lean ====
section
/-! DEFINITION. LOAD, the Load Engine (R165 to R179, R188): requesting and reading a load, its checks, its
acceptance and refusal, reports, and the one request slot. -/

namespace Sys2Proof.Machine

open Sys2Proof

/-! ### Beginning and restarting a load (R166 to R168) -/

/-- R178: LOAD presents its next burst when its request slot is empty: a report's first, then the load's. -/
def LoadState.present (l : LoadState) : LoadState :=
  match l.slot with
  | some _ => l
  | none =>
    let load : Option LoadReq :=
      if l.phase = .loading ∧ l.stopping = false then
        if l.granted < 10 then some (.readBurst l.granted)
        else if l.granted = 10 ∧ l.back = 10 then some .reread
        else none
      else none
    match l.report with
    | some r => if r.granted < 8 then { l with slot := some (.reportBurst r.granted) } else { l with slot := load }
    | none => { l with slot := load }

/-- R167: reading begins at 0x000 for a generation and scope, with the staged copy empty. -/
def LoadState.read (l : LoadState) (gen : Word) (scope : Byte) : LoadState :=
  LoadState.present
    { l with
      phase := .loading, loadGen := gen, loadScope := scope, staged := [], granted := 0, back := 0,
      stopping := false }

/-- R167, R168: a restart. -/
def LoadState.restart (l : LoadState) (gen : Word) (scope : Byte) : LoadState :=
  LoadState.read { l with restarts := satInc l.restarts } gen scope

/-- R166: the test, at which a load may begin. -/
def LoadState.test (l : LoadState) : LoadState :=
  if l.begun = true ∧ l.phase = .idle ∧ l.latestGen ≠ l.loaded ∧ l.latestGen ≠ l.refused then
    l.read l.latestGen l.latestScope
  else l

/-- R166: a generation write. -/
def LoadState.generation (l : LoadState) (gen : Word) (scope : Byte) : LoadState :=
  LoadState.test { l with latestGen := gen, latestScope := scope }

/-! ### Completions of a load's reads -/

/-- R168: a stopped pass whose granted bursts are all back restarts. -/
def LoadState.passOver (l : LoadState) : LoadState :=
  if l.stopping = true ∧ l.back = l.granted then l.restart l.loadGen l.loadScope else l.present

/-- R168: an error stops the pass: a presented burst of it is withdrawn. -/
def LoadState.stopPass (l : LoadState) : LoadState :=
  { l with
    stopping := true
    slot := match l.slot with
      | some (.reportBurst i) => some (.reportBurst i)
      | _ => none }

/-- R167, R168: the completion of a read burst. -/
def LoadState.burstBack (l : LoadState) (r : Reply) : LoadState :=
  let l' := { l with back := l.back + 1 }
  LoadState.passOver
    (if l.stopping then l'
     else
      match r with
      | .ok data => { l' with staged := l.staged ++ data }
      | .error => l'.stopPass)

/-- R167, R168: the completion of the re-read: CHECKING if it agrees, a restart otherwise. -/
def LoadState.rereadBack (l : LoadState) (r : Reply) : LoadState :=
  match r with
  | .error => l.restart l.loadGen l.loadScope
  | .ok data =>
    let gen : Word := BitVec.ofNat 32 (fieldLE (beatsByte data) 0 4)
    let scope : Byte := BitVec.ofNat 8 (beatsByte data 4)
    if gen = l.loadGen ∧ scope = l.loadScope then { l with phase := .checking, back := l.back + 1 }
    else l.restart gen scope

/-! ### Checks (R169, R170) -/

/-- A failed check: its code and bad entry index. -/
abbrev Failure := RefusalCode × Nat

/-- The first failure of a list of checks. -/
def firstFailure (xs : List (Option Failure)) : Option Failure := (xs.filterMap id).head?

/-- R169 step 1. -/
def checkVersion (rd : Nat → Nat) (scope : Byte) : Option Failure :=
  if fieldLE rd 0 8 = 1 ∧ scope.toNat ≤ 1 then none else some (.badVersion, 0xFF)

/-- Table 56, REGION_KIND. -/
def badKind (rd : Nat → Nat) (i : Nat) : Bool :=
  let o := 0x100 + 32 * i
  decide (3 < rd o) || (rd o == 1 && !(rd (o + 3) == 1 || rd (o + 3) == 2)) || (rd o == 1 && decide (3 < rd (o + 2)))

/-- Table 56: base, size and end of a region. -/
def badExtent (base size : Nat) : Bool :=
  base % 4096 != 0 || size == 0 || size % 4096 != 0 || decide (0xFFFFFFFF < base + size - 1)

/-- Table 56, REGION_GEOMETRY. -/
def badGeometry : Region → Bool
  | .absent => false
  | .film f =>
    badExtent f.base f.size ||
      !(decide (f.width % 2 = 0 ∧ 64 ≤ f.width ∧ f.width ≤ 1280 ∧ 1 ≤ f.height ∧ f.height ≤ 800 ∧
        (f.count = 2 ∨ f.count = 3) ∧ f.count * f.slotBytes ≤ f.size))
  | .overlay o =>
    badExtent o.base o.size ||
      !(decide (o.width % 2 = 0 ∧ 64 ≤ o.width ∧ o.width ≤ 1920 ∧ 1 ≤ o.height ∧ o.height ≤ 800 ∧
        o.pixelBytes ≤ o.size))
  | .audio a => badExtent a.base a.size || !(decide (8 ≤ a.n ∧ a.n ≤ 256 ∧ 1024 * a.n ≤ a.size))

/-- Whether two regions share a byte. -/
def regionsMeet (a b : Region) : Bool := rangesMeet a.extent.1 a.extent.2 b.extent.1 b.extent.2

/-- Table 56, REGION_OVERLAP: with an earlier entry, the control block or the camera region. -/
def badOverlap (earlier : List Region) (cb : Nat) (cam : Option CamRegion) (r : Region) : Bool :=
  r != .absent &&
    (earlier.any (fun e => regionsMeet r e) || rangesMeet r.extent.1 r.extent.2 cb 4096 ||
      (match cam with
       | some c => r.meetsCam c
       | none => false))

/-- R169 step 2 for descriptor `i` of the table a load carries. -/
def checkRegion (rd : Nat → Nat) (cb : Nat) (cam : Option CamRegion) (i : Nat) : Option Failure :=
  let r := readRegion rd i
  if badKind rd i then some (.regionKind, i)
  else if badGeometry r then some (.regionGeometry, i)
  else if badOverlap ((readTable rd).take i) cb cam r then some (.regionOverlap, i)
  else none

/-- A region field names no entry: it lies from 16 to 254 (R170). -/
def badRef (n : Nat) : Bool := decide (16 ≤ n ∧ n ≤ 254)

/-- A region field names an entry that is not one of those admitted; NONE names none (R170). -/
def badEntry (table : List Region) (ok : Region → Bool) (n : Nat) : Bool :=
  match regionRef n with
  | none => false
  | some i => !ok (entryAt table i)

/-- An OVERLAY entry. -/
def isOverlay : Region → Bool
  | .overlay _ => true
  | _ => false

/-- A FILM entry for a rear display. -/
def isFilmFor (k : Seat) : Region → Bool
  | .film f => f.seat == k
  | _ => false

/-- The entries a display's base field admits (R19, R170). -/
def baseAdmits : Disp → Region → Bool
  | .centre => isOverlay
  | .rear k => isFilmFor k

/-- R170: an overlay of a scene record at `o` fails. -/
def badOverlay (rd : Nat → Nat) (table : List Region) (o : Nat) : Bool :=
  badRef (rd o) || decide (1 < rd (o + 2)) || decide (4095 < fieldLE rd (o + 4) 2) ||
    decide (4095 < fieldLE rd (o + 6) 2) || badEntry table isOverlay (rd o)

/-- R170: a display's scene record fails. -/
def badScene (rd : Nat → Nat) (table : List Region) (d : Disp) : Bool :=
  let o := sceneOffset d
  decide (1 < rd o) || decide (2 < rd (o + 1)) || decide (4095 < fieldLE rd (o + 2) 2) ||
    decide (4095 < fieldLE rd (o + 10) 2) || decide (4095 < fieldLE rd (o + 12) 2) || badRef (rd (o + 8)) ||
    badEntry table (baseAdmits d) (rd (o + 8)) || badOverlay rd table (o + 16) || badOverlay rd table (o + 32)

/-- R170: the scene records in order. -/
def checkScenes (rd : Nat → Nat) (table : List Region) : Option Failure :=
  if badScene rd table .centre then some (.sceneReference, 0)
  else if badScene rd table (.rear .left) then some (.sceneReference, 1)
  else if badScene rd table (.rear .right) then some (.sceneReference, 2)
  else none

/-- R170: the stream part of an audio record at `o` fails. -/
def badStream (rd : Nat → Nat) (table : List Region) (o : Nat) : Bool :=
  decide (1 < rd o) || decide (256 < fieldLE rd (o + 4) 2) ||
    (rd o == 1 &&
      (decide (15 < rd (o + 1)) ||
        (match entryAt table (rd (o + 1)) with
         | .audio g => !(decide (rd (o + 2) < g.n))
         | _ => true) ||
        !(decide (1 ≤ rd (o + 3) ∧ rd (o + 3) ≤ 8))))

/-- R170: the audio record, in order. -/
def checkAudio (rd : Nat → Nat) (table : List Region) : Option Failure :=
  if badStream rd table 0x480 then some (.audioReference, 0)
  else if badStream rd table 0x490 then some (.audioReference, 1)
  else if rd 0x480 = 1 ∧ rd 0x490 = 1 ∧ rd 0x481 = rd 0x491 then some (.audioReference, 1)
  else if 2 < rd 0x4A0 ∨ 1 < rd 0x4A1 ∨ 256 < fieldLE rd 0x4A2 2 ∨ 256 < fieldLE rd 0x4A4 2 then
    some (.audioReference, 2)
  else none

/-- Whether a scope byte is FULL. -/
def isFull (scope : Byte) : Bool := scope == 0

/-- The table a load's scenes and audio record are checked against (R170). -/
def loadTable (rd : Nat → Nat) (scope : Byte) (active : List Region) : List Region :=
  if isFull scope then readTable rd else active

/-- R169, R170: every check of a staged copy in its fixed order; the first failure. -/
def checkLoad (rd : Nat → Nat) (scope : Byte) (active : List Region) (cb : Nat) (cam : Option CamRegion) :
    Option Failure :=
  firstFailure
    ([checkVersion rd scope] ++
      (if isFull scope then (List.range 16).map (checkRegion rd cb cam) else []) ++
      [checkScenes rd (loadTable rd scope active), checkAudio rd (loadTable rd scope active)])

/-! ### Outcome (R171, R172) -/

/-- LOAD returns to IDLE, discards the staged copy and applies the test of R166. The counts of a pass are 0 while no load
runs (DESIGN CHOICE, log entry 10). -/
def LoadState.finish (l : LoadState) : LoadState :=
  LoadState.test { l with phase := .idle, staged := [], granted := 0, back := 0, stopping := false }

/-- R171: each display receives its scene record as its staged scene. -/
def State.stageScenes (s : State) (rd : Nat → Nat) : State :=
  let stage : Disp → Display → Display := fun d x => { x with staged := some (readScene rd d) }
  s.setDisps ⟨stage .centre s.disp.c, stage (.rear .left) s.disp.l, stage (.rear .right) s.disp.r⟩

/-- R171: a FULL load's table replaces the active one, and PRES compares the two (R77). -/
def State.swapTable (s : State) (table : List Region) : State :=
  (s.setPath { s.path with table := table }).tableChanged s.path.table table

/-- The staged interrupt mask (Table 60). -/
def readMask (rd : Nat → Nat) : BitVec 10 := BitVec.ofNat 10 (fieldLE rd 0x018 4)

/-- R171: the load in CHECKING is accepted. -/
def State.acceptLoad (s : State) : State :=
  let rd := beatsByte s.load.staged
  let s1 := if isFull s.load.loadScope then s.swapTable (readTable rd) else s
  let s2 := ((s1.stageScenes rd).applyAudio (readAudio rd)).clearLatches
  let l := s2.load
  (s2.setLoad (LoadState.formIrq
    { l with mask := readMask rd, loaded := l.loadGen, outcome := .accepted, code := .nothing, badIndex := 0xFF })).raise
      .loadDone

/-- R172: the load in CHECKING is refused. -/
def State.refuseLoad (s : State) (e : Failure) : State :=
  (s.setLoad { s.load with refused := s.load.loadGen, outcome := .refused, code := e.1, badIndex := e.2 }).raise
    .loadRefused

/-- R169 to R172: the end of CHECKING. -/
def State.endChecking (s : State) : State :=
  let rd := beatsByte s.load.staged
  let s1 :=
    match checkLoad rd s.load.loadScope s.path.table s.boot.cbBase s.path.cam with
    | none => s.acceptLoad
    | some e => s.refuseLoad e
  s1.setLoad s1.load.finish

/-! ### Reports (R177 to R179) -/

/-- R177: a report falls due: it is formed, or skipped and counted while another is in flight. Before LOAD
begins work no report is written (R165). -/
def State.reportDue (s : State) : State :=
  if s.load.begun then
    match s.load.report with
    | some _ => s.setLoad { s.load with skipped := satInc s.load.skipped }
    | none =>
      let s1 := s.setLoad { s.load with reportSeq := s.load.reportSeq + 1 }
      s1.setLoad (LoadState.present
        { s1.load with
          report := some { page := s1.statusPage, granted := 0, back := 0, err := false, carried := s1.load.causes } })
  else s

/-- R176, R179: a report whose bursts are all back completes: without an error it delivers the carried causes
that are still in the cause set, and IRQ is formed again. -/
def LoadState.reportBack (l : LoadState) (r : Report) (err : Bool) : LoadState :=
  let r' : Report := { r with back := r.back + 1, err := r.err || err }
  if r'.back = 8 then
    LoadState.formIrq
      { l with
        report := none
        delivered := if r'.err then l.delivered else l.delivered ||| (r'.carried &&& l.causes) }
  else { l with report := some r' }

/-! ### The LOAD requester (R178) -/

/-- The burst LOAD's slot presents, for a control block at `cb`. -/
def LoadState.presents (l : LoadState) (cb : Nat) : Option Burst :=
  match l.slot, l.report with
  | none, _ => none
  | some (.readBurst i), _ => some { write := false, addr := cb + 128 * i, beats := 16, data := [] }
  | some .reread, _ => some { write := false, addr := cb + 8, beats := 1, data := [] }
  | some (.reportBurst i), some r =>
    some { write := true, addr := cb + 0x800 + 128 * i, beats := 16,
           data := (beatsOfBytes ((r.page.drop (128 * i)).take 128)).map strobed }
  | some (.reportBurst _), none => none

/-- The owner of the burst the slot presents. -/
def LoadReq.owner : LoadReq → Owner
  | .readBurst _ => .loadRead
  | .reread => .loadReread
  | .reportBurst _ => .report

/-- R178: the slot's burst is granted, and LOAD presents its next. -/
def LoadState.granted1 (l : LoadState) : LoadState :=
  LoadState.present
    (match l.slot with
     | none => l
     | some (.reportBurst _) =>
       { l with slot := none, report := l.report.map (fun r => { r with granted := r.granted + 1 }) }
     | some _ => { l with slot := none, granted := l.granted + 1 })

/-! ### Host reset (R173) -/

/-- R173: LOAD at the falling edge of HRSTN; the bursts granted for an abandoned load are discarded by their
flights. -/
def LoadState.hostReset (l : LoadState) : LoadState :=
  LoadState.present
    { l with
      phase := .idle, latestGen := 0, latestScope := 0, loadGen := 0, loadScope := 0, loaded := 0, refused := 0,
      staged := [], granted := 0, back := 0, stopping := false,
      slot := match l.slot with
        | some (.reportBurst i) => some (.reportBurst i)
        | _ => none,
      outcome := .nothing, code := .nothing, badIndex := 0xFF, causes := 0, delivered := 0, mask := 0,
      powerOn := false, hostRst := true, irq := false }

/-! ### The rows -/

/-- LOAD_READ_BURST_COMPLETE (R167, R168): the oldest granted burst is a load's read and its completion
arrives. An abandoned load's burst is discarded. When the oldest granted burst is another's, no such
completion can arrive (R59). -/
def execLoadReadBurstComplete (r : Reply) (s : State) : Out :=
  if r.wf 16 then
    match s.dueFlight with
    | some f =>
      if f.owner = .loadRead then
        let s1 := s.popFlight
        if f.live then
          let s2 := s1.setLoad (s1.load.burstBack r)
          .next (if r = .error ∧ s.load.stopping = false then s2.countFetchError else s2)
        else .next s1
      else .next s
    | none => .next s
  else .refused .illFormed

/-- LOAD_REREAD_COMPLETE (R167, R168). -/
def execLoadRereadComplete (r : Reply) (s : State) : Out :=
  if r.wf 1 then
    match s.dueFlight with
    | some f =>
      if f.owner = .loadReread then
        let s1 := s.popFlight
        if f.live then
          let s2 := s1.setLoad (s1.load.rereadBack r)
          .next (if r = .error then s2.countFetchError else s2)
        else .next s1
      else .next s
    | none => .next s
  else .refused .illFormed

/-- LOAD_CHECK (R169 to R172). Outside CHECKING there is no load to check. -/
def execLoadCheck (s : State) : Out := if s.load.phase = .checking then .next s.endChecking else .next s

/-- R177: the 16th tick has been taken, and the count begins again; an unfinished count goes on. -/
def LoadState.takeTick16 (l : LoadState) : LoadState := { l with tick16 := l.tick16 % 16 }

/-- REPORT_TICK (R177): the 16th timebase tick brings a report while the centre is not RUNNING; once it is, the 16 ms
reports have stopped, and before LOAD begins work there are none. That the tick counted is the 16th is the row's moment
(`timely`, log entry 3). -/
def execReportTick (s : State) : Out :=
  if s.load.begun && !s.disp.c.running then .next (s.setLoad s.load.takeTick16).reportDue else .next s

/-- REPORT_BURST_COMPLETE (R179): the oldest granted burst is a report's and its completion arrives. -/
def execReportBurstComplete (err : Bool) (s : State) : Out :=
  match s.dueFlight, s.load.report with
  | some f, some r =>
    if f.owner = .report then
      let s1 := s.popFlight
      let s2 := s1.setLoad (s1.load.reportBack r err)
      .next (if err then s2.countFetchError else s2)
    else .next s
  | _, _ => .next s

end Sys2Proof.Machine
end

