-- ==== Sys2Proof/Machine/Path.lean ====
section
/-! DEFINITION. PATH, the memory path (chapter 3): zones, pieces, swizzle and orientation, the upstream
queue, and what a completed write piece gives notice of. -/

namespace Sys2Proof.Machine

open Sys2Proof

/-! ### Zones (Table 16, R42) -/

/-- The first table entry, from index `i` on, that holds the byte at `a`. -/
def findRegion (a : Nat) : (i : Nat) → List Region → Option (Nat × Region)
  | _, [] => none
  | i, r :: rs => if r.holds a then some (i, r) else findRegion a (i + 1) rs

/-- The zone of a byte of a FILM region (Table 16). -/
def filmZone (f : Film) (idx a : Nat) : Zone :=
  let o := a - f.base
  let b := o / f.slotBytes
  if b < f.count then
    if o % f.slotBytes < f.pixelBytes then .filmPixel idx b else .filmTag idx b
  else .filmRest idx

/-- The zone of a byte of a table entry (Table 16). -/
def regionZone (r : Region) (idx a : Nat) : Zone :=
  match r with
  | .absent => .plain
  | .film f => filmZone f idx a
  | .overlay o => if a - o.base < o.pixelBytes then .overlayPixel idx else .overlayRest idx
  | .audio g => if a - g.base < 1024 * g.n then .audioRing idx else .audioRest idx

/-- The zone of a byte: the camera region before everything else, then the table, else plain (R42). -/
def PathState.zoneAt (p : PathState) (a : Nat) : Zone :=
  if (match p.cam with
      | some c => c.holds a
      | none => false) then .camera
  else
    match findRegion a 0 p.table with
    | some (i, r) => regionZone r i a
    | none => .plain

/-- The table index of a zone that lies in a region. -/
def Zone.index : Zone → Option Nat
  | .plain => none
  | .camera => none
  | .filmPixel i _ => some i
  | .filmTag i _ => some i
  | .filmRest i => some i
  | .overlayPixel i => some i
  | .overlayRest i => some i
  | .audioRing i => some i
  | .audioRest i => some i

/-- The copy of the descriptor a piece is classified with (R42); NONE for a piece in no region. -/
def PathState.descOf (p : PathState) (z : Zone) : Region :=
  match z.index with
  | some i => entryAt p.table i
  | none => .absent

/-! ### Cutting (R43) -/

/-- The row a beat lies in where row ends are cut: FILM pixel areas under MIRROR_X and MIRROR_Y. -/
def cutRow (r : Region) (z : Zone) (a : Nat) : Nat :=
  match r, z with
  | .film f, .filmPixel _ b =>
    if f.orient = .mirrorX ∨ f.orient = .mirrorY then (a - f.bufBase b) / f.stride else 0
  | _, _ => 0

/-- What must agree for two neighbouring beats to stay in one piece (R43). -/
def PathState.cutKey (p : PathState) (a : Nat) : Zone × Nat :=
  let z := p.zoneAt a
  (z, cutRow (p.descOf z) z a)

/-- The runs of equal neighbours of a list, with their lengths. -/
def keyRuns {κ : Type} [DecidableEq κ] : List κ → List (κ × Nat)
  | [] => []
  | k :: ks =>
    match keyRuns ks with
    | [] => [(k, 1)]
    | (k', n) :: rest => if k = k' then (k, n + 1) :: rest else (k, 1) :: (k', n) :: rest

/-! ### Swizzle (R45, R46) -/

/-- The swizzle set applied to a word, in the order H, B, R, N; `fR` and `fN` act on one byte position. -/
def swizzleQuad {α : Type} (fR fN : α → α) (s : Swz) (q : Quad α) : Quad α :=
  let q := if s.h then swapHalves q else q
  let q := if s.b then swapBytes q else q
  let q := if s.r then Quad.map fR q else q
  if s.n then Quad.map fN q else q

/-- R46: the swizzle of read data. -/
def swizzleRead (s : Swz) (b : RBeat) : RBeat :=
  ⟨swizzleQuad reverseByte (fun x => ~~~ x) s b.lo, swizzleQuad reverseByte (fun x => ~~~ x) s b.hi⟩

/-- R45: the swizzle of write data; each byte's strobe moves with it. -/
def swizzleWrite (s : Swz) (b : WBeat) : WBeat :=
  let fR : Lane → Lane := fun l => { l with byte := reverseByte l.byte }
  let fN : Lane → Lane := fun l => { l with byte := ~~~ l.byte }
  ⟨swizzleQuad fR fN s b.lo, swizzleQuad fR fN s b.hi⟩

/-- The swizzle set that applies to a piece: that of its descriptor in a pixel area, none elsewhere. -/
def pieceSwz (z : Zone) (r : Region) : Swz :=
  match z, r with
  | .filmPixel _ _, .film f => f.swz
  | .overlayPixel _, .overlay o => o.swz
  | _, _ => { h := false, b := false, r := false, n := false }

/-! ### Orientation (R47 to R50) -/

/-- R47: the physical byte offset of a logical byte offset in a FILM pixel area. -/
def physicalOffset (f : Film) (o : Nat) : Nat :=
  let r := o / f.stride
  let c := o % f.stride / 4
  let r' := if f.orient = .mirrorY ∨ f.orient = .rotate180 then f.height - 1 - r else r
  let c' := if f.orient = .mirrorX ∨ f.orient = .rotate180 then f.width - 1 - c else c
  r' * f.stride + c' * 4 + o % 4

/-- Whether the beats of a piece are issued in reverse order with their pixels exchanged (R48, R49). -/
def reversesBeats (f : Film) : Bool := f.orient == .mirrorX || f.orient == .rotate180

/-- The physical byte offset, in the pixel area, at which a piece of `n` beats from logical offset `o`
begins: that of its first beat, or of its last one where the beats are reversed (R48, R49). The offset of
a beat whose two pixels are exchanged is that of its higher logical word. -/
def physicalStart (f : Film) (o n : Nat) : Nat :=
  if reversesBeats f then physicalOffset f (o + 8 * n - 4) else physicalOffset f o

/-- Where a piece of `n` beats at logical address `a` begins in memory, and whether its beats are reversed. -/
def piecePlace (z : Zone) (r : Region) (a n : Nat) : Nat × Bool :=
  match z, r with
  | .filmPixel _ b, .film f =>
    (f.bufBase b + physicalStart f (a - f.bufBase b) n, reversesBeats f)
  | _, _ => (a, false)

/-- The beats of a write piece as they go downstream: swizzled (R45), then oriented (R48, R49). -/
def outgoing (s : Swz) (reversed : Bool) (data : List WBeat) : List WBeat :=
  let d := data.map (swizzleWrite s)
  if reversed then (d.map swapWords).reverse else d

/-- The beats of a read piece as the host receives them: put back in logical order (R50), then swizzled
(R46). -/
def incoming (s : Swz) (reversed : Bool) (data : List RBeat) : List RBeat :=
  (if reversed then (data.map swapWords).reverse else data).map (swizzleRead s)

/-! ### Classification (R42, R43) -/

/-- The byte address of a request. -/
def reqAddr (q : HostReq) : Nat := 8 * q.beatNo.toNat

/-- A request whose last beat would lie beyond address 0xFFFFFFFF (R38). -/
def reqBeyondTop (q : HostReq) : Bool := decide (2 ^ 29 < q.beatNo.toNat + q.op.beats)

/-- The data of a write request; a read carries none. -/
def reqData (q : HostReq) : List WBeat :=
  match q.op with
  | .read _ => []
  | .write d => d

/-- Whether a request is a write. -/
def reqIsWrite (q : HostReq) : Bool :=
  match q.op with
  | .read _ => false
  | .write _ => true

/-- The piece of `n` beats from beat `first` of a request, in zone `z` (R42, R45 to R51). -/
def PathState.mkPiece (p : PathState) (q : HostReq) (z : Zone) (first n : Nat) : Piece :=
  let a := reqAddr q + 8 * first
  let r := p.descOf z
  let place := piecePlace z r a n
  { zone := z, desc := r, first := first, logical := a,
    burst := { write := reqIsWrite q, addr := place.1, beats := n,
               data := outgoing (pieceSwz z r) place.2 (((reqData q).drop first).take n) },
    reversed := place.2, drop := reqIsWrite q && z == .camera, status := .unissued, err := false, got := [] }

/-- The pieces for the runs of a request, from beat `first` on. -/
def PathState.mkPieces (p : PathState) (q : HostReq) : (first : Nat) → List ((Zone × Nat) × Nat) → List Piece
  | _, [] => []
  | first, ((z, _), n) :: rest => p.mkPiece q z first n :: p.mkPieces q (first + n) rest

/-- R42, R43: a request's pieces against the table and the camera region as they stand; none for a request
beyond address 0xFFFFFFFF (R38). -/
def PathState.classify (p : PathState) (q : HostReq) : List Piece :=
  if reqBeyondTop q then []
  else p.mkPieces q 0 (keyRuns ((List.range q.op.beats).map (fun i => p.cutKey (reqAddr q + 8 * i))))

/-! ### The queue (R38 to R40) -/

/-- Every piece has completed (R40). -/
def HostEntry.complete (e : HostEntry) : Bool := e.pieces.all (fun p => p.status == .complete)

/-- The data a request's response carries from one piece: zeros where it was in error (R57). -/
def Piece.answer (p : Piece) : List RBeat := if p.err then List.replicate p.burst.beats zeroBeat else p.got

/-- The data with the ERROR response to a read beyond address 0xFFFFFFFF: open (log entry 6). -/
def beyondTopData (q : HostReq) : List RBeat :=
  let f := Config.beyondTopReadByte
  (List.range q.op.beats).map (fun k =>
    let a := reqAddr q + 8 * k
    ⟨⟨f a 0, f a 1, f a 2, f a 3⟩, ⟨f a 4, f a 5, f a 6, f a 7⟩⟩)

/-- The response to a completed request (R38, R40, R57): OK if no piece carried an error, ERROR otherwise
and for a request with no pieces. -/
def HostEntry.response (e : HostEntry) : Response :=
  { read := !reqIsWrite e.req
    ok := !e.pieces.isEmpty && e.pieces.all (fun p => !p.err)
    data :=
      if reqIsWrite e.req then []
      else if e.pieces.isEmpty then beyondTopData e.req
      else e.pieces.flatMap Piece.answer }

/-- The responses that may leave: those of the complete entries at the head, oldest first, and the queue
that stays (R40). -/
def drainQueue : List HostEntry → List Response × List HostEntry
  | [] => ([], [])
  | e :: es =>
    if e.complete then
      let rest := drainQueue es
      (e.response :: rest.1, rest.2)
    else ([], e :: es)

/-- PATH after the responses that may leave have left (R40). -/
def PathState.drain (p : PathState) : PathState :=
  { p with queue := (drainQueue p.queue).2, sent := p.sent ++ (drainQueue p.queue).1 }

/-- The first piece of the queue, in queue and piece order, that a test picks. -/
def firstPiece (t : Piece → Bool) : List HostEntry → Option (HostEntry × Piece)
  | [] => none
  | e :: es =>
    match e.pieces.find? t with
    | some p => some (e, p)
    | none => firstPiece t es

/-- Apply `f` to the first piece of a list that a test picks. -/
def mapFirst (t : Piece → Bool) (f : Piece → Piece) : List Piece → List Piece
  | [] => []
  | p :: ps => if t p then f p :: ps else p :: mapFirst t f ps

/-- Apply `f` to the first piece of the queue, in queue and piece order, that a test picks. -/
def mapFirstPiece (t : Piece → Bool) (f : Piece → Piece) : List HostEntry → List HostEntry
  | [] => []
  | e :: es =>
    if e.pieces.any t then { e with pieces := mapFirst t f e.pieces } :: es
    else e :: mapFirstPiece t f es

/-- A piece that has not been issued. -/
def Piece.isUnissued (p : Piece) : Bool := p.status == .unissued

/-- A piece that has been issued and has not completed. -/
def Piece.isIssued (p : Piece) : Bool := p.status == .issued

/-- The piece whose turn it is (R39): the first in queue order that is not issued. -/
def PathState.turn (p : PathState) : Option Piece := (firstPiece Piece.isUnissued p.queue).map (·.2)

/-- The burst HOST presents (R39): that of the piece whose turn it is, unless it is to be dropped. -/
def PathState.presents (p : PathState) : Option Burst :=
  match p.turn with
  | some x => if x.drop then none else some x.burst
  | none => none

/-- The upstream port accepts a request (R38, R44): PORN and HRSTN high, a free entry, and PATH not
waiting to define the camera region. -/
def State.accepts (s : State) : Bool :=
  s.boot.startup != .reset && !s.pins.hrstnLow && decide (s.path.queue.length < Config.queueDepth) &&
    !(s.boot.asked && s.boot.startup == .profileRead)

/-- PATH with a request accepted (R38, R42, R43): classified at once, the split counter raised by the
pieces less one, and any response that may leave already gone. -/
def PathState.accept (p : PathState) (q : HostReq) : PathState :=
  let ps := p.classify q
  PathState.drain
    { p with queue := p.queue ++ [{ req := q, pieces := ps }], split := satAdd p.split (ps.length - 1) }

/-! ### Notices (R52 to R56) -/

/-- What PATH hands a block when a write piece completes (Table 20), and the count of a partial write
(R53, R55). -/
inductive Notice where
  | generation (gen : Word) (scope : Byte)
  | acknowledge (w : Word)
  | chimeWrite (j : Nat) (seqNo : BitVec 16) (action pattern : Nat)
  | filmPixel (idx buf : Nat)
  | filmTag (idx buf : Nat) (bytes : List Byte)
  | audioBlock (idx block : Nat) (blockEnd : Bool)
  | partialWrite
  deriving DecidableEq, Repr

/-- The logical beats of a write piece with their addresses, ascending. -/
def Piece.logicalBeats (p : Piece) (q : HostReq) : List (Nat × WBeat) :=
  (((reqData q).drop p.first).take p.burst.beats).mapIdx (fun k b => (p.logical + 8 * k, b))

/-- The watched word at a control block offset, taken with the beat written there (R53, Table 60 and 61). -/
def watchedNotice (off : Nat) (b : WBeat) : Option Notice :=
  let byte : Nat → Byte := fun i => (Beat.nth b i).byte
  let low : Word := byte 3 ++ byte 2 ++ byte 1 ++ byte 0
  if off = 0x008 then some (.generation low (byte 4))
  else if off = 0x010 then some (.acknowledge low)
  else if off = 0x040 ∨ off = 0x048 ∨ off = 0x050 ∨ off = 0x058 then
    some (.chimeWrite ((off - 0x040) / 8) (byte 1 ++ byte 0) (byte 2).toNat (byte 3).toNat)
  else none

/-- R53: what one beat written to a plain address gives: the watched word's notice if all its strobes are
set, a partial count if only some are. -/
def plainNotice (cb a : Nat) (b : WBeat) : List Notice :=
  match (if cb ≤ a then watchedNotice (a - cb) b else none) with
  | none => []
  | some n =>
    if (Beat.toList b).all (·.strobe) then [n]
    else if (Beat.toList b).any (·.strobe) then [.partialWrite]
    else []

/-- The lane a write piece has at an address; an unwritten byte where it has none. -/
def laneAt (beats : List (Nat × WBeat)) (a : Nat) : Lane :=
  match beats.find? (fun x => x.1 == a / 8 * 8) with
  | some x => Beat.nth x.2 (a % 8)
  | none => { byte := 0, strobe := false }

/-- R55: the tag area's 16 lanes of a write in a tag-and-rest zone. -/
def tagLanes (f : Film) (buf : Nat) (beats : List (Nat × WBeat)) : List Lane :=
  (List.range 16).map (fun i => laneAt beats (f.bufBase buf + f.pixelBytes + i))

/-- R55: what a write in a tag-and-rest zone gives, `stands` telling whether its classification stands. -/
def tagNotice (f : Film) (idx buf : Nat) (stands : Bool) (beats : List (Nat × WBeat)) : List Notice :=
  let lanes := tagLanes f buf beats
  if lanes.all (·.strobe) then
    if stands then [.filmTag idx buf (lanes.map (·.byte))] else []
  else if lanes.any (·.strobe) then [.partialWrite]
  else []

/-- R56: one notice for each block touched, ascending, marked block-end if a byte at offsets 1020 to 1023
of the block is strobed. -/
def audioNotices (g : AudioRing) (idx : Nat) (beats : List (Nat × WBeat)) : List Notice :=
  let blockOf : Nat × WBeat → Nat := fun x => (x.1 - g.base) / 1024
  let ends : Nat → Bool := fun j => beats.any (fun x =>
    blockOf x == j && (x.1 - g.base) % 1024 == 1016 &&
      ((Beat.toList x.2).drop 4).any (·.strobe))
  match beats.head?, beats.getLast? with
  | some a, some z =>
    (List.range (blockOf z + 1 - blockOf a)).map (fun i => .audioBlock idx (blockOf a + i) (ends (blockOf a + i)))
  | _, _ => []

/-- R52 to R56: the notices of a write piece that completes without error, in ascending address order,
against the table as it stands and the control block base `cb`. -/
def PathState.notices (p : PathState) (cb : Nat) (q : HostReq) (x : Piece) : List Notice :=
  let beats := x.logicalBeats q
  let stands : Bool :=
    match x.zone.index with
    | some i => entryAt p.table i == x.desc
    | none => true
  match x.zone, x.desc with
  | .plain, _ => beats.flatMap (fun y => plainNotice cb y.1 y.2)
  | .filmPixel i b, _ => if stands then [.filmPixel i b] else []
  | .filmTag i b, .film f => tagNotice f i b stands beats
  | .audioRing i, .audio g => if stands then audioNotices g i beats else []
  | _, _ => []

end Sys2Proof.Machine
end

