-- ==== Sys2Proof/Machine/Scan.lean ====
section
/-! DEFINITION. The scan-out engines' fetching (R19 to R27, R29, R32 to R36): what each layer of a display
is in the frame, its rows, line slots and bursts, urgency, underruns and fetch errors. -/

namespace Sys2Proof.Machine

open Sys2Proof

/-! ### Layers of a frame (R21 to R26) -/

/-- The source row of a layer row: R29's scroll map, or itself. -/
def scrollRow (o : SceneOverlay) (height y : Nat) : Nat :=
  if o.scrT + o.scrS + o.scrB = height ∧ 0 < o.scrS ∧ o.scrT ≤ y ∧ y < o.scrT + o.scrS then
    o.scrT + (y - o.scrT + o.scrP % o.scrS) % o.scrS
  else y

/-- A rectangle of display columns and rows: `x0` and `y0` included, `x1` and `y1` not. -/
structure Rect where
  x0 : Nat
  y0 : Nat
  x1 : Nat
  y1 : Nat
  deriving DecidableEq, Repr

/-- Whether a rectangle holds a display column and row. -/
def Rect.holds (r : Rect) (x y : Nat) : Bool := decide (r.x0 ≤ x ∧ x < r.x1 ∧ r.y0 ≤ y ∧ y < r.y1)

/-- A fetching layer of a frame: where its rows lie in memory, its clipped rectangle (R21), its scroll, whether
it is fetched on alternate rows (R11), and the window it draws nothing in (R26). -/
structure LayerView where
  base : Nat
  stride : Nat
  height : Nat
  rect : Rect
  scroll : Option SceneOverlay
  alternate : Bool
  window : Option Rect
  deriving DecidableEq, Repr

/-- The rectangle of a layer `w` by `h` placed at (`x`, `y`), clipped to the active area (R21). -/
def clipRect (t : DispTiming) (x y w h : Nat) : Rect :=
  { x0 := x, y0 := y, x1 := min (x + w) t.wa, y1 := min (y + h) t.ha }

/-- R26: the protected window on the centre display, clipped to the active area. -/
def protectedWindow (c : CameraProfile) (t : DispTiming) : Rect :=
  clipRect t (c.cx + c.px) (c.cy + c.py) c.pw c.ph

/-- The layer of a picture of `g` placed at (`x`, `y`). -/
def plainView (t : DispTiming) (g : Geom) (x y : Nat) : LayerView :=
  { base := g.base, stride := g.width * 4, height := g.height, rect := clipRect t x y g.width g.height,
    scroll := none, alternate := false, window := none }

/-- R22, R11: the film base of a rear display. -/
def filmView (t : DispTiming) (fr : FrameRecord) : Option LayerView :=
  match fr.content, fr.scene, fr.cap.base, fr.film with
  | .scene, some sc, some g, some i =>
    let v := plainView t g sc.x sc.y
    some { v with base := g.base + i * roundup (g.width * 4 * g.height + 16) 4096, alternate := fr.reduced }
  | _, _, _, _ => none

/-- R23: the host base of the centre. -/
def hostBaseView (t : DispTiming) (fr : FrameRecord) : Option LayerView :=
  match fr.content, fr.scene, fr.cap.base with
  | .scene, some sc, some g => some (plainView t g sc.x sc.y)
  | _, _, _ => none

/-- R24: the camera slot as the centre base; the fills read no memory. -/
def cameraView (t : DispTiming) (c : CameraProfile) (fr : FrameRecord) : Option LayerView :=
  match fr.camBase with
  | .slot k => some (plainView t { base := c.base + k * c.slotBytes, width := c.width, height := c.height } c.cx c.cy)
  | .engagingFill => none
  | .unavailableFill => none

/-- R25, R26: an overlay of a frame, drawn with a window it draws nothing in if one is given. -/
def overlayView (t : DispTiming) (content : Content) (o : Option SceneOverlay) (g : Option Geom)
    (drawn : SceneOverlay → Bool) (window : Option Rect) : Option LayerView :=
  match content, o, g with
  | .scene, some o, some g =>
    if drawn o then some { plainView t g o.x o.y with scroll := some o, window := window } else none
  | _, _, _ => none

/-- The overlay fields of a frame's scene. -/
def FrameRecord.overlay (fr : FrameRecord) : LayerId → Option SceneOverlay
  | .base => none
  | .ov0 => fr.scene.map (·.ov0)
  | .ov1 => fr.scene.map (·.ov1)

/-- The captured geometry of a frame's overlay. -/
def FrameRecord.overlayGeom (fr : FrameRecord) : LayerId → Option Geom
  | .base => none
  | .ov0 => fr.cap.ov0
  | .ov1 => fr.cap.ov1

/-- R21 to R26: the layer of a frame of display `d`, if the frame fetches it. -/
def layerOf (p : Profile) (d : Disp) (fr : FrameRecord) (l : LayerId) : Option LayerView :=
  let t := Tri.get p.disp d
  match d, l with
  | .centre, .base =>
    match fr.view with
    | .host => hostBaseView t fr
    | .rear => cameraView t p.cam fr
  | .rear _, .base => filmView t fr
  | .centre, _ =>
    match fr.view with
    | .host => overlayView t fr.content (fr.overlay l) (fr.overlayGeom l) (fun _ => true) none
    | .rear =>
      overlayView t fr.content (fr.overlay l) (fr.overlayGeom l) (·.revVisible) (some (protectedWindow p.cam t))
  | .rear _, _ => overlayView t fr.content (fr.overlay l) (fr.overlayGeom l) (fun _ => true) none

/-- The layer of the frame a display is in, in the machine. -/
def State.layer (s : State) (d : Disp) (l : LayerId) : Option LayerView :=
  match s.boot.profile, (s.display d).frame with
  | some p, some fr => layerOf p d fr l
  | _, _ => none

/-! ### Rows and bursts (R11, R33) -/

/-- The layer rows shown, 0..rows − 1; none if the rectangle is empty. -/
def LayerView.rows (v : LayerView) : Nat := if v.rect.x0 < v.rect.x1 then v.rect.y1 - v.rect.y0 else 0

/-- The layer columns shown, 0..cols − 1. -/
def LayerView.cols (v : LayerView) : Nat := v.rect.x1 - v.rect.x0

/-- Whether the layer covers a display row. -/
def LayerView.coversRow (v : LayerView) (y : Nat) : Bool := decide (v.rect.y0 ≤ y ∧ y < v.rect.y0 + v.rows)

/-- The last display row on which layer row `r` is shown: the odd row after it where rows are fetched
alternately (R11). -/
def LayerView.lastShown (v : LayerView) (r : Nat) : Nat :=
  if v.alternate then min (v.rect.y0 + r + 1) (v.rect.y1 - 1) else v.rect.y0 + r

/-- The row the layer needs after row `r` in scan order. -/
def LayerView.rowAfter (v : LayerView) (r : Nat) : Nat := if v.alternate then r + 2 else r + 1

/-- R29: the source row of a layer row. -/
def LayerView.source (v : LayerView) (r : Nat) : Nat :=
  match v.scroll with
  | some o => scrollRow o v.height r
  | none => r

/-- Whether the layer draws its pixel at a display column and row it covers (R26). -/
def LayerView.draws (v : LayerView) (x y : Nat) : Bool :=
  match v.window with
  | some w => !w.holds x y
  | none => true

/-- The bursts a row is cut into: 16 beats, 32 columns, each. -/
def LayerView.bursts (v : LayerView) : Nat := (v.cols + 31) / 32

/-- The beats of burst `b` of a row (R33): up to 16, and up to the beat that holds the last column the layer shows on the
row. DESIGN CHOICE (log entry 30): that column is the last of the clipped rectangle (R21) on every row, also on a row that
crosses the protected window (R26) and draws nothing right of it; R33 and R26 leave open whether the burst ends there or
at the last column outside the window. -/
def LayerView.burstBeats (v : LayerView) (b : Nat) : Nat := min 16 ((v.cols + 1) / 2 - 16 * b)

/-- R26: whether burst `b` of the row shown on display row `y` is fetched: not if it holds only pixels inside
the window, its pixels being those of its columns up to the clipped rectangle's last (log entry 30). -/
def LayerView.needs (v : LayerView) (y b : Nat) : Bool :=
  match v.window with
  | none => true
  | some w =>
    !(decide (w.y0 ≤ y ∧ y < w.y1 ∧ w.x0 ≤ v.rect.x0 + 32 * b ∧ v.rect.x0 + min (32 * b + 32) v.cols ≤ w.x1))

/-- The first burst from `b` on that a row's fetch needs; the number of bursts when none is left. -/
def LayerView.nextBurst (v : LayerView) (y b : Nat) : Nat :=
  match (List.range v.bursts).find? (fun k => decide (b ≤ k) && v.needs y k) with
  | some k => k
  | none => v.bursts

/-! ### Line slots (R32) -/

/-- A layer's fetch buffer. -/
def Display.buf (x : Display) : LayerId → LayerBuf
  | .base => x.base
  | .ov0 => x.ov0
  | .ov1 => x.ov1

/-- Replace a layer's fetch buffer. -/
def Display.setBuf (x : Display) (l : LayerId) (b : LayerBuf) : Display :=
  match l with
  | .base => { x with base := b }
  | .ov0 => { x with ov0 := b }
  | .ov1 => { x with ov1 := b }

/-- Whether a slot is shown on a display row. -/
def LineSlot.shows (k : LineSlot) (y : Nat) : Bool := k.phase != .free && decide (k.first ≤ y ∧ y ≤ k.last)

/-- The slot of a layer shown on a display row. -/
def LayerBuf.slotFor (b : LayerBuf) (y : Nat) : Option LineSlot := b.slots.find? (·.shows y)

/-- Whether every burst the row needs has arrived. -/
def LineSlot.whole (k : LineSlot) (v : LayerView) : Bool :=
  (List.range v.bursts).all (fun b => !v.needs k.first b || k.chunks.any (fun c => c.1 == b))

/-- A slot assigned to layer row `r`; a row that needs no burst is complete at once. -/
def assignSlot (v : LayerView) (r : Nat) : LineSlot :=
  let y := v.rect.y0 + r
  let b := v.nextBurst y 0
  { phase := if b < v.bursts then .filling else .complete, first := y, last := v.lastShown r,
    src := v.source r, asked := b, chunks := [], stopped := false }

/-- R32: each free slot is assigned to the next row the layer will need, while there is one. -/
def assignFree (v : LayerView) : (slots : List LineSlot) → (next : Nat) → List LineSlot × Nat
  | [], next => ([], next)
  | k :: ks, next =>
    if k.phase = .free ∧ next < v.rows then
      let rest := assignFree v ks (v.rowAfter next)
      (assignSlot v next :: rest.1, rest.2)
    else
      let rest := assignFree v ks next
      (k :: rest.1, rest.2)

/-- R32: a layer's free slots are assigned; a layer the frame does not fetch assigns none. -/
def LayerBuf.refill (b : LayerBuf) (v : Option LayerView) : LayerBuf :=
  match v with
  | none => b
  | some v =>
    let x := assignFree v b.slots b.nextRow
    { b with slots := x.1, nextRow := x.2 }

/-- R32: the slots whose row has been shown for the last time are retired. -/
def LayerBuf.retire (b : LayerBuf) (line : Nat) : LayerBuf :=
  { b with
    slots := b.slots.map (fun k => if k.phase != .free && decide (k.last ≤ line) then LineSlot.empty else k)
    under := none }

/-- R35: no further request is made for the row shown on a line. -/
def LayerBuf.stop (b : LayerBuf) (line : Nat) : LayerBuf :=
  { b with slots := b.slots.map (fun k => if k.shows line then { k with stopped := true } else k) }

/-! ### Requests (R33) -/

/-- The slots of a layer that have a burst to request, with the display row that needs each. -/
def LayerBuf.wanting (b : LayerBuf) (v : LayerView) : List (Nat × Nat) :=
  (b.slots.mapIdx (fun i k => (i, k))).filterMap (fun x =>
    if x.2.phase == .filling && !x.2.stopped && decide (x.2.asked < v.bursts) then some (x.2.first, x.1) else none)

/-- The earlier of two places in scan order; the first where both are needed on one row. -/
def earlier (a b : Option (Nat × LayerId × Nat)) : Option (Nat × LayerId × Nat) :=
  match a, b with
  | none, y => y
  | x, none => x
  | some x, some y => if y.1 < x.1 then some y else some x

/-- The place of a layer's slot whose row is needed earliest. -/
def LayerBuf.earliest (b : LayerBuf) (l : LayerId) (v : Option LayerView) : Option (Nat × LayerId × Nat) :=
  match v with
  | none => none
  | some v => (b.wanting v).foldl (fun best x => earlier best (some (x.1, l, x.2))) none

/-- The request for the next burst of a slot (R33). -/
def scanRequest (v : LayerView) (l : LayerId) (slot : Nat) (k : LineSlot) : ScanReq :=
  { layer := l, slot := slot, burst := k.asked, addr := v.base + k.src * v.stride + 128 * k.asked,
    beats := v.burstBeats k.asked, granted := false, live := true, counted := true }

/-- A slot whose burst has been requested: the next one it needs is the one to ask for. -/
def LineSlot.askNext (k : LineSlot) (v : LayerView) : LineSlot :=
  { k with asked := v.nextBurst k.first (k.asked + 1) }

/-- R33: an engine without a request presents the burst of the filling slot needed earliest, the lowest layer
first on one row. -/
def Display.choose (x : Display) (view : LayerId → Option LayerView) : Display :=
  match x.req with
  | some _ => x
  | none =>
    let best := earlier (earlier (x.base.earliest .base (view .base)) (x.ov0.earliest .ov0 (view .ov0)))
      (x.ov1.earliest .ov1 (view .ov1))
    match best with
    | none => x
    | some (_, l, i) =>
      match view l with
      | none => x
      | some v =>
        let k := (x.buf l).slots.getD i LineSlot.empty
        { x.setBuf l { x.buf l with slots := (x.buf l).slots.set i (k.askNext v) } with
          req := some (scanRequest v l i k) }

/-- R32, R33: an engine assigns its free slots and presents its next request. -/
def Display.refill (x : Display) (view : LayerId → Option LayerView) : Display :=
  Display.choose
    { x with
      base := x.base.refill (view .base), ov0 := x.ov0.refill (view .ov0), ov1 := x.ov1.refill (view .ov1) }
    view

/-- The request an engine withdraws, or whose data it will discard, where a test on it says so (R22, R32, R35,
R37). `quiet` tells that the discard is one of R35 or R37, after which an error on it is not counted (R36; DEDUCED for R22
and R32, log entry 47). -/
def Display.dropReq (x : Display) (t quiet : ScanReq → Bool) : Display :=
  match x.req with
  | none => x
  | some q =>
    if t q then
      { x with
        req := if q.granted then some { q with live := false, counted := q.counted && !quiet q } else none }
    else x

/-- Every slot of a layer free, and its request dropped (R32, R22, R37); `quiet` at a host reset (R37). -/
def Display.freeLayer (x : Display) (l : LayerId) (quiet : Bool) : Display :=
  (x.dropReq (fun q => q.layer == l) (fun _ => quiet)).setBuf l LayerBuf.empty

/-- The three layers freed: a blank event (R32). -/
def Display.freeAll (x : Display) : Display :=
  ((x.freeLayer .base false).freeLayer .ov0 false).freeLayer .ov1 false

/-- Whether a request's slot is free: its row has been retired. -/
def Display.reqRetired (x : Display) (q : ScanReq) : Bool :=
  ((x.buf q.layer).slots.getD q.slot LineSlot.empty).phase == .free

/-- Whether an underrun has stopped the row of a request (R35). -/
def Display.reqStopped (x : Display) (q : ScanReq) : Bool :=
  ((x.buf q.layer).slots.getD q.slot LineSlot.empty).stopped

/-- R32: the slots of finished rows are retired in the three layers, and a request of a retired slot with
them; that of a row an underrun has stopped is discarded under R35. A burst that was to be discarded already
keeps what R36 made of its errors: its slot has passed to another row since (log entry 47). -/
def Display.retire (x : Display) (line : Nat) : Display :=
  let y := { x with base := x.base.retire line, ov0 := x.ov0.retire line, ov1 := x.ov1.retire line }
  y.dropReq y.reqRetired (fun q => q.live && x.reqStopped q)

/-! ### Urgency (R34) and the pressure record (R9) -/

/-- A layer's row for a display row is not complete though the layer covers it. -/
def LayerBuf.lacks (b : LayerBuf) (v : LayerView) (y : Nat) : Bool :=
  v.coversRow y && !(b.slots.any (fun k => k.phase == .complete && k.shows y))

/-- R34: a layer is short on the present line. -/
def shortLayer (t : DispTiming) (line : Nat) (b : LayerBuf) (v : Option LayerView) : Bool :=
  match v with
  | none => false
  | some v =>
    if line < t.ha then b.lacks v line || b.lacks v (line + 1)
    else line + 1 == t.ha + t.vb && b.lacks v 0

/-- R34: the requester of an engine is urgent while a layer of it is short. -/
def State.scanUrgent (s : State) (d : Disp) : Bool :=
  let x := s.display d
  match s.timing d with
  | none => false
  | some t =>
    x.running && (shortLayer t x.line x.base (s.layer d .base) || shortLayer t x.line x.ov0 (s.layer d .ov0) ||
      shortLayer t x.line x.ov1 (s.layer d .ov1))

/-- R9: the first moment of a centre line period at which SCAN_C is urgent counts the line. -/
def State.noteUrgent (s : State) : State :=
  if s.scanUrgent .centre && !s.centre.lineUrgent then
    s.setCentre { s.centre with urgentLines := min (s.centre.urgentLines + 1) 4, lineUrgent := true }
  else s

/-- An engine of the machine assigns its free slots and presents its next request. -/
def State.refetch (s : State) (d : Disp) : State := s.setDisplay d ((s.display d).refill (s.layer d))

/-- An engine of the machine goes on fetching, and the pressure record takes note of the urgency that results. -/
def State.refill (s : State) (d : Disp) : State := (s.refetch d).noteUrgent

/-- The burst an engine presents. -/
def Display.presents (x : Display) : Option Burst :=
  match x.req with
  | none => none
  | some q => if q.granted then none else some { write := false, addr := q.addr, beats := q.beats, data := [] }

/-! ### Arrived pixels (R35, R36) -/

/-- A pixel of a run of beats: the low word is the even column. -/
def pixelOf (data : List RBeat) (c : Nat) : Option Word :=
  match data[c / 2]? with
  | some b => some (wordOfQuad (if c % 2 = 0 then b.lo else b.hi))
  | none => none

/-- The pixel of a slot at a layer column, if its data has arrived. -/
def LineSlot.pixel (k : LineSlot) (c : Nat) : Option Word :=
  match k.chunks.find? (fun x => x.1 == c / 32) with
  | some x => pixelOf x.2 (c % 32)
  | none => none

/-- The pixel of a layer at a display column and row it covers, if its data has arrived and the layer has not
underrun before it on the line (R35). -/
def LayerBuf.pixelAt (b : LayerBuf) (v : LayerView) (x y : Nat) : Option Word :=
  if (match b.under with
      | some u => decide (u ≤ x)
      | none => false) then none
  else
    match b.slotFor y with
    | some k => k.pixel (x - v.rect.x0)
    | none => none

/-- The pixel of a kept line at a display column, if the line shows its film row there and the data had arrived. -/
def KeptLine.pixel (l : KeptLine) (c : Nat) : Option Word :=
  if l.x0 ≤ c ∧ c < l.x1 then l.slot.pixel (c - l.x0) else none

/-- R22: what a display has of its base layer `v` for the line it is in: the slot of the line's row, and the columns the
layer covers, up to the one from which it has underrun (R35). None where the layer does not cover the line. -/
def Display.baseLine (x : Display) (v : LayerView) : Option KeptLine :=
  if v.rect.y0 ≤ x.line ∧ x.line < v.rect.y1 then
    (x.base.slotFor x.line).map (fun k =>
      { x0 := v.rect.x0
        x1 := match x.base.under with
          | none => v.rect.x1
          | some u => min u v.rect.x1
        slot := k })
  else none

/-- A row of an alternately fetched film that repeats the row above it (R11). -/
def LayerView.repeats (v : LayerView) (y : Nat) : Bool := v.alternate && decide ((y - v.rect.y0) % 2 = 1)

/-- R27: whether the interval between the RVC's leaving OFF and the next centre blank event keeps the pixel at
a display column and row clear of every host layer. -/
def State.keptClear (s : State) (d : Disp) (x y : Nat) : Bool :=
  match d, s.boot.profile with
  | .centre, some p => s.centre.keepWindow && (protectedWindow p.cam p.disp.c).holds x y
  | _, _ => false

/-- R35: the scan meets a pixel of a drawn layer whose data has not arrived: an underrun begins at the column.
A repeated film row is not an underrun. -/
def State.meetsUnderrun (s : State) (d : Disp) (l : LayerId) (col : Nat) : Bool :=
  let x := s.display d
  match s.layer d l with
  | none => false
  | some v =>
    x.running && v.rect.holds col x.line && v.draws col x.line && !s.keptClear d col x.line &&
      !v.repeats x.line && (x.buf l).under.isNone && ((x.buf l).pixelAt v col x.line).isNone

/-! ### The rows -/

/-- LAYER_UNDERRUN (R35): the layer gives way to the end of the line, its row's requests stop, and the line is
counted once; on the centre the pressure record is marked (R9). Where no underrun begins there is none. -/
def execLayerUnderrun (d : Disp) (l : LayerId) (col : Nat) (s : State) : Out :=
  if col < 1920 then
    if s.meetsUnderrun d l col then
      let x := s.display d
      let stopped := (x.buf l).stop x.line
      let y := (x.setBuf l { stopped with under := some col }).dropReq
        (fun q => q.layer == l && !q.granted && ((x.buf l).slots.getD q.slot LineSlot.empty).shows x.line)
        (fun _ => false)
      let z := { y with underruns := if x.lineCounted then x.underruns else satInc x.underruns, lineCounted := true }
      let s1 := s.setDisplay d z
      let s2 := if d = .centre then s1.setCentre { s1.centre with underrunFlag := true } else s1
      .next (s2.refill d)
    else .next s
  else .refused .illFormed

/-- R33: the data of a burst enters its slot; the slot is complete when its whole row has arrived. -/
def LineSlot.receive (k : LineSlot) (v : LayerView) (b : Nat) (data : List RBeat) : LineSlot :=
  let k' := { k with chunks := k.chunks ++ [(b, data)] }
  if k'.whole v then { k' with phase := .complete } else k'

/-- A display whose outstanding request's data has arrived: it enters its slot, if the layer is fetched (R33). -/
def Display.take (x : Display) (v : Option LayerView) (q : ScanReq) (data : List RBeat) : Display :=
  match v with
  | none => x
  | some v =>
    let b := x.buf q.layer
    let k := b.slots.getD q.slot LineSlot.empty
    x.setBuf q.layer { b with slots := b.slots.set q.slot (k.receive v q.burst data) }

/-- The engine's outstanding request ends. Its data enters its slot unless the engine discards it (R33). An error
gives no data and is counted, unless the data would have been discarded under R35 or R37 (R36). -/
def State.scanBack (s : State) (d : Disp) (q : ScanReq) (r : Reply) : State :=
  let x := { s.display d with req := none }
  match r with
  | .error => if q.counted then (s.setDisplay d x).countFetchError else s.setDisplay d x
  | .ok data => s.setDisplay d (if q.live then x.take (s.layer d q.layer) q data else x)

/-- SCAN_BURST_COMPLETE (R33, R36): the oldest granted burst is this engine's and its completion arrives; its
data enters its slot, or its error is counted, unless the engine discards it. The engine then presents its
next burst. When the oldest granted burst is another requester's, or the data is not the burst's, no such
completion can arrive (R59). -/
def execScanBurstComplete (d : Disp) (r : Reply) (s : State) : Out :=
  if r.wfBurst then
    match s.dueFlight, (s.display d).req with
    | some f, some q =>
      if f.owner = .scan d ∧ q.granted = true ∧ r.wf q.beats = true then
        .next ((s.popFlight.scanBack d q r).refill d)
      else .next s
    | _, _ => .next s
  else .refused .illFormed

end Sys2Proof.Machine
end

