-- ==== Sys2Proof/Machine/Arb.lean ====
section
/-! DEFINITION. ARB, the Downstream Arbiter (R59 to R62): what is presented, what is urgent, the grant and the
starvation counts. -/

namespace Sys2Proof.Machine

open Sys2Proof

/-- The seven requesters (R59), in the ordinary order of R61. -/
inductive Requester where
  | host
  | scanC
  | camera
  | audio
  | scanRl
  | scanRr
  | load
  deriving DecidableEq, Repr

/-- The burst a requester presents now (R59). -/
def State.presents (s : State) : Requester → Option Burst
  | .host => s.path.presents
  | .scanC => s.disp.c.presents
  | .camera => s.cam.presents s.arb.handing
  | .audio => s.aud.presents.map (·.2)
  | .scanRl => s.disp.l.presents
  | .scanRr => s.disp.r.presents
  | .load => s.load.presents s.boot.cbBase

/-- Whether a requester is presenting a burst. -/
def State.asks (s : State) (q : Requester) : Bool := (s.presents q).isSome

/-- R60: the urgency of a requester. -/
def State.urgent (s : State) : Requester → Bool
  | .host => false
  | .scanC => s.scanUrgent .centre
  | .camera => s.cam.urgent
  | .audio => s.aud.urgent
  | .scanRl => s.scanUrgent (.rear .left)
  | .scanRr => s.scanUrgent (.rear .right)
  | .load => false

/-- R61: the list of grants, first served first: a requester and whether its condition holds. -/
def grantList (urgent : Requester → Bool) (hostCount loadCount : Nat) : List (Requester × Bool) :=
  [(.scanC, urgent .scanC), (.camera, urgent .camera), (.host, decide (8 ≤ hostCount)), (.audio, urgent .audio),
   (.scanRl, urgent .scanRl), (.scanRr, urgent .scanRr), (.load, decide (64 ≤ loadCount)),
   (.host, true), (.scanC, true), (.camera, true), (.audio, true), (.scanRl, true), (.scanRr, true), (.load, true)]

/-- R61: the requester granted, for what is presented, what is urgent and the two counts. -/
def grantChoice (asks urgent : Requester → Bool) (hostCount loadCount : Nat) : Option Requester :=
  ((grantList urgent hostCount loadCount).find? (fun x => x.2 && asks x.1)).map (·.1)

/-- R62: a starvation count after a grant: 0 when its requester is granted or was not presenting, else one more,
held at its limit. -/
def starved (count limit : Nat) (granted asked : Bool) : Nat :=
  if granted then 0 else if asked then min (count + 1) limit else 0

/-- R62: the counts after a grant to a requester. -/
def ArbState.counted (a : ArbState) (asks : Requester → Bool) (q : Requester) : ArbState :=
  { a with
    hostCount := starved a.hostCount 8 (q == .host) (asks .host)
    loadCount := starved a.loadCount 64 (q == .load) (asks .load) }

/-- The owner of the burst a requester presents. -/
def State.ownerOf (s : State) : Requester → Owner
  | .host => .host
  | .scanC => .scan .centre
  | .camera =>
    match s.cam.bursts with
    | b :: _ => .camera b.npix
    | [] => .camera 0
  | .audio =>
    match s.aud.presents with
    | some x => .audio x.1
    | none => .audio .left
  | .scanRl => .scan (.rear .left)
  | .scanRr => .scan (.rear .right)
  | .load =>
    match s.load.slot with
    | some r => r.owner
    | none => .report

/-- An engine whose request is granted waits for its completion (R33). -/
def Display.grantReq (x : Display) : Display := { x with req := x.req.map (fun q => { q with granted := true }) }

/-- What a grant does in the requester: its presented burst is taken, and it presents its next where its
chapter lets it (R39, R33, R100, R91, R178). -/
def State.takeGrant (s : State) : Requester → State
  | .host =>
    s.setPath { s.path with queue := mapFirstPiece Piece.isUnissued (fun p => { p with status := .issued }) s.path.queue }
  | .scanC => s.setDisplay .centre s.disp.c.grantReq
  | .camera => s.setCam { s.cam with bursts := s.cam.bursts.drop 1 }
  | .audio =>
    match s.aud.presents with
    | some x => s.setAud (s.aud.granted x.1)
    | none => s
  | .scanRl => s.setDisplay (.rear .left) s.disp.l.grantReq
  | .scanRr => s.setDisplay (.rear .right) s.disp.r.grantReq
  | .load => s.setLoad s.load.granted1

/-- A grant to a requester that presents a burst (R59, R61, R62). -/
def State.grant (s : State) (q : Requester) (b : Burst) : State :=
  let a := s.arb.counted s.asks q
  (s.takeGrant q).setArb
    { a with flights := a.flights ++ [{ owner := s.ownerOf q, live := true, handed := false, burst := b }] }

/-- ARB_GRANT (R59, R61, R62): with the port free and a burst presented, one is granted; otherwise ARB makes no
grant. -/
def execArbGrant (s : State) : Out :=
  if s.portFree then
    match grantChoice s.asks s.urgent s.arb.hostCount s.arb.loadCount with
    | some q =>
      match s.presents q with
      | some b => .next (s.grant q b)
      | none => .next s
    | none => .next s
  else .next s

/-- BURST_HANDOVER_DONE (R59, R100): the granted burst has been handed over in full and the port is free; the
pixels of a camera burst leave the head of the line buffer, while those of a rejected frame have gone already
(R101). With the port free already nothing is being handed over. -/
def execBurstHandoverDone (s : State) : Out :=
  match s.arb.flights.find? (fun f => !f.handed) with
  | some f =>
    .next ((s.setCam { s.cam with buf := s.cam.buf.drop f.pixels }).setArb
      { s.arb with flights := s.arb.flights.map (fun g => { g with handed := true }) })
  | none => .next s

end Sys2Proof.Machine
end

