-- ==== Sys2Proof/Machine/Boot.lean ====
section
/-! DEFINITION. BOOT (R180 to R186): the power-on release, the clock check, the profile read and its checks, and
the definition of the camera region with the start of the profile's blocks (R44, R185). -/

namespace Sys2Proof.Machine

open Sys2Proof

/-! ### The profile's checks (R182, R183) -/

/-- R182: a length is even and within 64..16384. -/
def lengthOk (n : Nat) : Bool := n % 2 == 0 && decide (64 ≤ n ∧ n ≤ 16384)

/-- R183: the camera fields, against the centre's Wa and Ha as written. -/
def CameraProfile.ok (c : CameraProfile) (centre : DispTiming) : Bool :=
  decide
    (c.width % 2 = 0 ∧ 64 ≤ c.width ∧ c.width ≤ 1280 ∧ c.width ≤ centre.wa ∧
      16 ≤ c.height ∧ c.height ≤ 720 ∧ c.height ≤ centre.ha ∧
      c.base % 4096 = 0 ∧ c.cx ≤ 4095 ∧ c.cy ≤ 4095 ∧ c.px + c.pw ≤ c.width ∧ c.py + c.ph ≤ c.height)

/-- R183: the camera region ends at or below 0xFFFFFFFF and shares no byte with the control block. -/
def CameraProfile.regionOk (c : CameraProfile) (cb : Nat) : Bool :=
  decide (c.base + 4 * c.slotBytes ≤ 0x100000000) && !rangesMeet c.base (4 * c.slotBytes) cb 4096

/-- A pattern field is 0..15 or NONE. -/
def patternRefOk (n : Nat) : Bool := decide (n ≤ 15) || n == 0xFF

/-- R183: the reverse fields. -/
def ReverseProfile.ok (r : ReverseProfile) : Bool :=
  decide
    (r.debounce ≤ 50 ∧ 100 ≤ r.engage ∧ r.engage ≤ 2000 ∧ 100 ≤ r.freeze ∧ r.freeze ≤ 1000 ∧
      r.release ≤ 10000 ∧ r.duty ≤ 4095 ∧ r.reduce ≤ 1 ∧ (r.depth = 2 ∨ r.depth = 4)) && patternRefOk r.chime

/-- R183: the guide fields. -/
def GuideProfile.ok (g : GuideProfile) : Bool :=
  decide
    (1000 ≤ g.w ∧ g.w ≤ 2500 ∧ g.yb ≤ 1500 ∧ 500 ≤ g.smax ∧ g.smax ≤ 5000 ∧ g.smax % 250 = 0 ∧
      1 ≤ g.lineWidth ∧ g.lineWidth ≤ 8 ∧ 1 ≤ g.markerHeight ∧ g.markerHeight ≤ 8 ∧
      0 < g.l1 ∧ g.l1 < g.l2 ∧ g.l2 < g.l3 ∧ g.l3 ≤ g.smax)

/-- A chime step within Table 49. -/
def ChimeStep.ok (x : ChimeStep) : Bool :=
  (x.tone == 0 || decide (100 ≤ x.tone ∧ x.tone ≤ 8000)) &&
    decide (10 ≤ x.duration ∧ x.duration ≤ 2000 ∧ x.level ≤ 255 ∧ x.attack ≤ 50 ∧ x.release ≤ 50)

/-- A pattern within Table 48. -/
def Pattern.ok (x : Pattern) : Bool :=
  decide (x.count ≤ 8 ∧ x.repeats ≤ 255 ∧ x.priority ≤ 7 ∧ x.headphones ≤ 1) && x.steps.all ChimeStep.ok

/-- R183: every field lies in its range, for a control block at `cb`. -/
def Profile.ok (p : Profile) (cb : Nat) : Bool :=
  p.cam.ok p.disp.c && p.cam.regionOk cb && p.rev.ok &&
    decide (50 ≤ p.steerMs ∧ p.steerMs ≤ 1000 ∧ 100 ≤ p.condMs ∧ p.condMs ≤ 2000) && p.guide.ok &&
    p.condMap.all patternRefOk && p.patterns.all Pattern.ok

/-- R183: an image passes the two parts of the check: its sum is 0 modulo 65536; it reaches offset 0x740, the end of
pattern 15 (DEDUCED, log entry 45), and every field lies in its range, for a control block at `cb`. -/
def imageOk (im : List Byte) (cb : Nat) : Bool :=
  imageSum im % 65536 == 0 && decide (0x740 ≤ im.length) && (readProfile im).ok cb

/-- Table 4: a display's timing lies in range. -/
def DispTiming.inRange (t : DispTiming) (d : Disp) : Bool :=
  decide
    (64 ≤ t.wa ∧ t.wa ≤ (if d = .centre then 1920 else 1280) ∧ 16 ≤ t.ha ∧ t.ha ≤ (if d = .centre then 720 else 800) ∧
      16 ≤ t.hb ∧ t.hb ≤ 4095 ∧ 2 ≤ t.vb ∧ t.vb ≤ 255 ∧ 2 ≤ t.d ∧ t.d ≤ 32 ∧ t.duty ≤ 4095 ∧
      256 ≤ t.period ∧ t.period ≤ 65534 ∧ t.period % 2 = 0)

/-- R1, R2: the profile drives a display: its enable is 1 and its timing in range. -/
def DispTiming.drives (t : DispTiming) (d : Disp) : Bool := t.enable == 1 && t.inRange d

/-! ### The rows before the profile is good -/

/-- PORN_RELEASE (R180): the straps fix the control block, and BOOT enters CLOCK_CHECK; the upstream queue is
open from here. With PORN high already nothing is released. -/
def execPornRelease (cbsel : BitVec 3) (s : State) : Out :=
  if s.boot.startup = .reset then
    .next (s.setBoot { s.boot with startup := .clockCheck, clkCount := 0, strap := cbsel, cbBase := controlBase cbsel })
  else .next s

/-- R181: whether a reference count passes. -/
def countOk (n : Nat) : Bool := decide (5400 ≤ n ∧ n ≤ 6600)

/-- R181: the blocks that need only the reference begin work. The spec does not say how long after the start of the
frame clock the first output frame falls: 500 ticks here, one spacing of R87 (DESIGN CHOICE, log entry 43). -/
def State.startReferenceBlocks (s : State) : State :=
  let s1 := s.setTb { running := true, sub := 0 }
  let s2 := s1.setAud { s1.aud with clock := true, phase := 0, lastFrame := false, sub := 0 }
  let s3 := s2.setRvc RvcState.start
  s3.setLoad (LoadState.test { s3.load with begun := true, tick16 := 0 })

/-- CLOCK_CHECK_END (R181): the measurement ends `elapsed` reference ticks after the step before; the count is
judged, and on a pass BOOT leaves CLOCK_CHECK for PROFILE_READ. Outside CLOCK_CHECK no measurement ends. -/
def execClockCheckEnd (elapsed : Nat) (s : State) : Out :=
  if s.boot.startup = .clockCheck then
    let s1 := s.advance elapsed
    let n := s1.boot.clkCount
    if countOk n then
      .next (s1.setBoot { s1.boot with startup := .profileRead, refCount := n, clkCount := 0 }).startReferenceBlocks
    else .next (s1.setBoot { s1.boot with refCount := n, clkCount := 0 })
  else .next s

/-! ### The flash port (R182) -/

/-- R182: the select line is driven low from the entry to PROFILE_READ until the read ends: a length that fails ends it
in PROFILE_FAULT, the last byte makes BOOT ask for the camera region or enter PROFILE_FAULT. -/
def State.flashSelected (s : State) : Bool := s.boot.startup == .profileRead && !s.boot.asked

/-- R182: the bytes BOOT sends on its data-out line while the select line is low: the read command and the address 0. -/
def flashCommand : List Byte := [0x03, 0x00, 0x00, 0x00]

/-- R182: the bits of a byte in the order the flash port carries them, most significant first. -/
def flashBits (b : Byte) : List Bool := (List.range 8).map (fun i => b.getLsbD (7 - i))

/-- R182: the levels of the data-out line in a read, one for each flash clock of the command. -/
def State.flashSends (s : State) : List Bool := if s.flashSelected then flashCommand.flatMap flashBits else []

/-- R182: the byte that eight samples of the data-in line give, the first the most significant bit. -/
def flashByte (bits : List Bool) : Byte :=
  BitVec.ofNat 8 (bits.foldl (fun n b => 2 * n + (if b then 1 else 0)) 0)

/-- R182: the reference ticks of a flash clock, which runs at 12 MHz. -/
def flashClock : Nat := 2

/-- R182: the flash clocks that a profile of `n` bytes takes, the command included. -/
def flashClocks (n : Nat) : Nat := (flashCommand.length + n) * 8

/-- R184: BOOT enters PROFILE_FAULT. -/
def State.profileFault (s : State) (why : ProfileState) : State :=
  (s.setBoot { s.boot with startup := .profileFault, profState := why }).raise .profileFault

/-- PROFILE_LENGTH_READ (R182): the first two bytes arrive; a length that fails refuses the profile. Outside the
start of a profile read no length arrives. -/
def execProfileLengthRead (b0 b1 : Byte) (s : State) : Out :=
  if s.boot.startup = .profileRead ∧ s.boot.imageLen = none then
    let n := b0.toNat + 256 * b1.toNat
    if lengthOk n then .next (s.setBoot { s.boot with image := [b0, b1], imageLen := some n })
    else .next ((s.setBoot { s.boot with image := [b0, b1] }).profileFault .badLength)
  else .next s

/-- PROFILE_READ_DONE (R182, R183, R184): the last byte arrives; a profile whose sum and fields pass makes BOOT
ask PATH for the camera region. Without a read under way, or with a number of bytes that is not the length's,
no read is done. -/
def execProfileReadDone (rest : List Byte) (s : State) : Out :=
  if rest.length ≤ 16382 then
    if s.boot.startup = .profileRead ∧ s.boot.asked = false ∧ s.boot.imageLen = some (rest.length + 2) then
      let im := s.boot.image ++ rest
      let s1 := s.setBoot { s.boot with image := im }
      if imageOk im s.boot.cbBase then
        .next (s1.setBoot { s1.boot with profState := .good, asked := true })
      else .next (s1.profileFault .badSum)
    else .next s
  else .refused .illFormed

/-! ### The entry to RUNNING (R44, R185) -/

/-- R44: the table with every entry that overlaps the camera region set to NONE. -/
def cleanTable (table : List Region) (c : CamRegion) : List Region :=
  table.map (fun r => if r.meetsCam c then .absent else r)

/-- R44: whether the definition sets an entry to NONE. -/
def entryGone (old new : List Region) (i : Nat) : Bool := entryAt old i != entryAt new i

/-- R44: the camera region is defined; the owners of the entries it removes treat it as their removal by a load
(R77, R86). -/
def State.defineCamera (s : State) (c : CamRegion) : State :=
  let old := s.path.table
  let new := cleanTable old c
  let s1 := (s.setPath { s.path with table := new, cam := some c }).tableChanged old new
  (s1.loseRing .left (entryGone old new)).loseRing .right (entryGone old new)

/-- R2, R9, R18: a display the profile drives enters RUNNING at line Ha, and its backlight channel starts. Its
first blank event is the row that follows. -/
def State.startDisplay (s : State) (d : Disp) (t : DispTiming) : State :=
  if t.drives d then
    let s1 := s.setDisplay d { s.display d with running := true, line := t.ha, lineClk := 0, blanked := false }
    let s2 := if d = .centre then s1.setCentre { s1.centre with calm := 0 } else s1
    s2.startPwm d t
  else s

/-- R185: the profile's blocks start. -/
def State.startProfileBlocks (s : State) (p : Profile) : State :=
  let s1 := s.setBoot { s.boot with startup := .running, profile := some p }
  let s2 := ((s1.startDisplay .centre p.disp.c).startDisplay (.rear .left) p.disp.l).startDisplay (.rear .right) p.disp.r
  let s3 := s2.setCam { s2.cam with phase := .noSignal, reported := 0, period := none }
  let s4 := s3.setLink { s3.link with started := true }
  s4.setChime { s4.chime with started := true }

/-- R44: the wait is over: BOOT has asked for the camera region, the queue is empty, and no host piece is in
flight. -/
def State.mayDefine (s : State) : Bool :=
  s.boot.asked && s.boot.startup == .profileRead && s.path.queue.isEmpty &&
    s.arb.flights.all (fun f => f.owner != .host)

/-- CAMERA_REGION_DEFINE (R44, R185). While BOOT has not asked, or host traffic is still to complete, the region
is not defined. -/
def execCameraRegionDefine (s : State) : Out :=
  if s.mayDefine then
    let p := readProfile s.boot.image
    .next ((s.defineCamera { base := p.cam.base, slotBytes := p.cam.slotBytes }).startProfileBlocks p)
  else .next s

end Sys2Proof.Machine
end

