-- ==== Sys2Proof/Machine/Guide.lean ====
section
/-! DEFINITION. GUIDE, the guide line generator (chapter 7): from the steering snapshot to span tables. -/

namespace Sys2Proof.Machine

open Sys2Proof

/-! ### From steering angle to image points (R126 to R128) -/

/-- R122: the angle used, the snapshot angle clamped to −7800..7800. -/
def clampAngle (a : Int) : Int := clampInt (-7800) 7800 a

/-- R123: a build is made in static mode when its snapshot is stale or its angle-valid flag is clear. -/
def Snapshot.isStatic (n : Snapshot) : Bool := n.stale || !n.valid

/-- R126: the curvature for the angle used, by linear interpolation in K. -/
def curvature (k : List Int) (angle : Int) : Int :=
  let t : Nat := (angle + 7800).toNat
  let i : Nat := if t / 975 = 16 then 15 else t / 975
  let f : Int := t - 975 * i
  let k0 := k.getD i 0
  let k1 := k.getD (i + 1) 0
  k0 + roundDiv ((k1 - k0) * f) 975

/-- R127: the path offset at distance `s`. -/
def pathOffset (kappa : Int) (s : Nat) : Int := roundDiv (kappa * (s * s : Nat)) 33554432

/-- A projected point: image column and row (R128). -/
structure ImgPoint where
  u : Int
  v : Int
  deriving DecidableEq, Repr

/-- R128: the projection of a ground point; `none` for an invalid point. -/
def project (g : GuideProfile) (x y : Int) : Option ImgPoint :=
  let den := g.c1 * x + g.c2 * y + g.c3
  if den ≤ 0 then none
  else
    some { u := clampInt (-32768) 32767 (roundDiv (g.a1 * x + g.a2 * y + g.a3) den),
           v := clampInt (-32768) 32767 (roundDiv (g.b1 * x + g.b2 * y + g.b3) den) }

/-- The number of sampled distances: Smax div 250 + 1 (chapter 7.1). -/
def GuideProfile.samples (g : GuideProfile) : Nat := g.smax / 250 + 1

/-- R127, R128: the left and right image points at distance `s`. -/
def edgePoints (g : GuideProfile) (kappa : Int) (s : Nat) : Option ImgPoint × Option ImgPoint :=
  let xc := pathOffset kappa s
  let half : Int := (g.w / 2 : Nat)
  let y : Int := (g.yb + s : Nat)
  (project g (clampInt (-32767) 32767 (xc - half)) y, project g (clampInt (-32767) 32767 (xc + half)) y)

/-! ### Drawing (R129 to R133) -/

/-- A candidate span before clipping (R130 to R132). -/
structure Candidate where
  row : Int
  s : Int
  e : Int
  band : Nat
  deriving DecidableEq, Repr

/-- The integers from `a` toward `b`, both included, that lie in 0..`hi` − 1: the rows or columns a
segment visits (R130, R131). -/
def visited (a b : Int) (hi : Nat) : List Int :=
  if a ≤ b then
    let lo := max a 0
    let up := min b ((hi : Int) - 1)
    (List.range (up - lo + 1).toNat).map (fun i => lo + (i : Int))
  else
    let lo := max b 0
    let up := min a ((hi : Int) - 1)
    (List.range (up - lo + 1).toNat).map (fun i => up - (i : Int))

/-- The first row or column of a line of width `w` about `x`: x − (w − 1) div 2. -/
def lineStart (w : Nat) (x : Int) : Int := x - ((w - 1) / 2 : Nat)

/-- The rows of a line of width `w` about row `v`, ascending, each with columns `c0..c1` (R131). -/
def rowStack (w : Nat) (v c0 c1 : Int) (band : Nat) : List Candidate :=
  (List.range w).map (fun (i : Nat) => { row := lineStart w v + (i : Int), s := c0, e := c1, band := band })

/-- R130, R131: the candidate spans of a segment in an image of `cw` columns and `ch` rows. -/
def segment (w cw ch : Nat) (p q : ImgPoint) (band : Nat) : List Candidate :=
  let du := q.u - p.u
  let dv := q.v - p.v
  if du = 0 ∧ dv = 0 then
    rowStack w p.v (lineStart w p.u) (lineStart w p.u + (w : Int) - 1) band
  else if du.natAbs ≤ dv.natAbs then
    (visited p.v q.v ch).map (fun v =>
      let u := p.u + roundDiv ((v - p.v) * du) dv
      { row := v, s := lineStart w u, e := lineStart w u + (w : Int) - 1, band := band })
  else
    (visited p.u q.u cw).flatMap (fun u =>
      rowStack w (p.v + roundDiv ((u - p.u) * dv) du) u u band)

/-- R129: the band of a segment that starts at distance `s`. -/
def bandOf (g : GuideProfile) (isStatic : Bool) (s : Nat) : Nat :=
  if isStatic then 4 else if s < g.l1 then 1 else if s < g.l2 then 2 else 3

/-- R129: the candidates of one edge's segments in ascending distance; a pair with an invalid point gives
none. -/
def edgeCandidates (g : GuideProfile) (cw ch : Nat) (isStatic : Bool) (pts : Nat → Option ImgPoint) :
    List Candidate :=
  (List.range (g.smax / 250)).flatMap (fun i =>
    match pts (250 * i), pts (250 * i + 250) with
    | some p, some q => segment g.lineWidth cw ch p q (bandOf g isStatic (250 * i))
    | _, _ => [])

/-- R132: the marker bar at band limit `lb` in band `b`. -/
def marker (g : GuideProfile) (kappa : Int) (lb b : Nat) : List Candidate :=
  if lb % 250 = 0 ∧ lb ≤ g.smax then
    match edgePoints g kappa lb with
    | (some l, some r) =>
      (List.range g.markerHeight).map (fun (i : Nat) =>
        { row := l.v + (i : Int), s := min l.u r.u, e := max l.u r.u, band := b })
    | _ => []
  else []

/-- The curvature of a build: 0 in static mode (R123). -/
def Snapshot.kappa (n : Snapshot) (g : GuideProfile) : Int :=
  if n.isStatic then 0 else curvature g.k (clampAngle n.angle)

/-- R129: every candidate span of a build, in drawing order: the left edge, the right edge, the markers. -/
def candidates (g : GuideProfile) (c : CameraProfile) (n : Snapshot) : List Candidate :=
  let kappa := n.kappa g
  let st := n.isStatic
  edgeCandidates g c.width c.height st (fun s => (edgePoints g kappa s).1) ++
    edgeCandidates g c.width c.height st (fun s => (edgePoints g kappa s).2) ++
    (if st then [] else marker g kappa g.l1 1 ++ marker g kappa g.l2 2 ++ marker g kappa g.l3 3)

/-- R133: a candidate on row `r` of an image of `cw` columns, clipped; `none` where it is skipped. -/
def clipTo (cw : Nat) (x : Candidate) : Option Span :=
  let s := max x.s 0
  let e := min x.e ((cw : Int) - 1)
  if e < s then none else some { s := s.toNat, e := e.toNat, band := x.band }

/-! ### The span table (R134 to R136) -/

/-- Two spans of one band that overlap or touch (R135). -/
def Span.meets (n x : Span) : Bool := x.band == n.band && decide (x.s ≤ n.e + 1 ∧ n.s ≤ x.e + 1)

/-- R135 step 1: merge the new span with spans of its band until none overlaps or touches it; `fuel`
bounds the merges by the length of the row. -/
def absorb : (fuel : Nat) → List Span → Span → List Span × Span
  | 0, row, n => (row, n)
  | fuel + 1, row, n =>
    match row.find? n.meets with
    | none => (row, n)
    | some x => absorb fuel (row.erase x) { s := min n.s x.s, e := max n.e x.e, band := n.band }

/-- The order of a row: by start column, then by band (R134). -/
def Span.before (a b : Span) : Bool := decide (a.s < b.s) || (a.s == b.s && decide (a.band ≤ b.band))

/-- Insert a span at its place in the order of R134. -/
def insertSpan (n : Span) : List Span → List Span
  | [] => [n]
  | x :: xs => if x.before n then x :: insertSpan n xs else n :: x :: xs

/-- R135, R136: insert a clipped candidate into its row. -/
def SpanRow.insert (r : SpanRow) (n : Span) : SpanRow :=
  let m := absorb r.spans.length r.spans n
  if m.1.length < 6 then { r with spans := insertSpan m.2 m.1 } else { r with overfull := true }

/-- A row of the table: the candidates that lie on it, inserted in order. -/
def buildRow (cw : Nat) (cands : List Candidate) (r : Nat) : SpanRow :=
  (cands.filter (fun x => x.row == (r : Int))).foldl
    (fun row x =>
      match clipTo cw x with
      | some n => row.insert n
      | none => row) SpanRow.empty

/-- The table the candidates give in an emptied back table, with its build record (R120, R123, R136). -/
def buildTable (c : CameraProfile) (n : Snapshot) (cands : List Candidate) : SpanTable :=
  let rows := (List.range c.height).map (buildRow c.width cands)
  { rows := rows, angle := if n.isStatic then 0 else clampAngle n.angle, isStatic := n.isStatic,
    overfullRows := (rows.filter (·.overfull)).length }

/-! ### Build timing (R124) -/

/-- R124: the 192 MHz steps of a build. -/
def buildSteps (g : GuideProfile) (c : CameraProfile) (n : Snapshot) : Nat :=
  c.height + 16 * g.samples + 2 * (candidates g c n).length

/-- The candidates already inserted when `work` steps of a build are done (R124, R125). -/
def insertedBy (g : GuideProfile) (c : CameraProfile) (n : Snapshot) (work : Nat) : List Candidate :=
  (candidates g c n).take ((work - (c.height + 16 * g.samples)) / 2)

/-! ### GUIDE in the machine (R121, R124, R125) -/

/-- The steering snapshot LINK gives now (R122). -/
def LinkState.snapshot (l : LinkState) : Snapshot := { angle := l.angle, valid := l.valid, stale := l.steering.stale }

/-- R121: GUIDE at a centre blank event, once the camera work is done. While the build runs the stored
back table is the emptied one; its content becomes the finished table at the completion. -/
def GuideState.blank (x : GuideState) (showing : Bool) (n : Snapshot) : GuideState :=
  if showing then { x with build := some n, work := 0, back := SpanTable.empty, waiting := false }
  else { x with front := SpanTable.empty }

/-- R125: GUIDE at a centre active event: the swap, or the abandonment of a build still running, whose
partial content stays in the back table. The step count is 0 between builds (DESIGN CHOICE, log entry 10). -/
def GuideState.active (x : GuideState) (p : Option Profile) : GuideState :=
  match x.build with
  | some n =>
    let back :=
      match p with
      | some p => buildTable p.cam n (insertedBy p.guide p.cam n x.work)
      | none => x.back
    { x with build := none, work := 0, back := back, overruns := satInc x.overruns }
  | none =>
    if x.waiting then { x with front := x.back, back := x.front, waiting := false } else x

/-- R124: the build completes; its table waits in the back for the swap. The step count is 0 between builds (DESIGN CHOICE,
log entry 10). -/
def GuideState.completed (x : GuideState) (p : Option Profile) : GuideState :=
  match x.build, p with
  | some n, some p =>
    { x with build := none, work := 0, back := buildTable p.cam n (candidates p.guide p.cam n), waiting := true }
  | _, _ => x

/-- GUIDE_BUILD_COMPLETE (R124). With no build running there is nothing to complete. -/
def execGuideBuildComplete (s : State) : Out := .next (s.setGuide (s.guide.completed s.boot.profile))

end Sys2Proof.Machine
end

