-- ==== Sys2Proof/Machine/Display.lean ====
section
/-! DEFINITION. The timing generators (R1 to R13, R19, R20, R30): blank events, active events and line ends,
with what the other blocks do at them. -/

namespace Sys2Proof.Machine

open Sys2Proof

/-! ### Adopting a scene (R4, R13, R15, R19, R30) -/

/-- The geometry of an OVERLAY entry. -/
def overlayGeometry : Region → Option Geom
  | .overlay o => some { base := o.base, width := o.width, height := o.height }
  | _ => none

/-- R19: the geometry of an entry as a base of display `d`, if its kind is admitted. -/
def baseGeometry (d : Disp) (r : Region) : Option Geom :=
  match d, r with
  | .rear k, .film f => if f.seat = k then some { base := f.base, width := f.width, height := f.height } else none
  | .centre, r => overlayGeometry r
  | _, _ => none

/-- R19: what the engine captures of a scene from the table in force. -/
def capture (table : List Region) (d : Disp) (sc : Scene) : Captured :=
  { base := sc.base.bind (fun i => baseGeometry d (entryAt table i))
    ov0 := sc.ov0.region.bind (fun i => overlayGeometry (entryAt table i))
    ov1 := sc.ov1.region.bind (fun i => overlayGeometry (entryAt table i)) }

/-- R30: an overlay's scroll fault: it is present and its scroll rows do not add up to its height. -/
def scrollFault (o : SceneOverlay) (g : Option Geom) : Bool :=
  match g with
  | some g => o.scrT + o.scrS + o.scrB != g.height
  | none => false

/-- R4, R13, R19, R30: a display adopts a scene. -/
def Display.adopt (x : Display) (table : List Region) (d : Disp) (sc : Scene) : Display :=
  let cap := capture table d sc
  { x with
    content := if sc.enable then .scene else .disabled, active := some sc, staged := none, cap := cap,
    mark := sc.mark, fault0 := scrollFault sc.ov0 cap.ov0, fault1 := scrollFault sc.ov1 cap.ov1 }

/-- R15: the scene duty of an adopted scene. -/
def Scene.sceneDuty (sc : Scene) : Nat := if sc.enable then sc.duty else 0

/-- R4, R15: a display's staged scene, if it holds one, is adopted, and its duty preloaded. -/
def State.adoptStaged (s : State) (d : Disp) : State :=
  match (s.display d).staged with
  | none => s
  | some sc => (s.setDisplay d ((s.display d).adopt s.path.table d sc)).preloadDuty d sc.sceneDuty

/-! ### Steps of a blank event -/

/-- R3: the timing generator stands at the start of a line; a line kept through a host reset is over (R22). -/
def Display.atLine (x : Display) (line : Nat) (blanked : Bool) : Display :=
  { x with line := line, lineClk := 0, blanked := blanked, kept := none }

/-- R12: the frame-mark line after a blank event, `flip` telling whether FLIP mode raises it. -/
def Display.markBlank (x : Display) (flip : Bool) : Display :=
  { x with
    markHigh := match x.mark with
      | .off => false
      | .blank => true
      | .flip => flip }

/-- R20, R32: a frame record is latched; every slot is free. -/
def Display.latch (x : Display) (fr : FrameRecord) : Display := { x.freeAll with frame := some fr, withdraw := false }

/-- R9: the centre pressure record at a blank event: it closes the centre frame that ends there, if one does
(`ends`), and begins to describe the next. -/
def CentreState.closeFrame (c : CentreState) (ends : Bool) : CentreState :=
  { c with
    calm :=
      if ends then (if c.urgentLines = 4 ∨ c.underrunFlag = true then 0 else min (c.calm + 1) 120) else c.calm
    urgentLines := 0, underrunFlag := false }

/-- A centre frame ends at the blank event that is due: every one but that of the entry to RUNNING (R2), before
which no frame record has been latched (R9, Table 15; DEDUCED, log entry 46). -/
def State.centreFrameEnds (s : State) : Bool := s.disp.c.frame.isSome

/-- R7, R27: the centre view follows the RVC, and the interval that keeps the window clear ends. -/
def State.setView (s : State) : State :=
  s.setCentre { s.centre with view := if s.reversing then .rear else .host, keepWindow := false }

/-- R106, R110: the camera work of a centre blank event after the view is set: CAM changes the slots and RVC
makes its transition. -/
def State.cameraWork (s : State) : State :=
  let x := s.cam.blank s.centre.view s.rvc.fresh
  (s.setCam x.1).blankTransition x.2 x.1.shown.isSome

/-- R20: the frame record of the centre. -/
def State.centreFrame (s : State) : FrameRecord :=
  let x := s.disp.c
  { content := x.content, scene := x.active, cap := x.cap, view := s.centre.view, film := none,
    camBase := s.rvc.baseChoice s.cam.shown, showing := s.rvc.phase == .showing, reduced := false }

/-- R20: the frame record of a rear display. -/
def State.rearFrame (s : State) (k : Seat) : FrameRecord :=
  let x := s.display (.rear k)
  { content := x.content, scene := x.active, cap := x.cap, view := .host, film := s.shownFilm k,
    camBase := .engagingFill, showing := false, reduced := (s.rearOf k).reduced }

/-- The profile's reduce-in-reverse flag is set. -/
def State.reduceInReverse (s : State) : Bool :=
  match s.boot.profile with
  | some p => p.rev.reduce == 1
  | none => false

/-- R10: the quality mode a rear blank event decides. -/
def State.quality (s : State) (now : Bool) : Bool :=
  let reverse := s.reversing && s.reduceInReverse
  if s.centre.urgentLines == 4 || s.centre.underrunFlag || reverse then true
  else if s.centre.calm == 120 then false
  else now

/-- R10: a rear display's quality mode is decided. -/
def State.decideQuality (s : State) (k : Seat) : State :=
  s.setRear k { s.rearOf k with reduced := s.quality (s.rearOf k).reduced }

/-- The display part of a blank event once the frame record can be latched: record, frame-mark line, fetching. -/
def State.latchFrame (s : State) (d : Disp) (fr : FrameRecord) (flip : Bool) : State :=
  (s.setDisplay d (((s.display d).latch fr).markBlank flip)).refill d

/-! ### The rows -/

/-- CENTRE_BLANK_EVENT (R3, R4, R7, R9, R12, R20, R27, R32, R106, R110, R121, R177). A centre that is OFF
raises none. -/
def execCentreBlankEvent (s : State) : Out :=
  match s.timing .centre with
  | some t =>
    if s.disp.c.running then
      let s1 := (s.setDisplay .centre (s.disp.c.atLine t.ha true)).adoptStaged .centre
      let s2 := s1.setView.cameraWork
      let s3 := s2.setCentre (s2.centre.closeFrame s.centreFrameEnds)
      let s4 := s3.latchFrame .centre s3.centreFrame true
      let s5 := s4.setGuide (s4.guide.blank (s4.rvc.phase == .showing) s4.link.snapshot)
      .next s5.reportDue
    else .next s
  | none => .next s

/-- CENTRE_ACTIVE_EVENT (R3, R12, R125): the frame number advances, FM_C falls, GUIDE swaps or abandons. A
centre that is OFF raises none. -/
def execCentreActiveEvent (s : State) : Out :=
  if s.disp.c.running then
    let x := s.disp.c.atLine 0 false
    let s1 := s.setDisplay .centre { x with frameNo := x.frameNo + 1, markHigh := false }
    .next (s1.setGuide (s1.guide.active s1.boot.profile)).noteUrgent
  else .next s

/-- REAR_BLANK_EVENT (R3, R4, R10, R12, R20, R32, R68 to R73) of one rear display. A display that is OFF raises
none. -/
def execRearBlankEvent (k : Seat) (s : State) : Out :=
  match s.timing (.rear k) with
  | some t =>
    if (s.display (.rear k)).running then
      let s1 := (s.setDisplay (.rear k) ((s.display (.rear k)).atLine t.ha true)).adoptStaged (.rear k)
      let x := (s1.decideQuality k).selectFilm k
      .next (x.1.latchFrame (.rear k) (x.1.rearFrame k) x.2)
    else .next s
  | none => .next s

/-- REAR_ACTIVE_EVENT (R3, R12) of one rear display. A display that is OFF raises none. -/
def execRearActiveEvent (k : Seat) (s : State) : Out :=
  if (s.display (.rear k)).running then
    let x := (s.display (.rear k)).atLine 0 false
    .next (s.setDisplay (.rear k) { x with frameNo := x.frameNo + 1, markHigh := false })
  else .next s

/-- R22: a withdrawn film base ends with the line. -/
def Display.endWithdrawn (x : Display) : Display :=
  if x.withdraw then
    { x.freeLayer .base false with
      frame := x.frame.map (fun fr => { fr with film := none }), withdraw := false }
  else x

/-- The end of a display line: slots of finished rows are retired (R32), underruns end with the line (R35), a
withdrawn base and a kept line end (R22), and the line index advances (R1). -/
def Display.endLine (x : Display) (t : DispTiming) : Display :=
  let y := (if x.line < t.ha then x.retire x.line else x).endWithdrawn
  { y with
    line := if x.line + 1 < t.ha + t.vb then x.line + 1 else 0, lineClk := 0, lineCounted := false, kept := none }

/-- DISPLAY_LINE_END (R1, R9, R22, R32, R35) of one display. A display that is OFF has no lines. -/
def execDisplayLineEnd (d : Disp) (s : State) : Out :=
  match s.timing d with
  | some t =>
    if (s.display d).running then
      let s1 := s.setDisplay d ((s.display d).endLine t)
      let s2 := if d = .centre then s1.setCentre { s1.centre with lineUrgent := false } else s1
      .next (s2.refill d)
    else .next s
  | none => .next s

end Sys2Proof.Machine
end

