-- ==== Sys2Proof/Machine/Host.lean ====
section
/-! DEFINITION. The rows of the upstream port: a request, a dropped piece, a completed piece, and what the
owners of the notices of a completed piece do (R38 to R41, R51 to R57). -/

namespace Sys2Proof.Machine

open Sys2Proof

/-! ### Notices (R52 to R56) -/

/-- R54: a write to a chime slot: a new sequence is passed to CHIME as a command, an equal one is a repeat. -/
def State.chimeWrite (s : State) (j : Nat) (seqNo : BitVec 16) (action pattern : Nat) : State :=
  if s.path.shadows.getD j 0 = seqNo then s
  else
    let s1 := s.setPath { s.path with shadows := s.path.shadows.set j seqNo }
    s1.takeChime (s1.chime.command s1.patterns s1.stackDepth j action pattern)

/-- A notice in the machine, at its owner (Table 20). -/
def State.notice (s : State) : Notice → State
  | .generation gen scope => s.setLoad (s.load.generation gen scope)
  | .acknowledge w => s.setLoad (s.load.acknowledge w)
  | .chimeWrite j seqNo action pattern => s.chimeWrite j seqNo action pattern
  | .filmPixel i b => s.filmPixelWrite i b
  | .filmTag i b bytes => s.filmTagWrite i b bytes
  | .audioBlock i j e => s.setAud (s.aud.blockWrite i j e)
  | .partialWrite => s.setPath { s.path with partialWatch := satInc s.path.partialWatch }

/-- R52: a piece's notices in ascending address order. -/
def State.notify (s : State) (ns : List Notice) : State := ns.foldl State.notice s

/-! ### The rows -/

/-- HOST_REQUEST (R38, R42, R43). A request the port withholds acceptance from waits on the port: nothing of
the 630 changes. -/
def execHostRequest (q : HostReq) (s : State) : Out :=
  if q.wf then
    if s.accepts then .next (s.setPath (s.path.accept q)) else .next s
  else .refused .illFormed

/-- HOST_PIECE_DROP (R39, R51): the piece whose turn it is has been marked for dropping; it completes without
a grant and is counted, and WRITE_DROPPED is raised. With no such piece at its turn nothing is dropped. -/
def execHostPieceDrop (s : State) : Out :=
  match s.path.turn with
  | some x =>
    if x.drop then
      .next ((s.setPath (PathState.drain
        { s.path with
          queue := mapFirstPiece Piece.isUnissued (fun p => { p with status := .complete }) s.path.queue
          dropped := satInc s.path.dropped })).raise .writeDropped)
    else .next s
  | none => .next s

/-- The piece with its completion: its data in logical order (R46, R50), or its error (R57). -/
def Piece.finish (x : Piece) (r : Reply) : Piece :=
  match r with
  | .ok data => { x with status := .complete, got := incoming (pieceSwz x.zone x.desc) x.reversed data }
  | .error => { x with status := .complete, err := true }

/-- R52: the notices a completion gives: those of a write piece without an error. -/
def PathState.noticesOf (p : PathState) (cb : Nat) (q : HostReq) (x : Piece) (r : Reply) : List Notice :=
  match r with
  | .ok _ => if reqIsWrite q then p.notices cb q x else []
  | .error => []

/-- The beats of data a piece's completion brings: those of a read, none for a write. -/
def Piece.replyBeats (x : Piece) : Nat := if x.burst.write then 0 else x.burst.beats

/-- HOST_PIECE_COMPLETE (R40, R52, R57): the oldest granted burst is HOST's and its completion arrives. The
responses that may leave upstream leave, and the piece's notices are handed to their owners. The completion of
a piece that a host reset discarded is received and discarded (R41). When the oldest granted burst is another
requester's, or the data is not the piece's, no such completion can arrive (R59). -/
def execHostPieceComplete (r : Reply) (s : State) : Out :=
  if r.wfBurst then
    match s.dueFlight with
    | some f =>
      if f.owner = .host then
        if f.live then
          match firstPiece Piece.isIssued s.path.queue with
          | some (e, x) =>
            if r.wf x.replyBeats then
              let s1 := s.popFlight
              let p := s1.path
              let s2 := s1.setPath (PathState.drain
                { p with queue := mapFirstPiece Piece.isIssued (fun y => y.finish r) p.queue })
              .next (s2.notify (p.noticesOf s.boot.cbBase e.req x r))
            else .next s
          | none => .next s.popFlight
        else .next s.popFlight
      else .next s
    | none => .next s
  else .refused .illFormed

end Sys2Proof.Machine
end

