-- ==== Sys2Proof/Machine/Reset.lean ====
section
/-! DEFINITION. Power-on reset and host reset (R180 and every chapter's host-reset rule: R5, R13, R18, R22, R37, R41,
R62, R78, R86, R95, R163, R173). -/

namespace Sys2Proof.Machine

open Sys2Proof

/-- POWER_ON_RESET (R180): PORN falls, and every block takes its power-on values at once. The levels of the
input pins are the outside world's and stay. -/
def execPowerOnReset (s : State) : Out := .next (State.powerOn s.pins s.pending)

/-- R41: PATH at a host reset: the queue and the table are emptied, the shadows set to 0; the camera region and
the counters stay. -/
def PathState.hostReset (p : PathState) : PathState :=
  { p with queue := [], table := emptyTable, shadows := [0, 0, 0, 0] }

/-- R37: the frame a display is in, from the reset on: as for NO_SCENE, the camera base and the span painting
kept. The film base is out of the record at once; what R22 leaves to the line begun is `Display.kept`. -/
def FrameRecord.hostReset (fr : FrameRecord) : FrameRecord :=
  { fr with content := .noScene, scene := none, cap := Captured.empty, film := none }

/-- R37: the centre base is a host layer in HOST_VIEW only; a rear base is always one. -/
def Display.baseIsHost (x : Display) (d : Disp) : Bool :=
  match d, x.frame with
  | .centre, some fr => fr.view == .host
  | _, _ => true

/-- R22: the base pixels a display has for the line it has begun: none on the centre, whose base is no film; what an
earlier host reset has left to the same line; else those of its base layer `v`. -/
def Display.lineBegun (x : Display) (d : Disp) (v : Option LayerView) : Option KeptLine :=
  match d, x.kept with
  | .centre, _ => none
  | .rear _, some l => some l
  | .rear _, none => v.bind x.baseLine

/-- What a host reset leaves to the line a display has begun. R22 counts a host reset among the withdrawals that let such
a line keep its base pixels; R5, R37, R78 and Tables 15 and 73 leave it none: the free value `Config.hostResetKeepsLine`
decides (DESIGN CHOICE, log entry 42). -/
def Display.lineLeft (x : Display) (d : Disp) (v : Option LayerView) : Option KeptLine :=
  if ((x.lineBegun d v).isSome && Config.hostResetKeepsLine) = true then x.lineBegun d v else none

/-- R5, R13, R22, R30, R37: a display at a host reset, `v` being its base layer until then. Every host layer ends at once:
its slots, its requests and the data in flight with them, whatever is left to the line begun. -/
def Display.hostReset (x : Display) (d : Disp) (v : Option LayerView) : Display :=
  let y := if x.baseIsHost d then x.freeLayer .base true else x
  let z := (y.freeLayer .ov0 true).freeLayer .ov1 true
  { z with
    content := .noScene, active := none, staged := none, cap := Captured.empty, mark := .off, markHigh := false,
    frame := x.frame.map FrameRecord.hostReset, fault0 := false, fault1 := false, withdraw := false,
    kept := x.lineLeft d v }

/-- R15, R18: each started channel preloads its default duty. -/
def State.resetDuty (s : State) (d : Disp) : State :=
  match s.timing d with
  | some t => s.preloadDuty d t.duty
  | none => s

/-- R41, R62, R93, R173: ARB's counts, and the granted bursts whose completions will be discarded: those of the
discarded requests, of the abandoned prefetches and of the abandoned load. -/
def ArbState.hostReset (a : ArbState) : ArbState :=
  { hostCount := 0, loadCount := 0,
    flights := killFlights (fun o =>
      match o with
      | .host => true
      | .audio _ => true
      | .loadRead => true
      | .loadReread => true
      | .scan _ => false
      | .camera _ => false
      | .report => false) a.flights }

/-- R95: the mix record's reset values; the duck gain and the ramp counter stay. -/
def MixState.hostReset (m : MixState) : MixState :=
  { m with v := ⟨0, 0⟩, route := .silent, vc := 0, duck := 256, mute := false }

/-- R78: a rear display has no presented set; its counters stay. -/
def RearState.hostReset (r : RearState) : RearState := { r with presented := none }

/-- R84, R86: a stream at a host reset: STOPPED without a ring; its block sequence and counters stay. -/
def Stream.hostReset (st : Stream) : Stream := { st with phase := .stopped, ring := none }

/-- R86, R93: AUD at a host reset: both streams stop and both prefetches are abandoned; the frame clock runs. -/
def AudState.hostReset (a : AudState) : AudState :=
  { a with streams := ⟨a.streams.l.hostReset, a.streams.r.hostReset⟩, due := [] }

/-- The falling edge of HRSTN outside power-on reset: every block's host-reset effects at once. BOOT, TB, CAM,
RVC, GUIDE and LINK do not take it (R119, R120, R138, R180, R181), and the pressure record stays as it is (R9). -/
def State.applyHostReset (s : State) : State :=
  let s1 := (s.setPath s.path.hostReset).setArb s.arb.hostReset
  let s2 := s1.setDisps
    ⟨s1.disp.c.hostReset .centre (s1.layer .centre .base),
      s1.disp.l.hostReset (.rear .left) (s1.layer (.rear .left) .base),
      s1.disp.r.hostReset (.rear .right) (s1.layer (.rear .right) .base)⟩
  let s3 := (s2.setSets noSets).setRears ⟨s2.rear.l.hostReset, s2.rear.r.hostReset⟩
  let s4 := (s3.setAud s3.aud.hostReset).setMix s3.mix.hostReset
  let s5 := (s4.setChime s4.chime.hostReset).setLoad s4.load.hostReset
  let s6 := ((s5.resetDuty .centre).resetDuty (.rear .left)).resetDuty (.rear .right)
  ((s6.refetch .centre).refetch (.rear .left)).refetch (.rear .right)

/-- HOST_RESET (R180): HRSTN falls. In power-on reset only the level changes; a level already low does not
fall. -/
def execHostReset (s : State) : Out :=
  if s.pins.hrstnLow then .next s
  else
    let s1 := s.setPins { s.pins with hrstnLow := true }
    if s.boot.startup = .reset then .next s1 else .next s1.applyHostReset

/-- HOST_RESET_RELEASE (R38): HRSTN rises, and the upstream port accepts again. -/
def execHostResetRelease (s : State) : Out := .next (s.setPins { s.pins with hrstnLow := false })

end Sys2Proof.Machine
end

