-- ==== Sys2Proof/Machine/Dispatch.lean ====
section
/-! DEFINITION. One arm per command: its meaning, named in full. -/

namespace Sys2Proof.Machine

open Sys2Proof

def exec (i : Instr) (s : State) : Host.Outcome State Fault Refusal :=
  match i with
  | .powerOnReset => Sys2Proof.Machine.execPowerOnReset s
  | .pornRelease cbsel => Sys2Proof.Machine.execPornRelease cbsel s
  | .hostReset => Sys2Proof.Machine.execHostReset s
  | .hostResetRelease => Sys2Proof.Machine.execHostResetRelease s
  | .clockCheckEnd elapsed => Sys2Proof.Machine.execClockCheckEnd elapsed s
  | .profileLengthRead b0 b1 => Sys2Proof.Machine.execProfileLengthRead b0 b1 s
  | .profileReadDone rest => Sys2Proof.Machine.execProfileReadDone rest s
  | .cameraRegionDefine => Sys2Proof.Machine.execCameraRegionDefine s
  | .tbTick => Sys2Proof.Machine.execTbTick s
  | .hostRequest q => Sys2Proof.Machine.execHostRequest q s
  | .arbGrant => Sys2Proof.Machine.execArbGrant s
  | .burstHandoverDone => Sys2Proof.Machine.execBurstHandoverDone s
  | .hostPieceDrop => Sys2Proof.Machine.execHostPieceDrop s
  | .hostPieceComplete r => Sys2Proof.Machine.execHostPieceComplete r s
  | .loadReadBurstComplete r => Sys2Proof.Machine.execLoadReadBurstComplete r s
  | .loadRereadComplete r => Sys2Proof.Machine.execLoadRereadComplete r s
  | .loadCheck => Sys2Proof.Machine.execLoadCheck s
  | .reportTick => Sys2Proof.Machine.execReportTick s
  | .reportBurstComplete err => Sys2Proof.Machine.execReportBurstComplete err s
  | .centreBlankEvent => Sys2Proof.Machine.execCentreBlankEvent s
  | .centreActiveEvent => Sys2Proof.Machine.execCentreActiveEvent s
  | .guideBuildComplete => Sys2Proof.Machine.execGuideBuildComplete s
  | .rearBlankEvent k => Sys2Proof.Machine.execRearBlankEvent k s
  | .rearActiveEvent k => Sys2Proof.Machine.execRearActiveEvent k s
  | .displayLineEnd d => Sys2Proof.Machine.execDisplayLineEnd d s
  | .layerUnderrun d layer col => Sys2Proof.Machine.execLayerUnderrun d layer col s
  | .scanBurstComplete d r => Sys2Proof.Machine.execScanBurstComplete d r s
  | .pwmPeriodEnd d => Sys2Proof.Machine.execPwmPeriodEnd d s
  | .backlightFault d => Sys2Proof.Machine.execBacklightFault d s
  | .outputFrame => Sys2Proof.Machine.execOutputFrame s
  | .duckStep => Sys2Proof.Machine.execDuckStep s
  | .blockBoundary => Sys2Proof.Machine.execBlockBoundary s
  | .audioBurstComplete r => Sys2Proof.Machine.execAudioBurstComplete r s
  | .chimeStepEnd => Sys2Proof.Machine.execChimeStepEnd s
  | .fadeEnd => Sys2Proof.Machine.execFadeEnd s
  | .cameraFrameStart elapsed => Sys2Proof.Machine.execCameraFrameStart elapsed s
  | .cameraLineStart => Sys2Proof.Machine.execCameraLineStart s
  | .cameraPixel rgb => Sys2Proof.Machine.execCameraPixel rgb s
  | .cameraLineEnd => Sys2Proof.Machine.execCameraLineEnd s
  | .cameraFrameEnd => Sys2Proof.Machine.execCameraFrameEnd s
  | .cameraBurstComplete err => Sys2Proof.Machine.execCameraBurstComplete err s
  | .cameraLoss => Sys2Proof.Machine.execCameraLoss s
  | .revinChange => Sys2Proof.Machine.execRevinChange s
  | .debounceExpiry => Sys2Proof.Machine.execDebounceExpiry s
  | .engageTimerExpiry => Sys2Proof.Machine.execEngageTimerExpiry s
  | .freezeTimerExpiry => Sys2Proof.Machine.execFreezeTimerExpiry s
  | .releaseTimerExpiry => Sys2Proof.Machine.execReleaseTimerExpiry s
  | .linkByteTaken b => Sys2Proof.Machine.execLinkByteTaken b s
  | .linkStopBitError => Sys2Proof.Machine.execLinkStopBitError s
  | .gapTimerExpiry => Sys2Proof.Machine.execGapTimerExpiry s
  | .freshnessTimerExpiry k => Sys2Proof.Machine.execFreshnessTimerExpiry k s
  | .linkStartBit => Sys2Proof.Machine.execLinkStartBit s
  | .faultInputRelease d => Sys2Proof.Machine.execFaultInputRelease d s

end Sys2Proof.Machine
end

