-- ==== Sys2Proof/Machine/Step.lean ====
section
/-! DEFINITION. One step: the command at the front of the queue, or, with no command waiting, one reference tick. -/

namespace Sys2Proof.Machine

open Sys2Proof

/-- One step. The command at the front runs on the state with the rest of the queue. On an empty queue one
reference tick passes: the counters of reference ticks count on and nothing else happens (log entry 1). -/
def step (s : State) : Host.Outcome State Fault Refusal :=
  match s.pending with
  | [] => .next (s.advance 1)
  | c :: rest => exec c (s.setPending rest)

/-- The state with the command a word spells at the front of its queue. No row of the table gives bits, so no
word spells one and the state is unchanged. -/
def State.withFetchWord (s : State) (nbits w : Nat) : State :=
  match decodeTableWord nbits w with
  | some c => s.setPending (c :: s.pending)
  | none => s

end Sys2Proof.Machine
end

