-- ==== Sys2Proof/Machine/Compose.lean ====
section
/-! DEFINITION. Composition (R6, R21 to R31) and the pixel outputs (R1, R2): what a display drives at a column of its
present line. It is an output computed from the state, not a part of it. -/

namespace Sys2Proof.Machine

open Sys2Proof

/-! ### Alpha (R28) -/

/-- R28 step 2: the combined alpha of a layer alpha and a pixel alpha. -/
def combinedAlpha (la pa : Nat) : Nat := ((la + la / 128) * pa + 128) / 256

/-- R28 step 4: one channel of an overlay pixel over the running value. -/
def blendChannel (a fg bg : Nat) : Nat :=
  let a' := a + a / 128
  (a' * fg + (256 - a') * bg + 128) / 256

/-- A channel of a pixel: 0 blue, 1 green, 2 red, 3 alpha (00_scope 1.6). -/
def channel (w : Word) (i : Nat) : Nat := (w.extractLsb' (8 * i) 8).toNat

/-- R28: an overlay pixel over the running value, for a layer alpha. The alpha byte of the result is not
driven (R20) and is 0 here. -/
def blend (la : Nat) (fg bg : Word) : Word :=
  let a := combinedAlpha la (channel fg 3)
  let f : Nat → Byte := fun i => BitVec.ofNat 8 (blendChannel a (channel fg i) (channel bg i))
  (0 : Byte) ++ f 2 ++ f 1 ++ f 0

/-! ### Spans (R31) -/

/-- The lowest band among the spans that cover a camera column. -/
def bandAt (row : SpanRow) (c : Nat) : Option Nat :=
  (row.spans.filter (fun x => decide (x.s ≤ c ∧ c ≤ x.e))).foldl
    (fun best x =>
      match best with
      | none => some x.band
      | some b => some (min b x.band)) none

/-- The profile colour of a band. -/
def GuideProfile.colour (g : GuideProfile) (band : Nat) : Word :=
  if band = 1 then g.colour1 else if band = 2 then g.colour2 else if band = 3 then g.colour3 else g.colourStatic

/-- R31: the span colour at a display column and row of the centre, if a span covers it. -/
def spanColour (p : Profile) (front : SpanTable) (x y : Nat) : Option Word :=
  if p.cam.cx ≤ x ∧ p.cam.cy ≤ y then
    (bandAt (front.rows.getD (y - p.cam.cy) SpanRow.empty) (x - p.cam.cx)).map p.guide.colour
  else none

/-! ### The stack (R21) -/

/-- Black. -/
def black : Word := 0

/-- The base pixel of the centre in REAR_VIEW where a fill is chosen (R24). -/
def cameraFill (p : Profile) (fr : FrameRecord) (x y : Nat) : Option Word :=
  if (clipRect p.disp.c p.cam.cx p.cam.cy p.cam.width p.cam.height).holds x y then
    match fr.camBase with
    | .engagingFill => some black
    | .unavailableFill => some p.cam.unavailable
    | .slot _ => none
  else none

/-- The pixel a fetched layer gives at a display column and row, if it covers and draws it and its data is
there. -/
def fetchedPixel (b : LayerBuf) (v : Option LayerView) (x y : Nat) : Option Word :=
  match v with
  | none => none
  | some v => if v.rect.holds x y && v.draws x y then b.pixelAt v x y else none

/-- R21 step 2: the base pixel of display `d` at a column and row. On a line kept through a host reset it is the one the
line had before (R22, log entry 42). -/
def basePixel (p : Profile) (d : Disp) (fr : FrameRecord) (x : Display) (col row : Nat) : Option Word :=
  match d, fr.view with
  | .centre, .rear =>
    match cameraFill p fr col row with
    | some w => some w
    | none => fetchedPixel x.base (layerOf p d fr .base) col row
  | .centre, .host => fetchedPixel x.base (layerOf p d fr .base) col row
  | .rear _, _ =>
    match x.kept with
    | some l => l.pixel col
    | none => fetchedPixel x.base (layerOf p d fr .base) col row

/-- R21 step 4: one overlay blended over the running value where it covers and draws the pixel. -/
def overlayOver (p : Profile) (d : Disp) (fr : FrameRecord) (l : LayerId) (b : LayerBuf) (x y : Nat) (bg : Word) : Word :=
  match fetchedPixel b (layerOf p d fr l) x y, fr.overlay l with
  | some w, some o => blend o.la w bg
  | _, _ => bg

/-- R21 step 1: the background colour. -/
def background (t : DispTiming) (fr : FrameRecord) : Word :=
  match fr.content, fr.scene with
  | .scene, some sc => sc.background
  | _, _ => t.background

/-- R21: the pixel of a frame of display `d` at a column and row, by the stack. -/
def stackPixel (p : Profile) (d : Disp) (x : Display) (fr : FrameRecord) (front : SpanTable) (col row : Nat) : Word :=
  let v0 := (basePixel p d fr x col row).getD (background (Tri.get p.disp d) fr)
  let v1 :=
    if d = .centre ∧ fr.view = .rear ∧ fr.showing = true then (spanColour p front col row).getD v0 else v0
  overlayOver p d fr .ov1 x.ov1 col row (overlayOver p d fr .ov0 x.ov0 col row v1)

/-- R6, R21: the display outputs black and forms no stack. -/
def isDark (d : Disp) (fr : FrameRecord) : Bool := fr.content == .disabled && !(d == .centre && fr.view == .rear)

/-- The red, green and blue that a display drives at a column of its present line (R20); none while it is OFF,
on a blank line, beyond the active width, or before a frame record is latched. During the interval of R27
the pixels of the protected window show the engaging fill, black. -/
def State.outputPixel (s : State) (d : Disp) (col : Nat) : Option (BitVec 24) :=
  let x := s.display d
  match s.boot.profile, x.frame with
  | some p, some fr =>
    let t := Tri.get p.disp d
    if x.running && decide (x.line < t.ha) && decide (col < t.wa) then
      let w := if isDark d fr || s.keptClear d col x.line then black else stackPixel p d x fr s.guide.front col x.line
      some (w.extractLsb' 0 24)
    else none
  | _, _ => none

/-! ### The pixel output (R1, R2) -/

/-- What the pixel output of a display does at a moment. -/
inductive PixelOutput where
  /-- It is held at rest: a level, and whether synchronisation is active (R2). -/
  | atRest (level : BitVec 24) (syncActive : Bool)
  /-- The display runs, and the output carries no pixel: a blank line, or the clocks behind the active width (R1). -/
  | noPixel
  /-- It carries the red, green and blue of a pixel. -/
  | pixel (rgb : BitVec 24)
  deriving DecidableEq, Repr

/-- R1, R2: the pixel output of a display at a pixel clock of its present line: in OFF it is held at rest with black
level and inactive synchronisation; in RUNNING it carries the pixels of the active lines. Where the synchronisation
pulses of a running display fall is no part of the manual (R1). -/
def State.pixelOutput (s : State) (d : Disp) (clk : Nat) : PixelOutput :=
  if (s.display d).running then
    match s.outputPixel d clk with
    | some rgb => .pixel rgb
    | none => .noPixel
  else .atRest (black.extractLsb' 0 24) false

end Sys2Proof.Machine
end

