-- ==== Sys2Proof/Safety.lean ====
section
/-! DEFINITION. What counts as a safe run: `timely`, the moments at which the spec lets each row happen, and the
invariants of the state that the spec's prose states, in the terms the claims use. -/

namespace Sys2Proof.Machine

open Sys2Proof

/-! ### When a row may happen -/

/-- The oldest granted burst has been handed over and belongs to an owner chosen (R59). -/
def State.dueFor (s : State) (p : Owner → Bool) : Bool :=
  match s.dueFlight with
  | some f => p f.owner
  | none => false

/-- A display stands at the start of a line. -/
def Display.starts (x : Display) (line : Nat) : Bool := x.running && x.line == line && x.lineClk == 0

/-- Whether the spec lets a row happen in a state: its clock stands where the row's event falls, its port has
something to bring, or its input changes. The meanings are laxer (log entry 3): they act wherever the row's
event makes sense, so a run of timely rows is a run of theirs. -/
def timely (c : Instr) (s : State) : Bool :=
  match c with
  | .powerOnReset => s.boot.startup != .reset
  | .pornRelease _ => s.boot.startup == .reset
  | .hostReset => !s.pins.hrstnLow
  | .hostResetRelease => s.pins.hrstnLow
  | .clockCheckEnd _ => s.boot.startup == .clockCheck
  | .profileLengthRead _ _ => s.boot.startup == .profileRead && s.boot.imageLen.isNone
  | .profileReadDone rest =>
    s.boot.startup == .profileRead && !s.boot.asked && s.boot.imageLen == some (rest.length + 2)
  | .cameraRegionDefine => s.mayDefine
  | .tbTick => s.tb.running && s.tb.sub == Config.ticksPerMs
  | .hostRequest _ => s.accepts
  | .arbGrant => s.portFree && (grantChoice s.asks s.urgent s.arb.hostCount s.arb.loadCount).isSome
  | .burstHandoverDone => !s.portFree
  | .hostPieceDrop => s.path.turn.any (·.drop)
  | .hostPieceComplete _ => s.dueFor (· == .host)
  | .loadReadBurstComplete _ => s.dueFor (· == .loadRead)
  | .loadRereadComplete _ => s.dueFor (· == .loadReread)
  | .loadCheck => s.load.phase == .checking
  | .reportTick => s.load.begun && !s.disp.c.running && s.load.tick16 == 16 && s.tb.sub == 0
  | .reportBurstComplete _ => s.dueFor (· == .report)
  | .centreBlankEvent =>
    !s.disp.c.blanked && (match s.timing .centre with
      | some t => s.disp.c.starts t.ha
      | none => false)
  | .centreActiveEvent => s.disp.c.blanked && s.disp.c.starts 0
  | .guideBuildComplete =>
    (match s.guide.build, s.boot.profile with
     | some n, some p => decide (buildSteps p.guide p.cam n ≤ s.guide.work)
     | _, _ => false)
  | .rearBlankEvent k =>
    !(s.display (.rear k)).blanked && (match s.timing (.rear k) with
      | some t => (s.display (.rear k)).starts t.ha
      | none => false)
  | .rearActiveEvent k => (s.display (.rear k)).blanked && (s.display (.rear k)).starts 0
  | .displayLineEnd d =>
    (match s.timing d with
     | some t => (s.display d).running && (s.display d).lineClk == t.lineClocks
     | none => false)
  | .layerUnderrun d l col => s.meetsUnderrun d l col
  | .scanBurstComplete d _ => s.dueFor (· == .scan d)
  | .pwmPeriodEnd d =>
    (match s.timing d with
     | some t => (s.pwm d).started && (s.pwm d).position t.period == t.period - 1
     | none => false)
  | .backlightFault d => !Tri.get s.pins.fault d
  | .outputFrame => s.aud.clock && s.aud.sub == Config.ticksPerFrame
  | .duckStep => s.aud.clock && s.mix.ramp == 0 && s.aud.sub == 0
  | .blockBoundary => s.aud.clock && s.aud.lastFrame && s.aud.sub == Config.ticksPerFrame
  | .audioBurstComplete _ =>
    s.dueFor (fun o =>
      match o with
      | .audio _ => true
      | _ => false)
  | .chimeStepEnd =>
    s.chime.phase == .playing && s.chime.playing.any (fun e =>
      s.chime.frame == ((patternAt s.patterns e.pattern).stepAt s.chime.step).frames)
  | .fadeEnd => s.chime.phase == .switching && s.chime.fade.any (·.m == 240)
  | .cameraFrameStart _ => true
  | .cameraLineStart => true
  | .cameraPixel _ => true
  | .cameraLineEnd => true
  | .cameraFrameEnd => true
  | .cameraBurstComplete _ =>
    s.dueFor (fun o =>
      match o with
      | .camera _ => true
      | _ => false)
  | .cameraLoss => s.cam.phase == .receiving && s.cam.period == some (Config.periodLimit * 24)
  | .revinChange => true
  | .debounceExpiry => s.rvc.debounce == some 0
  | .engageTimerExpiry => s.rvc.engage == some 0
  | .freezeTimerExpiry => s.rvc.freeze == some 0
  | .releaseTimerExpiry => s.rvc.release == some 0
  | .linkByteTaken _ => s.link.inByte
  | .linkStopBitError => s.link.inByte
  | .gapTimerExpiry => s.link.gap == some (Config.gapLimit + 1)
  | .freshnessTimerExpiry k => (s.link.kind k).timer == some 0
  | .linkStartBit => s.link.started && s.link.rx != .inByte
  | .faultInputRelease d => Tri.get s.pins.fault d

/-! ### The passing of time -/

/-- What `n` reference ticks make of a display `x` of timing `t` that runs: its place in the line is 8 clocks of 192 MHz
further for each tick, and is held at the line's length (R1). -/
def Display.ticked (x : Display) (t : DispTiming) (n : Nat) : Display :=
  { x with lineClk := min (x.lineClk + 8 * n) ((t.wa + t.hb) * t.d) }

/-- What `n` reference ticks make of a started backlight channel `c` of period `period`: the counter goes up from 0 to the
last value below half the period and back down to 0, one place for each tick (R14). -/
def PwmState.ticked (c : PwmState) (period n : Nat) : PwmState :=
  let place := if c.down = true then period - 1 - c.counter else c.counter
  let next := (place + n) % period
  if next < period / 2 then { c with counter := next, down := false }
  else { c with counter := period - 1 - next, down := true }

/-- `u` is the machine `s` after `n` reference ticks with no row between them (log entry 1): the counters of reference
ticks and of the 192 MHz clock count on, each held where its event falls due (log entry 3), and nothing else changes. -/
def TicksPass (n : Nat) (s u : State) : Prop :=
  u = { s with
        boot := u.boot, tb := u.tb, disp := u.disp, aud := u.aud, cam := u.cam, guide := u.guide, link := u.link,
        bl := u.bl } ∧
  u.tb = (if s.tb.running = true then { s.tb with sub := min (s.tb.sub + n) 24000 } else s.tb) ∧
  u.boot = (if s.boot.startup = .clockCheck then { s.boot with clkCount := min (s.boot.clkCount + n) 8191 } else s.boot) ∧
  u.aud = (if s.aud.clock = true then { s.aud with sub := min (s.aud.sub + n) 500 } else s.aud) ∧
  u.cam = { s.cam with period := s.cam.period.map (fun c => min (c + n) (1048575 * 24)) } ∧
  u.link = { s.link with gap := s.link.gap.map (fun g => min (g + n) 24001) } ∧
  u.guide = (if s.guide.build.isSome = true then { s.guide with work := s.guide.work + 8 * n } else s.guide) ∧
  (∀ d p, s.boot.profile = some p →
    ((s.display d).running = true → u.display d = (s.display d).ticked (Tri.get p.disp d) n) ∧
    ((s.pwm d).started = true → u.pwm d = (s.pwm d).ticked (Tri.get p.disp d).period n)) ∧
  (∀ d, ((s.display d).running = false → u.display d = s.display d) ∧
    ((s.pwm d).started = false → u.pwm d = s.pwm d)) ∧
  (s.boot.profile = none → u.disp = s.disp ∧ u.bl = s.bl)

/-- Every counter that a reference tick moves stands within its bounds, those of R1, R14, R87, R103, R141 and R181. -/
def TickBoundsHold (s : State) : Prop :=
  s.tb.sub ≤ 24000 ∧ s.boot.clkCount ≤ 8191 ∧ s.aud.sub ≤ 500 ∧ (∀ n, s.cam.period = some n → n ≤ 1048575 * 24) ∧
  (∀ n, s.link.gap = some n → n ≤ 24001) ∧
  ∀ d p, s.boot.profile = some p →
    ((s.display d).running = true →
      (s.display d).lineClk ≤ ((Tri.get p.disp d).wa + (Tri.get p.disp d).hb) * (Tri.get p.disp d).d) ∧
    ((s.pwm d).started = true → (s.pwm d).counter < (Tri.get p.disp d).period / 2)

/-! ### What a rejected camera frame leaves (R101) -/

/-- R101: the frame being stored is rejected: its slot is EMPTY, the pixels in the line buffer and the bursts not granted
are discarded, the granted ones will be, the rejected counter is one more, and nothing else changes. -/
def State.withFrameRejected (s : State) (w : Writing) : State :=
  { s with
    cam := { s.cam with
             slots := s.cam.slots.set w.slot .empty, writing := none, buf := [], bursts := [],
             rejected := min (s.cam.rejected + 1) 65535 },
    arb := { s.arb with
             flights := s.arb.flights.map (fun f =>
               match f.owner with
               | .camera _ => { f with live := false }
               | _ => f) } }

/-! ### Invariants -/

/-- R180: while PORN is low every block holds its power-on values. -/
def HeldInReset (s : State) : Prop := s.boot.startup = .reset → s = State.powerOn s.pins s.pending

/-- R176: IRQ is high exactly while the delivered set and the mask have a cause in common. -/
def IrqFormed (s : State) : Prop := s.load.irq = irqLevel s.load.delivered s.load.mask

/-- Every 16-bit event counter of the status page (00_scope 1.6). -/
def State.counters (s : State) : List Nat :=
  [s.path.dropped, s.path.partialWatch, s.path.split, s.path.fetchErrors, s.disp.c.underruns, s.disp.l.underruns,
   s.disp.r.underruns, s.rear.l.dropped, s.rear.l.repeated, s.rear.l.reclaimed, s.rear.l.torn, s.rear.l.late,
   s.rear.r.dropped, s.rear.r.repeated, s.rear.r.reclaimed, s.rear.r.torn, s.rear.r.late,
   s.aud.streams.l.underruns, s.aud.streams.l.lateWrites, s.aud.streams.r.underruns, s.aud.streams.r.lateWrites,
   s.cam.received, s.cam.rejected, s.guide.overruns, s.link.good, s.link.checkErrors, s.link.gaps,
   s.load.restarts, s.load.skipped]

/-- Every event counter holds at 65535 (00_scope 1.6). -/
def CountersHold (s : State) : Prop := ∀ n ∈ s.counters, n ≤ 65535

/-- R67: in a buffer set at most one buffer is SHOWN, and the ready queue holds exactly the READY buffers,
without duplicates. A buffer has a tag record exactly while it is READY or SHOWN (R63). -/
def BufSet.Sound (b : BufSet) : Prop :=
  (∀ i j, i < b.bufs.length → j < b.bufs.length → (b.buf i).phase = .shown → (b.buf j).phase = .shown → i = j) ∧
  (∀ i, i ∈ b.ready ↔ i < b.bufs.length ∧ (b.buf i).phase = .ready) ∧
  b.ready.Nodup ∧
  (∀ i, i < b.bufs.length → ((b.buf i).tag.isSome ↔ (b.buf i).phase = .ready ∨ (b.buf i).phase = .shown))

/-- R67 in every buffer set. -/
def SetsSound (s : State) : Prop := ∀ i b, s.setAt i = some b → b.Sound

/-- R104: there are four slots; at most one is SHOWING; the slot being WRITTEN is the one a frame is being stored
in; the arrival list holds exactly the COMPLETE and SHOWING slots, each once. -/
def CamState.Sound (c : CamState) : Prop :=
  c.slots.length = 4 ∧
  (∀ j k, c.slot j = .showing → c.slot k = .showing → j = k) ∧
  (∀ k, c.slot k = .writing ↔ c.writing.map (·.slot) = some k) ∧
  (∀ k, k ∈ c.arrivals ↔ c.slot k = .complete ∨ c.slot k = .showing) ∧
  c.arrivals.Nodup

/-- R104 of the machine. -/
def CameraSound (s : State) : Prop := s.cam.Sound

/-- R134: a row holds at most 6 spans, in order, none reversed, each of band 1, 2, 3 or 4, and no two of one band
overlap or touch. -/
def SpanRow.Sound (r : SpanRow) : Prop :=
  r.spans.length ≤ 6 ∧ r.spans.Pairwise (fun a b => a.before b = true) ∧
  (∀ a ∈ r.spans, a.s ≤ a.e ∧ 1 ≤ a.band ∧ a.band ≤ 4) ∧
  r.spans.Pairwise (fun a b => a.band = b.band → a.e + 1 < b.s ∨ b.e + 1 < a.s)

/-- R134 in a table, with its overfull-row count (R136). -/
def SpanTable.Sound (t : SpanTable) : Prop :=
  (∀ r ∈ t.rows, r.Sound) ∧ t.overfullRows = t.rows.countP (·.overfull)

/-- R120, R134: a table is the empty one or has one row for each camera row, and every span lies within the camera
image. -/
def SpanTable.Within (t : SpanTable) (c : CameraProfile) : Prop :=
  (t.rows = [] ∨ t.rows.length = c.height) ∧ ∀ r ∈ t.rows, ∀ a ∈ r.spans, a.e < c.width

/-- R120, R134 in both span tables; until GUIDE has its profile both are empty. -/
def SpansSound (s : State) : Prop :=
  s.guide.front.Sound ∧ s.guide.back.Sound ∧
  (s.boot.profile = none → s.guide.front.rows = [] ∧ s.guide.back.rows = []) ∧
  (∀ p, s.boot.profile = some p → s.guide.front.Within p.cam ∧ s.guide.back.Within p.cam)

/-- R1, R2, R186: a display is RUNNING only once BOOT is, with a timing in range, and its line index is a line of
its frame. -/
def DisplaySound (s : State) (d : Disp) : Prop :=
  (s.display d).running = true →
    s.boot.startup = .running ∧
      ∃ t, s.timing d = some t ∧ t.drives d = true ∧ (s.display d).line < t.ha + t.vb

/-- R1, R2 of the three displays. -/
def LinesSound (s : State) : Prop := ∀ d, DisplaySound s d

/-- R185, R186: until BOOT enters RUNNING no block of the profile's has started. -/
def BeforeRunning (s : State) : Prop :=
  s.boot.startup ≠ .running →
    s.boot.profile = none ∧ s.path.cam = none ∧
    (∀ d, (s.display d).running = false ∧ (s.pwm d).started = false) ∧
    s.cam.phase = .idle ∧ s.guide.build = none ∧ s.link.started = false ∧
    s.chime.started = false ∧ s.chime.phase = .idle ∧ s.chime.playing = none ∧ s.chime.stack = [] ∧
    s.chime.waiting = []

/-- R178, R179: LOAD's slot presents one of the report's eight bursts only while a report is in flight. -/
def LoadState.Sound (l : LoadState) : Prop :=
  (∀ i, l.slot = some (.reportBurst i) → i < 8 ∧ ∃ r, l.report = some r ∧ r.granted = i) ∧
  (∀ i, l.slot = some (.readBurst i) → i < 10)

/-- The granted bursts of a report whose completions have not arrived. -/
def State.reportFlights (s : State) : Nat := s.arb.flights.countP (fun f => f.owner == .report)

/-- R178, R179 of the machine: every granted burst of the report in flight is back or still in flight. -/
def SlotSound (s : State) : Prop :=
  s.load.Sound ∧
    (match s.load.report with
     | some r => r.granted ≤ 8 ∧ r.back + s.reportFlights = r.granted ∧ r.back < 8
     | none => s.reportFlights = 0)

/-- The entries CHIME holds: the playing entry, the stack, the pending list. -/
def ChimeState.entries (c : ChimeState) : List ChimeEntry := c.playing.toList ++ c.stack ++ c.waiting

/-- R151, R153, R159: each pattern has at most one entry; the pending list holds at most 8, by priority and then by
arrival; CHIME in IDLE holds nothing, and in PLAYING it holds a playing entry; an entry on the stack has a resume
point, one in the pending list has none. -/
def ChimeState.Sound (c : ChimeState) : Prop :=
  (c.entries.map (·.pattern)).Nodup ∧ c.waiting.length ≤ 8 ∧ (∀ e ∈ c.entries, e.arrival < c.nextArrival) ∧
  c.waiting.Pairwise (fun a b => b.priority < a.priority ∨ (a.priority = b.priority ∧ a.arrival < b.arrival)) ∧
  (c.phase = .idle → c.entries = []) ∧ (c.phase = .playing → c.playing.isSome = true) ∧
  (∀ e ∈ c.stack, e.resume.isSome = true) ∧ (∀ e ∈ c.waiting, e.resume = none)

/-- R151 of the machine. -/
def ChimeSound (s : State) : Prop := s.chime.Sound

/-- R151: every entry has a source, each once; a source belongs to at most one entry; the stack's priorities rise to its
top, and the playing entry's lies above the stack's and at or above every waiting entry's. -/
def ChimeState.Ranked (c : ChimeState) : Prop :=
  (∀ e ∈ c.entries, e.sources ≠ [] ∧ e.sources.Nodup) ∧
  c.entries.Pairwise (fun a b => ∀ x ∈ a.sources, x ∉ b.sources) ∧
  c.stack.Pairwise (fun a b => a.priority < b.priority) ∧
  (∀ e, c.playing = some e → (∀ x ∈ c.stack, x.priority < e.priority) ∧ ∀ w ∈ c.waiting, w.priority ≤ e.priority)

/-- R151, R152, R117, R148 of the machine: the entries are ranked and sourced; the stack holds at most the profile
depth, and without a profile there is no entry; an entry holds the pattern that each of its sources asks for. -/
def ChimeRanked (s : State) : Prop :=
  s.chime.Ranked ∧ s.chime.stack.length ≤ s.stackDepth ∧ (s.boot.profile = none → s.chime.entries = []) ∧
  (∀ p, s.boot.profile = some p → ∀ e ∈ s.chime.entries,
    (∀ k, Source.cond k ∈ e.sources → e.pattern = p.condMap.getD k 0xFF) ∧
      (Source.reverse ∈ e.sources → e.pattern = p.rev.chime) ∧ (∀ j, Source.slot j ∈ e.sources → j < 4))

/-- R182 to R185: a profile is held only after it has passed its checks against the control block's base: BOOT asks for
the camera region on an image that has passed them, and the values it hands over are in range. -/
def ProfileSound (s : State) : Prop :=
  (s.boot.startup = .reset ∨ s.boot.startup = .clockCheck → s.boot.asked = false) ∧
  (s.boot.startup = .profileRead → s.boot.asked = true →
    s.boot.imageLen.isSome = true ∧ imageOk s.boot.image s.boot.cbBase = true) ∧
  (∀ p, s.boot.profile = some p → p.ok s.boot.cbBase = true)

/-- The counts and lists that the spec bounds: the starvation counts (R62), the pressure record (R9), the duck gain
(R96), the upstream queue (R38), the running reference count (R181), and the ticks toward a report (R177). -/
def BoundsHold (s : State) : Prop :=
  s.arb.hostCount ≤ 8 ∧ s.arb.loadCount ≤ 64 ∧ s.centre.urgentLines ≤ 4 ∧ s.centre.calm ≤ 120 ∧ s.mix.gain ≤ 256 ∧
  s.path.queue.length ≤ 8 ∧ s.boot.clkCount ≤ 8191 ∧ s.load.tick16 ≤ 16

/-- R9: the pressure record of `t` is `c`, but that the present centre line, if SCAN_C is urgent and the line has not been
counted yet, is counted once, up to 4. -/
def CountsUrgentLine (c : CentreState) (t : State) : Prop :=
  t.centre =
    if t.urgent .scanC = true ∧ c.lineUrgent = false then
      { c with urgentLines := min (c.urgentLines + 1) 4, lineUrgent := true }
    else c

/-- R17, R18: a channel's output enable is set exactly while it is started and its fault latch is clear, and a channel
that has not started has no latched fault. -/
def BacklightSound (s : State) : Prop :=
  ∀ d, (s.pwm d).enabled = ((s.pwm d).started && !(s.pwm d).latch) ∧
    ((s.pwm d).started = false → (s.pwm d).latch = false)

/-- R140, R141: the assembler holds at most 7 bytes, the first of them the start marker, and the gap timer runs only
while it holds some. -/
def LinkSound (s : State) : Prop :=
  s.link.held.length ≤ 7 ∧ (∀ b, s.link.held.head? = some b → b = 0x5A) ∧
  (s.link.gap.isSome = true → s.link.held ≠ [])

/-- R109, R111, R113: the engage timer runs only in ENGAGING, the release timer only in RELEASING. -/
def RvcTimersSound (s : State) : Prop :=
  (s.rvc.engage.isSome = true → s.rvc.phase = .engaging) ∧ (s.rvc.release.isSome = true → s.rvc.phase = .releasing)

/-! ### Abandoned prefetches -/

/-- R93: between `s` and `t` the prefetches of the streams chosen by `gone` are abandoned: they leave the turns for AUD's
request slot, so that none of them presents a burst, their granted bursts will be discarded, and the slot passes to
another stream's; of AUD's and ARB's state nothing else but the streams changes. -/
def AbandonsPrefetches (gone : Seat → Bool) (s t : State) : Prop :=
  t.aud = { s.aud with streams := t.aud.streams, due := s.aud.due.filter (fun k => !gone k) } ∧
  (∀ k b, t.aud.presents = some (k, b) → gone k = false) ∧
  t.arb = { s.arb with
            flights := s.arb.flights.map (fun f =>
              match f.owner with
              | .audio k => { f with live := f.live && !gone k }
              | _ => f) }

/-! ### Fetching a new frame -/

/-- R32: what a blank event leaves of a display's fetching, for the layers of the frame it has latched and the request
the engine had before: nothing fetched for the frame before stays, the four slots of a layer are assigned to the first rows
it needs (every other row where R11 has it so) while it has so many, and a burst granted before will be discarded. -/
def Display.FetchesAnew (x : Display) (layer : LayerId → Option LayerView) (before : Option ScanReq) : Prop :=
  (∀ l, (x.buf l).slots.length = 4 ∧ (x.buf l).under = none ∧
    ∀ k ∈ (x.buf l).slots, k.chunks = [] ∧ k.stopped = false) ∧
  (∀ l, layer l = none → ∀ k ∈ (x.buf l).slots, k.phase = .free) ∧
  (∀ l v i, layer l = some v → i < 4 →
    let r := if v.alternate = true then 2 * i else i
    ∃ k, (x.buf l).slots[i]? = some k ∧
      (r < v.rows → k.phase ≠ .free ∧ k.first = v.rect.y0 + r ∧ k.last = v.lastShown r ∧ k.src = v.source r) ∧
      (v.rows ≤ r → k.phase = .free)) ∧
  (∀ q, before = some q → q.granted = true → x.req = some { q with live := false }) ∧
  ((∀ q, before = some q → q.granted = false) →
    ∀ q, x.req = some q → q.granted = false ∧ q.live = true ∧ q.counted = true)

/-- R32: the slots of a fetch buffer `b` after its vacant ones have been assigned, `b'`: a slot that is not vacant holds
what `left` says of it, but for the bursts requested since; the vacant ones go, in their order, to the rows that the layer
`view` needs next (every other row where R11 has it so) while there are any, and are free where there are none. -/
def LayerBuf.Reassigned (b b' : LayerBuf) (view : Option LayerView) (vacant : LineSlot → Bool)
    (left : LineSlot → LineSlot) : Prop :=
  let pitch : LayerView → Nat := fun v => if v.alternate = true then 2 else 1
  b'.slots.length = b.slots.length ∧
  (∀ (i : Nat) (k : LineSlot), b.slots[i]? = some k → vacant k = false →
    ∃ n, b'.slots[i]? = some { left k with asked := n }) ∧
  (view = none → b'.nextRow = b.nextRow ∧
    ∀ (i : Nat) (k : LineSlot), b.slots[i]? = some k → vacant k = true →
      ∃ k' : LineSlot, b'.slots[i]? = some k' ∧ k'.phase = .free) ∧
  ∀ v, view = some v →
    b'.nextRow = b.nextRow +
      pitch v * (b.slots.zip b'.slots).countP (fun y => vacant y.1 && decide (y.2.phase ≠ .free)) ∧
    ∀ (i : Nat) (k : LineSlot), b.slots[i]? = some k → vacant k = true →
      let rows := if v.rect.x0 < v.rect.x1 then v.rect.y1 - v.rect.y0 else 0
      let r := b.nextRow + pitch v * (b.slots.take i).countP vacant
      ∃ k' : LineSlot, b'.slots[i]? = some k' ∧ (rows ≤ r → k'.phase = .free) ∧
        (r < rows → k'.phase ≠ .free ∧ k'.first = v.rect.y0 + r ∧
          k'.last = (if v.alternate = true then min (v.rect.y0 + r + 1) (v.rect.y1 - 1) else v.rect.y0 + r) ∧
          k'.src = v.source r ∧ k'.chunks = [] ∧ k'.stopped = false)

/-! ### Where the 630 reads and writes -/

/-- R169, Table 62: the geometry an entry of the active table has. -/
def Region.Fits : Region → Prop
  | .absent => True
  | .film f =>
    f.base % 4096 = 0 ∧ 0 < f.size ∧ f.size % 4096 = 0 ∧ f.base + f.size ≤ 2 ^ 32 ∧ f.width % 2 = 0 ∧ 64 ≤ f.width ∧
      f.width ≤ 1280 ∧ 1 ≤ f.height ∧ f.height ≤ 800 ∧ (f.count = 2 ∨ f.count = 3) ∧ f.count * f.slotBytes ≤ f.size
  | .overlay o =>
    o.base % 4096 = 0 ∧ 0 < o.size ∧ o.size % 4096 = 0 ∧ o.base + o.size ≤ 2 ^ 32 ∧ o.width % 2 = 0 ∧ 64 ≤ o.width ∧
      o.width ≤ 1920 ∧ 1 ≤ o.height ∧ o.height ≤ 800 ∧ o.width * 4 * o.height ≤ o.size
  | .audio g =>
    g.base % 4096 = 0 ∧ 0 < g.size ∧ g.size % 4096 = 0 ∧ g.base + g.size ≤ 2 ^ 32 ∧ 8 ≤ g.n ∧ g.n ≤ 256 ∧
      1024 * g.n ≤ g.size

/-- R44, R169: the entries of an active table have their geometry, and they share a byte neither with each other, nor
with the control block at `cb`, nor with the camera region while it is defined. -/
def TableApart (table : List Region) (cb : Nat) (cam : Option CamRegion) : Prop :=
  (∀ i, (entryAt table i).Fits) ∧
  (∀ i j a, (entryAt table i).holds a = true → (entryAt table j).holds a = true → i = j) ∧
  (∀ i a, (entryAt table i).holds a = true → ¬(cb ≤ a ∧ a < cb + 4096) ∧
    ∀ c, cam = some c → c.holds a = false)

/-- R44, R169 of the machine. -/
def TableSound (s : State) : Prop := TableApart s.path.table s.boot.cbBase s.path.cam

/-- Whether a burst lies in the `n` bytes from `a` on. -/
def Burst.Inside (b : Burst) (a n : Nat) : Prop := a ≤ b.addr ∧ b.addr + 8 * b.beats ≤ a + n

/-- The burst writes, and lies in the camera region (Table 16). -/
def State.InCamera (s : State) (b : Burst) : Prop :=
  b.write = true ∧ ∃ c, s.path.cam = some c ∧ b.Inside c.base (4 * c.slotBytes)

/-- The burst lies in the status page (Table 60). -/
def State.InStatusPage (s : State) (b : Burst) : Prop := b.Inside (s.boot.cbBase + 0x800) 0x400

/-- R59, R100, R179: the camera region is the profile's, and CAM has started only with it; every burst of CAM's that
waits or is granted lies in it, and so does what is left of the frame being stored; a granted burst of a report lies in
the status page; and no other requester but HOST writes. -/
def WritesPlaced (s : State) : Prop :=
  (∀ c, s.path.cam = some c →
    ∃ p, s.boot.profile = some p ∧ c = { base := p.cam.base, slotBytes := p.cam.slotBytes }) ∧
  (s.cam.phase ≠ .idle → s.path.cam.isSome = true) ∧
  (∀ w, s.cam.writing = some w → ∃ p c, s.boot.profile = some p ∧ s.path.cam = some c ∧ w.lines ≤ p.cam.height ∧
    (w.lineOpen = true → 1 ≤ w.lines)) ∧
  (∀ b ∈ s.cam.bursts, ∃ c, s.path.cam = some c ∧ c.base ≤ b.addr ∧
    b.addr + 4 * b.npix ≤ c.base + 4 * c.slotBytes) ∧
  (∀ f ∈ s.arb.flights,
    (∀ n, f.owner = .camera n → s.InCamera f.burst) ∧ (f.owner = .report → s.InStatusPage f.burst) ∧
    (f.owner ≠ .host → f.owner ≠ .report → (∀ n, f.owner ≠ .camera n) → f.burst.write = false))

/-! ### What a load must pass -/

/-- A 2-byte field of a control block, little-endian (10.8). -/
def word2 (rd : Nat → Nat) (o : Nat) : Nat := rd o + 256 * rd (o + 1)

/-- A 4-byte field of a control block, little-endian (10.8). -/
def word4 (rd : Nat → Nat) (o : Nat) : Nat := word2 rd o + 65536 * word2 rd (o + 2)

/-- Table 56, REGION_KIND, for the descriptor at `o`: its kind is above 3, or it is FILM for a display that is not a rear
one or with an orientation above 3. -/
def FailsKind (rd : Nat → Nat) (o : Nat) : Prop :=
  3 < rd o ∨ (rd o = 1 ∧ ((rd (o + 3) ≠ 1 ∧ rd (o + 3) ≠ 2) ∨ 3 < rd (o + 2)))

/-- Table 56, REGION_GEOMETRY, for the descriptor at `o` (Table 62): alignment, size and end for every kind but NONE, and
each kind's own bounds; slotsize as in Table 16. -/
def FailsGeometry (rd : Nat → Nat) (o : Nat) : Prop :=
  let size := word4 rd (o + 8)
  let width := word2 rd (o + 12)
  let height := word2 rd (o + 14)
  rd o ≠ 0 ∧
    (word4 rd (o + 4) % 4096 ≠ 0 ∨ size = 0 ∨ size % 4096 ≠ 0 ∨ 0xFFFFFFFF < word4 rd (o + 4) + size - 1 ∨
      (rd o = 1 ∧ (width % 2 ≠ 0 ∨ width < 64 ∨ 1280 < width ∨ height < 1 ∨ 800 < height ∨
        (rd (o + 16) ≠ 2 ∧ rd (o + 16) ≠ 3) ∨
        size < rd (o + 16) * ((width * 4 * height + 16 + 4095) / 4096 * 4096))) ∨
      (rd o = 2 ∧ (width % 2 ≠ 0 ∨ width < 64 ∨ 1920 < width ∨ height < 1 ∨ 800 < height ∨ size < width * 4 * height)) ∨
      (rd o = 3 ∧ (word2 rd (o + 18) < 8 ∨ 256 < word2 rd (o + 18) ∨ size < 1024 * word2 rd (o + 18))))

/-- Table 56, REGION_OVERLAP, for descriptor `i`: it shares a byte with an earlier entry that is not NONE, with the
control block, or with the camera region while that is defined. -/
def FailsOverlap (rd : Nat → Nat) (i cb : Nat) (cam : Option CamRegion) : Prop :=
  let holds : Nat → Nat → Prop := fun j a =>
    rd (0x100 + 32 * j) ≠ 0 ∧ word4 rd (0x104 + 32 * j) ≤ a ∧
      a < word4 rd (0x104 + 32 * j) + word4 rd (0x108 + 32 * j)
  ∃ a, holds i a ∧
    ((∃ j, j < i ∧ holds j a) ∨ (cb ≤ a ∧ a < cb + 4096) ∨
      ∃ c, cam = some c ∧ c.base ≤ a ∧ a < c.base + 4 * c.slotBytes)

/-- R170, for the overlay fields at `o` (Table 63) against a table. -/
def FailsOverlay (rd : Nat → Nat) (tab : List Region) (o : Nat) : Prop :=
  (16 ≤ rd o ∧ rd o ≤ 254) ∨ 1 < rd (o + 2) ∨ 4095 < word2 rd (o + 4) ∨ 4095 < word2 rd (o + 6) ∨
    (rd o ≠ 0xFF ∧ ∀ v, entryAt tab (rd o) ≠ .overlay v)

/-- R170, for a display's scene record (Tables 60 and 63) against a table. -/
def FailsScene (rd : Nat → Nat) (tab : List Region) (d : Disp) : Prop :=
  let o :=
    match d with
    | .centre => 0x300
    | .rear .left => 0x380
    | .rear .right => 0x400
  1 < rd o ∨ 2 < rd (o + 1) ∨ 4095 < word2 rd (o + 2) ∨ 4095 < word2 rd (o + 10) ∨ 4095 < word2 rd (o + 12) ∨
    (16 ≤ rd (o + 8) ∧ rd (o + 8) ≤ 254) ∨
    (rd (o + 8) ≠ 0xFF ∧
      (match d with
       | .centre => ∀ v, entryAt tab (rd (o + 8)) ≠ .overlay v
       | .rear k => ∀ f, entryAt tab (rd (o + 8)) = .film f → f.seat ≠ k)) ∨
    FailsOverlay rd tab (o + 16) ∨ FailsOverlay rd tab (o + 32)

/-- R170, for the stream fields at `o` (Table 64) against a table. -/
def FailsStream (rd : Nat → Nat) (tab : List Region) (o : Nat) : Prop :=
  1 < rd o ∨ 256 < word2 rd (o + 4) ∨
    (rd o = 1 ∧ (15 < rd (o + 1) ∨ (∀ g, entryAt tab (rd (o + 1)) = .audio g → g.n ≤ rd (o + 2)) ∨
      rd (o + 3) < 1 ∨ 8 < rd (o + 3)))

/-- R170, for the cabin fields of the audio record (Table 64). -/
def FailsCabin (rd : Nat → Nat) : Prop :=
  2 < rd 0x4A0 ∨ 256 < word2 rd 0x4A2 ∨ 256 < word2 rd 0x4A4 ∨ 1 < rd 0x4A1

/-! ### The events of a display -/

/-- The row that is the blank event of a display (R3). -/
def blankEventOf : Disp → Instr
  | .centre => .centreBlankEvent
  | .rear k => .rearBlankEvent k

/-- The row that is the active event of a display (R3). -/
def activeEventOf : Disp → Instr
  | .centre => .centreActiveEvent
  | .rear k => .rearActiveEvent k

end Sys2Proof.Machine
end

