-- ==== Sys2Proof/Certificates/Slice0/Obligations.lean ====
section
/-! DEFINITION. The statements about the model. Each docstring names the rules of the spec it rests on; where a
clause rests on the model's own choice it names the log entry. `exec c s = .next t` reads: the command is taken
in `s` and leaves `t`; `t = { s with … }` says what it leaves unchanged. -/

open Sys2Proof Sys2Proof.Machine

/-! ### The machine -/

/-- The command at the front of the queue runs on the state with the rest of the queue. -/
def Obligations.StepRunsFrontCommand : Prop :=
  ∀ (c : Instr) (rest : List Instr) (s : State), step (s.setPending (c :: rest)) = exec c (s.setPending rest)

/-- The model's choice (log entry 1): with no command waiting a step is one reference tick. The counters of reference
ticks and of the 192 MHz clock count on, each held where its event falls due (log entry 3), the counter of each started
channel moves by R14, and nothing else changes. Ticks add up: what passes as `m + n` ticks at once, in a row that carries
the ticks elapsed before it (log entry 4), is what `m` and then `n` make of it, and no ticks at all leave a machine whose
counters stand within their bounds. -/
def Obligations.IdleStepIsOneTick : Prop :=
  (∀ s : State, s.pending = [] → ∃ t, step s = .next t ∧ TicksPass 1 s t) ∧
  (∀ (m n : Nat) (s u v : State), TicksPass m s u → TicksPass n u v → TicksPass (m + n) s v) ∧
  (∀ s : State, TickBoundsHold s → TicksPass 0 s s)

/-- What the spec says every block holds after power-on reset, row by row of Tables 9, 15, 22, 27, 32, 36, 42, 47, 54, 59
and 70; the load generation and its scope are 0 and FULL by R188. Where a table says 'none' of a record, the field is
`none` or empty. That the scope beside the latest-seen generation is 0 too is the model's choice (log entry 17). -/
def Obligations.ResetHoldsPowerOnValues : Prop :=
  let s := State.reset
  (s.boot.startup = .reset ∧ s.boot.profState = .notRead ∧ s.boot.refCount = 0 ∧ s.boot.image = [] ∧
    s.boot.imageLen = none ∧ s.boot.profile = none ∧ s.tb.running = false) ∧
  (s.path.queue = [] ∧ s.path.table = List.replicate 16 .absent ∧ s.path.cam = none ∧
    s.path.shadows = [0, 0, 0, 0] ∧ s.path.dropped = 0 ∧ s.path.partialWatch = 0 ∧ s.path.split = 0 ∧
    s.path.fetchErrors = 0 ∧ s.arb.hostCount = 0 ∧ s.arb.loadCount = 0 ∧ s.arb.flights = [] ∧
    (∀ q, s.presents q = none)) ∧
  (∀ d, (s.display d).running = false ∧ (s.display d).frameNo = 0 ∧ (s.display d).content = .noScene ∧
    (s.display d).active = none ∧ (s.display d).staged = none ∧ (s.display d).mark = .off ∧
    (s.display d).markHigh = false ∧ (s.pwm d).started = false ∧ (s.pwm d).held = none ∧
    (s.pwm d).enabled = false ∧ (s.pwm d).latch = false) ∧
  (∀ d, (s.display d).cap = { base := none, ov0 := none, ov1 := none } ∧ (s.display d).frame = none ∧
    (s.display d).fault0 = false ∧ (s.display d).fault1 = false ∧ (s.display d).underruns = 0 ∧
    (s.display d).req = none ∧
    ∀ l, ((s.display d).buf l).slots.length = 4 ∧ ∀ k ∈ ((s.display d).buf l).slots, k.phase = .free) ∧
  (s.centre.view = .host ∧ s.centre.urgentLines = 0 ∧ s.centre.underrunFlag = false ∧ s.centre.calm = 120) ∧
  (∀ k, (s.rearOf k).reduced = false ∧ (s.rearOf k).presented = none ∧ (s.rearOf k).dropped = 0 ∧
    (s.rearOf k).repeated = 0 ∧ (s.rearOf k).reclaimed = 0 ∧ (s.rearOf k).torn = 0 ∧ (s.rearOf k).late = 0 ∧
    (Pair.get s.aud.streams k).phase = .stopped ∧ (Pair.get s.aud.streams k).ring = none ∧
    (Pair.get s.aud.streams k).blockSeq = 0 ∧ (Pair.get s.aud.streams k).underruns = 0 ∧
    (Pair.get s.aud.streams k).lateWrites = 0 ∧ Pair.get s.mix.v k = 0) ∧
  (∀ i, s.setAt i = none) ∧
  (s.aud.clock = false ∧ s.aud.due = [] ∧ s.mix.route = .silent ∧ s.mix.vc = 0 ∧ s.mix.duck = 256 ∧
    s.mix.mute = false ∧ s.mix.gain = 256 ∧ s.mix.ramp = 0 ∧ s.mix.out = none) ∧
  (s.cam.phase = .idle ∧ s.cam.period = none ∧ s.cam.reported = 0 ∧ (∀ k, s.cam.slot k = .empty) ∧
    s.cam.arrivals = [] ∧ s.cam.writing = none ∧ s.cam.buf = [] ∧ s.cam.bursts = [] ∧ s.cam.received = 0 ∧
    s.cam.rejected = 0) ∧
  (s.rvc.started = false ∧ s.rvc.phase = .off ∧ s.rvc.taken = false ∧ s.rvc.engage = none ∧ s.rvc.release = none ∧
    s.rvc.freeze = none ∧ s.rvc.fresh = false) ∧
  (∀ tab, tab = s.guide.front ∨ tab = s.guide.back →
    tab.rows = [] ∧ tab.angle = 0 ∧ tab.isStatic = false ∧ tab.overfullRows = 0) ∧
  (s.guide.build = none ∧ s.guide.waiting = false ∧ s.guide.overruns = 0) ∧
  (s.link.started = false ∧ s.link.held = [] ∧ s.link.gap = none ∧
    (∀ k, (s.link.kind k).last = none ∧ (s.link.kind k).stale = true ∧ (s.link.kind k).timer = none) ∧
    s.link.angle = 0 ∧ s.link.valid = false ∧ s.link.conds = 0 ∧ s.link.good = 0 ∧ s.link.checkErrors = 0 ∧
    s.link.gaps = 0) ∧
  (s.chime.started = false ∧ s.chime.phase = .idle ∧ s.chime.playing = none ∧ s.chime.stack = [] ∧
    s.chime.waiting = [] ∧ s.chime.acc = 0 ∧ s.chime.fade = none ∧
    s.chime.results = [.blank, .blank, .blank, .blank] ∧ s.chime.sample s.patterns = (0, false)) ∧
  (s.load.begun = false ∧ s.load.phase = .idle ∧ s.load.latestGen = 0 ∧ s.load.latestScope = 0 ∧
    s.load.loadGen = 0 ∧ s.load.loadScope = 0 ∧ s.load.loaded = 0 ∧ s.load.refused = 0 ∧ s.load.staged = [] ∧
    s.load.outcome = .nothing ∧
    s.load.code = .nothing ∧ s.load.badIndex = 0xFF ∧ s.load.restarts = 0 ∧ s.load.skipped = 0 ∧
    s.load.causes = 0 ∧ s.load.delivered = 0 ∧ s.load.mask = 0 ∧ s.load.powerOn = true ∧ s.load.hostRst = false ∧
    s.load.irq = false ∧ s.load.reportSeq = 0 ∧ s.load.report = none)

/-- The state after power-on reset meets every invariant stated below. -/
def Obligations.ResetMeetsInvariants : Prop :=
  let s := State.reset
  HeldInReset s ∧ IrqFormed s ∧ CountersHold s ∧ BoundsHold s ∧ SetsSound s ∧ CameraSound s ∧ SpansSound s ∧
    LinesSound s ∧ BeforeRunning s ∧ SlotSound s ∧ ChimeSound s ∧ RvcTimersSound s ∧ LinkSound s ∧
    ChimeRanked s ∧ ProfileSound s ∧ BacklightSound s ∧ TableSound s ∧ WritesPlaced s

/-- The model's choice: every well-formed command leaves a next state, in every state, and takes nothing but itself off
the queue; a command whose event cannot happen in the state is taken all the same and leaves what it finds (log entry 5).
A term whose operand has a size no port carries is refused by name (log entry 7). The spec gives the 630 no stop. -/
def Obligations.EveryCommandRuns : Prop :=
  ∀ (c : Instr) (s : State),
    (c.wf = true → ∃ t, exec c s = .next t ∧ t.pending = s.pending) ∧ (c.wf = false → exec c s = .refused .illFormed)

/-! ### Invariants that every step keeps -/

/-- R180: while PORN is low every block is held at its power-on values. -/
def Obligations.StepKeepsHeldInReset : Prop := ∀ s t, HeldInReset s → step s = .next t → HeldInReset t

/-- R176, R178, R179: IRQ is high while the delivered set and the interrupt mask have a cause in common, and low
otherwise; LOAD's request slot and the report in flight agree with the granted bursts. -/
def Obligations.StepKeepsLoad : Prop :=
  ∀ s t, IrqFormed s ∧ SlotSound s → step s = .next t → IrqFormed t ∧ SlotSound t

/-- The counter convention of 00_scope 1.6: an event counter saturates at 65535. -/
def Obligations.StepKeepsCounters : Prop := ∀ s t, CountersHold s → step s = .next t → CountersHold t

/-- R9, R38, R62, R96, R109, R111, R113, R140, R141, R177, R181: the bounded counts and lists stay within their
bounds, LOAD's count of timebase ticks toward a report at 16 at most, the engage and release timers run only in their
states, and the assembler holds at most 7 bytes from the marker on, with its gap timer running only while it holds
some. -/
def Obligations.StepKeepsBounds : Prop :=
  ∀ s t, BoundsHold s ∧ RvcTimersSound s ∧ LinkSound s → step s = .next t →
    BoundsHold t ∧ RvcTimersSound t ∧ LinkSound t

/-- R63, R67: in every buffer set at most one buffer is SHOWN, the ready queue holds exactly the READY buffers, and
exactly the READY and SHOWN buffers have a tag record. -/
def Obligations.StepKeepsSets : Prop := ∀ s t, SetsSound s → step s = .next t → SetsSound t

/-- R104: the camera slots and the arrival list. R59: with what the other invariants say of the start-up, the slots and
LOAD's slot, every write of the 630's own stays in its place: CAMERA's inside the camera region and LOAD's inside the
status page, whether it is granted or still presented. -/
def Obligations.StepKeepsCamera : Prop :=
  (∀ s t, CameraSound s → step s = .next t → CameraSound t) ∧
  (∀ s t, WritesPlaced s ∧ CameraSound s ∧ SlotSound s ∧ BeforeRunning s ∧ HeldInReset s → step s = .next t →
    WritesPlaced t) ∧
  (∀ s, WritesPlaced s ∧ SlotSound s →
    (∀ q b, s.presents q = some b → b.write = true → q = .host ∨ q = .camera ∨ q = .load) ∧
    (∀ b, s.presents .camera = some b → s.InCamera b) ∧
    (∀ b, s.presents .load = some b → b.write = true → s.InStatusPage b))

/-- R120, R134: in both tables one row for each camera row or none at all, at most 6 ordered spans a row, each within the
camera image and of band 1, 2, 3 or 4, and no two of one band overlapping or touching. -/
def Obligations.StepKeepsSpans : Prop := ∀ s t, SpansSound s ∧ BeforeRunning s → step s = .next t → SpansSound t

/-- R1, R2, R185, R186: a RUNNING display has a timing in range and stands on a line of its frame, and until BOOT
enters RUNNING no block that needs the profile has started. R17, R18: a backlight channel's output enable is set exactly
while the channel is started and its fault latch is clear. -/
def Obligations.StepKeepsStarts : Prop :=
  (∀ s t, LinesSound s ∧ BeforeRunning s → step s = .next t → LinesSound t ∧ BeforeRunning t) ∧
  (∀ s t, BacklightSound s → step s = .next t → BacklightSound t)

/-- R151, R152, R153, R159: the chime entries, their order and their resume points; and, with what R182 to R186 leave of a
profile, that the stack keeps within the profile depth with its priorities rising, that no waiting or suspended entry
outranks the playing one, that no entry is without a source, and that a source belongs to one entry at most. -/
def Obligations.StepKeepsChimes : Prop :=
  (∀ s t, ChimeSound s → step s = .next t → ChimeSound t) ∧
  (∀ s t, ChimeSound s ∧ ChimeRanked s ∧ ProfileSound s ∧ BeforeRunning s → step s = .next t →
    ChimeRanked t ∧ ProfileSound t)

/-! ### Only these commands change it -/

/-- R107 to R118: the RVC state changes at no other command than these, and each change raises REVERSE_CHANGE;
power-on reset and the start of RVC alone set OFF without it. -/
def Obligations.RvcStateChangesOnlyAt : Prop :=
  ∀ (c : Instr) (s t : State), exec c s = .next t → t.rvc.phase ≠ s.rvc.phase →
    c = .powerOnReset ∨ (∃ e, c = .clockCheckEnd e) ∨
      ((c = .centreBlankEvent ∨ c = .revinChange ∨ c = .debounceExpiry ∨ c = .engageTimerExpiry ∨
          c = .freezeTimerExpiry ∨ c = .releaseTimerExpiry) ∧ t.load.causes.getLsbD 2 = true)

/-- R3, R4, R5, R7: a display's content state and active scene change only at its own blank event and at a reset, its
frame number only at its own active event and at power-on reset, and the view only at a centre blank event and at
power-on reset. -/
def Obligations.DisplayContentChangesOnlyAt : Prop :=
  ∀ (c : Instr) (s t : State), exec c s = .next t →
    (∀ d, (t.display d).content ≠ (s.display d).content ∨ (t.display d).active ≠ (s.display d).active →
      c = blankEventOf d ∨ c = .hostReset ∨ c = .powerOnReset) ∧
    (∀ d, (t.display d).frameNo ≠ (s.display d).frameNo → c = activeEventOf d ∨ c = .powerOnReset) ∧
    (t.centre.view ≠ s.centre.view → c = .centreBlankEvent ∨ c = .powerOnReset)

/-- R41, R42, R44, R171: the active region table changes only when a FULL load is accepted, when the camera region is
defined, and at a reset. R44, R169: every step keeps that its entries have the geometry R169 asks for and share a byte
neither with each other, nor with the control block, nor with the camera region while it is defined. -/
def Obligations.TableChangesOnlyAt : Prop :=
  (∀ (c : Instr) (s t : State), exec c s = .next t → t.path.table ≠ s.path.table →
    c = .powerOnReset ∨ c = .hostReset ∨ c = .cameraRegionDefine ∨
      (c = .loadCheck ∧ s.load.phase = .checking ∧ s.load.loadScope = 0 ∧ t.load.loaded = s.load.loadGen)) ∧
  (∀ s t, TableSound s ∧ HeldInReset s → step s = .next t → TableSound t)

/-! ### Start-up and resets -/

/-- R180, R38: POWER_ON_RESET gives every block its power-on values; that it leaves the input levels and the waiting
commands as they are is the model's choice (log entry 2). PORN_RELEASE enters CLOCK_CHECK with the control block placed
by the straps; HOST_RESET_RELEASE raises the level of HRSTN and nothing else. -/
def Obligations.ResetPinRows : Prop :=
  ∀ (s : State) (n : BitVec 3),
    exec .powerOnReset s = .next { State.reset with pins := s.pins, pending := s.pending } ∧
    (s.boot.startup = .reset →
      exec (.pornRelease n) s = .next
        { s with
          boot := { s.boot with
                    startup := .clockCheck, clkCount := 0, strap := n,
                    cbBase := (n.toNat + 1) * 0x20000000 - 0x1000 } }) ∧
    exec .hostResetRelease s = .next { s with pins := { s.pins with hrstnLow := false } }

/-- R181, R182: the count at the end of the measurement passes within 5400..6600; BOOT then enters PROFILE_READ with
the flash select line low, sending the read command and the address 0 on the data line, and TB, AUD's frame clock, RVC
and LOAD begin work, LOAD with no timebase tick counted toward its first report (R177). That the frame clock starts one
spacing before the first output frame is the model's choice (log entry 43), and so are its mark of the last frame of a
block and the count 0 of a measurement that begins (log entries 10 and 12). RVC starts in OFF with not reverse taken,
fresh clear, the debounce timer at the fixed time and its other timers stopped (R108); LOAD makes the test of R166 once,
and a latest-seen generation that is neither the loaded nor the refused one begins a load (R165). Any other count is kept
and the measurement begins again. The operand is the reference ticks since the step before: that many ticks pass, as
IdleStepIsOneTick says what one of them does, and the row acts on what they leave (log entry 4). -/
def Obligations.ClockCheckEndJudges : Prop :=
  ∀ (e : Nat) (s : State), s.boot.startup = .clockCheck →
    let tested := s.load.phase = .idle ∧ s.load.latestGen ≠ s.load.loaded ∧ s.load.latestGen ≠ s.load.refused
    ∃ u t, TicksPass e s u ∧ exec (.clockCheckEnd e) s = .next t ∧
      t.boot.refCount = min (s.boot.clkCount + e) 8191 ∧ t.boot.clkCount = 0 ∧
      (5400 ≤ t.boot.refCount ∧ t.boot.refCount ≤ 6600 →
        t = { u with
              boot := { u.boot with startup := .profileRead, refCount := u.boot.clkCount, clkCount := 0 },
              tb := { running := true, sub := 0 },
              aud := { u.aud with clock := true, phase := 0, lastFrame := false, sub := 0 },
              rvc := { started := true, phase := .off, taken := false, fresh := false, debounce := some 20,
                       engage := none, freeze := none, release := none },
              load := t.load } ∧
          (tested →
            t.load = { s.load with
                       begun := true, tick16 := 0, phase := .loading, loadGen := s.load.latestGen,
                       loadScope := s.load.latestScope, staged := [], granted := 0, back := 0, stopping := false,
                       slot := t.load.slot } ∧
              (s.load.slot = none → s.load.report = none → t.load.slot = some (.readBurst 0)) ∧
              (∀ w, s.load.slot = some w → t.load.slot = some w)) ∧
          (¬tested → t.load = { s.load with begun := true, tick16 := 0 }) ∧
          (s.boot.asked = false → t.flashSelected = true ∧
            t.flashSends = [false, false, false, false, false, false, true, true] ++ List.replicate 24 false)) ∧
      (¬(5400 ≤ t.boot.refCount ∧ t.boot.refCount ≤ 6600) →
        t = { u with boot := { u.boot with refCount := u.boot.clkCount, clkCount := 0 } } ∧
          t.boot.startup = .clockCheck ∧ t.tb.running = s.tb.running ∧ t.aud.clock = s.aud.clock ∧
          t.flashSelected = false)

/-- R182, R183, R184: the two length bytes are judged: an even length within 64..16384 is taken, any other makes BOOT
enter PROFILE_FAULT with BAD_LENGTH. With the last byte the image is judged: a sum that is a multiple of 65536, an image
that reaches offset 0x740 (log entry 45) and fields in range make BOOT ask PATH for the camera region, anything else
PROFILE_FAULT with BAD_SUM. Either fault raises the cause PROFILE_FAULT, and the flash select line is high once the read
has ended. The sum is that of the image's 16-bit words, the fields stand where Table 68 has them, little-endian and zero
where they reach beyond the image, and their ranges are R183's. -/
def Obligations.ProfileJudged : Prop :=
  (∀ (b0 b1 : Byte) (s : State), s.boot.startup = .profileRead → s.boot.imageLen = none →
     let n := b0.toNat + 256 * b1.toNat
     (n % 2 = 0 ∧ 64 ≤ n ∧ n ≤ 16384 →
       exec (.profileLengthRead b0 b1) s = .next
         { s with boot := { s.boot with image := [b0, b1], imageLen := some n } }) ∧
     (¬(n % 2 = 0 ∧ 64 ≤ n ∧ n ≤ 16384) →
       exec (.profileLengthRead b0 b1) s = .next
         { s with
           boot := { s.boot with image := [b0, b1], startup := .profileFault, profState := .badLength },
           load := { s.load with causes := s.load.causes ||| 0x200#10 } })) ∧
  (∀ (rest : List Byte) (s : State), rest.length ≤ 16382 → s.boot.startup = .profileRead → s.boot.asked = false →
     s.boot.imageLen = some (rest.length + 2) →
     let im := s.boot.image ++ rest
     let good := imageSum im % 65536 = 0 ∧ 0x740 ≤ im.length ∧ (readProfile im).ok s.boot.cbBase = true
     (good →
       exec (.profileReadDone rest) s = .next
         { s with boot := { s.boot with image := im, profState := .good, asked := true } }) ∧
     (¬good →
       exec (.profileReadDone rest) s = .next
         { s with
           boot := { s.boot with image := im, startup := .profileFault, profState := .badSum },
           load := { s.load with causes := s.load.causes ||| 0x200#10 } })) ∧
  (∀ (c : Instr) (s t : State), exec c s = .next t → s.flashSelected = true → t.flashSelected = false →
     c = .powerOnReset ∨ (∃ rest, c = .profileReadDone rest) ∨ ∃ b0 b1, c = .profileLengthRead b0 b1) ∧
  (∀ s : State, s.boot.startup ≠ .profileRead ∨ s.boot.asked = true → s.flashSelected = false ∧ s.flashSends = []) ∧
  (imageSum [] = 0 ∧ ∀ (a b : Byte) (rest : List Byte), imageSum (a :: b :: rest) = a.toNat + 256 * b.toNat + imageSum rest) ∧
  (∀ im : List Byte,
     let p := readProfile im
     let rd : Nat → Nat := fun i => (im.getD i 0).toNat
     let u1 : Nat → Nat := fun o => if o + 1 ≤ im.length then rd o else 0
     let u2 : Nat → Nat := fun o => if o + 2 ≤ im.length then word2 rd o else 0
     let u4 : Nat → Nat := fun o => if o + 4 ≤ im.length then word4 rd o else 0
     let s2 : Nat → Int := fun o => (BitVec.ofNat 16 (u2 o)).toInt
     let s4 : Nat → Int := fun o => (BitVec.ofNat 32 (u4 o)).toInt
     let timing : Nat → DispTiming := fun o =>
       { enable := u2 o, wa := u2 (o + 2), ha := u2 (o + 4), hb := u2 (o + 6), vb := u2 (o + 8), d := u1 (o + 10),
         background := BitVec.ofNat 32 (u4 (o + 12)), duty := u2 (o + 16), period := u2 (o + 18) }
     p.disp = ⟨timing 0x10, timing 0x30, timing 0x50⟩ ∧
       p.cam = { width := u2 0x70, height := u2 0x72, base := u4 0x74, cx := u2 0x78, cy := u2 0x7A, px := u2 0x7C,
                 py := u2 0x7E, pw := u2 0x80, ph := u2 0x82, unavailable := BitVec.ofNat 32 (u4 0x84) } ∧
       p.rev = { debounce := u1 0x88, engage := u2 0x8A, freeze := u2 0x8C, release := u2 0x8E, duty := u2 0x90,
                 reduce := u1 0x92, chime := u1 0x93, depth := u1 0x94 } ∧
       p.steerMs = u2 0x98 ∧ p.condMs = u2 0x9A ∧
       p.guide = { k := p.guide.k, w := u2 0xC2, yb := u2 0xC4, smax := u2 0xC6, lineWidth := u1 0xC8,
                   markerHeight := u1 0xC9, l1 := u2 0xCA, l2 := u2 0xCC, l3 := u2 0xCE, a1 := s4 0xD0, a2 := s4 0xD4,
                   a3 := s4 0xD8, b1 := s4 0xDC, b2 := s4 0xE0, b3 := s4 0xE4, c1 := s4 0xE8, c2 := s4 0xEC,
                   c3 := s4 0xF0, colour1 := BitVec.ofNat 32 (u4 0xF4), colour2 := BitVec.ofNat 32 (u4 0xF8),
                   colour3 := BitVec.ofNat 32 (u4 0xFC), colourStatic := BitVec.ofNat 32 (u4 0x100) } ∧
       p.guide.k.length = 17 ∧ (∀ i, i < 17 → p.guide.k[i]? = some (s2 (0xA0 + 2 * i))) ∧
       p.condMap.length = 32 ∧ (∀ i, i < 32 → p.condMap[i]? = some (u1 (0x110 + i))) ∧
       p.patterns.length = 16 ∧
       ∀ i, i < 16 → ∃ x, p.patterns[i]? = some x ∧
         (let o := 0x140 + 96 * i
          x.count = u1 o ∧ x.repeats = u1 (o + 1) ∧ x.priority = u1 (o + 2) ∧ x.headphones = u1 (o + 3) ∧
            x.steps.length = min (u1 o) 8 ∧
            ∀ n, n < min (u1 o) 8 →
              x.steps[n]? = some
                { tone := u2 (o + 4 + 10 * n), duration := u2 (o + 6 + 10 * n), level := u1 (o + 8 + 10 * n),
                  attack := u1 (o + 9 + 10 * n), release := u1 (o + 10 + 10 * n) })) ∧
  (∀ (p : Profile) (cb : Nat),
     let c := p.cam
     let region := 4 * ((c.width * c.height * 4 + 4095) / 4096 * 4096)
     let r := p.rev
     let g := p.guide
     p.ok cb = true ↔
       (c.width % 2 = 0 ∧ 64 ≤ c.width ∧ c.width ≤ 1280 ∧ c.width ≤ p.disp.c.wa ∧ 16 ≤ c.height ∧ c.height ≤ 720 ∧
         c.height ≤ p.disp.c.ha ∧ c.base % 4096 = 0 ∧ c.cx ≤ 4095 ∧ c.cy ≤ 4095 ∧ c.px + c.pw ≤ c.width ∧
         c.py + c.ph ≤ c.height) ∧
       (c.base + region ≤ 2 ^ 32 ∧ ∀ a, c.base ≤ a → a < c.base + region → ¬(cb ≤ a ∧ a < cb + 4096)) ∧
       (r.debounce ≤ 50 ∧ 100 ≤ r.engage ∧ r.engage ≤ 2000 ∧ 100 ≤ r.freeze ∧ r.freeze ≤ 1000 ∧ r.release ≤ 10000 ∧
         r.duty ≤ 4095 ∧ r.reduce ≤ 1 ∧ (r.chime ≤ 15 ∨ r.chime = 0xFF) ∧ (r.depth = 2 ∨ r.depth = 4)) ∧
       (50 ≤ p.steerMs ∧ p.steerMs ≤ 1000 ∧ 100 ≤ p.condMs ∧ p.condMs ≤ 2000) ∧
       (1000 ≤ g.w ∧ g.w ≤ 2500 ∧ g.yb ≤ 1500 ∧ 500 ≤ g.smax ∧ g.smax ≤ 5000 ∧ g.smax % 250 = 0 ∧ 1 ≤ g.lineWidth ∧
         g.lineWidth ≤ 8 ∧ 1 ≤ g.markerHeight ∧ g.markerHeight ≤ 8 ∧ 0 < g.l1 ∧ g.l1 < g.l2 ∧ g.l2 < g.l3 ∧
         g.l3 ≤ g.smax) ∧
       (∀ n ∈ p.condMap, n ≤ 15 ∨ n = 0xFF) ∧
       (∀ x ∈ p.patterns, x.count ≤ 8 ∧ x.repeats ≤ 255 ∧ x.priority ≤ 7 ∧ x.headphones ≤ 1 ∧
         ∀ st ∈ x.steps, (st.tone = 0 ∨ (100 ≤ st.tone ∧ st.tone ≤ 8000)) ∧ 10 ≤ st.duration ∧ st.duration ≤ 2000 ∧
           st.level ≤ 255 ∧ st.attack ≤ 50 ∧ st.release ≤ 50))

/-- R44: the moment of the row, which is that BOOT has asked for the definition and the region is not yet defined, no
entry of the queue is left and no host burst is in flight; at any other the state is left. R2, R9, R17, R18, R77, R86,
R93, R185: with the host traffic of before completed, the camera region is defined, every table entry that overlaps it
becomes NONE, with its buffer set or its stream's ring, BOOT enters RUNNING, and each display that the profile drives
starts at its first blank line with its backlight at the default duty; a display that it does not drive stays as it
was. The prefetch of a stream that loses its ring is abandoned: it gives up its turn for AUD's request slot, and its
granted bursts will be discarded (R86, R93). A display is driven when its enable is 1 and every value of Table 4 lies in
range (R1, R2). That the first blank event is a row of its own, so that this state stands before it, is the model's
choice (log entry 19), and so is that a duty or a period out of range leaves a display undriven (log entry 20). -/
def Obligations.CameraRegionDefined : Prop :=
  (∀ (tm : DispTiming) (d : Disp),
    tm.drives d = true ↔
      tm.enable = 1 ∧ 64 ≤ tm.wa ∧ (d = .centre → tm.wa ≤ 1920 ∧ tm.ha ≤ 720) ∧
        (d ≠ .centre → tm.wa ≤ 1280 ∧ tm.ha ≤ 800) ∧ 16 ≤ tm.ha ∧ 16 ≤ tm.hb ∧ tm.hb ≤ 4095 ∧ 2 ≤ tm.vb ∧ tm.vb ≤ 255 ∧
        2 ≤ tm.d ∧ tm.d ≤ 32 ∧ tm.duty ≤ 4095 ∧ 256 ≤ tm.period ∧ tm.period ≤ 65534 ∧ tm.period % 2 = 0) ∧
  (∀ s : State,
    (s.mayDefine = true ↔
      s.boot.asked = true ∧ s.boot.startup = .profileRead ∧ s.path.queue = [] ∧ ∀ f ∈ s.arb.flights, f.owner ≠ .host) ∧
    (s.mayDefine = false → exec .cameraRegionDefine s = .next s)) ∧
  ∀ s : State, s.mayDefine = true →
    let p := readProfile s.boot.image
    let c : CamRegion := { base := p.cam.base, slotBytes := p.cam.slotBytes }
    ∃ (t : State) (lost : Seat → Bool), exec .cameraRegionDefine s = .next t ∧
      t = { s with
            boot := t.boot, path := t.path, arb := t.arb, disp := t.disp, centre := t.centre, rear := t.rear,
            sets := t.sets, aud := t.aud, cam := t.cam, link := t.link, chime := t.chime, load := t.load,
            bl := t.bl } ∧
      t.boot = { s.boot with startup := .running, profile := some p } ∧
      t.path = { s.path with table := t.path.table, cam := some c } ∧
      (∀ i, entryAt t.path.table i = if (entryAt s.path.table i).meetsCam c = true then .absent
        else entryAt s.path.table i) ∧
      t.cam = { s.cam with phase := .noSignal, reported := 0, period := none } ∧
      t.link = { s.link with started := true } ∧ t.chime = { s.chime with started := true } ∧
      (∀ d, (Tri.get p.disp d).drives d = true →
        t.display d = { s.display d with
                        running := true, line := (Tri.get p.disp d).ha, lineClk := 0, blanked := false,
                        withdraw := (t.display d).withdraw } ∧
          t.pwm d = { started := true, counter := 0, down := false, base := (Tri.get p.disp d).duty,
                      preload := (Tri.get p.disp d).duty, held := none, enabled := !Tri.get s.pins.fault d,
                      latch := Tri.get s.pins.fault d }) ∧
      (∀ d, (Tri.get p.disp d).drives d = false →
        t.display d = { s.display d with withdraw := (t.display d).withdraw } ∧ t.pwm d = s.pwm d) ∧
      t.centre = { s.centre with calm := if p.disp.c.drives .centre = true then 0 else s.centre.calm } ∧
      ((∃ d, (Tri.get p.disp d).drives d = true ∧ Tri.get s.pins.fault d = true) →
        t.load = { s.load with causes := s.load.causes ||| 0x100#10 }) ∧
      ((∀ d, (Tri.get p.disp d).drives d = true → Tri.get s.pins.fault d = false) → t.load = s.load) ∧
      (∀ i, i < 16 →
        (∀ f, entryAt t.path.table i = .film f → t.setAt i = s.setAt i) ∧
          ((∀ f, entryAt t.path.table i ≠ .film f) → t.setAt i = none)) ∧
      t.disp.c.withdraw = s.disp.c.withdraw ∧
      (∀ k, (∀ i f, (s.rearOf k).presented = some i → entryAt s.path.table i = .film f →
          entryAt t.path.table i = .absent →
          t.rearOf k = { s.rearOf k with presented := none } ∧ (t.display (.rear k)).withdraw = true) ∧
        (∀ i, (s.rearOf k).presented = some i → entryAt t.path.table i = entryAt s.path.table i →
          t.rearOf k = s.rearOf k ∧ (t.display (.rear k)).withdraw = (s.display (.rear k)).withdraw) ∧
        ((s.rearOf k).presented = none →
          t.rearOf k = s.rearOf k ∧ (t.display (.rear k)).withdraw = (s.display (.rear k)).withdraw)) ∧
      (∀ k, lost k = true ↔ ∃ r, (Pair.get s.aud.streams k).ring = some r ∧
        entryAt s.path.table r.idx ≠ entryAt t.path.table r.idx) ∧
      (∀ k, (lost k = true →
          Pair.get t.aud.streams k = { Pair.get s.aud.streams k with phase := .stopped, ring := none }) ∧
        (lost k = false → Pair.get t.aud.streams k = Pair.get s.aud.streams k)) ∧
      AbandonsPrefetches lost s t

/-- R5, R13, R15, R18, R22, R30, R37, R41, R62, R78, R80, R84, R86, R95, R119, R158, R163, R173, R188: what the falling
edge of HRSTN outside power-on reset empties, and what it leaves as it is, in every block: the pressure record too
stays (R9), and in REAR_VIEW the camera base of the centre keeps the rows and the data of its fetch buffer and the
request it has outstanding (R37, Table 15). Every pixel a
rear display forms after the reset is of its profile background. On the line it has begun R5, R37, R78 and Tables 15 and
73 say so too, where R22 lets that line keep its base pixels to its end: which of the two holds is a free value, and the
statement says what is shown under each; where it keeps them, they are those whose data had arrived (DESIGN CHOICE, log
entry 42). The scope 0 beside the
latest-seen generation 0 is the model's choice (log entry 17), and so are the counts 0 of a pass that is not in
progress (log entry 10). The model's readings are also that a report in flight keeps the set of causes it carries (log
entry 34), and that the fade of a chime entry that loses its last source continues the step at the position from the
envelope of the frame last sounded, after a step end too (R158, log entry 16), and that R37's exemption of errors from
the count holds for every granted burst of a layer it ends, also for one that R22 or R32 had discarded already (log
entry 47). -/
def Obligations.HostResetEmpties : Prop :=
  ∀ s : State, s.pins.hrstnLow = false → s.boot.startup ≠ .reset →
    let ownHostLayer : Disp → LayerId → Prop :=
      fun d l => l = .base → d = .centre → ∀ fr, s.disp.c.frame = some fr → fr.view = .host
    let kept : Source → Bool := fun x => x != .slot 0 && x != .slot 1 && x != .slot 2 && x != .slot 3
    let strip : ChimeEntry → Option ChimeEntry := fun e =>
      if e.sources.all kept = true then some e
      else if e.sources.filter kept = [] then none else some { e with sources := e.sources.filter kept }
    ∃ t, exec .hostReset s = .next t ∧
      t = { s with
            pins := t.pins, path := t.path, arb := t.arb, disp := t.disp, rear := t.rear, sets := t.sets,
            aud := t.aud, mix := t.mix, chime := t.chime, load := t.load, bl := t.bl } ∧
      t.pins = { s.pins with hrstnLow := true } ∧
      t.path = { s.path with queue := [], table := List.replicate 16 .absent, shadows := [0, 0, 0, 0] } ∧
      t.arb = { hostCount := 0, loadCount := 0,
                flights := s.arb.flights.map (fun f =>
                  { f with
                    live := f.live && !(f.owner == .host || f.owner == .loadRead || f.owner == .loadReread ||
                      f.owner == .audio .left || f.owner == .audio .right) }) } ∧
      (∀ d, (t.display d).running = (s.display d).running ∧ (t.display d).line = (s.display d).line ∧
        (t.display d).lineClk = (s.display d).lineClk ∧ (t.display d).blanked = (s.display d).blanked ∧
        (t.display d).frameNo = (s.display d).frameNo ∧ (t.display d).underruns = (s.display d).underruns ∧
        (t.display d).lineCounted = (s.display d).lineCounted ∧
        (t.display d).content = .noScene ∧ (t.display d).active = none ∧ (t.display d).staged = none ∧
        (t.display d).cap = { base := none, ov0 := none, ov1 := none } ∧ (t.display d).mark = .off ∧
        (t.display d).markHigh = false ∧ (t.display d).fault0 = false ∧ (t.display d).fault1 = false ∧
        (t.display d).withdraw = false ∧
        (t.display d).frame = (s.display d).frame.map (fun fr =>
          { fr with
            content := .noScene, scene := none, cap := { base := none, ov0 := none, ov1 := none }, film := none })) ∧
      t.disp.c.kept = none ∧ (∀ d, (t.display d).kept ≠ none → Config.hostResetKeepsLine = true) ∧
      (∀ (k : Seat) (p : Profile) (fr : FrameRecord) (col : Nat), s.boot.profile = some p →
        (s.display (.rear k)).frame = some fr → (s.display (.rear k)).running = true →
        let x := s.display (.rear k)
        let tm := Tri.get p.disp (.rear k)
        let shown : Option Word :=
          match x.kept with
          | none => fetchedPixel x.base (layerOf p (.rear k) fr .base) col x.line
          | some h => if h.x0 ≤ col ∧ col < h.x1 then h.slot.pixel (col - h.x0) else none
        x.line < tm.ha → col < tm.wa →
          t.outputPixel (.rear k) col = some
            ((if Config.hostResetKeepsLine = true then shown.getD tm.background else tm.background).extractLsb' 0 24) ∧
          ∃ u, exec (.displayLineEnd (.rear k)) t = .next u ∧
            ((u.display (.rear k)).line < tm.ha →
              u.outputPixel (.rear k) col = some (tm.background.extractLsb' 0 24))) ∧
      (∀ d l, ownHostLayer d l → (t.display d).buf l = LayerBuf.empty) ∧
      (∀ d q, (s.display d).req = some q → ownHostLayer d q.layer → q.granted = true →
        (t.display d).req = some { q with live := false, counted := false }) ∧
      (∀ d q, (t.display d).req = some q → ownHostLayer d q.layer → q.granted = true ∧ q.live = false) ∧
      (∀ fr, s.disp.c.frame = some fr → fr.view = .rear →
        t.disp.c.base.under = s.disp.c.base.under ∧ t.disp.c.base.slots.length = s.disp.c.base.slots.length ∧
        (∀ (i : Nat) (k : LineSlot), s.disp.c.base.slots[i]? = some k → k.phase ≠ .free →
          ∃ n, t.disp.c.base.slots[i]? = some { k with asked := n }) ∧
        ∀ q, s.disp.c.req = some q → q.layer = .base → t.disp.c.req = some q ∧
          ∀ (i : Nat) (k : LineSlot), s.disp.c.base.slots[i]? = some k → k.phase ≠ .free → t.disp.c.base.slots[i]? = some k) ∧
      (∀ i, t.setAt i = none) ∧ (∀ k, t.rearOf k = { s.rearOf k with presented := none }) ∧
      t.aud = { s.aud with
                streams := ⟨{ s.aud.streams.l with phase := .stopped, ring := none },
                  { s.aud.streams.r with phase := .stopped, ring := none }⟩, due := [] } ∧
      t.mix = { s.mix with v := ⟨0, 0⟩, route := .silent, vc := 0, duck := 256, mute := false } ∧
      t.chime = { s.chime with
                  phase := t.chime.phase, fade := t.chime.fade, playing := s.chime.playing.bind strip,
                  stack := s.chime.stack.filterMap strip, waiting := s.chime.waiting.filterMap strip,
                  results := [.blank, .blank, .blank, .blank] } ∧
      (∀ e, s.chime.phase = .playing → s.chime.playing = some e → strip e = none →
        t.chime.phase = .switching ∧
          t.chime.fade = some { pattern := e.pattern, step := s.chime.step, m := 0, e0 := s.chime.lastEnv }) ∧
      (s.chime.phase ≠ .playing ∨ (∀ e, s.chime.playing = some e → strip e ≠ none) →
        t.chime.phase = s.chime.phase ∧ t.chime.fade = s.chime.fade) ∧
      t.load = { s.load with
                 phase := .idle, latestGen := 0, latestScope := 0, loadGen := 0, loadScope := 0, loaded := 0,
                 refused := 0, staged := [], granted := 0, back := 0, stopping := false, slot := t.load.slot,
                 outcome := .nothing, code := .nothing, badIndex := 0xFF, causes := 0, delivered := 0, mask := 0,
                 powerOn := false, hostRst := true, irq := false } ∧
      (∀ i, s.load.slot = some (.reportBurst i) → t.load.slot = some (.reportBurst i)) ∧
      (∀ r, t.load.slot = some r → ∃ i, r = .reportBurst i) ∧
      (∀ d tm, s.timing d = some tm → (s.pwm d).started = true →
        t.pwm d = { s.pwm d with preload := tm.duty }) ∧
      (∀ d, (s.pwm d).started = false → t.pwm d = s.pwm d)

/-- R181, R177 and the timers of 00_scope 1.6: the millisecond tick. LOAD's count of ticks toward its next report goes
to 16 and begins again at 1. -/
def Obligations.TimebaseTickCounts : Prop :=
  ∀ s : State, s.tb.running = true →
    exec .tbTick s = .next
      { s with
        tb := { s.tb with sub := 0 },
        rvc := { s.rvc with
                 debounce := s.rvc.debounce.map (· - 1), engage := s.rvc.engage.map (· - 1),
                 freeze := s.rvc.freeze.map (· - 1), release := s.rvc.release.map (· - 1) },
        link := { s.link with
                  steering := { s.link.steering with timer := s.link.steering.timer.map (· - 1) },
                  conditions := { s.link.conditions with timer := s.link.conditions.timer.map (· - 1) } },
        load := if s.load.begun = true then { s.load with tick16 := s.load.tick16 % 16 + 1 } else s.load }

/-! ### PATH -/

/-- R38, R44: a request is accepted while PORN and HRSTN are high, fewer than 8 entries stand in the queue and the
camera region is not being defined; one from which acceptance is withheld leaves the state. R38, R42, R43: an accepted
request joins the tail of the queue, classified at once, and the split counter rises by its pieces less one; a request
beyond address 0xFFFFFFFF gets the ERROR response, at once when the queue is empty, and otherwise joins the tail with
no pieces and is answered in its turn. R40: responses leave in the order of the queue, each once its request is
complete, and a request without pieces waits for nothing but its turn. -/
def Obligations.HostRequestAccepted : Prop :=
  (∀ s : State,
    (s.accepts = true ↔
      s.boot.startup ≠ .reset ∧ s.pins.hrstnLow = false ∧ s.path.queue.length < 8 ∧
        ¬(s.boot.asked = true ∧ s.boot.startup = .profileRead)) ∧
    ∀ q : HostReq, q.wf = true → s.accepts = false → exec (.hostRequest q) s = .next s) ∧
  (∀ (q : HostReq) (s : State), q.wf = true → s.accepts = true →
    ∃ t, exec (.hostRequest q) s = .next t ∧ t = { s with path := t.path } ∧
      t.path = { s.path with
                 queue := t.path.queue, sent := t.path.sent,
                 split := min (s.path.split + ((s.path.classify q).length - 1)) 65535 } ∧
      (reqBeyondTop q = false → (∀ e, s.path.queue.head? = some e → e.complete = false) →
        t.path.queue = s.path.queue ++ [{ req := q, pieces := s.path.classify q }] ∧ t.path.sent = s.path.sent) ∧
      (reqBeyondTop q = true → s.path.queue = [] →
        t.path.queue = [] ∧
          ∃ r, t.path.sent = s.path.sent ++ [r] ∧ r.ok = false ∧ r.read = !reqIsWrite q) ∧
      (reqBeyondTop q = true → ∀ e, s.path.queue.head? = some e → e.complete = false →
        t.path.queue = s.path.queue ++ [{ req := q, pieces := [] }] ∧ t.path.sent = s.path.sent)) ∧
  (∀ p : PathState,
    ∃ n, p.drain = { p with
                     queue := p.queue.drop n, sent := p.sent ++ (p.queue.take n).map HostEntry.response } ∧
      (∀ e ∈ p.queue.take n, ∀ x ∈ e.pieces, x.status = .complete) ∧
      (∀ e, (p.queue.drop n).head? = some e → ∃ x ∈ e.pieces, x.status ≠ .complete)) ∧
  (∀ e : HostEntry,
    e.response.read = !reqIsWrite e.req ∧
      (e.response.ok = true ↔ e.pieces ≠ [] ∧ ∀ x ∈ e.pieces, x.err = false) ∧
      (e.pieces ≠ [] → reqIsWrite e.req = false →
        e.response.data = e.pieces.flatMap (fun x =>
          if x.err = true then List.replicate x.burst.beats zeroBeat else x.got)))

/-- R42, R43: the pieces of a request cover its beats one after another, each begins at the logical address of its
first beat and lies in one zone, and a mirrored FILM piece lies in one row. Two neighbours meet only where the zone
changes or at a row end of a FILM pixel area under MIRROR_X or MIRROR_Y: PATH makes no other cut. Table 16, R42: the
zone of a byte is the camera region's while it is defined and holds the byte; otherwise, in the one table entry that
holds it, a buffer's pixel area, its tag-and-rest area or the remainder of a FILM region, the pixel area or the
remainder of an OVERLAY region, the blocks or the remainder of an AUDIO region; and plain where no entry holds it. A
piece in a region keeps a copy of its entry. -/
def Obligations.PiecesCoverRequest : Prop :=
  (∀ (p : PathState) (q : HostReq), q.wf = true → reqBeyondTop q = false →
     let xs := p.classify q
     let mirrored : Zone → Film → Nat → Prop := fun z f b =>
       ∃ i, z = .filmPixel i b ∧ entryAt p.table i = .film f ∧ (f.orient = .mirrorX ∨ f.orient = .mirrorY)
     let row : Film → Nat → Nat → Nat := fun f b a => (a - f.bufBase b) / (f.width * 4)
     (xs.map (fun x => x.burst.beats)).sum = q.op.beats ∧
     (∀ n x, xs[n]? = some x → x.first = ((xs.take n).map (fun y => y.burst.beats)).sum) ∧
     (∀ x ∈ xs,
       1 ≤ x.burst.beats ∧ x.first + x.burst.beats ≤ q.op.beats ∧ x.logical = 8 * q.beatNo.toNat + 8 * x.first ∧
         (∀ k, k < x.burst.beats → p.zoneAt (x.logical + 8 * k) = x.zone) ∧
         (∀ i, (∃ b, x.zone = .filmPixel i b ∨ x.zone = .filmTag i b) ∨ x.zone = .filmRest i ∨
             x.zone = .overlayPixel i ∨ x.zone = .overlayRest i ∨ x.zone = .audioRing i ∨ x.zone = .audioRest i →
           x.desc = entryAt p.table i) ∧
         ∀ f b, mirrored x.zone f b → ∀ k, k < x.burst.beats → row f b (x.logical + 8 * k) = row f b x.logical) ∧
     (∀ n x y, xs[n]? = some x → xs[n + 1]? = some y →
       x.zone ≠ y.zone ∨ ∃ f b, mirrored y.zone f b ∧ row f b (y.logical - 8) ≠ row f b y.logical)) ∧
  (∀ (p : PathState) (a : Nat),
     let inCamera : Prop := ∃ c, p.cam = some c ∧ c.base ≤ a ∧ a < c.base + 4 * c.slotBytes
     (inCamera → p.zoneAt a = .camera) ∧
     (¬inCamera → (∀ i, (entryAt p.table i).holds a = false) → p.zoneAt a = .plain) ∧
     (¬inCamera → ∀ i, (entryAt p.table i).holds a = true →
       (∀ j, (entryAt p.table j).holds a = true → j = i) →
       (∀ f, entryAt p.table i = .film f →
         (∀ b, b < f.count → f.base + b * f.slotBytes ≤ a → a < f.base + (b + 1) * f.slotBytes →
           p.zoneAt a = if a < f.base + b * f.slotBytes + f.width * 4 * f.height then .filmPixel i b else .filmTag i b) ∧
         (f.base + f.count * f.slotBytes ≤ a → p.zoneAt a = .filmRest i)) ∧
       (∀ o, entryAt p.table i = .overlay o →
         p.zoneAt a = if a < o.base + o.width * 4 * o.height then .overlayPixel i else .overlayRest i) ∧
       (∀ g, entryAt p.table i = .audio g →
         p.zoneAt a = if a < g.base + 1024 * g.n then .audioRing i else .audioRest i))) ∧
  (∀ a : Nat,
     Region.absent.holds a = false ∧
     (∀ f : Film, ((Region.film f).holds a = true ↔ f.base ≤ a ∧ a < f.base + f.size) ∧
       f.slotBytes % 4096 = 0 ∧ f.width * 4 * f.height + 16 ≤ f.slotBytes ∧
       f.slotBytes < f.width * 4 * f.height + 16 + 4096) ∧
     (∀ o : Overlay, (Region.overlay o).holds a = true ↔ o.base ≤ a ∧ a < o.base + o.size) ∧
     (∀ g : AudioRing, (Region.audio g).holds a = true ↔ g.base ≤ a ∧ a < g.base + g.size))

/-- R51: a host write never reaches the camera region: the burst of a write piece that is not dropped holds no byte of
it. The premises on the region are what the profile check requires of it (R183); for the pieces in FILM pixel areas,
which R47 to R49 place elsewhere in their region, the premise is the invariant that a region and the camera region
share no byte. The pieces marked for dropping are the write pieces of the camera zone, and no others. -/
def Obligations.HostWritesMissCameraRegion : Prop :=
  (∀ (p : PathState) (q : HostReq) (c : CamRegion), p.cam = some c → c.base % 8 = 0 → c.slotBytes % 8 = 0 →
     ∀ x ∈ p.classify q, x.burst.write = true → x.drop = false →
       (∀ i b, x.zone = .filmPixel i b → ∃ cb, TableApart p.table cb p.cam) →
       ∀ a, x.burst.addr ≤ a → a < x.burst.addr + 8 * x.burst.beats → c.holds a = false) ∧
  (∀ (p : PathState) (q : HostReq), ∀ x ∈ p.classify q,
     (x.burst.write = true ↔ reqIsWrite q = true) ∧
       (x.drop = true ↔ x.burst.write = true ∧ x.zone = .camera))

/-- R45 to R50, Table 17: a host read of a pixel area returns what the host wrote there, whatever the swizzle set and
whether or not the orientation reverses the beats; the mapping of an orientation is R47's, stays within the pixel area
and is its own inverse. Each swizzle flag does to a word and its strobes what Table 17 says, and a set does its flags'
work in the order H, B, R, N. Where R48 and R49 reverse the beats, the swizzled beats go in reverse order, each with its
two words and their strobes exchanged, and R50 undoes it on a read. Outside every pixel area nothing is swizzled or
reversed (R45). The burst of a piece carries the request's beats so transformed, from the place R47 to R49 give. -/
def Obligations.PixelAreaMapsInvert : Prop :=
  (∀ (w : Swz) (reversed : Bool) (data : List RBeat),
     incoming w reversed ((outgoing w reversed (data.map strobed)).map (Beat.map (·.byte))) = data) ∧
  (∀ (w : Swz) (data : List WBeat) (read : List RBeat),
     outgoing w false data = data.map (swizzleWrite w) ∧ incoming w false read = read.map (swizzleRead w) ∧
       (outgoing w true data).length = data.length ∧ (incoming w true read).length = read.length ∧
       (∀ k b, data[k]? = some b →
         (outgoing w true data)[data.length - 1 - k]? = some ⟨(swizzleWrite w b).hi, (swizzleWrite w b).lo⟩) ∧
       (∀ k b, read[k]? = some b →
         (incoming w true read)[read.length - 1 - k]? = some (swizzleRead w ⟨b.hi, b.lo⟩))) ∧
  (∀ (f : Film) (o : Nat), o < f.width * 4 * f.height →
     physicalOffset f o < f.width * 4 * f.height ∧ physicalOffset f (physicalOffset f o) = o ∧
       (let r := o / (f.width * 4)
        let c := o % (f.width * 4) / 4
        physicalOffset f o =
          (match f.orient with
           | .normal => r * (f.width * 4) + c * 4
           | .mirrorX => r * (f.width * 4) + (f.width - 1 - c) * 4
           | .mirrorY => (f.height - 1 - r) * (f.width * 4) + c * 4
           | .rotate180 => (f.height - 1 - r) * (f.width * 4) + (f.width - 1 - c) * 4) + o % 4)) ∧
  (∀ (x : WBeat) (h b r n : Bool),
     let one : Swz → Quad Lane → Quad Lane := fun w q => (swizzleWrite w ⟨q, q⟩).lo
     (∀ q, one ⟨true, false, false, false⟩ q = ⟨q.b2, q.b3, q.b0, q.b1⟩ ∧
       one ⟨false, true, false, false⟩ q = ⟨q.b1, q.b0, q.b3, q.b2⟩ ∧
       (∀ y ∈ [(one ⟨false, false, true, false⟩ q).b0, (one ⟨false, false, true, false⟩ q).b1,
           (one ⟨false, false, true, false⟩ q).b2, (one ⟨false, false, true, false⟩ q).b3].zip [q.b0, q.b1, q.b2, q.b3],
         y.1.strobe = y.2.strobe ∧ ∀ i, i < 8 → y.1.byte.getLsbD i = y.2.byte.getLsbD (7 - i)) ∧
       (∀ y ∈ [(one ⟨false, false, false, true⟩ q).b0, (one ⟨false, false, false, true⟩ q).b1,
           (one ⟨false, false, false, true⟩ q).b2, (one ⟨false, false, false, true⟩ q).b3].zip [q.b0, q.b1, q.b2, q.b3],
         y.1.strobe = y.2.strobe ∧ ∀ i, i < 8 → y.1.byte.getLsbD i = !y.2.byte.getLsbD i)) ∧
     swizzleWrite ⟨h, b, r, n⟩ x =
       ⟨one ⟨false, false, false, n⟩ (one ⟨false, false, r, false⟩ (one ⟨false, b, false, false⟩
           (one ⟨h, false, false, false⟩ x.lo))),
         one ⟨false, false, false, n⟩ (one ⟨false, false, r, false⟩ (one ⟨false, b, false, false⟩
           (one ⟨h, false, false, false⟩ x.hi)))⟩ ∧
     swizzleRead ⟨h, b, r, n⟩ (Beat.map (·.byte) x) = Beat.map (·.byte) (swizzleWrite ⟨h, b, r, n⟩ x)) ∧
  (∀ (p : PathState) (q : HostReq), ∀ x ∈ p.classify q,
     x.burst.write = reqIsWrite q ∧
       x.burst.data = outgoing (pieceSwz x.zone x.desc) x.reversed (((reqData q).drop x.first).take x.burst.beats) ∧
       (∀ i b f, x.zone = .filmPixel i b → entryAt p.table i = .film f →
         pieceSwz x.zone x.desc = f.swz ∧ (x.reversed = true ↔ f.orient = .mirrorX ∨ f.orient = .rotate180) ∧
           x.burst.addr = f.bufBase b + physicalOffset f
             (x.logical - f.bufBase b + if x.reversed = true then 8 * x.burst.beats - 4 else 0)) ∧
       (∀ i v, x.zone = .overlayPixel i → entryAt p.table i = .overlay v → pieceSwz x.zone x.desc = v.swz) ∧
       ((∀ i b, x.zone ≠ .filmPixel i b) → x.reversed = false ∧ x.burst.addr = x.logical) ∧
       ((∀ i b, x.zone ≠ .filmPixel i b) → (∀ i, x.zone ≠ .overlayPixel i) →
         pieceSwz x.zone x.desc = ⟨false, false, false, false⟩ ∧
           x.burst.data = ((reqData q).drop x.first).take x.burst.beats ∧
           ∀ data : List RBeat, incoming (pieceSwz x.zone x.desc) x.reversed data = data))

/-- R39, R40, R41, R51, R52, R53, R55 to R57, R59, R83: the piece whose turn it is, marked for dropping, completes
without a grant, is counted and raises WRITE_DROPPED. The completion of the oldest granted burst, a host piece's,
completes that piece, with its data in logical order or marked in error, lets the responses that may leave leave, and
hands the notices of a write without an error to their owners; a read or an error gives none, and the completion of a
discarded piece only arrives. The notices are taken one after another in their order, each at its owner; that of a
write that covers a watched word or a tag area in part adds one to the counter of such writes (R53, R55). The notices
by zone are Table 20's, those of a FILM or AUDIO piece only while its table entry stands; that a partly strobed tag
area is counted by the zone the piece was classified with, whether or not the entry still stands, is the model's
reading (log entry 24). An AUDIO piece gives one notice for each block it touches, in ascending order. AUD takes a
block write by the block's state. -/
def Obligations.HostPieceRows : Prop :=
  (∀ (s : State) (x : Piece), s.path.turn = some x → x.drop = true →
     exec .hostPieceDrop s = .next
       { s with
         path := PathState.drain
           { s.path with
             queue := mapFirstPiece Piece.isUnissued (fun p => { p with status := .complete }) s.path.queue,
             dropped := min (s.path.dropped + 1) 65535 },
         load := { s.load with causes := s.load.causes ||| 0x040#10 } }) ∧
  (∀ (r : Reply) (s : State) (f : Flight), s.dueFlight = some f → f.owner = .host → r.wfBurst = true →
     let arb : ArbState := { s.arb with flights := s.arb.flights.tail }
     (f.live = false → exec (.hostPieceComplete r) s = .next { s with arb := arb }) ∧
     (∀ (e : HostEntry) (x : Piece), f.live = true → firstPiece Piece.isIssued s.path.queue = some (e, x) →
       r.wf (if x.burst.write = true then 0 else x.burst.beats) = true →
       let t : State :=
         { s with
           arb := arb,
           path := PathState.drain
             { s.path with
               queue := mapFirstPiece Piece.isIssued
                 (fun y =>
                   match r with
                   | .ok data =>
                     { y with status := .complete, got := incoming (pieceSwz y.zone y.desc) y.reversed data }
                   | .error => { y with status := .complete, err := true }) s.path.queue } }
       exec (.hostPieceComplete r) s = .next (t.notify (s.path.noticesOf s.boot.cbBase e.req x r)) ∧
         (r = .error ∨ reqIsWrite e.req = false → exec (.hostPieceComplete r) s = .next t) ∧
         (t.notify (s.path.noticesOf s.boot.cbBase e.req x r)).path.table = s.path.table)) ∧
  (∀ (p : PathState) (cb : Nat) (q : HostReq) (x : Piece) (data : List RBeat), reqIsWrite q = true →
     let ns := p.noticesOf cb q x (.ok data)
     let beats := x.logicalBeats q
     (x.zone = .plain → ns = beats.flatMap (fun y => plainNotice cb y.1 y.2)) ∧
     (∀ i b, x.zone = .filmPixel i b → ns = if entryAt p.table i = x.desc then [.filmPixel i b] else []) ∧
     (∀ i b f, x.zone = .filmTag i b → x.desc = .film f →
       let lanes := (List.range 16).map (fun k => laneAt beats (f.bufBase b + f.width * 4 * f.height + k))
       ((∀ l ∈ lanes, l.strobe = true) →
         ns = if entryAt p.table i = .film f then [.filmTag i b (lanes.map (·.byte))] else []) ∧
       ((∃ l ∈ lanes, l.strobe = true) → (∃ l ∈ lanes, l.strobe = false) → ns = [.partialWrite]) ∧
       ((∀ l ∈ lanes, l.strobe = false) → ns = [])) ∧
     (∀ i g, x.zone = .audioRing i → x.desc = .audio g →
       (entryAt p.table i ≠ .audio g → ns = []) ∧
       (entryAt p.table i = .audio g → g.base % 8 = 0 → g.base ≤ x.logical → x.logical % 8 = 0 →
         ∃ js : List Nat, js.Pairwise (· < ·) ∧ (∀ j, j ∈ js ↔ ∃ y ∈ beats, (y.1 - g.base) / 1024 = j) ∧
           ns.length = js.length ∧
           ∀ m j : Nat, js[m]? = some j → ∃ e, ns[m]? = some (Notice.audioBlock i j e) ∧
             (e = true ↔ ∃ y ∈ beats, ∃ k, k < 8 ∧ (Beat.nth y.2 k).strobe = true ∧ (y.1 + k - g.base) / 1024 = j ∧
               1020 ≤ (y.1 + k - g.base) % 1024))) ∧
     ((x.zone = .camera ∨ (∃ i, x.zone = .filmRest i) ∨ (∃ i, x.zone = .overlayPixel i) ∨
         (∃ i, x.zone = .overlayRest i) ∨ ∃ i, x.zone = .audioRest i) → ns = [])) ∧
  (∀ s : State,
     s.notify [] = s ∧ (∀ n ns, s.notify (n :: ns) = (s.notice n).notify ns) ∧
       s.notice .partialWrite =
         { s with path := { s.path with partialWatch := min (s.path.partialWatch + 1) 65535 } }) ∧
  (∀ (s : State) (i j : Nat) (e : Bool),
     ∃ t, s.notice (.audioBlock i j e) = t ∧ t = { s with aud := t.aud } ∧
       ∀ k, let st := Pair.get s.aud.streams k
         let st' := Pair.get t.aud.streams k
         (st.ring = none ∨ st.phase = .stopped → st' = st) ∧
         (∀ r, st.ring = some r → st.phase ≠ .stopped →
           (r.idx ≠ i → st' = st) ∧
           (r.idx = i → j < r.blocks.length →
             ∃ r', st' = { st with
                           ring := some r',
                           lateWrites := if r.block j = .playing ∨ (r.block j = .filled ∧ r.fetchBegun j = true) then
                             min (st.lateWrites + 1) 65535 else st.lateWrites } ∧
               r' = { r with
                      blocks := if r.block j = .empty ∧ e = true then r.blocks.set j .filled else r.blocks,
                      prefetch := r'.prefetch } ∧
               (r.prefetch = none → r.target = some j → r'.block j = .filled →
                 r'.prefetch = some { block := j, granted := 0, back := 0, err := false, data := [] } ∧
                   k ∈ t.aud.due))))

/-- R53, R54, R152 to R155, R158, R159, R160, R162, R166, R175, Table 60, Table 61: a beat written to a watched word with
all its strobes set gives that word's notice, with some of them set a partial count, with none nothing, and any other
plain beat gives nothing. A generation that is neither the loaded nor the refused one begins a load in IDLE; an
acknowledge clears each named cause wherever it stands and forms IRQ again. A chime slot write whose sequence differs from
the slot's shadow is a command, which PLAYs, CANCELs or is REFUSED; a request joins the pattern's entry, sounds from IDLE,
preempts a lesser entry or waits by its priority, and is refused where 8 wait; a cancel withdraws one source, and with its
last source the entry. A switch fades the step at the position from the envelope of the frame last sounded (R158, R160):
that this is so after a step end too, before the next frame, and that a request refused for want of room has used up an
arrival number are the model's readings (log entry 16). -/
def Obligations.WatchedWordsAct : Prop :=
  (∀ (cb : Nat) (b : WBeat),
     ((Beat.toList b).all (·.strobe) = true →
       plainNotice cb (cb + 0x008) b =
         [.generation (b.lo.b3.byte ++ b.lo.b2.byte ++ b.lo.b1.byte ++ b.lo.b0.byte) b.hi.b0.byte] ∧
       plainNotice cb (cb + 0x010) b =
         [.acknowledge (b.lo.b3.byte ++ b.lo.b2.byte ++ b.lo.b1.byte ++ b.lo.b0.byte)] ∧
       ∀ j, j < 4 → plainNotice cb (cb + 0x040 + 8 * j) b =
         [.chimeWrite j (b.lo.b1.byte ++ b.lo.b0.byte) b.lo.b2.byte.toNat b.lo.b3.byte.toNat]) ∧
     (∀ off, off = 0x008 ∨ off = 0x010 ∨ off = 0x040 ∨ off = 0x048 ∨ off = 0x050 ∨ off = 0x058 →
       ((Beat.toList b).any (·.strobe) = true → (Beat.toList b).all (·.strobe) = false →
         plainNotice cb (cb + off) b = [.partialWrite]) ∧
       ((Beat.toList b).any (·.strobe) = false → plainNotice cb (cb + off) b = [])) ∧
     (∀ a, a < cb → plainNotice cb a b = []) ∧
     (∀ off, off ≠ 0x008 → off ≠ 0x010 → off ≠ 0x040 → off ≠ 0x048 → off ≠ 0x050 → off ≠ 0x058 →
       plainNotice cb (cb + off) b = [])) ∧
  ((∀ (s : State) (gen : Word) (scope : Byte), s.load.begun = true → s.load.phase = .idle → gen ≠ s.load.loaded →
     gen ≠ s.load.refused →
     ∃ t, s.notice (.generation gen scope) = t ∧ t = { s with load := t.load } ∧ t.load.phase = .loading ∧
       t.load.loadGen = gen ∧ t.load.loadScope = scope ∧ t.load.latestGen = gen ∧ t.load.staged = [] ∧
       (s.load.slot = none → s.load.report = none → t.load.slot = some (.readBurst 0))) ∧
   (∀ (s : State) (w : Word),
     ∃ t, s.notice (.acknowledge w) = t ∧ t = { s with load := t.load } ∧
       (∀ i, i < 10 →
         t.load.causes.getLsbD i = (s.load.causes.getLsbD i && !w.getLsbD i) ∧
           t.load.delivered.getLsbD i = (s.load.delivered.getLsbD i && !w.getLsbD i) ∧
           ∀ r, s.load.report = some r → ∃ r', t.load.report = some r' ∧
             r'.carried.getLsbD i = (r.carried.getLsbD i && !w.getLsbD i)) ∧
       t.load.powerOn = (s.load.powerOn && !w.getLsbD 30) ∧ t.load.hostRst = (s.load.hostRst && !w.getLsbD 31) ∧
       t.load.irq = (t.load.delivered &&& t.load.mask != 0) ∧ t.load.mask = s.load.mask)) ∧
  (∀ (s : State) (j : Nat) (seqNo : BitVec 16) (action pat : Nat),
     (s.path.shadows.getD j 0 = seqNo → s.notice (.chimeWrite j seqNo action pat) = s) ∧
     (s.path.shadows.getD j 0 ≠ seqNo →
       let u : State := { s with path := { s.path with shadows := s.path.shadows.set j seqNo } }
       let result : ChimeState → SlotResult → State := fun c r =>
         { u with chime := { c with results := s.chime.results.set j r },
                  load := { s.load with causes := s.load.causes ||| 0x010#10 } }
       let isSource := ∃ e ∈ s.chime.entries, e.pattern = pat ∧ Source.slot j ∈ e.sources
       (s.chime.started = false ∨ (action ≠ 1 ∧ action ≠ 2) ∨ 15 < pat ∨
           (action = 1 ∧ (patternAt s.patterns pat).count = 0) →
         s.notice (.chimeWrite j seqNo action pat) = result s.chime .refused) ∧
       (s.chime.started = true → action = 1 → pat ≤ 15 → (patternAt s.patterns pat).count ≠ 0 →
         s.notice (.chimeWrite j seqNo action pat) =
           State.chimeRequest
             { u with chime := { s.chime.cancel (.slot j) with results := s.chime.results.set j .blank } } (.slot j) pat) ∧
       (s.chime.started = true → action = 2 → pat ≤ 15 →
         (isSource → s.notice (.chimeWrite j seqNo action pat) = result (s.chime.cancel (.slot j)) .cancelled) ∧
         (¬isSource → s.notice (.chimeWrite j seqNo action pat) = u)))) ∧
  (∀ (s : State) (src : Source) (pat : Nat),
     let c := s.chime
     let full : Nat → Option Nat := fun i =>
       if (patternAt s.patterns i).repeats = 0 then none else some (patternAt s.patterns i).repeats
     let n : ChimeEntry :=
       { pattern := pat, priority := (patternAt s.patterns pat).priority, sources := [src], resume := none,
         arrival := c.nextArrival }
     let join : ChimeEntry → ChimeEntry := fun e =>
       if e.pattern = pat ∧ src ∉ e.sources then { e with sources := e.sources ++ [src] } else e
     let t := s.chimeRequest src pat
     ((∃ e ∈ c.entries, e.pattern = pat) →
       t = { s with
             chime := { c with
                        playing := c.playing.map join, stack := c.stack.map join, waiting := c.waiting.map join } }) ∧
     ((∀ e ∈ c.entries, e.pattern ≠ pat) →
       (c.phase = .idle →
         t = { s with
               chime := { c with
                          phase := .playing, playing := some n, step := 0, frame := 0, passes := full pat, acc := 0,
                          lastEnv := 0, fade := none, nextArrival := c.nextArrival + 1 } }) ∧
       (∀ old, c.phase ≠ .idle → c.playing = some old → old.priority < n.priority →
         let point : Resume :=
           if c.phase = .playing then { step := c.step, passes := c.passes }
           else old.resume.getD { step := 0, passes := full old.pattern }
         let lost : List ChimeEntry := if s.stackDepth ≤ c.stack.length then c.stack.take 1 else []
         t = { s with chime := t.chime, load := t.load } ∧
           t.chime = { c with
                       phase := .switching, playing := some n,
                       stack := c.stack.drop lost.length ++ [{ old with resume := some point }],
                       fade := if c.phase = .playing then
                           some { pattern := old.pattern, step := c.step, m := 0, e0 := c.lastEnv } else c.fade,
                       results := t.chime.results, nextArrival := c.nextArrival + 1 } ∧
           (∀ j, (∃ e ∈ lost, Source.slot j ∈ e.sources) →
             (j < c.results.length → t.chime.results[j]? = some .lost) ∧
               t.load = { s.load with causes := s.load.causes ||| 0x010#10 }) ∧
           (∀ j, (∀ e ∈ lost, Source.slot j ∉ e.sources) → t.chime.results[j]? = c.results[j]?) ∧
           ((∀ j, ∀ e ∈ lost, Source.slot j ∉ e.sources) → t.load = s.load)) ∧
       (c.phase ≠ .idle → (∀ old, c.playing = some old → n.priority ≤ old.priority) →
         (c.waiting.length < 8 →
           t = { s with
                 chime := { c with
                            waiting := c.waiting.takeWhile (fun x => n.priority ≤ x.priority) ++
                              n :: c.waiting.dropWhile (fun x => n.priority ≤ x.priority),
                            nextArrival := c.nextArrival + 1 } }) ∧
         (8 ≤ c.waiting.length →
           (∀ j, src = .slot j →
             t = { s with
                   chime := { c with results := c.results.set j .refused, nextArrival := c.nextArrival + 1 },
                   load := { s.load with causes := s.load.causes ||| 0x010#10 } }) ∧
           ((∀ j, src ≠ .slot j) → t = { s with chime := { c with nextArrival := c.nextArrival + 1 } }))))) ∧
  (∀ (s : State) (src : Source),
     let c := s.chime
     let strip : ChimeEntry → Option ChimeEntry := fun e =>
       if src ∉ e.sources then some e
       else if e.sources.filter (· != src) = [] then none else some { e with sources := e.sources.filter (· != src) }
     let gone := ∃ e, c.playing = some e ∧ strip e = none
     (c.phase = .playing → ∀ e, c.playing = some e → strip e = none →
       s.chimeCancel src =
         { s with
           chime := { c with
                      phase := .switching, playing := none, stack := c.stack.filterMap strip,
                      waiting := c.waiting.filterMap strip,
                      fade := some { pattern := e.pattern, step := c.step, m := 0, e0 := c.lastEnv } } }) ∧
     (c.phase ≠ .playing ∨ ¬gone →
       s.chimeCancel src =
         { s with
           chime := { c with
                      playing := c.playing.bind strip, stack := c.stack.filterMap strip,
                      waiting := c.waiting.filterMap strip } }))

/-! ### ARB -/

/-- R61: who is granted among those presenting: urgent SCAN_C, urgent CAMERA, starved HOST, urgent AUDIO, urgent rear
engines, starved LOAD, then the ordinary order; none when nobody presents. -/
def Obligations.GrantFollowsOrder : Prop :=
  ∀ (asks urgent : Requester → Bool) (h l : Nat),
    let ready : Requester → Bool := fun q => asks q && urgent q
    (ready .scanC = true → grantChoice asks urgent h l = some .scanC) ∧
    (ready .scanC = false → ready .camera = true → grantChoice asks urgent h l = some .camera) ∧
    (ready .scanC = false → ready .camera = false → 8 ≤ h → asks .host = true →
      grantChoice asks urgent h l = some .host) ∧
    (ready .scanC = false → ready .camera = false → ¬(8 ≤ h ∧ asks .host = true) →
      (ready .audio = true → grantChoice asks urgent h l = some .audio) ∧
      (ready .audio = false → ready .scanRl = true → grantChoice asks urgent h l = some .scanRl) ∧
      (ready .audio = false → ready .scanRl = false → ready .scanRr = true →
        grantChoice asks urgent h l = some .scanRr) ∧
      (ready .audio = false → ready .scanRl = false → ready .scanRr = false →
        (64 ≤ l ∧ asks .load = true → grantChoice asks urgent h l = some .load) ∧
        (¬(64 ≤ l ∧ asks .load = true) →
          grantChoice asks urgent h l =
            [Requester.host, .scanC, .camera, .audio, .scanRl, .scanRr, .load].find? asks)))

/-- R59, R61, R62, R100: with the port free and a burst presented, ARB grants one, which joins the granted bursts, and
counts the starvation of HOST and LOAD. Of the requester granted, HOST's piece in turn is issued (R39), an engine's
request waits for its completion (R33), CAMERA's oldest burst leaves its list (R100), the prefetch counts a burst
granted and leaves the request slot with its eighth (R91), and LOAD presents its next burst, a report's first (R178).
The end of a handover frees the port; the pixels of a camera burst leave the head of the line buffer. A camera burst
carries the pixels that stand behind those still being handed over. R39, R91, R167, R179: what HOST, an engine, AUDIO
and LOAD present, and where: of a request's pieces the first not issued, of a prefetch the next 128 bytes of its block,
of a load the next 128 bytes of the control block or its generation word again, of a report the next 128 bytes of the
status page. R34, R60, R92, R100: who is urgent: an engine a layer of which is short, CAMERA with more than 1024 pixels
in its line buffer, AUDIO with a prefetch unfinished in the last 47 frames before its boundary, which are those from the
start of the frame with phase 209 on by the model's count (log entry 12); HOST and LOAD never. -/
def Obligations.ArbRows : Prop :=
  (∀ s : State, s.portFree = true → (∃ q, s.asks q = true) →
     let engine : Disp → Requester := fun d =>
       match d with
       | .centre => .scanC
       | .rear .left => .scanRl
       | .rear .right => .scanRr
     ∃ q b t, grantChoice s.asks s.urgent s.arb.hostCount s.arb.loadCount = some q ∧ s.presents q = some b ∧
       exec .arbGrant s = .next t ∧
       t = { s with
             arb := t.arb, path := t.path, disp := t.disp, cam := t.cam, aud := t.aud, load := t.load } ∧
       t.arb.flights = s.arb.flights ++ [{ owner := s.ownerOf q, live := true, handed := false, burst := b }] ∧
       t.arb.hostCount = (if q = .host then 0 else if s.asks .host = true then min (s.arb.hostCount + 1) 8 else 0) ∧
       t.arb.loadCount = (if q = .load then 0 else if s.asks .load = true then min (s.arb.loadCount + 1) 64 else 0) ∧
       (q ≠ .host → t.path = s.path) ∧ (q ≠ .camera → t.cam = s.cam) ∧ (q ≠ .audio → t.aud = s.aud) ∧
       (q ≠ .load → t.load = s.load) ∧ (q ≠ .scanC → t.disp.c = s.disp.c) ∧ (q ≠ .scanRl → t.disp.l = s.disp.l) ∧
       (q ≠ .scanRr → t.disp.r = s.disp.r) ∧
       (∀ pre e post ps x rest, q = .host → s.path.queue = pre ++ e :: post →
         (∀ f ∈ pre, ∀ y ∈ f.pieces, y.status ≠ .unissued) → e.pieces = ps ++ x :: rest →
         (∀ y ∈ ps, y.status ≠ .unissued) → x.status = .unissued →
         s.ownerOf q = .host ∧
           t.path = { s.path with
                      queue := pre ++ { e with pieces := ps ++ { x with status := .issued } :: rest } :: post }) ∧
       (∀ d, q = engine d →
         s.ownerOf q = .scan d ∧
           t.display d = { s.display d with req := (s.display d).req.map (fun r => { r with granted := true }) }) ∧
       (∀ c rest, q = .camera → s.cam.bursts = c :: rest →
         s.ownerOf q = .camera c.npix ∧ t.cam = { s.cam with bursts := rest }) ∧
       (∀ k rest r f, q = .audio → s.aud.due = k :: rest → (Pair.get s.aud.streams k).ring = some r →
         r.prefetch = some f →
         let st := { Pair.get s.aud.streams k with
                     ring := some { r with prefetch := some { f with granted := f.granted + 1 } } }
         s.ownerOf q = .audio k ∧
           t.aud = { s.aud with
                     streams := Pair.set s.aud.streams k st, due := if f.granted = 7 then rest else k :: rest }) ∧
       (∀ w, q = .load → s.load.slot = some w →
         let l := t.load
         l = { s.load with slot := l.slot, granted := l.granted, report := l.report } ∧
           (∀ i, w = .readBurst i → s.ownerOf q = .loadRead) ∧ (w = .reread → s.ownerOf q = .loadReread) ∧
           (∀ i, w = .reportBurst i →
             s.ownerOf q = .report ∧ l.granted = s.load.granted ∧
               l.report = s.load.report.map (fun r => { r with granted := r.granted + 1 })) ∧
           ((∀ i, w ≠ .reportBurst i) → l.granted = s.load.granted + 1 ∧ l.report = s.load.report) ∧
           (∀ r, l.report = some r → r.granted < 8 → l.slot = some (.reportBurst r.granted)) ∧
           ((∀ r, l.report = some r → 8 ≤ r.granted) →
             (l.phase = .loading → l.stopping = false → l.granted < 10 → l.slot = some (.readBurst l.granted)) ∧
             (l.phase = .loading → l.stopping = false → l.granted = 10 → l.back = 10 → l.slot = some .reread) ∧
             (l.phase ≠ .loading ∨ l.stopping = true ∨ 10 < l.granted ∨ (l.granted = 10 ∧ l.back ≠ 10) →
               l.slot = none)))) ∧
  (∀ (s : State) (f : Flight), s.arb.flights.find? (fun g => !g.handed) = some f →
     ∃ t, exec .burstHandoverDone s = .next t ∧ t = { s with arb := t.arb, cam := t.cam } ∧ t.portFree = true ∧
       t.arb = { s.arb with flights := s.arb.flights.map (fun g => { g with handed := true }) } ∧
       (∀ n, f.owner = .camera n → f.live = true → t.cam = { s.cam with buf := s.cam.buf.drop n }) ∧
       ((∀ n, f.owner ≠ .camera n) ∨ f.live = false → t.cam = s.cam)) ∧
  (∀ (s : State) (b : CamBurst) (rest : List CamBurst), s.cam.bursts = b :: rest →
     s.presents .camera = some
       { write := true, addr := b.addr, beats := b.npix / 2,
         data := pixelBeats ((s.cam.buf.drop s.arb.handing).take b.npix) } ∧
     (s.portFree = true → s.arb.handing = 0) ∧
     (∀ f n, s.arb.flights.find? (fun g => !g.handed) = some f → f.owner = .camera n →
       s.arb.handing = if f.live = true then n else 0) ∧
     (∀ a c xs, pixelBeats (a :: c :: xs) =
       ⟨⟨⟨a.extractLsb' 0 8, true⟩, ⟨a.extractLsb' 8 8, true⟩, ⟨a.extractLsb' 16 8, true⟩, ⟨a.extractLsb' 24 8, true⟩⟩,
         ⟨⟨c.extractLsb' 0 8, true⟩, ⟨c.extractLsb' 8 8, true⟩, ⟨c.extractLsb' 16 8, true⟩,
           ⟨c.extractLsb' 24 8, true⟩⟩⟩ :: pixelBeats xs)) ∧
  (∀ s : State,
     let engine : Disp → Requester := fun d =>
       match d with
       | .centre => .scanC
       | .rear .left => .scanRl
       | .rear .right => .scanRr
     (∀ pre e post ps x rest, s.path.queue = pre ++ e :: post → (∀ f ∈ pre, ∀ y ∈ f.pieces, y.status ≠ .unissued) →
       e.pieces = ps ++ x :: rest → (∀ y ∈ ps, y.status ≠ .unissued) → x.status = .unissued →
       s.presents .host = if x.drop = true then none else some x.burst) ∧
     ((∀ e ∈ s.path.queue, ∀ y ∈ e.pieces, y.status ≠ .unissued) → s.presents .host = none) ∧
     (∀ d q, (s.display d).req = some q →
       s.presents (engine d) =
         if q.granted = true then none else some { write := false, addr := q.addr, beats := q.beats, data := [] }) ∧
     (∀ d, (s.display d).req = none → s.presents (engine d) = none) ∧
     (s.cam.bursts = [] → s.presents .camera = none) ∧ (s.aud.due = [] → s.presents .audio = none) ∧
     (∀ k rest r f, s.aud.due = k :: rest → (Pair.get s.aud.streams k).ring = some r → r.prefetch = some f →
       s.presents .audio = some
         { write := false, addr := r.desc.base + 1024 * f.block + 128 * f.granted, beats := 16, data := [] }) ∧
     (s.load.slot = none → s.presents .load = none) ∧
     (∀ i, s.load.slot = some (.readBurst i) →
       s.presents .load = some { write := false, addr := s.boot.cbBase + 128 * i, beats := 16, data := [] }) ∧
     (s.load.slot = some .reread →
       s.presents .load = some { write := false, addr := s.boot.cbBase + 0x008, beats := 1, data := [] }) ∧
     (∀ i r, s.load.slot = some (.reportBurst i) → s.load.report = some r →
       ∃ data, s.presents .load = some { write := true, addr := s.boot.cbBase + 0x800 + 128 * i, beats := 16, data := data } ∧
         (r.page.length = 1024 → i < 8 → data.length = 16 ∧
           ∀ n b, data[n]? = some b → ∀ j, j < 8 →
             (Beat.nth b j).strobe = true ∧ r.page[128 * i + 8 * n + j]? = some (Beat.nth b j).byte)) ∧
     s.urgent .host = false ∧ s.urgent .load = false ∧ (s.urgent .camera = true ↔ 1024 < s.cam.buf.length) ∧
     (s.urgent .audio = true ↔
       (∃ k r f, (Pair.get s.aud.streams k).ring = some r ∧ r.prefetch = some f ∧ f.back < 8) ∧
         (s.aud.lastFrame = true ∨ 210 ≤ s.aud.phase)) ∧
     (∀ d, s.urgent (engine d) = true ↔
       (s.display d).running = true ∧ ∃ tm l v, s.timing d = some tm ∧ s.layer d l = some v ∧
         (let line := (s.display d).line
          let lacks : Nat → Prop := fun y =>
            v.rect.x0 < v.rect.x1 ∧ v.rect.y0 ≤ y ∧ y < v.rect.y1 ∧
              ∀ k ∈ ((s.display d).buf l).slots, k.phase = .complete → ¬(k.first ≤ y ∧ y ≤ k.last)
          (line < tm.ha ∧ (lacks line ∨ lacks (line + 1))) ∨
            (tm.ha ≤ line ∧ line + 1 = tm.ha + tm.vb ∧ lacks 0))))

/-! ### LOAD -/

/-- R167, R168: the completions of a load's reads. A read burst's data enters the staged copy, and after the tenth the
re-read is presented; the same generation and scope enter CHECKING with the copy as read, another restarts the load with
the values read. An error is counted and stops the pass, which withdraws what it presents and restarts once its granted
bursts are all back; the data and errors of those are discarded, and so are those of a load that has been abandoned. -/
def Obligations.LoadReadsCompleted : Prop :=
  (∀ (s : State) (f : Flight), s.dueFlight = some f → f.owner = .loadRead → f.live = true → s.load.stopping = false →
     (∀ data : List RBeat, data.length = 16 →
       ∃ t, exec (.loadReadBurstComplete (.ok data)) s = .next t ∧ t = { s with arb := t.arb, load := t.load } ∧
         t.arb = { s.arb with flights := s.arb.flights.tail } ∧
         t.load = { s.load with staged := s.load.staged ++ data, back := s.load.back + 1, slot := t.load.slot } ∧
         (s.load.phase = .loading → s.load.granted = 10 → s.load.back = 9 → s.load.slot = none →
           s.load.report = none → t.load.slot = some .reread)) ∧
     (∃ t, exec (.loadReadBurstComplete .error) s = .next t ∧
       t = { s with arb := t.arb, load := t.load, path := t.path } ∧
       t.path = { s.path with fetchErrors := min (s.path.fetchErrors + 1) 65535 } ∧
       (s.load.back + 1 = s.load.granted →
         t.load.phase = .loading ∧ t.load.restarts = min (s.load.restarts + 1) 65535 ∧ t.load.staged = [] ∧
           t.load.granted = 0 ∧ t.load.back = 0 ∧ t.load.stopping = false ∧ t.load.loadGen = s.load.loadGen ∧
           t.load.loadScope = s.load.loadScope) ∧
       (s.load.back + 1 ≠ s.load.granted →
         t.load.stopping = true ∧ t.load.staged = s.load.staged ∧ t.load.back = s.load.back + 1 ∧
           t.load.restarts = s.load.restarts ∧ (∀ i, s.load.slot = some (.reportBurst i) → t.load.slot = s.load.slot) ∧
           ∀ w, t.load.slot = some w → ∃ i, w = .reportBurst i))) ∧
  (∀ (s : State) (f : Flight) (r : Reply), s.dueFlight = some f → f.owner = .loadRead → f.live = true →
     s.load.stopping = true → r.wf 16 = true →
     ∃ t, exec (.loadReadBurstComplete r) s = .next t ∧ t = { s with arb := t.arb, load := t.load } ∧
       t.arb = { s.arb with flights := s.arb.flights.tail } ∧
       (s.load.back + 1 = s.load.granted →
         t.load = { s.load with
                    phase := .loading, restarts := min (s.load.restarts + 1) 65535, staged := [], granted := 0, back := 0,
                    stopping := false, slot := t.load.slot } ∧
           (s.load.slot = none → s.load.report = none → t.load.slot = some (.readBurst 0))) ∧
       (s.load.back + 1 ≠ s.load.granted →
         t.load = { s.load with back := s.load.back + 1, slot := t.load.slot } ∧
           (∀ w, s.load.slot = some w → t.load.slot = some w) ∧
           (s.load.slot = none → s.load.report = none → t.load.slot = none))) ∧
  (∀ (s : State) (f : Flight) (r : Reply), s.dueFlight = some f → f.live = false →
     (f.owner = .loadRead → r.wf 16 = true →
       exec (.loadReadBurstComplete r) s = .next { s with arb := { s.arb with flights := s.arb.flights.tail } }) ∧
     (f.owner = .loadReread → r.wf 1 = true →
       exec (.loadRereadComplete r) s = .next { s with arb := { s.arb with flights := s.arb.flights.tail } })) ∧
  (∀ (s : State) (f : Flight), s.dueFlight = some f → f.owner = .loadReread → f.live = true →
     (∀ b : RBeat, b.lo.b3 ++ b.lo.b2 ++ b.lo.b1 ++ b.lo.b0 = s.load.loadGen → b.hi.b0 = s.load.loadScope →
       exec (.loadRereadComplete (.ok [b])) s = .next
         { s with
           arb := { s.arb with flights := s.arb.flights.tail },
           load := { s.load with phase := .checking, back := s.load.back + 1 } }) ∧
     (∀ b : RBeat, b.lo.b3 ++ b.lo.b2 ++ b.lo.b1 ++ b.lo.b0 ≠ s.load.loadGen ∨ b.hi.b0 ≠ s.load.loadScope →
       ∃ t, exec (.loadRereadComplete (.ok [b])) s = .next t ∧ t = { s with arb := t.arb, load := t.load } ∧
         t.load.phase = .loading ∧ t.load.loadGen = b.lo.b3 ++ b.lo.b2 ++ b.lo.b1 ++ b.lo.b0 ∧
         t.load.loadScope = b.hi.b0 ∧ t.load.staged = [] ∧ t.load.restarts = min (s.load.restarts + 1) 65535) ∧
     (∃ t, exec (.loadRereadComplete .error) s = .next t ∧
       t = { s with arb := t.arb, load := t.load, path := t.path } ∧
       t.path = { s.path with fetchErrors := min (s.path.fetchErrors + 1) 65535 } ∧
       t.load.phase = .loading ∧ t.load.loadGen = s.load.loadGen ∧ t.load.loadScope = s.load.loadScope ∧
       t.load.staged = [] ∧ t.load.restarts = min (s.load.restarts + 1) 65535))

/-- R77, R85, R95, R169 to R172, R176: LOAD_CHECK. A copy that passes every check is accepted: its generation is
loaded, each display is handed its scene, a FULL load's table replaces the active one and the buffer sets follow it
while a SCENES load leaves both, streams are stopped, started or left, a named fault latch is cleared unless its
fault input is active still (R17), the mix record and the mask take their new values, IRQ is formed again, and
LOAD_DONE is raised. The prefetch of a stream stopped or started anew is abandoned: it gives up its turn for AUD's
request slot, what it presents with it, and its granted bursts will be discarded (R85, R93). A copy that fails is refused
with the code and index of its first failure, and nothing but LOAD changes. Either way LOAD discards the staged copy and
applies the test of R166: a later generation, neither loaded nor refused, begins a load at once. The counts of a pass
that is not in progress are the model's choice (log entry 10). That a display keeps its presented index only where a
FILM set for it is made anew there, and holds none otherwise until its next blank event, is the model's reading (log
entry 25). The checks are those of R169, R170 and Table 56, in their order, on the fields that Tables 62 and 64 lay out;
the scenes and the mask read the fields of Tables 63 and 60. -/
def Obligations.LoadCheckDecides : Prop :=
  (∀ s : State, s.load.phase = .checking →
       let rd := beatsByte s.load.staged
       let verdict := checkLoad rd s.load.loadScope s.path.table s.boot.cbBase s.path.cam
       let retest : Word → Word → State → Prop := fun loaded refused t =>
         t.load.latestGen = s.load.latestGen ∧ t.load.staged = [] ∧
           t.load = { s.load with
                      phase := t.load.phase, loadGen := t.load.loadGen, loadScope := t.load.loadScope, staged := [],
                      granted := 0, back := 0, stopping := false, slot := t.load.slot, loaded := t.load.loaded,
                      refused := t.load.refused, outcome := t.load.outcome, code := t.load.code,
                      badIndex := t.load.badIndex, mask := t.load.mask, irq := t.load.irq, causes := t.load.causes } ∧
           (∀ w, s.load.slot = some w → t.load.slot = some w) ∧
           (s.load.latestGen = loaded ∨ s.load.latestGen = refused ∨ s.load.begun = false →
             t.load.phase = .idle ∧ t.load.loadGen = s.load.loadGen ∧ t.load.loadScope = s.load.loadScope ∧
               t.load.slot = s.load.slot) ∧
           (s.load.latestGen ≠ loaded → s.load.latestGen ≠ refused → s.load.begun = true →
             t.load.phase = .loading ∧ t.load.loadGen = s.load.latestGen ∧ t.load.loadScope = s.load.latestScope ∧
               (s.load.slot = none → s.load.report = none → t.load.slot = some (.readBurst 0)))
       (verdict = none →
         ∃ (t : State) (gone : Seat → Bool), exec .loadCheck s = .next t ∧
           t = { s with
                 path := t.path, arb := t.arb, disp := t.disp, rear := t.rear, sets := t.sets, aud := t.aud,
                 mix := t.mix, load := t.load, bl := t.bl } ∧
           t.load.loaded = s.load.loadGen ∧ t.load.outcome = .accepted ∧ t.load.code = .nothing ∧
           t.load.badIndex = 0xFF ∧ t.load.causes = s.load.causes ||| 0x001#10 ∧ t.load.mask = readMask rd ∧
           t.load.refused = s.load.refused ∧ retest s.load.loadGen s.load.refused t ∧
           (∀ d, t.display d =
             { s.display d with staged := some (readScene rd d), withdraw := (t.display d).withdraw }) ∧
           t.disp.c.withdraw = s.disp.c.withdraw ∧
           (s.load.loadScope = 0 → t.path = { s.path with table := readTable rd }) ∧
           (s.load.loadScope ≠ 0 → t.path = s.path ∧ t.sets = s.sets ∧ t.rear = s.rear ∧
             ∀ d, (t.display d).withdraw = (s.display d).withdraw) ∧
           (s.load.loadScope = 0 →
             (∀ i f, i < 16 → entryAt t.path.table i = .film f →
               (entryAt s.path.table i = .film f → t.setAt i = s.setAt i) ∧
                 (entryAt s.path.table i ≠ .film f →
                   t.setAt i = some { seat := f.seat, bufs := List.replicate f.count { phase := .free, tag := none },
                                      ready := [], shows := 0 })) ∧
             (∀ i, i < 16 → (∀ f, entryAt t.path.table i ≠ .film f) → t.setAt i = none) ∧
             (∀ k i g, (s.rearOf k).presented = some i → entryAt s.path.table i = .film g →
               entryAt t.path.table i ≠ .film g →
               (t.display (.rear k)).withdraw = true ∧
                 ((∃ f, entryAt t.path.table i = .film f ∧ f.seat = k) → t.rearOf k = s.rearOf k) ∧
                 ((∀ f, entryAt t.path.table i = .film f → f.seat ≠ k) →
                   t.rearOf k = { s.rearOf k with presented := none })) ∧
             (∀ k, ((s.rearOf k).presented = none ∨ ∃ i, (s.rearOf k).presented = some i ∧
                 (entryAt t.path.table i = entryAt s.path.table i ∨ ∀ f, entryAt s.path.table i ≠ .film f)) →
               t.rearOf k = s.rearOf k ∧ (t.display (.rear k)).withdraw = (s.display (.rear k)).withdraw)) ∧
           (∀ k, let st := Pair.get s.aud.streams k
             let st' := Pair.get t.aud.streams k
             let x := Pair.get (readAudio rd).streams k
             let fresh := st.phase = .stopped ∨ ∀ r, st.ring = some r →
               r.idx ≠ x.ring ∨ entryAt t.path.table x.ring ≠ .audio r.desc
             (gone k = true ↔ (x.enable = false ∧ st.phase ≠ .stopped) ∨
               (x.enable = true ∧ fresh ∧ ∃ g, entryAt t.path.table x.ring = .audio g)) ∧
             (x.enable = false → st.phase = .stopped → st' = st) ∧
             (x.enable = false → st.phase ≠ .stopped → st' = { st with phase := .stopped, ring := none }) ∧
             (x.enable = true → fresh → ∀ g, entryAt t.path.table x.ring = .audio g →
               st' = { st with
                       phase := .priming, blockSeq := 0,
                       ring := some
                         { idx := x.ring, desc := g, blocks := List.replicate g.n .empty, awaited := some x.start,
                           playing := none, prime := x.prime, prefetch := none, play := [] } }) ∧
             (x.enable = true → ¬fresh → st' = st)) ∧
           AbandonsPrefetches gone s t ∧
           t.mix = { s.mix with
                     v := ⟨(readAudio rd).streams.l.volume, (readAudio rd).streams.r.volume⟩,
                     route := (readAudio rd).route, vc := (readAudio rd).vc, duck := (readAudio rd).duck,
                     mute := (readAudio rd).mute } ∧
           t.load.irq = (s.load.delivered &&& readMask rd != 0) ∧ t.load.delivered = s.load.delivered ∧
           (∀ d, (s.pwm d).started = true → Tri.get s.pins.fault d = false →
             t.pwm d = { s.pwm d with latch := false, enabled := true }) ∧
           (∀ d, (s.pwm d).started = false ∨ Tri.get s.pins.fault d = true → t.pwm d = s.pwm d)) ∧
       (∀ code i, verdict = some (code, i) →
         ∃ t, exec .loadCheck s = .next t ∧ t = { s with load := t.load } ∧ t.load.refused = s.load.loadGen ∧
           t.load.loaded = s.load.loaded ∧ t.load.outcome = .refused ∧ t.load.code = code ∧ t.load.badIndex = i ∧
           t.load.causes = s.load.causes ||| 0x002#10 ∧ t.load.mask = s.load.mask ∧ t.load.irq = s.load.irq ∧
           retest s.load.loaded s.load.loadGen t)) ∧
  (∀ (rd : Nat → Nat) (scope : Byte) (active : List Region) (cb : Nat) (cam : Option CamRegion),
     let tab := if scope = 0 then readTable rd else active
     let v := checkLoad rd scope active cb cam
     let good : Nat → Prop := fun i =>
       ¬FailsKind rd (0x100 + 32 * i) ∧ ¬FailsGeometry rd (0x100 + 32 * i) ∧ ¬FailsOverlap rd i cb cam
     let versionOk := rd 0 = 1 ∧ (∀ i, i < 7 → rd (i + 1) = 0) ∧ scope.toNat ≤ 1
     let sameRing := rd 0x480 = 1 ∧ rd 0x490 = 1 ∧ rd 0x481 = rd 0x491
     (¬versionOk → v = some (.badVersion, 0xFF)) ∧
     (versionOk → scope = 0 → ∀ i, i < 16 → (∀ j, j < i → good j) →
       (FailsKind rd (0x100 + 32 * i) → v = some (.regionKind, i)) ∧
       (¬FailsKind rd (0x100 + 32 * i) → FailsGeometry rd (0x100 + 32 * i) → v = some (.regionGeometry, i)) ∧
       (¬FailsKind rd (0x100 + 32 * i) → ¬FailsGeometry rd (0x100 + 32 * i) → FailsOverlap rd i cb cam →
         v = some (.regionOverlap, i))) ∧
     (versionOk → (scope = 0 → ∀ i, i < 16 → good i) →
       (FailsScene rd tab .centre → v = some (.sceneReference, 0)) ∧
       (¬FailsScene rd tab .centre → FailsScene rd tab (.rear .left) → v = some (.sceneReference, 1)) ∧
       (¬FailsScene rd tab .centre → ¬FailsScene rd tab (.rear .left) → FailsScene rd tab (.rear .right) →
         v = some (.sceneReference, 2)) ∧
       ((∀ d, ¬FailsScene rd tab d) →
         (FailsStream rd tab 0x480 → v = some (.audioReference, 0)) ∧
         (¬FailsStream rd tab 0x480 → FailsStream rd tab 0x490 ∨ sameRing → v = some (.audioReference, 1)) ∧
         (¬FailsStream rd tab 0x480 → ¬FailsStream rd tab 0x490 → ¬sameRing → FailsCabin rd →
           v = some (.audioReference, 2)) ∧
         (¬FailsStream rd tab 0x480 → ¬FailsStream rd tab 0x490 → ¬sameRing → ¬FailsCabin rd → v = none)))) ∧
  (∀ (rd : Nat → Nat) (i : Nat), i < 16 →
     let o := 0x100 + 32 * i
     let r := entryAt (readTable rd) i
     (rd o = 0 → r = .absent) ∧
     (rd o = 1 → ∃ f, r = .film f ∧ f.base = word4 rd (o + 4) ∧ f.size = word4 rd (o + 8) ∧
       f.width = word2 rd (o + 12) ∧ f.height = word2 rd (o + 14) ∧ f.count = rd (o + 16) ∧
       (rd (o + 3) = 1 → f.seat = .left) ∧ (rd (o + 3) = 2 → f.seat = .right) ∧
       (rd (o + 2) = 0 → f.orient = .normal) ∧ (rd (o + 2) = 1 → f.orient = .mirrorX) ∧
       (rd (o + 2) = 2 → f.orient = .mirrorY) ∧ (rd (o + 2) = 3 → f.orient = .rotate180) ∧
       f.swz = ⟨(rd (o + 1)).testBit 0, (rd (o + 1)).testBit 1, (rd (o + 1)).testBit 2, (rd (o + 1)).testBit 3⟩) ∧
     (rd o = 2 → ∃ v, r = .overlay v ∧ v.base = word4 rd (o + 4) ∧ v.size = word4 rd (o + 8) ∧
       v.width = word2 rd (o + 12) ∧ v.height = word2 rd (o + 14) ∧
       v.swz = ⟨(rd (o + 1)).testBit 0, (rd (o + 1)).testBit 1, (rd (o + 1)).testBit 2, (rd (o + 1)).testBit 3⟩) ∧
     (rd o = 3 → r = .audio { base := word4 rd (o + 4), size := word4 rd (o + 8), n := word2 rd (o + 18) })) ∧
  (∀ rd : Nat → Nat,
     let x := readAudio rd
     x.streams.l.ring = rd 0x481 ∧ x.streams.l.start = rd 0x482 ∧ x.streams.l.prime = rd 0x483 ∧
       x.streams.l.volume = word2 rd 0x484 ∧ x.streams.r.ring = rd 0x491 ∧ x.streams.r.start = rd 0x492 ∧
       x.streams.r.prime = rd 0x493 ∧ x.streams.r.volume = word2 rd 0x494 ∧
       (x.streams.l.enable = true ↔ rd 0x480 ≠ 0) ∧ (x.streams.r.enable = true ↔ rd 0x490 ≠ 0) ∧
       (rd 0x4A0 = 0 → x.route = .silent) ∧ (rd 0x4A0 = 1 → x.route = .stream .left) ∧
       (rd 0x4A0 = 2 → x.route = .stream .right) ∧ (x.mute = true ↔ rd 0x4A1 ≠ 0) ∧ x.vc = word2 rd 0x4A2 ∧
       x.duck = word2 rd 0x4A4) ∧
  (∀ (rd : Nat → Nat) (d : Disp),
     let o :=
       match d with
       | .centre => 0x300
       | .rear .left => 0x380
       | .rear .right => 0x400
     let x := readScene rd d
     let region : Option Nat → Nat → Prop := fun r n => r = if rd n = 0xFF then none else some (rd n)
     let overlay : SceneOverlay → Nat → Prop := fun v n =>
       region v.region n ∧ v.la = rd (n + 1) ∧ (v.revVisible = true ↔ rd (n + 2) ≠ 0) ∧ v.x = word2 rd (n + 4) ∧
         v.y = word2 rd (n + 6) ∧ v.scrT = word2 rd (n + 8) ∧ v.scrS = word2 rd (n + 10) ∧ v.scrB = word2 rd (n + 12) ∧
         v.scrP = word2 rd (n + 14)
     (x.enable = true ↔ rd o ≠ 0) ∧ (rd (o + 1) = 0 → x.mark = .off) ∧ (rd (o + 1) = 1 → x.mark = .blank) ∧
       (rd (o + 1) = 2 → x.mark = .flip) ∧ x.duty = word2 rd (o + 2) ∧ x.background = BitVec.ofNat 32 (word4 rd (o + 4)) ∧
       region x.base (o + 8) ∧ x.x = word2 rd (o + 10) ∧ x.y = word2 rd (o + 12) ∧ overlay x.ov0 (o + 16) ∧
       overlay x.ov1 (o + 32)) ∧
  (∀ (rd : Nat → Nat) (i : Nat), i < 10 → (readMask rd).getLsbD i = (word4 rd 0x018).testBit i)

/-- R176, R177, R179: a report falls due at REPORT_TICK, which is every sixteenth timebase tick, while the centre is
not RUNNING: it is formed with the next report sequence and carries the cause set, or it is skipped and counted while
another is in flight, and either way the count of ticks begins again. That the tick of the report is a row of its own
after the timebase tick, and acts by its operands when a step brings it at another moment, is the model's choice (log
entries 3 and 10). The eighth completion of its bursts completes it; without an error in any the carried causes still
in the cause set are delivered, and IRQ is formed again. Each error is counted. -/
def Obligations.ReportRows : Prop :=
  (∀ s : State,
     (timely .reportTick s = true ↔
       s.load.begun = true ∧ s.disp.c.running = false ∧ s.load.tick16 = 16 ∧ s.tb.sub = 0) ∧
     (s.disp.c.running = true ∨ s.load.begun = false → exec .reportTick s = .next s)) ∧
  (∀ s : State, s.disp.c.running = false → s.load.begun = true →
     ∃ t, exec .reportTick s = .next t ∧ t = { s with load := t.load } ∧
       (s.load.report = none →
         t.load = { s.load with
                    tick16 := s.load.tick16 % 16, reportSeq := t.load.reportSeq, report := t.load.report,
                    slot := t.load.slot } ∧
         t.load.reportSeq = s.load.reportSeq + 1 ∧ t.load.skipped = s.load.skipped ∧
           (∃ r, t.load.report = some r ∧ r.granted = 0 ∧ r.back = 0 ∧ r.err = false ∧ r.carried = s.load.causes ∧
             r.page = (s.setLoad { s.load with reportSeq := s.load.reportSeq + 1 }).statusPage) ∧
           (s.load.slot = none → t.load.slot = some (.reportBurst 0)) ∧
           (∀ w, s.load.slot = some w → t.load.slot = some w)) ∧
       (s.load.report ≠ none →
         t.load = { s.load with tick16 := s.load.tick16 % 16, skipped := min (s.load.skipped + 1) 65535 })) ∧
  (∀ (err : Bool) (s : State) (f : Flight) (r : Report), s.dueFlight = some f → f.owner = .report →
     s.load.report = some r →
     ∃ t, exec (.reportBurstComplete err) s = .next t ∧ t = { s with arb := t.arb, load := t.load, path := t.path } ∧
       t.arb = { s.arb with flights := s.arb.flights.tail } ∧
       t.path = { s.path with
                  fetchErrors := if err = true then min (s.path.fetchErrors + 1) 65535 else s.path.fetchErrors } ∧
       (r.back ≠ 7 →
         t.load = { s.load with report := some { r with back := r.back + 1, err := r.err || err } }) ∧
       (r.back = 7 →
         t.load.report = none ∧ t.load.causes = s.load.causes ∧
           t.load.delivered = (if r.err = false ∧ err = false then s.load.delivered ||| (r.carried &&& s.load.causes)
             else s.load.delivered) ∧
           t.load.irq = (t.load.delivered &&& t.load.mask != 0)))

/-- R137, R147, R164, R174, R179, R187, Tables 66 and 67: the status page is 1024 bytes, each field of Table 66 at its
offset with the codes of Table 67, every byte without a field 0; the report sequence is in its first and its last word.
A collection gives its patterns in order and then 0xFF; without a presented set its index, its shown buffer and its
buffer states read 0xFF, and the shown tag sequence is 0 where no buffer is SHOWN. The premise is what R162 gives: four
slot results. -/
def Obligations.StatusPageLayout : Prop :=
  ∀ s : State, s.chime.results.length = 4 →
    let rd : Nat → Nat := fun i => (s.statusPage.getD i 0).toNat
    let bit : Bool → Nat := fun b => if b = true then 1 else 0
    let counter : Nat → Nat → Prop := fun o n => word2 rd o = n % 65536
    let index : Nat → Option Nat → Prop := fun o n => rd o = (n.getD 0xFF) % 256
    let display : Nat → Disp → Prop := fun o d =>
      let x := s.display d
      rd o = bit x.running ∧ rd (o + 1) = (match x.content with | .noScene => 0 | .scene => 1 | .disabled => 2) ∧
        word4 rd (o + 4) = x.frameNo.toNat ∧ counter (o + 8) x.underruns ∧ rd (o + 10) = bit x.fault0 + 2 * bit x.fault1
    let rear : Nat → Seat → Prop := fun o k =>
      let x := s.rearOf k
      let set := x.presented.bind s.setAt
      rd (o + 2) = 0 ∧ rd (o + 3) = bit x.reduced ∧ index (o + 11) x.presented ∧
        index (o + 12) (set.bind BufSet.shown) ∧
        (∀ i, i < 3 → (∀ b, set = some b → ∀ f, b.bufs[i]? = some f →
            rd (o + 13 + i) = (match f.phase with | .free => 0 | .filling => 1 | .ready => 2 | .shown => 3)) ∧
          ((∀ b, set = some b → b.bufs.length ≤ i) → rd (o + 13 + i) = 0xFF)) ∧
        (∀ b i tag, set = some b → b.shown = some i → (b.buf i).tag = some tag →
          word4 rd (o + 16) = tag.seqNo.toNat) ∧
        ((∀ b, set = some b → b.shown = none) → word4 rd (o + 16) = 0) ∧ counter (o + 20) x.dropped ∧
        counter (o + 22) x.repeated ∧ counter (o + 24) x.reclaimed ∧ counter (o + 26) x.torn ∧ counter (o + 28) x.late
    let stream : Nat → Stream → Prop := fun o x =>
      rd o = (match x.phase with | .stopped => 0 | .priming => 1 | .playing => 2 | .underrun => 3) ∧
        word4 rd (o + 4) = x.blockSeq % 4294967296 ∧ counter (o + 8) x.underruns ∧ counter (o + 10) x.lateWrites
    s.statusPage.length = 1024 ∧ word4 rd 0x000 = s.load.reportSeq.toNat ∧ word4 rd 0x3FC = s.load.reportSeq.toNat ∧
      (word4 rd 0x004 < 2 ^ 32 ∧ (∀ i, i < 10 → (word4 rd 0x004).testBit i = s.load.causes.getLsbD i) ∧
        (∀ i, 10 ≤ i → i < 30 → (word4 rd 0x004).testBit i = false) ∧ (word4 rd 0x004).testBit 30 = s.load.powerOn ∧
        (word4 rd 0x004).testBit 31 = s.load.hostRst) ∧
      rd 0x008 = (match s.boot.startup with
        | .reset => 0 | .clockCheck => 1 | .profileRead => 2 | .running => 3 | .profileFault => 4) ∧
      rd 0x009 = (match s.boot.profState with | .notRead => 0 | .good => 1 | .badLength => 2 | .badSum => 3) ∧
      counter 0x00A s.boot.refCount ∧ word4 rd 0x00C = s.load.mask.toNat ∧
      rd 0x010 = (match s.load.phase with | .idle => 0 | .loading => 1 | .checking => 2) ∧
      rd 0x011 = (match s.load.outcome with | .nothing => 0 | .accepted => 1 | .refused => 2) ∧
      rd 0x012 = (match s.load.code with
        | .nothing => 0 | .badVersion => 1 | .regionOverlap => 2 | .regionKind => 3 | .regionGeometry => 4
        | .sceneReference => 5 | .audioReference => 6) ∧
      rd 0x013 = s.load.badIndex % 256 ∧ word4 rd 0x014 = s.load.loaded.toNat ∧ word4 rd 0x018 = s.load.refused.toNat ∧
      word4 rd 0x01C = s.load.latestGen.toNat ∧ word4 rd 0x020 = s.load.loadGen.toNat ∧ counter 0x024 s.load.restarts ∧
      counter 0x026 s.load.skipped ∧
      display 0x040 .centre ∧ rd 0x042 = (match s.centre.view with | .host => 0 | .rear => 1) ∧
      display 0x080 (.rear .left) ∧ rear 0x080 .left ∧ display 0x0C0 (.rear .right) ∧ rear 0x0C0 .right ∧
      rd 0x100 = (match s.cam.phase with | .idle => 0 | .noSignal => 1 | .receiving => 2) ∧
      rd 0x101 = (match s.rvc.phase with | .off => 0 | .engaging => 1 | .showing => 2 | .lost => 3 | .releasing => 4) ∧
      word4 rd 0x104 = s.cam.reported % 4294967296 ∧ counter 0x108 s.cam.received ∧ counter 0x10A s.cam.rejected ∧
      ((word2 rd 0x110 : Nat) : Int) = s.guide.front.angle % 65536 ∧ rd 0x112 = bit s.guide.front.isStatic ∧
      counter 0x114 s.guide.front.overfullRows ∧ counter 0x116 s.guide.overruns ∧ counter 0x118 s.link.good ∧
      counter 0x11A s.link.checkErrors ∧ counter 0x11C s.link.gaps ∧
      rd 0x11E = bit s.link.steering.stale + 2 * bit s.link.conditions.stale ∧ stream 0x120 s.aud.streams.l ∧
      stream 0x130 s.aud.streams.r ∧
      rd 0x140 = (match s.chime.phase with | .idle => 0 | .playing => 1 | .switching => 2) ∧
      index 0x141 (s.chime.playing.map (·.pattern)) ∧ rd 0x142 = s.chime.stack.length % 256 ∧
      rd 0x143 = s.chime.waiting.length % 256 ∧
      (∀ i, i < 4 → index (0x144 + i) ((s.chime.stack[i]?).map (·.pattern))) ∧
      (∀ i, i < 8 → index (0x148 + i) ((s.chime.waiting[i]?).map (·.pattern))) ∧
      (∀ i r, s.chime.results[i]? = some r →
        rd (0x150 + i) = (match r with | .blank => 0 | .done => 1 | .cancelled => 2 | .lost => 3 | .refused => 4)) ∧
      counter 0x158 s.path.dropped ∧ counter 0x15A s.path.partialWatch ∧ counter 0x15C s.path.split ∧
      counter 0x15E s.path.fetchErrors ∧ rd 0x160 = bit s.bl.c.latch + 2 * bit s.bl.l.latch + 4 * bit s.bl.r.latch ∧
      (∀ i, (0x028 ≤ i ∧ i < 0x040) ∨ i = 0x043 ∨ (0x04B ≤ i ∧ i < 0x080) ∨ (0x09E ≤ i ∧ i < 0x0C0) ∨
          (0x0DE ≤ i ∧ i < 0x100) ∨ i = 0x102 ∨ i = 0x103 ∨ (0x10C ≤ i ∧ i < 0x110) ∨ i = 0x113 ∨ i = 0x11F ∨
          (0x121 ≤ i ∧ i < 0x124) ∨ (0x12C ≤ i ∧ i < 0x130) ∨ (0x131 ≤ i ∧ i < 0x134) ∨ (0x13C ≤ i ∧ i < 0x140) ∨
          (0x154 ≤ i ∧ i < 0x158) ∨ (0x161 ≤ i ∧ i < 0x3FC) → rd i = 0)

/-! ### Displays -/

/-- R3, R4, R7, R9, R12, R13, R19, R20, R30, R32, R114: a centre blank event. The staged scene is adopted, with the
geometry of the entries it names in the table in force and the scroll-fault flags, the view follows the RVC, the
pressure record closes its frame, if one ends there (the blank event of the entry to RUNNING, before which no frame
record has been latched, closes none: log entry 46), a line period at whose start SCAN_C is urgent counts at once
(R9), the frame record is latched, and the engine begins to fetch its rows. The base choice is R114's; in OFF, and in
SHOWING without a SHOWING slot, it is the model's (log entries 35 and 44). -/
def Obligations.CentreBlankEventTaken : Prop :=
  ∀ (s : State) (tm : DispTiming), s.timing .centre = some tm → s.disp.c.running = true →
    ∃ t, exec .centreBlankEvent s = .next t ∧
      t = { s with
            disp := t.disp, centre := t.centre, cam := t.cam, rvc := t.rvc, guide := t.guide, load := t.load,
            bl := t.bl } ∧
      t.disp.l = s.disp.l ∧ t.disp.r = s.disp.r ∧ t.bl.l = s.bl.l ∧ t.bl.r = s.bl.r ∧
      t.disp.c.line = tm.ha ∧ t.disp.c.lineClk = 0 ∧ t.disp.c.blanked = true ∧ t.disp.c.kept = none ∧
      t.disp.c.frameNo = s.disp.c.frameNo ∧ t.disp.c.staged = none ∧
      (∀ sc, s.disp.c.staged = some sc →
        t.disp.c.active = some sc ∧ t.disp.c.content = (if sc.enable = true then .scene else .disabled) ∧
          t.disp.c.mark = sc.mark ∧
          (s.bl.c.started = true → t.bl.c.preload = if sc.enable = true then sc.duty else 0) ∧
          (let seen : Option Nat → Option Geom := fun r => r.bind (fun i =>
             match entryAt s.path.table i with
             | .overlay v => some { base := v.base, width := v.width, height := v.height }
             | _ => none)
           let faulty : SceneOverlay → Prop := fun o =>
             ∃ g, seen o.region = some g ∧ o.scrT + o.scrS + o.scrB ≠ g.height
           t.disp.c.cap = { base := seen sc.base, ov0 := seen sc.ov0.region, ov1 := seen sc.ov1.region } ∧
             (t.disp.c.fault0 = true ↔ faulty sc.ov0) ∧ (t.disp.c.fault1 = true ↔ faulty sc.ov1))) ∧
      (s.disp.c.staged = none →
        t.disp.c.cap = s.disp.c.cap ∧ t.disp.c.fault0 = s.disp.c.fault0 ∧ t.disp.c.fault1 = s.disp.c.fault1 ∧
        t.disp.c.active = s.disp.c.active ∧ t.disp.c.content = s.disp.c.content ∧ t.disp.c.mark = s.disp.c.mark ∧
          t.bl.c = s.bl.c) ∧
      t.centre.view = (if s.rvc.phase = .off then .host else .rear) ∧ t.centre.keepWindow = false ∧
      (s.disp.c.frame = none → t.centre.calm = s.centre.calm) ∧
      (s.disp.c.frame ≠ none →
        t.centre.calm = (if s.centre.urgentLines = 4 ∨ s.centre.underrunFlag = true then 0
          else min (s.centre.calm + 1) 120)) ∧
      t.centre.underrunFlag = false ∧ (2 ≤ tm.vb → t.centre.urgentLines = 0) ∧
      CountsUrgentLine
        { s.centre with
          view := t.centre.view, keepWindow := false, calm := t.centre.calm, urgentLines := 0, underrunFlag := false } t ∧
      (t.disp.c.markHigh = true ↔ t.disp.c.mark ≠ .off) ∧
      (∃ fr, t.disp.c.frame = some fr ∧ fr.view = t.centre.view ∧ fr.content = t.disp.c.content ∧
        fr.scene = t.disp.c.active ∧ fr.cap = t.disp.c.cap ∧ (fr.showing = true ↔ t.rvc.phase = .showing) ∧
        (t.rvc.phase = .off ∨ t.rvc.phase = .engaging → fr.camBase = .engagingFill) ∧
        (∀ k, t.cam.shown = some k → t.rvc.phase = .showing ∨ (t.rvc.phase = .releasing ∧ t.rvc.fresh = true) →
          fr.camBase = .slot k) ∧
        (t.rvc.phase = .lost ∨ (t.rvc.phase = .showing ∧ t.cam.shown = none) ∨
            (t.rvc.phase = .releasing ∧ (t.rvc.fresh = false ∨ t.cam.shown = none)) →
          fr.camBase = .unavailableFill)) ∧
      t.disp.c.FetchesAnew (t.layer .centre) s.disp.c.req

/-- R106, R110, R114, R121, R122, R177: the camera work of a centre blank event, GUIDE's part and the report. In
HOST_VIEW the SHOWING slot becomes EMPTY and leaves the arrival list. In REAR_VIEW with fresh set, the newest COMPLETE
slot later in the arrival list than the SHOWING one, or the newest COMPLETE slot where none is SHOWING, becomes
SHOWING, and every slot ahead of it becomes EMPTY and leaves the list. The report of the blank event is formed after
the camera work and GUIDE's part: with none in flight its sequence is one more, its page is the status page of that
state and it carries the cause set; with one in flight the skipped reports are one more and that report stays (R177,
R178). The base choice follows from the RVC state and the SHOWING slot. -/
def Obligations.CentreBlankCameraWork : Prop :=
  ∀ (s : State) (tm : DispTiming), s.timing .centre = some tm → s.disp.c.running = true → CameraSound s →
    ∃ t, exec .centreBlankEvent s = .next t ∧
      (∀ j, s.cam.laterComplete = some j ↔
        s.cam.slot j = .complete ∧ ∃ pre post, s.cam.arrivals = pre ++ j :: post ∧
          (∀ i ∈ post, s.cam.slot i ≠ .complete) ∧
          ((∀ k, s.cam.slot k ≠ .showing) ∨ ∃ k ∈ pre, s.cam.slot k = .showing)) ∧
      (s.rvc.phase = .off →
        (∀ k, t.cam.slot k = if s.cam.slot k = .showing then .empty else s.cam.slot k) ∧
          t.cam.arrivals = s.cam.arrivals.filter (fun k => s.cam.slot k != .showing) ∧ t.rvc = s.rvc) ∧
      (s.rvc.phase ≠ .off → s.rvc.fresh = false → t.cam = s.cam) ∧
      (∀ j, s.rvc.phase ≠ .off → s.rvc.fresh = true → s.cam.laterComplete = some j →
        t.cam.arrivals = s.cam.arrivals.dropWhile (· != j) ∧
          ∀ i, t.cam.slot i = if i = j then .showing
            else if i ∈ s.cam.arrivals.takeWhile (· != j) then .empty else s.cam.slot i) ∧
      (s.rvc.phase ≠ .off → s.cam.laterComplete = none → t.cam = s.cam) ∧
      (s.rvc.phase = .engaging →
        t.rvc = if t.cam.shown.isSome = true ∧ s.rvc.fresh = true then
            { s.rvc with phase := .showing, engage := none } else s.rvc) ∧
      (s.rvc.phase = .lost →
        t.rvc = if s.rvc.fresh = true ∧ s.cam.laterComplete.isSome = true then { s.rvc with phase := .showing }
          else s.rvc) ∧
      (s.rvc.phase = .showing ∨ s.rvc.phase = .releasing → t.rvc = s.rvc) ∧
      (t.rvc.phase = .showing →
        t.guide = { s.guide with
                    build := some { angle := s.link.angle, valid := s.link.valid, stale := s.link.steering.stale },
                    work := 0, back := SpanTable.empty, waiting := false }) ∧
      (t.rvc.phase ≠ .showing → t.guide = { s.guide with front := SpanTable.empty }) ∧
      (∃ fr, t.disp.c.frame = some fr ∧ (t.rvc.phase = .engaging → fr.camBase = .engagingFill) ∧
        (t.rvc.phase = .lost → fr.camBase = .unavailableFill) ∧
        (∀ k, t.cam.slot k = .showing → t.rvc.phase = .showing → fr.camBase = .slot k) ∧
        (∀ k, t.cam.slot k = .showing → t.rvc.phase = .releasing → t.rvc.fresh = true → fr.camBase = .slot k) ∧
        (t.rvc.phase = .releasing → t.rvc.fresh = false ∨ (∀ k, t.cam.slot k ≠ .showing) →
          fr.camBase = .unavailableFill)) ∧
      (s.load.begun = true →
        t.load = { s.load with
                   causes := if t.rvc.phase = s.rvc.phase then s.load.causes else s.load.causes ||| 0x004#10,
                   reportSeq := t.load.reportSeq, report := t.load.report, slot := t.load.slot,
                   skipped := t.load.skipped } ∧
        (s.load.report = none →
          t.load.reportSeq = s.load.reportSeq + 1 ∧ t.load.skipped = s.load.skipped ∧
            t.load.report = some
              { page := t.statusPage, granted := 0, back := 0, err := false, carried := t.load.causes } ∧
            (s.load.slot = none → t.load.slot = some (.reportBurst 0)) ∧
            (∀ w, s.load.slot = some w → t.load.slot = some w)) ∧
        (s.load.report ≠ none →
          t.load.reportSeq = s.load.reportSeq ∧ t.load.skipped = min (s.load.skipped + 1) 65535 ∧
            t.load.report = s.load.report ∧ t.load.slot = s.load.slot)) ∧
      (s.load.begun = false → t.load.report = s.load.report ∧ t.load.reportSeq = s.load.reportSeq)

/-- R3, R9, R12, R125: the active events. The frame number advances and wraps, the frame-mark line falls, and on the
centre GUIDE swaps its tables or abandons a build still running. A centre line at which SCAN_C is urgent then, and
that has not been counted, counts once (R9). -/
def Obligations.ActiveEventsTaken : Prop :=
  (∀ s : State, s.disp.c.running = true →
    ∃ t, exec .centreActiveEvent s = .next t ∧
      t = { s with disp := t.disp, centre := t.centre, guide := t.guide } ∧
      t.disp = { s.disp with
                 c := { s.disp.c with
                        line := 0, lineClk := 0, blanked := false, frameNo := s.disp.c.frameNo + 1,
                        markHigh := false, kept := none } } ∧
      CountsUrgentLine s.centre t ∧
      (s.guide.build = none → s.guide.waiting = true →
        t.guide = { s.guide with front := s.guide.back, back := s.guide.front, waiting := false }) ∧
      (s.guide.build = none → s.guide.waiting = false → t.guide = s.guide) ∧
      (s.guide.build ≠ none →
        t.guide.build = none ∧ t.guide.front = s.guide.front ∧ t.guide.waiting = s.guide.waiting ∧
          t.guide.overruns = min (s.guide.overruns + 1) 65535)) ∧
  (∀ (k : Seat) (s : State), (s.display (.rear k)).running = true →
    ∃ t, exec (.rearActiveEvent k) s = .next t ∧ t = { s with disp := t.disp } ∧
      t.display (.rear k) =
        { s.display (.rear k) with
          line := 0, lineClk := 0, blanked := false, frameNo := (s.display (.rear k)).frameNo + 1,
          markHigh := false, kept := none } ∧
      ∀ d, d ≠ .rear k → t.display d = s.display d)

/-- R3, R4, R9, R10, R12, R15, R19, R20, R22, R30, R32, R68 to R73, R76, R80: a rear blank event. The staged scene is
adopted, with the geometry of the entries it names in the table in force and the scroll-fault flags, and its duty
preloaded, the quality mode is decided from the centre's pressure record and the RVC, the presented set is determined
and the set that ceases to be presented loses its SHOWN buffer, the selection runs on the presented set with its
counts, the frame-mark line follows its mode, the frame record holds the SHOWN buffer of the presented set, and the
engine begins to fetch its rows. Of the pressure record only the present line may be counted, once, where SCAN_C is
urgent then (R9). -/
def Obligations.RearBlankEventTaken : Prop :=
  ∀ (k : Seat) (s : State) (tm : DispTiming), s.timing (.rear k) = some tm → (s.display (.rear k)).running = true →
    ∃ t, exec (.rearBlankEvent k) s = .next t ∧
      t = { s with disp := t.disp, centre := t.centre, rear := t.rear, sets := t.sets, bl := t.bl } ∧
      CountsUrgentLine s.centre t ∧
      (∀ d, d ≠ .rear k → t.display d = s.display d ∧ t.pwm d = s.pwm d) ∧
      (t.display (.rear k)).line = tm.ha ∧ (t.display (.rear k)).lineClk = 0 ∧ (t.display (.rear k)).kept = none ∧
      (t.display (.rear k)).frameNo = (s.display (.rear k)).frameNo ∧ (t.display (.rear k)).staged = none ∧
      (∀ sc, (s.display (.rear k)).staged = some sc →
        (t.display (.rear k)).active = some sc ∧
          (t.display (.rear k)).content = (if sc.enable = true then .scene else .disabled) ∧
          (t.display (.rear k)).mark = sc.mark ∧
          (let seen : Option Nat → Option Geom := fun r => r.bind (fun i =>
             match entryAt s.path.table i with
             | .overlay v => some { base := v.base, width := v.width, height := v.height }
             | _ => none)
           let film : Option Nat → Option Geom := fun r => r.bind (fun i =>
             match entryAt s.path.table i with
             | .film f => if f.seat = k then some { base := f.base, width := f.width, height := f.height } else none
             | _ => none)
           let faulty : SceneOverlay → Prop := fun o =>
             ∃ g, seen o.region = some g ∧ o.scrT + o.scrS + o.scrB ≠ g.height
           (t.display (.rear k)).cap = { base := film sc.base, ov0 := seen sc.ov0.region, ov1 := seen sc.ov1.region } ∧
             ((t.display (.rear k)).fault0 = true ↔ faulty sc.ov0) ∧
             ((t.display (.rear k)).fault1 = true ↔ faulty sc.ov1))) ∧
      ((s.display (.rear k)).staged = none →
        (t.display (.rear k)).cap = (s.display (.rear k)).cap ∧
        (t.display (.rear k)).fault0 = (s.display (.rear k)).fault0 ∧
        (t.display (.rear k)).fault1 = (s.display (.rear k)).fault1 ∧
        (t.display (.rear k)).active = (s.display (.rear k)).active ∧
          (t.display (.rear k)).content = (s.display (.rear k)).content) ∧
      (t.rearOf k).reduced =
        (if s.centre.urgentLines = 4 ∨ s.centre.underrunFlag = true ∨
            (s.rvc.phase ≠ .off ∧ s.reduceInReverse = true) then true
         else if s.centre.calm = 120 then false else (s.rearOf k).reduced) ∧
      ((t.display (.rear k)).mark = .off → (t.display (.rear k)).markHigh = false) ∧
      ((t.display (.rear k)).mark = .blank → (t.display (.rear k)).markHigh = true) ∧
      ((t.display (.rear k)).mark = .flip →
        ((t.display (.rear k)).markHigh = true ↔ ∃ i b, (t.rearOf k).presented = some i ∧ s.setAt i = some b ∧
          (b.select (Pair.get s.aud.streams b.seat)).flipped = true)) ∧
      (∀ sc, (s.display (.rear k)).staged = some sc → (s.pwm (.rear k)).started = true →
        t.pwm (.rear k) = { s.pwm (.rear k) with preload := if sc.enable = true then sc.duty else 0 }) ∧
      ((s.display (.rear k)).staged = none ∨ (s.pwm (.rear k)).started = false →
        t.pwm (.rear k) = s.pwm (.rear k)) ∧
      ((t.display (.rear k)).content = .noScene ∨ (t.display (.rear k)).active = none →
        (t.rearOf k).presented = none) ∧
      (∀ sc, (t.display (.rear k)).content ≠ .noScene → (t.display (.rear k)).active = some sc →
        (t.rearOf k).presented = sc.base.bind (fun i => if (s.setAt i).isSome = true then some i else none)) ∧
      (∀ i b, (s.rearOf k).presented = some i → s.setAt i = some b → (t.rearOf k).presented ≠ some i →
        t.setAt i = some
          { b with
            bufs := match b.shown with
              | some j => b.bufs.set j { phase := .free, tag := none }
              | none => b.bufs,
            shows := 0 }) ∧
      (∀ i b, (t.rearOf k).presented = some i → s.setAt i = some b →
        let sel := b.select (Pair.get s.aud.streams b.seat)
        t.setAt i = some sel.set ∧
          (b.seat = k →
            t.rearOf k =
              { s.rearOf k with
                reduced := (t.rearOf k).reduced, presented := some i,
                dropped := min ((s.rearOf k).dropped + sel.dropped) 65535,
                repeated := if sel.repeated = true then min ((s.rearOf k).repeated + 1) 65535 else (s.rearOf k).repeated,
                late := if sel.late = true then min ((s.rearOf k).late + 1) 65535 else (s.rearOf k).late } ∧
            ∀ j, j ≠ k → t.rearOf j = s.rearOf j)) ∧
      ((t.rearOf k).presented = none →
        t.rearOf k = { s.rearOf k with reduced := (t.rearOf k).reduced, presented := none } ∧
          ∀ j, j ≠ k → t.rearOf j = s.rearOf j) ∧
      (∀ i, (s.rearOf k).presented ≠ some i → (t.rearOf k).presented ≠ some i → t.setAt i = s.setAt i) ∧
      (∃ fr, (t.display (.rear k)).frame = some fr ∧ fr.content = (t.display (.rear k)).content ∧
        fr.scene = (t.display (.rear k)).active ∧ fr.cap = (t.display (.rear k)).cap ∧ fr.film = t.shownFilm k ∧
        fr.reduced = (t.rearOf k).reduced) ∧
      (t.display (.rear k)).FetchesAnew (t.layer (.rear k)) (s.display (.rear k)).req

/-- R64 to R66, R69 to R73, R80, Table 65: a selection holds a SHOWN frame that has not had its minimum shows,
counting the show alone; otherwise the eligible buffer nearest the tail, which there is whenever the ready queue holds
an eligible one, is SHOWN with a show count of 0, everything ahead of it and the buffer shown before become FREE, and
those behind keep their places; with no candidate the frame is shown again, counted unless it is held, and where none
is shown nothing is, and nothing is counted. A film pixel write and a film tag write act on a buffer by its state; a
notice of one acts on the named set, counts a buffer reclaimed or torn on the set's display, and a tag write captures
its record from the 16 bytes. -/
def Obligations.FilmBufferRules : Prop :=
  (∀ (b : BufSet) (st : Stream), b.Sound →
     (∀ i tag, b.shown = some i → (b.buf i).tag = some tag → min (b.shows + 1) 255 < tag.minShows →
       (b.select st).flipped = false ∧ (b.select st).dropped = 0 ∧ (b.select st).repeated = false ∧
         (b.select st).late = false ∧ (b.select st).set = { b with shows := min (b.shows + 1) 255 }) ∧
     (∀ c, b.candidate st = some c →
       (∀ i tag, b.shown = some i → (b.buf i).tag = some tag → tag.minShows ≤ min (b.shows + 1) 255) →
       (b.select st).flipped = true ∧ (b.select st).repeated = false ∧ eligible st (b.buf c) = true ∧
         ((b.select st).set.buf c).phase = .shown ∧ ((b.select st).set.buf c).tag = (b.buf c).tag ∧
         (b.select st).set.shows = 0 ∧
         b.ready = b.ready.takeWhile (· != c) ++ c :: (b.select st).set.ready ∧
         (b.select st).dropped = (b.ready.takeWhile (· != c)).length ∧
         (∀ i ∈ (b.select st).set.ready, (b.select st).set.buf i = b.buf i ∧ eligible st (b.buf i) = false) ∧
         (∀ i ∈ b.ready.takeWhile (· != c), (b.select st).set.buf i = FilmBuf.fresh) ∧
         (∀ i, b.shown = some i → (b.select st).set.buf i = FilmBuf.fresh))) ∧
  (∀ (b : BufSet) (st : Stream),
     (b.candidate st = none ↔ ∀ i ∈ b.ready, eligible st (b.buf i) = false) ∧
       (b.shown = none → b.candidate st = none →
         (b.select st).set = b ∧ (b.select st).flipped = false ∧ (b.select st).dropped = 0 ∧
           (b.select st).repeated = false ∧ (b.select st).late = false) ∧
       ∀ c, b.candidate st = some c →
         ∃ pre post, b.ready = pre ++ c :: post ∧ eligible st (b.buf c) = true ∧
           ∀ i ∈ post, eligible st (b.buf i) = false) ∧
  (∀ (b : BufSet) (st : Stream) (c : Nat) (tag : TagRecord), (b.buf c).tag = some tag →
     (eligible st (b.buf c) = true ↔ ∀ n, tag.sync = some n → st.phase = .playing → n ≤ st.blockSeq) ∧
     (b.candidate st = some c → (∀ i t, b.shown = some i → (b.buf i).tag = some t → t.minShows ≤ min (b.shows + 1) 255) →
       ((b.select st).late = true ↔ ∃ n, tag.sync = some n ∧ st.phase = .playing ∧ n + 2 < st.blockSeq)) ∧
     (∀ i, b.shown = some i → i = c → b.candidate st = none → tag.minShows ≤ min (b.shows + 1) 255 →
       (b.select st).flipped = false ∧ (b.select st).dropped = 0 ∧ (b.select st).repeated = !tag.hold ∧
         (b.select st).late = false ∧ (b.select st).set = { b with shows := min (b.shows + 1) 255 })) ∧
  (∀ (b : BufSet) (i : Nat) (tag : TagRecord), b.Sound → i < b.bufs.length →
     ((b.buf i).phase = .free → ((b.pixelWrite i).buf i).phase = .filling ∧ (b.pixelWrite i).ready = b.ready) ∧
     ((b.buf i).phase = .filling → b.pixelWrite i = b) ∧
     ((b.buf i).phase = .ready →
       ((b.pixelWrite i).buf i).phase = .filling ∧ ((b.pixelWrite i).buf i).tag = none ∧
         (b.pixelWrite i).ready = b.ready.filter (· != i)) ∧
     ((b.buf i).phase = .shown → b.pixelWrite i = b ∧ b.tagWrite i tag = b) ∧
     ((b.buf i).phase ≠ .shown →
       ((b.tagWrite i tag).buf i) = { phase := .ready, tag := some tag } ∧
         (b.tagWrite i tag).ready = b.ready.filter (· != i) ++ [i]) ∧
     (∀ j, j ≠ i → (b.pixelWrite i).buf j = b.buf j ∧ (b.tagWrite i tag).buf j = b.buf j)) ∧
  (∀ (s : State) (i j : Nat) (bytes : List Byte),
     (s.setAt i = none → s.notice (.filmPixel i j) = s ∧ s.notice (.filmTag i j bytes) = s) ∧
     (∀ b, s.setAt i = some b →
       (∃ t, s.notice (.filmPixel i j) = t ∧ t = { s with sets := t.sets, rear := t.rear } ∧
         t.setAt i = some (b.pixelWrite j) ∧ (∀ k, k ≠ i → t.setAt k = s.setAt k) ∧
         (∀ k, k ≠ b.seat → t.rearOf k = s.rearOf k) ∧
         t.rearOf b.seat =
           { s.rearOf b.seat with
             reclaimed := if (b.buf j).phase = .ready then min ((s.rearOf b.seat).reclaimed + 1) 65535
               else (s.rearOf b.seat).reclaimed,
             torn := if (b.buf j).phase = .shown then min ((s.rearOf b.seat).torn + 1) 65535
               else (s.rearOf b.seat).torn }) ∧
       (∃ t, s.notice (.filmTag i j bytes) = t ∧ t = { s with sets := t.sets, rear := t.rear } ∧
         t.setAt i = some (b.tagWrite j (readTag bytes)) ∧ (∀ k, k ≠ i → t.setAt k = s.setAt k) ∧
         (∀ k, k ≠ b.seat → t.rearOf k = s.rearOf k) ∧
         t.rearOf b.seat =
           { s.rearOf b.seat with
             torn := if (b.buf j).phase = .shown then min ((s.rearOf b.seat).torn + 1) 65535
               else (s.rearOf b.seat).torn }))) ∧
  (∀ (b0 b1 b2 b3 b4 b5 b6 b7 b8 b9 : Byte) (rest : List Byte),
     let tag := readTag ([b0, b1, b2, b3, b4, b5, b6, b7, b8, b9] ++ rest)
     tag.seqNo = b3 ++ b2 ++ b1 ++ b0 ∧
       tag.sync = (if b7 ++ b6 ++ b5 ++ b4 = 0xFFFFFFFF#32 then none else some (b7 ++ b6 ++ b5 ++ b4).toNat) ∧
       tag.minShows = max 1 (min 8 b8.toNat) ∧ tag.hold = b9.getLsbD 0)

/-- R1, R9, R22, R32, R35, R36: the end of a line: the line index advances and returns to 0 after the last, a
withdrawn film base and a line kept through a host reset (R22, log entry 42) end, and the next line may count an
underrun again; the other displays are untouched. The end of a line of the centre begins a new line period of the
pressure record: its mark is cleared, and set again, with the line counted up to 4, where SCAN_C is urgent at once (R9). The slot of a row whose last line this was is free, and the
free slots of a layer go, in their order, to the rows it needs next while it has any; a slot whose row is still to be
shown keeps it and its data. A granted burst of a row that retires will be discarded, and an error on it counted
unless an underrun had stopped the row; the burst of a film base withdrawn (R22) is discarded and its error counted,
and a burst that was to be discarded before keeps what R36 made of its errors, whatever row holds its slot since (log
entry 47). -/
def Obligations.LineEndTaken : Prop :=
  ∀ (d : Disp) (s : State) (tm : DispTiming), s.timing d = some tm → (s.display d).running = true →
    ∃ t, exec (.displayLineEnd d) s = .next t ∧ t = { s with disp := t.disp, centre := t.centre } ∧
      (∀ e, e ≠ d → t.display e = s.display e) ∧
      CountsUrgentLine (if d = .centre then { s.centre with lineUrgent := false } else s.centre) t ∧
      t.display d =
        { s.display d with
          line := if (s.display d).line + 1 < tm.ha + tm.vb then (s.display d).line + 1 else 0, lineClk := 0,
          lineCounted := false, withdraw := false, kept := none, frame := (t.display d).frame, base := (t.display d).base,
          ov0 := (t.display d).ov0, ov1 := (t.display d).ov1, req := (t.display d).req } ∧
      (t.display d).frame =
        (if (s.display d).withdraw = true then (s.display d).frame.map (fun fr => { fr with film := none })
         else (s.display d).frame) ∧
      (∀ q k, (s.display d).req = some q → q.granted = true → ((s.display d).buf q.layer).slots[q.slot]? = some k →
        ((s.display d).line < tm.ha → k.phase ≠ .free → k.last ≤ (s.display d).line →
          (t.display d).req = some { q with live := false, counted := q.counted && !(q.live && k.stopped) }) ∧
        ((s.display d).withdraw = true → q.layer = .base → k.stopped = false →
          (t.display d).req = some { q with live := false })) ∧
      (∀ q k, (s.display d).req = some q → ((s.display d).buf q.layer).slots[q.slot]? = some k → k.phase ≠ .free →
        ((s.display d).line < tm.ha → (s.display d).line < k.last) → ¬((s.display d).withdraw = true ∧ q.layer = .base) →
        (t.display d).req = some q) ∧
      (∀ l, ¬((s.display d).withdraw = true ∧ l = .base) →
        let line := (s.display d).line
        let b := (s.display d).buf l
        let b' := (t.display d).buf l
        b'.under = (if line < tm.ha then none else b.under) ∧
          b.Reassigned b' (t.layer d l) (fun k => k.phase == .free || (decide (line < tm.ha) && decide (k.last ≤ line))) id) ∧
      ((s.display d).withdraw = true → d ≠ .centre → (t.display d).buf .base = LayerBuf.empty)

/-- R9, R32, R33, R35: where the scan meets a pixel of a layer whose data has not arrived, the layer underruns from that
column, the line is counted once, and on the centre the pressure record is marked. The row is stopped, so that no further
burst of it is requested; a request for it that has not been granted is withdrawn, and the engine requests for another
row if one wants it; a granted one goes on, and where this is the row's last line, its data is discarded and no error on it
counted, from the end of the line on. The display's other fields, the other rows and the other layers stay as they were,
but that free slots go to the rows needed next (R32). The scan meets such a pixel while the display runs, in the layer's
clipped rectangle, outside its window and the window that is kept clear, in no row that repeats the one above, with no
underrun of the layer yet on the line, where no data of the pixel has been fetched. R6, R21 to R27, R29, R31, R35: the
pixel a running display shows in its active area: black in DISABLED outside REAR_VIEW and in the protected window of the
interval of R27 (black in the whole window is the model's reading, log entry 32); otherwise the background, the base (on
a line kept through a host reset what the line has of it: R22, log entry 42), the spans of the lowest band and the two
overlays in that order, each where it has a pixel there: a layer of the frame has one within its clipped rectangle and
outside its window, up to the column it underruns from, where the data of its source row has arrived. A display in OFF
holds its pixel output at rest with black level and inactive synchronisation (R2); a running one carries a pixel in the
active width of its active lines alone (R1). -/
def Obligations.LayerUnderrunTaken : Prop :=
  (∀ (d : Disp) (l : LayerId) (col : Nat) (s : State), col < 1920 → s.meetsUnderrun d l col = true →
    let x := s.display d
    let onLine : LineSlot → Bool := fun k => k.phase != .free && decide (k.first ≤ x.line ∧ x.line ≤ k.last)
    let withdrawn : ScanReq → Prop := fun q =>
      q.granted = false ∧ q.layer = l ∧ ∃ k, (x.buf l).slots[q.slot]? = some k ∧ onLine k = true
    ∃ t, exec (.layerUnderrun d l col) s = .next t ∧ t = { s with disp := t.disp, centre := t.centre } ∧
      (∀ e, e ≠ d → t.display e = s.display e) ∧
      (let y := t.display d
       y = { x with
             base := y.base, ov0 := y.ov0, ov1 := y.ov1, req := y.req, lineCounted := true,
             underruns := if x.lineCounted = true then x.underruns else min (x.underruns + 1) 65535 } ∧
       (y.buf l).under = some col ∧ (∀ m, m ≠ l → (y.buf m).under = (x.buf m).under) ∧
       (∀ (i : Nat) (k : LineSlot), (x.buf l).slots[i]? = some k → onLine k = true →
         (y.buf l).slots[i]? = some { k with stopped := true }) ∧
       (∀ m, (x.buf m).Reassigned (y.buf m) (s.layer d m) (fun k => k.phase == .free)
         (fun k => if m = l ∧ onLine k = true then { k with stopped := true } else k)) ∧
       (∀ q, x.req = some q → (¬withdrawn q → y.req = some q) ∧ (withdrawn q → y.req ≠ some q)) ∧
       (∀ q, y.req = some q → x.req = some q ∨
         (q.granted = false ∧ q.live = true ∧ q.counted = true ∧
           ∃ k, (y.buf q.layer).slots[q.slot]? = some k ∧ k.phase = .filling ∧ k.stopped = false)) ∧
       (y.req = none → ∀ m v k, s.layer d m = some v → k ∈ (y.buf m).slots → k.phase = .filling → k.stopped = false →
         v.bursts ≤ k.asked) ∧
       (∀ q k, x.req = some q → q.granted = true → q.live = true → q.layer = l → (x.buf l).slots[q.slot]? = some k →
         onLine k = true → k.last = x.line →
         ∃ u, exec (.displayLineEnd d) t = .next u ∧ (u.display d).req = some { q with live := false, counted := false })) ∧
      CountsUrgentLine (if d = .centre then { s.centre with underrunFlag := true } else s.centre) t) ∧
  (∀ (d : Disp) (l : LayerId) (col : Nat) (s : State),
    s.meetsUnderrun d l col = true ↔
      (s.display d).running = true ∧ ∃ v, s.layer d l = some v ∧
        (let b := (s.display d).buf l
         let row := (s.display d).line
         v.rect.x0 ≤ col ∧ col < v.rect.x1 ∧ v.rect.y0 ≤ row ∧ row < v.rect.y1 ∧
           (∀ z, v.window = some z → ¬(z.x0 ≤ col ∧ col < z.x1 ∧ z.y0 ≤ row ∧ row < z.y1)) ∧
           (∀ p, d = .centre → s.boot.profile = some p → s.centre.keepWindow = true →
             ¬(p.cam.cx + p.cam.px ≤ col ∧ col < min (p.cam.cx + p.cam.px + p.cam.pw) p.disp.c.wa ∧
               p.cam.cy + p.cam.py ≤ row ∧ row < min (p.cam.cy + p.cam.py + p.cam.ph) p.disp.c.ha)) ∧
           ¬(v.alternate = true ∧ (row - v.rect.y0) % 2 = 1) ∧ b.under = none ∧
           fetchedPixel b (some v) col row = none)) ∧
  (∀ (s : State) (d : Disp) (col : Nat) (p : Profile) (fr : FrameRecord), s.boot.profile = some p →
    (s.display d).frame = some fr →
    let x := s.display d
    let tm := Tri.get p.disp d
    let rear := d = .centre ∧ fr.view = .rear
    let c := p.cam
    let dark := fr.content = .disabled ∧ ¬rear
    let kept := d = .centre ∧ s.centre.keepWindow = true ∧ c.cx + c.px ≤ col ∧ col < c.cx + c.px + c.pw ∧
      c.cy + c.py ≤ x.line ∧ x.line < c.cy + c.py + c.ph
    let inCamera := c.cx ≤ col ∧ col < c.cx + c.width ∧ c.cy ≤ x.line ∧ x.line < c.cy + c.height
    let covers : Nat → Prop := fun b =>
      c.cx ≤ col ∧ c.cy ≤ x.line ∧ ∃ r a, s.guide.front.rows[x.line - c.cy]? = some r ∧ a ∈ r.spans ∧ a.band = b ∧
        c.cx + a.s ≤ col ∧ col ≤ c.cx + a.e
    let pixel : LayerId → Option Word := fun l => fetchedPixel (x.buf l) (layerOf p d fr l) col x.line
    (x.running = false ∨ tm.ha ≤ x.line ∨ tm.wa ≤ col → s.outputPixel d col = none) ∧
    (x.running = true → tm.ha ≤ x.line ∨ tm.wa ≤ col → s.pixelOutput d col = .noPixel) ∧
    (x.running = true → ∀ rgb, s.outputPixel d col = some rgb → s.pixelOutput d col = .pixel rgb) ∧
    (x.running = true → x.line < tm.ha → col < tm.wa →
      (dark ∨ kept → s.outputPixel d col = some 0) ∧
      (¬dark → ¬kept → ∃ v0 v1 v2 v3 v4 : Word, s.outputPixel d col = some (v4.extractLsb' 0 24) ∧
        (∀ sc, fr.content = .scene → fr.scene = some sc → v0 = sc.background) ∧
        (fr.content ≠ .scene → v0 = tm.background) ∧
        (rear → inCamera → fr.camBase = .engagingFill → v1 = 0) ∧
        (rear → inCamera → fr.camBase = .unavailableFill → v1 = c.unavailable) ∧
        (¬rear ∨ ¬inCamera ∨ (∃ k, fr.camBase = .slot k) →
          (d = .centre ∨ x.kept = none → v1 = (pixel .base).getD v0) ∧
            ∀ k h, d = .rear k → x.kept = some h →
              v1 = ((if h.x0 ≤ col ∧ col < h.x1 then h.slot.pixel (col - h.x0) else none).getD v0)) ∧
        (∀ b, rear → fr.showing = true → covers b → (∀ b', covers b' → b ≤ b') →
          (b = 1 → v2 = p.guide.colour1) ∧ (b = 2 → v2 = p.guide.colour2) ∧ (b = 3 → v2 = p.guide.colour3) ∧
            (b = 4 → v2 = p.guide.colourStatic)) ∧
        (¬rear ∨ fr.showing = false ∨ (∀ b, ¬covers b) → v2 = v1) ∧
        (∀ w o, pixel .ov0 = some w → fr.overlay .ov0 = some o → v3 = blend o.la w v2) ∧
        (pixel .ov0 = none → v3 = v2) ∧
        (∀ w o, pixel .ov1 = some w → fr.overlay .ov1 = some o → v4 = blend o.la w v3) ∧
        (pixel .ov1 = none → v4 = v3)))) ∧
  (∀ (s : State) (d : Disp) (clk : Nat), (s.display d).running = false → s.pixelOutput d clk = .atRest 0 false) ∧
  (∀ (p : Profile) (d : Disp) (fr : FrameRecord),
    let tm := Tri.get p.disp d
    let c := p.cam
    let plain : Geom → Nat → Nat → LayerView := fun g x y =>
      { base := g.base, stride := g.width * 4, height := g.height,
        rect := { x0 := x, y0 := y, x1 := min (x + g.width) tm.wa, y1 := min (y + g.height) tm.ha },
        scroll := none, alternate := false, window := none }
    (∀ k sc g i, d = .rear k → fr.content = .scene → fr.scene = some sc → fr.cap.base = some g → fr.film = some i →
      layerOf p d fr .base = some
        { plain g sc.x sc.y with
          base := g.base + i * ((g.width * 4 * g.height + 16 + 4095) / 4096 * 4096), alternate := fr.reduced }) ∧
    (∀ k, d = .rear k → fr.content ≠ .scene ∨ fr.cap.base = none ∨ fr.film = none → layerOf p d fr .base = none) ∧
    (∀ sc g, d = .centre → fr.view = .host → fr.content = .scene → fr.scene = some sc → fr.cap.base = some g →
      layerOf p d fr .base = some (plain g sc.x sc.y)) ∧
    (d = .centre → fr.view = .host → fr.content ≠ .scene ∨ fr.cap.base = none → layerOf p d fr .base = none) ∧
    (∀ k, d = .centre → fr.view = .rear → fr.camBase = .slot k →
      layerOf p d fr .base = some
        (plain { base := c.base + k * ((c.width * c.height * 4 + 4095) / 4096 * 4096), width := c.width, height := c.height }
          c.cx c.cy)) ∧
    (d = .centre → fr.view = .rear → (∀ k, fr.camBase ≠ .slot k) → layerOf p d fr .base = none) ∧
    (∀ l o g, fr.content = .scene → fr.overlay l = some o → fr.overlayGeom l = some g →
      (¬(d = .centre ∧ fr.view = .rear) → layerOf p d fr l = some { plain g o.x o.y with scroll := some o }) ∧
      (d = .centre → fr.view = .rear → o.revVisible = true →
        layerOf p d fr l = some
          { plain g o.x o.y with
            scroll := some o,
            window := some { x0 := c.cx + c.px, y0 := c.cy + c.py, x1 := min (c.cx + c.px + c.pw) tm.wa,
                             y1 := min (c.cy + c.py + c.ph) tm.ha } }) ∧
      (d = .centre → fr.view = .rear → o.revVisible = false → layerOf p d fr l = none)) ∧
    (∀ l, l ≠ .base → fr.content ≠ .scene ∨ fr.overlayGeom l = none → layerOf p d fr l = none)) ∧
  (∀ (v : LayerView) (r : Nat),
    (v.scroll = none → v.source r = r) ∧
    (∀ o, v.scroll = some o →
      (o.scrT + o.scrS + o.scrB = v.height → 0 < o.scrS → o.scrT ≤ r → r < o.scrT + o.scrS →
        v.source r = o.scrT + (r - o.scrT + o.scrP % o.scrS) % o.scrS) ∧
      (o.scrT + o.scrS + o.scrB ≠ v.height ∨ o.scrS = 0 ∨ r < o.scrT ∨ o.scrT + o.scrS ≤ r → v.source r = r))) ∧
  (∀ (b : LayerBuf) (v : LayerView) (col row : Nat) (w : Word),
    fetchedPixel b none col row = none ∧
    (fetchedPixel b (some v) col row = some w ↔
      v.rect.x0 ≤ col ∧ col < v.rect.x1 ∧ v.rect.y0 ≤ row ∧ row < v.rect.y1 ∧
      (∀ z, v.window = some z → ¬(z.x0 ≤ col ∧ col < z.x1 ∧ z.y0 ≤ row ∧ row < z.y1)) ∧
      (∀ u, b.under = some u → col < u) ∧
      ∃ (n : Nat) (k : LineSlot) (data : List RBeat) (beat : RBeat),
        b.slots[n]? = some k ∧ k.phase ≠ .free ∧ k.first ≤ row ∧ row ≤ k.last ∧
        (∀ (m : Nat) (j : LineSlot), m < n → b.slots[m]? = some j → ¬(j.phase ≠ .free ∧ j.first ≤ row ∧ row ≤ j.last)) ∧
        k.chunks.find? (fun y => y.1 == (col - v.rect.x0) / 32) = some ((col - v.rect.x0) / 32, data) ∧
        data[(col - v.rect.x0) % 32 / 2]? = some beat ∧
        w = if (col - v.rect.x0) % 2 = 0 then beat.lo.b3 ++ beat.lo.b2 ++ beat.lo.b1 ++ beat.lo.b0
          else beat.hi.b3 ++ beat.hi.b2 ++ beat.hi.b1 ++ beat.hi.b0))

/-- R9, R33, R36, R59: the completion of an engine's burst: its data enters the line slot it was read for, which is
COMPLETE once every burst its row needs has arrived. An error gives no data and is counted, unless the data would have
been discarded under R35 or R37; an error, or data that is discarded, leaves the pixels of every slot as they are.
Where SCAN_C is urgent then, a centre line not yet counted counts once (R9). R26, R33: an engine without a request
presents one for the filling slot whose row is needed earliest, the lowest layer first on one row: the next burst of
that row that holds a pixel to draw, up to 16 beats and not beyond the beat of the last column shown. That a burst
after one left out keeps its place, 128 bytes times its number from the row's start, is the model's reading, and so is
that the last column shown is that of the clipped rectangle, also on a row whose last columns lie inside the protected
window (log entry 30). -/
def Obligations.ScanBurstCompleted : Prop :=
  (∀ (d : Disp) (r : Reply) (s : State) (f : Flight) (q : ScanReq), s.dueFlight = some f → f.owner = .scan d →
    (s.display d).req = some q → q.granted = true → r.wfBurst = true → r.wf q.beats = true →
    ∃ t, exec (.scanBurstComplete d r) s = .next t ∧
      t = { s with arb := t.arb, disp := t.disp, path := t.path, centre := t.centre } ∧
      t.arb = { s.arb with flights := s.arb.flights.tail } ∧ (∀ e, e ≠ d → t.display e = s.display e) ∧
      t.path = { s.path with
                 fetchErrors := if q.counted = true ∧ r = .error then min (s.path.fetchErrors + 1) 65535
                   else s.path.fetchErrors } ∧
      CountsUrgentLine s.centre t ∧
      (t.display d).line = (s.display d).line ∧ (t.display d).frame = (s.display d).frame ∧
      (∀ data k, q.live = true → r = .ok data → (s.layer d q.layer).isSome = true →
        ((s.display d).buf q.layer).slots[q.slot]? = some k → k.phase = .filling →
        ∃ k', ((t.display d).buf q.layer).slots[q.slot]? = some k' ∧ k'.chunks = k.chunks ++ [(q.burst, data)] ∧
          k'.first = k.first ∧ k'.last = k.last ∧ k'.src = k.src ∧
            ∀ v, s.layer d q.layer = some v → (k'.phase = .complete ↔ k'.whole v = true)) ∧
      (∀ l i k, ((s.display d).buf l).slots[i]? = some k → k.phase ≠ .free →
        q.live = false ∨ r = .error ∨ l ≠ q.layer ∨ i ≠ q.slot →
        ∃ n, ((t.display d).buf l).slots[i]? = some { k with asked := n })) ∧
  (∀ (x : Display) (view : LayerId → Option LayerView), x.req = none →
    let rank : LayerId → Nat := fun l =>
      match l with
      | .base => 0
      | .ov0 => 1
      | .ov1 => 2
    let wants : LayerId → Nat → LayerView → LineSlot → Prop := fun l i v k =>
      view l = some v ∧ (x.buf l).slots[i]? = some k ∧ k.phase = .filling ∧ k.stopped = false ∧ k.asked < v.bursts
    ((x.choose view).req = none ↔ ∀ l i v k, ¬wants l i v k) ∧
    (∀ q, (x.choose view).req = some q → ∃ v k, wants q.layer q.slot v k ∧
      q = { layer := q.layer, slot := q.slot, burst := k.asked, addr := v.base + k.src * v.stride + 128 * k.asked,
            beats := min 16 ((v.rect.x1 - v.rect.x0 + 1) / 2 - 16 * k.asked), granted := false, live := true,
            counted := true } ∧
      (∀ l i v' k', wants l i v' k' → k.first ≤ k'.first ∧ (k.first = k'.first → rank q.layer ≤ rank l)) ∧
      ((x.choose view).buf q.layer).slots[q.slot]? = some { k with asked := v.nextBurst k.first (k.asked + 1) })) ∧
  (∀ (v : LayerView) (y b : Nat),
    v.bursts = (v.rect.x1 - v.rect.x0 + 31) / 32 ∧
    (∀ m, v.needs y m = false ↔ ∃ w, v.window = some w ∧ w.y0 ≤ y ∧ y < w.y1 ∧ w.x0 ≤ v.rect.x0 + 32 * m ∧
      v.rect.x0 + min (32 * m + 32) (v.rect.x1 - v.rect.x0) ≤ w.x1) ∧
    v.nextBurst y b ≤ v.bursts ∧ (v.nextBurst y b < v.bursts → b ≤ v.nextBurst y b ∧ v.needs y (v.nextBurst y b) = true) ∧
    (∀ m, b ≤ m → m < v.nextBurst y b → v.needs y m = false))

/-! ### COMP -/

/-- R28: an overlay pixel is blended over the running value. -/
def Obligations.BlendFollowsRule : Prop :=
  ∀ (la : Nat) (fg bg : Word), la ≤ 255 →
    let la' := la + la / 128
    let a := (la' * channel fg 3 + 128) / 256
    let a' := a + a / 128
    la' ≤ 256 ∧ (la = 255 → la' = 256) ∧ a ≤ 255 ∧ a' ≤ 256 ∧
      (∀ i, i < 3 →
        channel (blend la fg bg) i = (a' * channel fg i + (256 - a') * channel bg i + 128) / 256 ∧
          (a = 255 → channel (blend la fg bg) i = channel fg i) ∧
          (a = 0 → channel (blend la fg bg) i = channel bg i)) ∧
      (∀ bg' : Word, (∀ i, i < 3 → channel bg' i = channel bg i) → blend la fg bg' = blend la fg bg) ∧
      (∀ (p : Profile) (d : Disp) (x : Display) (fr : FrameRecord) (l : LayerId) (o : SceneOverlay) (col row : Nat),
        o.la = la → fr.overlay l = some o → fetchedPixel (x.buf l) (layerOf p d fr l) col row = some fg →
        overlayOver p d fr l (x.buf l) col row bg = blend la fg bg) ∧
      (∀ (p : Profile) (d : Disp) (x : Display) (fr : FrameRecord) (g : SpanTable) (col row : Nat),
        ∃ v, stackPixel p d x fr g col row =
          overlayOver p d fr .ov1 (x.buf .ov1) col row (overlayOver p d fr .ov0 (x.buf .ov0) col row v))

/-! ### BL -/

/-- R15, R16, R17: the backlight rows. A period end takes the preloaded duty and discards a held one; a fault input that
becomes active latches and cuts the output of a started channel and raises BACKLIGHT_FAULT; the input of a channel that
is not started is not examined (R18), only its level changes; the release of the input leaves the latch. -/
def Obligations.BacklightRows : Prop :=
  ∀ (d : Disp) (s : State),
    ((s.pwm d).started = true →
      ∃ t, exec (.pwmPeriodEnd d) s = .next t ∧ t = { s with bl := t.bl } ∧
        t.pwm d = { s.pwm d with base := (s.pwm d).preload, held := none, counter := 0, down := true } ∧
        ∀ e, e ≠ d → t.pwm e = s.pwm e) ∧
    (Tri.get s.pins.fault d = false → (s.pwm d).started = true →
      ∃ t, exec (.backlightFault d) s = .next t ∧ t = { s with pins := t.pins, bl := t.bl, load := t.load } ∧
        t.pwm d = { s.pwm d with latch := true, enabled := false } ∧ (∀ e, e ≠ d → t.pwm e = s.pwm e) ∧
        t.load = { s.load with causes := s.load.causes ||| 0x100#10 } ∧ Tri.get t.pins.fault d = true ∧
        t.pwmOutput d = false) ∧
    (Tri.get s.pins.fault d = false → (s.pwm d).started = false →
      exec (.backlightFault d) s = .next { s with pins := { s.pins with fault := Tri.set s.pins.fault d true } }) ∧
    exec (.faultInputRelease d) s = .next { s with pins := { s.pins with fault := Tri.set s.pins.fault d false } }

/-- R14: over one period of an even length the counter lies below the threshold of a duty, duty × (P/2) div 4095, on
exactly twice as many ticks as the threshold; a duty of 4095 is always high, a duty of 0 never. R15, R16, R18: the
output is high while the output enable is set and the counter is below the threshold of the duty in effect, the base
duty; on the centre the greater of it and the reverse duty while the RVC is not OFF, and a held duty, if there is one,
while it is. -/
def Obligations.PwmHighTicks : Prop :=
  (∀ (c : PwmState) (period duty : Nat), period % 2 = 0 → 256 ≤ period → duty ≤ 4095 →
    ((List.range period).filter (fun pos => decide ((c.moveTo period pos).counter < threshold period duty))).length =
      2 * threshold period duty ∧
    threshold period duty = duty * (period / 2) / 4095 ∧ threshold period 4095 = period / 2 ∧
    threshold period 0 = 0) ∧
  (∀ (s : State) (d : Disp) (p : Profile), s.boot.profile = some p →
    let c := s.pwm d
    (s.pwmOutput d = true ↔
      c.enabled = true ∧ c.counter < s.dutyInEffect d * ((Tri.get p.disp d).period / 2) / 4095) ∧
    (∀ k, d = .rear k → s.dutyInEffect d = c.base) ∧
    (d = .centre → s.rvc.phase ≠ .off → s.dutyInEffect d = max c.base p.rev.duty) ∧
    (∀ h, d = .centre → s.rvc.phase = .off → c.held = some h → s.dutyInEffect d = h) ∧
    (d = .centre → s.rvc.phase = .off → c.held = none → s.dutyInEffect d = c.base)) ∧
  (∀ (s : State) (d : Disp), s.boot.profile = none → s.pwmOutput d = false)

/-! ### AUD and MIX -/

/-- R87, R94, R96, R97, R149, R150, R156, R158, R161: an output frame: the six samples by the table of R97, each within
−32768..32767, the frame phase and CHIME's position or fade advanced by one. A stream's samples at phase f are the bytes
4f and 4f + 2 of its play buffer as signed 16-bit numbers, and 0 where it is not PLAYING or its block was fetched in
error; a chime sample is the triangle scaled by level and envelope, the envelope R150's attack and release. A duck step
moves the gain by one toward the least of 256, the duck level while CHIME is not IDLE, and 0 while the RVC is not OFF
and mute-in-reverse is set. That an output frame moves the ramp counter and a duck step is a row of its own, which sets
the counter to 0, is the model's choice (log entry 29), and so is the mark of the frame with phase 255 (log entry
12). -/
def Obligations.AudioFrameRows : Prop :=
  (∀ s : State, s.aud.clock = true →
     ∃ t o, exec .outputFrame s = .next t ∧
       t = { s with aud := t.aud, mix := t.mix, chime := t.chime } ∧
       t.mix = { s.mix with out := some o, ramp := (s.mix.ramp + 1) % 8 } ∧
       t.aud = { s.aud with
                 phase := (s.aud.phase + 1) % 256, lastFrame := s.aud.phase == 255, sub := 0 } ∧
       (let x0 := s.aud.streams.l.samples s.aud.phase
        let x1 := s.aud.streams.r.samples s.aud.phase
        let ch := s.chime.sample s.patterns
        let h := if ch.2 = true then ch.1 else 0
        let sat : Int → Int := fun x => if x < -32768 then -32768 else if 32767 < x then 32767 else x
        o.hpL = ⟨sat (x0.l * s.mix.v.l / 256 + h), sat (x0.r * s.mix.v.l / 256 + h)⟩ ∧
          o.hpR = ⟨sat (x1.l * s.mix.v.r / 256 + h), sat (x1.r * s.mix.v.r / 256 + h)⟩ ∧
          (s.mix.route = .silent → o.cabin = ⟨sat ch.1, sat ch.1⟩) ∧
          (∀ k, s.mix.route = .stream k →
            let x := match k with | .left => x0 | .right => x1
            o.cabin = ⟨sat (x.l * s.mix.vc / 256 * s.mix.gain / 256 + ch.1),
              sat (x.r * s.mix.vc / 256 * s.mix.gain / 256 + ch.1)⟩)) ∧
       (s.chime.phase = .idle → t.chime = s.chime ∧ s.chime.sample s.patterns = (0, false)) ∧
       (∀ e, s.chime.phase = .playing → s.chime.playing = some e →
         let p := patternAt s.patterns e.pattern
         let st := p.stepAt s.chime.step
         let env := envelope st s.chime.frame
         s.chime.sample s.patterns = (toneSample st s.chime.acc env, p.headphones != 0) ∧
           t.chime = { s.chime with
                       frame := s.chime.frame + 1, lastEnv := env,
                       acc := if st.tone = 0 then s.chime.acc
                         else (s.chime.acc + (st.tone * 2 ^ 24 + 24000) / 48000) % 2 ^ 24 }) ∧
       (∀ f, s.chime.phase = .switching → s.chime.fade = some f →
         let p := patternAt s.patterns f.pattern
         let st := p.stepAt f.step
         s.chime.sample s.patterns = (toneSample st s.chime.acc (f.e0 * (240 - f.m) / 240), p.headphones != 0) ∧
           t.chime = { s.chime with
                       fade := some { f with m := min (f.m + 1) 240 },
                       acc := if st.tone = 0 then s.chime.acc
                         else (s.chime.acc + (st.tone * 2 ^ 24 + 24000) / 48000) % 2 ^ 24 }) ∧
       (∀ y ∈ [o.hpL.l, o.hpL.r, o.hpR.l, o.hpR.r, o.cabin.l, o.cabin.r], -32768 ≤ y ∧ y ≤ 32767)) ∧
  (∀ s : State, s.aud.clock = true →
     let d := if s.chime.phase = .idle then 256 else min 256 s.mix.duck
     let target := if s.rvc.phase ≠ .off ∧ s.mix.mute = true then 0 else d
     exec .duckStep s = .next
       { s with
         mix := { s.mix with
                  ramp := 0,
                  gain := if s.mix.gain < target then s.mix.gain + 1
                          else if target < s.mix.gain then s.mix.gain - 1 else s.mix.gain } }) ∧
  (∀ (st : Stream) (f : Nat),
     (st.phase ≠ .playing ∨ st.ring = none → st.samples f = ⟨0, 0⟩) ∧
     (∀ r, st.phase = .playing → st.ring = some r →
       (r.play[f / 2]? = none → st.samples f = ⟨0, 0⟩) ∧
       ∀ b, r.play[f / 2]? = some b →
         let w := if f % 2 = 0 then b.lo else b.hi
         st.samples f = ⟨(w.b1 ++ w.b0).toInt, (w.b3 ++ w.b2).toInt⟩)) ∧
  (∀ (st : ChimeStep) (acc env : Nat),
     let p : Int := ((acc / 256 : Nat) : Int)
     let tri := if p < 32768 then 2 * p - 32768 else 98303 - 2 * p
     (st.tone = 0 → toneSample st acc env = 0) ∧
       (st.tone ≠ 0 → toneSample st acc env = tri * st.level / 256 * env / 256)) ∧
  (∀ (st : ChimeStep) (n : Nat),
     let len := st.duration * 48
     let a := st.attack * 48
     let r := st.release * 48
     n < len →
       (a ≤ n → n + r < len → envelope st n = 256) ∧ (n < a → n + r < len → envelope st n = 256 * n / a) ∧
       (a ≤ n → len ≤ n + r → envelope st n = 256 * (len - n) / r) ∧
       (n < a → len ≤ n + r → envelope st n = min (256 * n / a) (256 * (len - n) / r)))

/-- R87, R88, R89, R90, R91, R93: a block boundary. In a PLAYING stream its block has finished and the block sequence
advances; the successor plays if it is FILLED and fetched and the stream is not exhausted, otherwise the stream enters
UNDERRUN, is counted, and AUDIO_UNDERRUN is raised. A stream in UNDERRUN returns to PLAYING on its awaited block by
the same test, with its sequence and counter as they were, or stays. A PRIMING stream starts once it is primed, its
prime count of blocks from the awaited one on FILLED in ring order, and fetched, all 8 bursts of its prefetch back. A
block that begins to play takes what was fetched into the play buffer, nothing if an error came among it, and where
the block after it is FILLED the next prefetch becomes due (R91), that of stream 0 first when both do. A STOPPED
stream with no ring stays as it is. That the boundary is a row of its own, which finds the frame phase at 0 or sets it
there (R87), is the model's choice (log entry 12). -/
def Obligations.BlockBoundaryTaken : Prop :=
  ∀ s : State, s.aud.clock = true →
    let kept : State → Seat → Option Prefetch := fun u k => (Pair.get u.aud.streams k).ring.bind (·.prefetch)
    let next : RingRecord → Nat → Option Prefetch → Option Prefetch := fun r n f =>
      match f with
      | some f => some f
      | none => if r.block n = .filled then some { block := n, granted := 0, back := 0, err := false, data := [] } else none
    let after : RingRecord → Nat → Nat := fun r j => if j + 1 < r.desc.n then j + 1 else 0
    ∃ t, exec .blockBoundary s = .next t ∧ t = { s with aud := t.aud, load := t.load } ∧ t.aud.phase = 0 ∧
      t.aud.due = s.aud.due ++ [Seat.left, .right].filter (fun k => (kept t k).isSome && decide (kept t k ≠ kept s k)) ∧
      (∀ k r p, (Pair.get s.aud.streams k).phase = .playing → (Pair.get s.aud.streams k).ring = some r →
        r.playing = some p → p < r.blocks.length →
        let st' := Pair.get t.aud.streams k
        let j := if p + 1 < r.desc.n then p + 1 else 0
        ∃ r', st'.ring = some r' ∧
          st'.blockSeq = min ((Pair.get s.aud.streams k).blockSeq + 1) 4294967295 ∧
          (st'.blockSeq ≠ 4294967295 → j ≠ p → r.block j = .filled → r.fetched j = true →
            st'.phase = .playing ∧ r'.playing = some j ∧ r'.block p = .empty ∧ r'.block j = .playing ∧
              st'.underruns = (Pair.get s.aud.streams k).underruns ∧
              (∀ f, r.prefetch = some f → r'.play = if f.err = true then [] else f.data) ∧
              r'.prefetch = next r' (after r j) none) ∧
          (st'.blockSeq = 4294967295 ∨ j = p ∨ r.block j ≠ .filled ∨ r.fetched j = false →
            st'.phase = .underrun ∧ r'.playing = none ∧ r'.awaited = some j ∧ r'.block p = .empty ∧ r'.play = [] ∧
              r'.prefetch = next r' j r.prefetch ∧
              st'.underruns = min ((Pair.get s.aud.streams k).underruns + 1) 65535 ∧
              t.load.causes.getLsbD 5 = true)) ∧
      (∀ k r j, (Pair.get s.aud.streams k).phase = .priming → (Pair.get s.aud.streams k).ring = some r →
        r.awaited = some j → j < r.blocks.length →
        let st' := Pair.get t.aud.streams k
        (r.primed r.prime j = true → r.fetched j = true →
          ∃ r', st'.ring = some r' ∧ st'.phase = .playing ∧ r'.playing = some j ∧ r'.block j = .playing ∧
            st'.blockSeq = (Pair.get s.aud.streams k).blockSeq ∧
              (∀ f, r.prefetch = some f → r'.play = if f.err = true then [] else f.data) ∧
              r'.prefetch = next r' (after r j) none) ∧
        (r.primed r.prime j = false ∨ r.fetched j = false →
          st'.phase = .priming ∧ st'.underruns = (Pair.get s.aud.streams k).underruns ∧
            (r.playing = none → st'.ring = some { r with prefetch := next r j r.prefetch }))) ∧
      (∀ k r j, (Pair.get s.aud.streams k).phase = .underrun → (Pair.get s.aud.streams k).ring = some r →
        r.awaited = some j → j < r.blocks.length →
        let st := Pair.get s.aud.streams k
        let st' := Pair.get t.aud.streams k
        st'.blockSeq = st.blockSeq ∧ st'.underruns = st.underruns ∧ st'.lateWrites = st.lateWrites ∧
        (st.blockSeq ≠ 4294967295 → r.block j = .filled → r.fetched j = true →
          ∃ r', st'.ring = some r' ∧ st'.phase = .playing ∧ r'.playing = some j ∧ r'.awaited = none ∧
            r'.blocks = r.blocks.set j .playing ∧
              (∀ f, r.prefetch = some f → r'.play = if f.err = true then [] else f.data) ∧
              r'.prefetch = next r' (after r j) none) ∧
        (st.blockSeq = 4294967295 ∨ r.block j ≠ .filled ∨ r.fetched j = false →
          ∃ r', st'.ring = some r' ∧ st'.phase = .underrun ∧ r'.awaited = some j ∧ r'.blocks = r.blocks ∧
            (r.playing = none → r' = { r with prefetch := next r j r.prefetch }))) ∧
      (∀ k, (Pair.get s.aud.streams k).ring = none → Pair.get t.aud.streams k = Pair.get s.aud.streams k) ∧
      (∀ (r : RingRecord) (c j : Nat),
        (j < r.desc.n → (r.primed c j = true ↔ ∀ m, m < c → r.block ((j + m) % r.desc.n) = .filled)) ∧
        (r.fetched j = true ↔ ∃ f, r.prefetch = some f ∧ f.block = j ∧ f.back = 8) ∧
        (∀ b, r.blocks[j]? = some b → r.block j = b))

/-- R91, R93: the completion of a prefetch burst: its data joins the prefetch, an error marks it and is counted; the burst
of an abandoned prefetch is discarded. -/
def Obligations.AudioBurstCompleted : Prop :=
  ∀ (s : State) (f : Flight) (k : Seat), s.dueFlight = some f → f.owner = .audio k →
    (f.live = true → ∀ r p, (Pair.get s.aud.streams k).ring = some r → r.prefetch = some p →
      (∀ data : List RBeat, data.length = 16 →
        ∃ t, exec (.audioBurstComplete (.ok data)) s = .next t ∧ t = { s with arb := t.arb, aud := t.aud } ∧
          t.arb = { s.arb with flights := s.arb.flights.tail } ∧
          Pair.get t.aud.streams k =
            { Pair.get s.aud.streams k with
              ring := some { r with prefetch := some { p with back := p.back + 1, data := p.data ++ data } } }) ∧
      (∃ t, exec (.audioBurstComplete .error) s = .next t ∧
        t = { s with arb := t.arb, aud := t.aud, path := t.path } ∧
        t.path = { s.path with fetchErrors := min (s.path.fetchErrors + 1) 65535 } ∧
        t.arb = { s.arb with flights := s.arb.flights.tail } ∧
        Pair.get t.aud.streams k =
          { Pair.get s.aud.streams k with
            ring := some { r with prefetch := some { p with back := p.back + 1, err := true } } })) ∧
    (f.live = false → ∀ r : Reply, r.wf 16 = true →
      exec (.audioBurstComplete r) s = .next { s with arb := { s.arb with flights := s.arb.flights.tail } })

/-! ### CHIME -/

/-- R149, R150: for a level and an envelope in range a chime sample lies within −32640..32640, and the envelope of every
frame of a step lies within 0..256. -/
def Obligations.ChimeSampleInRange : Prop :=
  (∀ (st : ChimeStep) (acc env : Nat), st.level ≤ 255 → env ≤ 256 → acc < 2 ^ 24 →
    -32640 ≤ toneSample st acc env ∧ toneSample st acc env ≤ 32640 ∧ nextAcc st acc < 2 ^ 24) ∧
  (∀ (st : ChimeStep) (n : Nat), envelope st n ≤ 256)

/-- R156: the end of the playing step, in its four cases; at a finish the host slots among the entry's sources are DONE,
with CHIME_RESULT raised (R162), and the successor is the stack top or the pending list's head, the higher priority of the
two and the stack top on equality (R157), which resumes at its resume point or begins with its full passes; with neither
CHIME becomes IDLE. -/
def Obligations.ChimeStepEndTaken : Prop :=
  ∀ (s : State) (e : ChimeEntry), s.chime.phase = .playing → s.chime.playing = some e →
    let count := (patternAt s.patterns e.pattern).count
    (s.chime.step + 1 < count →
      exec .chimeStepEnd s = .next { s with chime := { s.chime with step := s.chime.step + 1, frame := 0, acc := 0 } }) ∧
    (count ≤ s.chime.step + 1 → s.chime.passes = none →
      exec .chimeStepEnd s = .next { s with chime := { s.chime with step := 0, frame := 0, acc := 0 } }) ∧
    (∀ n, count ≤ s.chime.step + 1 → s.chime.passes = some n → 1 < n →
      exec .chimeStepEnd s = .next
        { s with chime := { s.chime with step := 0, frame := 0, acc := 0, passes := some (n - 1) } }) ∧
    (∀ n, count ≤ s.chime.step + 1 → s.chime.passes = some n → n ≤ 1 →
      ∃ t, exec .chimeStepEnd s = .next t ∧ t = { s with chime := t.chime, load := t.load } ∧
        (∀ j, Source.slot j ∈ e.sources → j < s.chime.results.length →
          t.chime.results[j]? = some .done ∧ t.load.causes.getLsbD 4 = true) ∧
        (∀ j, Source.slot j ∉ e.sources → t.chime.results[j]? = s.chime.results[j]?) ∧
        ((∀ j, Source.slot j ∉ e.sources) → t.load = s.load) ∧
        (let begins : ChimeEntry → Prop := fun x =>
           t.chime.phase = .playing ∧ t.chime.playing = some { x with resume := none } ∧ t.chime.frame = 0 ∧
             t.chime.acc = 0 ∧ t.chime.fade = none ∧
             (∀ r, x.resume = some r → t.chime.step = r.step ∧ t.chime.passes = r.passes) ∧
             (x.resume = none → t.chime.step = 0 ∧
               t.chime.passes = if (patternAt s.patterns x.pattern).repeats = 0 then none
                 else some (patternAt s.patterns x.pattern).repeats)
         (∀ x, s.chime.stack.getLast? = some x → (∀ w, s.chime.waiting.head? = some w → w.priority ≤ x.priority) →
           begins x ∧ t.chime.stack = s.chime.stack.dropLast ∧ t.chime.waiting = s.chime.waiting) ∧
         (∀ w, s.chime.waiting.head? = some w → (∀ x, s.chime.stack.getLast? = some x → x.priority < w.priority) →
           begins w ∧ t.chime.stack = s.chime.stack ∧ t.chime.waiting = s.chime.waiting.tail)) ∧
        (s.chime.stack = [] → s.chime.waiting = [] → t.chime.phase = .idle ∧ t.chime.playing = none ∧
          t.chime.fade = none))

/-- R157, R158: the end of a fade. A waiting playing entry starts, at step 0 with its full passes or at its resume point;
otherwise the successor is the stack top or the pending list's head, the higher priority of the two and the stack top on
equality, which resumes at its resume point or begins with its full passes; with neither CHIME becomes IDLE and its sample
is 0. -/
def Obligations.SuccessorChosen : Prop :=
  ∀ s : State, ChimeSound s → s.chime.phase = .switching →
    ∃ t, exec .fadeEnd s = .next t ∧ t = { s with chime := t.chime } ∧
      (∀ e, s.chime.playing = some e →
        t.chime.phase = .playing ∧ t.chime.playing = some { e with resume := none } ∧ t.chime.frame = 0 ∧
          t.chime.acc = 0 ∧ t.chime.fade = none ∧
          (∀ r, e.resume = some r → t.chime.step = r.step ∧ t.chime.passes = r.passes) ∧
          (e.resume = none → t.chime.step = 0 ∧
            t.chime.passes = if (patternAt s.patterns e.pattern).repeats = 0 then none
              else some (patternAt s.patterns e.pattern).repeats) ∧
          t.chime.stack = s.chime.stack ∧ t.chime.waiting = s.chime.waiting) ∧
      (∀ e, s.chime.playing = none → s.chime.stack.getLast? = some e →
        (∀ w, s.chime.waiting.head? = some w → w.priority ≤ e.priority) →
        ∃ r, e.resume = some r ∧ t.chime.phase = .playing ∧ t.chime.playing = some { e with resume := none } ∧
          t.chime.step = r.step ∧ t.chime.frame = 0 ∧ t.chime.passes = r.passes ∧
          t.chime.stack = s.chime.stack.dropLast ∧ t.chime.waiting = s.chime.waiting) ∧
      (∀ w, s.chime.playing = none → s.chime.waiting.head? = some w →
        (∀ e, s.chime.stack.getLast? = some e → e.priority < w.priority) →
        t.chime.phase = .playing ∧ t.chime.playing = some w ∧ t.chime.step = 0 ∧ t.chime.frame = 0 ∧
          t.chime.passes = (if (patternAt s.patterns w.pattern).repeats = 0 then none
            else some (patternAt s.patterns w.pattern).repeats) ∧
          t.chime.waiting = s.chime.waiting.tail ∧ t.chime.stack = s.chime.stack) ∧
      (s.chime.playing = none → s.chime.stack = [] → s.chime.waiting = [] →
        t.chime.phase = .idle ∧ t.chime.playing = none ∧ t.chime.sample s.patterns = (0, false))

/-! ### CAM -/

/-- R99, R102, R103, R104: a frame-valid rise counts the frame, measures the period in whole microseconds, and picks a
slot, the lowest-indexed EMPTY one or else the oldest COMPLETE one, or skips the frame; a frame that begins while one is
being stored is rejected. Until CAM has started the port is ignored. The loss of the signal stops the measurement. The
operand is the reference ticks since the step before: that many ticks pass, as IdleStepIsOneTick says what one of them
does, and the row acts on what they leave (log entry 4). -/
def Obligations.CameraSignalRows : Prop :=
  (∀ (e : Nat) (s : State), s.cam.phase = .idle → ∃ u, TicksPass e s u ∧ exec (.cameraFrameStart e) s = .next u) ∧
  (∀ (e : Nat) (s : State), s.cam.phase ≠ .idle →
    ∃ u t, TicksPass e s u ∧ exec (.cameraFrameStart e) s = .next t ∧ t = { u with cam := t.cam } ∧
      t.cam = { s.cam with
                phase := .receiving, period := some 0, reported := t.cam.reported, slots := t.cam.slots,
                arrivals := t.cam.arrivals, writing := t.cam.writing, received := min (s.cam.received + 1) 65535,
                rejected := t.cam.rejected } ∧
      (s.cam.phase = .noSignal → t.cam.reported = 0) ∧
      (∀ n, s.cam.phase = .receiving → s.cam.period = some n →
        t.cam.reported = min (n + e) (1048575 * 24) / 24) ∧
      (s.cam.writing ≠ none →
        t.cam.writing = s.cam.writing ∧ t.cam.slots = s.cam.slots ∧ t.cam.arrivals = s.cam.arrivals ∧
          t.cam.rejected = min (s.cam.rejected + 1) 65535) ∧
      (let stored : Nat → Prop := fun k =>
         t.cam.slots = s.cam.slots.set k .writing ∧ t.cam.arrivals = s.cam.arrivals.filter (· != k) ∧
           t.cam.writing = some { slot := k, lines := 0, col := 0, lineOpen := false, passed := false,
                                  outstanding := 0 } ∧
           t.cam.rejected = s.cam.rejected
       (∀ k, s.cam.writing = none → s.cam.slots.findIdx? (· == .empty) = some k → stored k) ∧
       (∀ pre k post, s.cam.writing = none → (∀ x ∈ s.cam.slots, x ≠ .empty) → s.cam.arrivals = pre ++ k :: post →
         s.cam.slot k = .complete → (∀ i ∈ pre, s.cam.slot i ≠ .complete) → stored k)) ∧
      (s.cam.writing = none → (∀ x ∈ s.cam.slots, x ≠ .empty) → (∀ i ∈ s.cam.arrivals, s.cam.slot i ≠ .complete) →
        t.cam.slots = s.cam.slots ∧ t.cam.arrivals = s.cam.arrivals ∧ t.cam.writing = none ∧
          t.cam.rejected = s.cam.rejected)) ∧
  (∀ s : State, s.cam.phase = .receiving →
    exec .cameraLoss s = .next { s with cam := { s.cam with phase := .noSignal, period := none, reported := 1048575 } })

/-- R99, R100, R101: the lines and pixels of a frame being stored, within its size. The pixel enters the line buffer
with its alpha byte 0xFF; a pixel or a line beyond the camera's size, and a short line, reject the frame. A rejection
frees the slot, empties the line buffer and the bursts, withdraws CAMERA's request and leaves its granted bursts dead,
is counted, and changes nothing else. -/
def Obligations.CameraPixelRows : Prop :=
  ∀ (s : State) (w : Writing) (p : CameraProfile) (rgb : BitVec 24), s.cam.writing = some w → s.camProfile = some p →
    (w.passed = false → w.lineOpen = false → w.lines < p.height →
      exec .cameraLineStart s = .next
        { s with
          cam := { s.cam with writing := some { w with lines := w.lines + 1, col := 0, lineOpen := true } } }) ∧
    (w.passed = false → w.lineOpen = false → p.height ≤ w.lines →
      exec .cameraLineStart s = .next (s.withFrameRejected w)) ∧
    (w.lineOpen = true → w.col < p.width → s.cam.buf.length < 2048 →
      ∃ t bs, exec (.cameraPixel rgb) s = .next t ∧ t = { s with cam := t.cam } ∧
        t.cam = { s.cam with
                  buf := s.cam.buf ++ [0xFF#8 ++ rgb], bursts := s.cam.bursts ++ bs,
                  writing := some { w with col := w.col + 1, outstanding := w.outstanding + bs.length } } ∧
        ((w.col + 1) % 32 = 0 ∨ w.col + 1 = p.width →
          bs = [{ addr := p.base + w.slot * p.slotBytes + (w.lines - 1) * (p.width * 4) + 128 * (w.col / 32),
                  npix := w.col % 32 + 1 }]) ∧
        (¬((w.col + 1) % 32 = 0 ∨ w.col + 1 = p.width) → bs = [])) ∧
    (w.lineOpen = true → p.width ≤ w.col ∨ 2048 ≤ s.cam.buf.length →
      exec (.cameraPixel rgb) s = .next (s.withFrameRejected w)) ∧
    (w.lineOpen = true → p.width ≤ w.col →
      exec .cameraLineEnd s = .next { s with cam := { s.cam with writing := some { w with lineOpen := false } } }) ∧
    (w.lineOpen = true → w.col < p.width → exec .cameraLineEnd s = .next (s.withFrameRejected w))

/-- R101, R102, R105: the end of a frame and the completions of its bursts. A frame with its lines passes its check
and completes with its last burst: the slot becomes COMPLETE at the tail of the arrival list, the freeze timer
restarts and fresh is set. A short frame, an open line that is short at the frame's end, and an error reject it, with
what every rejection does; the completion of a burst left dead by a rejection only arrives, and counts no error. -/
def Obligations.CameraFrameCompletes : Prop :=
  (∀ (s : State) (w : Writing) (p : CameraProfile), s.cam.writing = some w → s.camProfile = some p →
    w.passed = false →
    (w.lineOpen = true → w.col < p.width → exec .cameraFrameEnd s = .next (s.withFrameRejected w)) ∧
    ((w.lineOpen = true → p.width ≤ w.col) → p.height ≤ w.lines → w.outstanding = 0 →
      exec .cameraFrameEnd s = .next
        { s with
          cam := { s.cam with
                   slots := s.cam.slots.set w.slot .complete, arrivals := s.cam.arrivals ++ [w.slot], writing := none },
          rvc := { s.rvc with freeze := some s.freezeTime, fresh := true } }) ∧
    ((w.lineOpen = true → p.width ≤ w.col) → p.height ≤ w.lines → w.outstanding ≠ 0 →
      exec .cameraFrameEnd s = .next
        { s with cam := { s.cam with writing := some { w with lineOpen := false, passed := true } } }) ∧
    (w.lines < p.height → exec .cameraFrameEnd s = .next (s.withFrameRejected w))) ∧
  (∀ (err : Bool) (s : State) (f : Flight) (n : Nat), s.dueFlight = some f → f.owner = .camera n → f.live = false →
    exec (.cameraBurstComplete err) s = .next { s with arb := { s.arb with flights := s.arb.flights.tail } }) ∧
  (∀ (s : State) (f : Flight) (n : Nat) (w : Writing), s.dueFlight = some f → f.owner = .camera n → f.live = true →
    s.cam.writing = some w →
    (w.passed = true → w.outstanding = 1 →
      exec (.cameraBurstComplete false) s = .next
        { s with
          arb := { s.arb with flights := s.arb.flights.tail },
          cam := { s.cam with
                   slots := s.cam.slots.set w.slot .complete, arrivals := s.cam.arrivals ++ [w.slot], writing := none },
          rvc := { s.rvc with freeze := some s.freezeTime, fresh := true } }) ∧
    (w.passed = false ∨ 1 < w.outstanding →
      exec (.cameraBurstComplete false) s = .next
        { s with
          arb := { s.arb with flights := s.arb.flights.tail },
          cam := { s.cam with writing := some { w with outstanding := w.outstanding - 1 } } }) ∧
    exec (.cameraBurstComplete true) s = .next
      (State.withFrameRejected
        { s with
          arb := { s.arb with flights := s.arb.flights.tail },
          path := { s.path with fetchErrors := min (s.path.fetchErrors + 1) 65535 } } w))

/-! ### RVC -/

/-- R107, R108, R109, R111, R112, R113, R115, R117, R118: a change of REVIN restarts the debounce timer, which with a
time of 0 expires at the change itself, and changes the level alone before RVC has started; at its expiry a level that
differs from the taken one is taken and gives its event: from OFF to ENGAGING, from RELEASING back, and from ENGAGING,
SHOWING or LOST to RELEASING, or to OFF with a release time of 0. The engage, freeze and release timers expire; the
entry to OFF holds the centre duty in effect until the next period end (R16). Leaving OFF requests the reverse chime,
if CHIME has started and the profile names a pattern that is not empty; the entry to OFF cancels it. The times are the
profile's once the blocks hold one, and before that 20, 1000, 1000 and 0 ms (R108). -/
def Obligations.ReverseRows : Prop :=
  (∀ s : State,
     (∀ p, s.boot.profile = some p → s.debounceTime = p.rev.debounce ∧ s.engageTime = p.rev.engage ∧
       s.freezeTime = p.rev.freeze ∧ s.releaseTime = p.rev.release) ∧
     (s.boot.profile = none →
       s.debounceTime = 20 ∧ s.engageTime = 1000 ∧ s.freezeTime = 1000 ∧ s.releaseTime = 0)) ∧
  (∀ s : State, s.rvc.started = true →
     (s.debounceTime ≠ 0 →
       exec .revinChange s = .next
         { s with
           pins := { s.pins with revin := !s.pins.revin },
           rvc := { s.rvc with debounce := some s.debounceTime } }) ∧
     (s.rvc.debounce.isSome = true → s.pins.revin = s.rvc.taken →
       exec .debounceExpiry s = .next { s with rvc := { s.rvc with debounce := none } }) ∧
     (s.rvc.debounce.isSome = true → s.pins.revin = true → s.rvc.taken = false → s.rvc.phase = .off →
       ∃ t, exec .debounceExpiry s = .next t ∧
         t = { s with rvc := t.rvc, bl := t.bl, centre := t.centre, chime := t.chime, load := t.load } ∧
         t.rvc = { s.rvc with debounce := none, taken := true, phase := .engaging, engage := some s.engageTime } ∧
         t.bl = { s.bl with c := { s.bl.c with held := none } } ∧ t.load.causes.getLsbD 2 = true ∧
         t.centre = { s.centre with keepWindow := s.centre.keepWindow || s.centre.view == .host } ∧
         (∀ p, s.boot.profile = some p → s.chime.started = true → p.rev.chime ≤ 15 →
           (patternAt s.patterns p.rev.chime).count ≠ 0 →
           t.chime = (s.chimeRequest .reverse p.rev.chime).chime) ∧
         (s.boot.profile = none ∨ s.chime.started = false ∨ (∃ p, s.boot.profile = some p ∧
             (15 < p.rev.chime ∨ (patternAt s.patterns p.rev.chime).count = 0)) →
           t.chime = s.chime ∧ t.load = { s.load with causes := s.load.causes ||| 0x004#10 })) ∧
     (s.debounceTime = 0 →
       exec .revinChange s =
         exec .debounceExpiry
           { s with
             pins := { s.pins with revin := !s.pins.revin }, rvc := { s.rvc with debounce := some 0 } }) ∧
     (s.rvc.debounce.isSome = true → s.pins.revin = false → s.rvc.taken = true →
       s.rvc.phase = .engaging ∨ s.rvc.phase = .showing ∨ s.rvc.phase = .lost → s.releaseTime ≠ 0 →
       exec .debounceExpiry s = .next
         { s with
           rvc := { s.rvc with
                    debounce := none, taken := false, phase := .releasing, engage := none,
                    release := some s.releaseTime },
           load := { s.load with causes := s.load.causes ||| 0x004#10 } }) ∧
     (s.rvc.debounce.isSome = true → s.pins.revin = false → s.rvc.taken = true →
       s.rvc.phase = .engaging ∨ s.rvc.phase = .showing ∨ s.rvc.phase = .lost → s.releaseTime = 0 →
       ∃ t, exec .debounceExpiry s = .next t ∧
         t = { s with rvc := t.rvc, bl := t.bl, chime := t.chime, load := t.load } ∧
         t.rvc = { s.rvc with debounce := none, taken := false, phase := .off, engage := none, release := none } ∧
         t.load = { s.load with causes := s.load.causes ||| 0x004#10 } ∧
         t.chime = (s.chimeCancel .reverse).chime ∧
         (s.bl.c.started = true →
           t.bl = { s.bl with c := { s.bl.c with held := some (max s.bl.c.base s.reverseDuty) } })) ∧
     (s.rvc.debounce.isSome = true → s.pins.revin = true → s.rvc.taken = false → s.rvc.phase = .releasing →
       ∃ t, exec .debounceExpiry s = .next t ∧ t = { s with rvc := t.rvc, load := t.load } ∧
         t.rvc = { s.rvc with
                   debounce := none, taken := true, phase := if s.rvc.fresh = true then .showing else .lost,
                   release := none } ∧
         t.load.causes.getLsbD 2 = true ∧ (s.rvc.fresh = false → t.load.causes.getLsbD 3 = true))) ∧
  (∀ s : State, s.rvc.started = false →
     exec .revinChange s = .next { s with pins := { s.pins with revin := !s.pins.revin } }) ∧
  (∀ s : State,
     (s.rvc.engage.isSome = true → s.rvc.phase = .engaging →
       exec .engageTimerExpiry s = .next
         { s with
           rvc := { s.rvc with phase := .lost, engage := none },
           load := { s.load with causes := s.load.causes ||| 0x00C#10 } }) ∧
     (s.rvc.freeze.isSome = true → s.rvc.phase = .showing →
       exec .freezeTimerExpiry s = .next
         { s with
           rvc := { s.rvc with phase := .lost, fresh := false, freeze := none },
           load := { s.load with causes := s.load.causes ||| 0x00C#10 } }) ∧
     (s.rvc.freeze.isSome = true → s.rvc.phase ≠ .showing →
       exec .freezeTimerExpiry s = .next { s with rvc := { s.rvc with fresh := false, freeze := none } }) ∧
     (s.rvc.release.isSome = true → s.rvc.phase = .releasing →
       ∃ t, exec .releaseTimerExpiry s = .next t ∧
         t = { s with rvc := t.rvc, bl := t.bl, chime := t.chime, load := t.load } ∧
         t.rvc = { s.rvc with phase := .off, engage := none, release := none } ∧
         t.load = { s.load with causes := s.load.causes ||| 0x004#10 } ∧
         t.chime = (s.chimeCancel .reverse).chime ∧
         (s.bl.c.started = true → t.bl = { s.bl with c := { s.bl.c with held := some (max s.bl.c.base s.reverseDuty) } } ∧
           t.dutyInEffect .centre = s.dutyInEffect .centre)))

/-! ### LINK -/

/-- R139, R140, R141, R145, R146, Table 44: the rows of the receiver and its timers, once LINK has started. A start bit
is taken outside a byte and the stop bit inside one; elsewhere their rows leave the state. A fall gives the rows that
Table 44's samples make: none for a disturbance, otherwise the start bit and the byte sampled, or a stop-bit error.
Conditions going stale fall in ascending order. That the gap timer stops at the row of the start bit is the model's
reading (log entry 40). -/
def Obligations.LinkRows : Prop :=
  ∀ s : State, s.link.started = true →
    (s.link.rx ≠ .inByte →
      exec .linkStartBit s = .next { s with link := { s.link with rx := .inByte, gap := none } } ∧
        exec .linkStopBitError s = .next s ∧ ∀ b, exec (.linkByteTaken b) s = .next s) ∧
    (s.link.rx = .inByte → exec .linkStartBit s = .next s) ∧
    (∀ line : Nat → Bool,
      (line 48 = true → fallRows line = []) ∧
      (line 48 = false → line 912 = false → fallRows line = [.linkStartBit, .linkStopBitError]) ∧
      (line 48 = false → line 912 = true →
        ∃ b : Byte, fallRows line = [.linkStartBit, .linkByteTaken b] ∧
          ∀ i, i < 8 → b.getLsbD i = line (144 + 96 * i))) ∧
    (s.link.rx = .inByte → s.link.held = [] →
      exec .linkStopBitError s = .next { s with link := { s.link with rx := .waitHigh } }) ∧
    (s.link.rx = .inByte → s.link.held ≠ [] →
      exec .linkStopBitError s = .next
        { s with
          link := { s.link with
                    held := [], gap := none, checkErrors := min (s.link.checkErrors + 1) 65535, rx := .waitHigh } }) ∧
    (s.link.gap.isSome = true →
      exec .gapTimerExpiry s = .next
        { s with
          link := { s.link with held := [], gap := none, checkErrors := min (s.link.checkErrors + 1) 65535 } }) ∧
    (s.link.steering.timer.isSome = true →
      exec (.freshnessTimerExpiry .steering) s = .next
        { s with
          link := { s.link with steering := { last := none, stale := true, timer := none } },
          load := { s.load with causes := s.load.causes ||| 0x080#10 } }) ∧
    (s.link.conditions.timer.isSome = true →
      ∃ t, exec (.freshnessTimerExpiry .conditions) s = .next t ∧
        t = { s with link := t.link, chime := t.chime, load := t.load } ∧
        t.link = { s.link with conds := 0, conditions := { last := none, stale := true, timer := none } } ∧
        t.load.causes.getLsbD 7 = true ∧
        t.chime = (((List.range 32).filter (fun k => s.link.conds.getLsbD k)).foldl
          (fun u k => u.chimeCancel (.cond k)) s).chime)

/-- R140, R142, R143, R144, R145, R146, R148, R152, R155: a byte taken at the end of a byte. The marker begins a frame, any
other byte before it is passed over, a byte that fits joins the open frame and restarts the gap timer, a wrong kind or
counter byte or check discards the frame, and a complete frame is acted on unless it repeats the last accepted counter
of its kind; a counter that is not the next of its kind counts a gap. An accepted frame starts the freshness timer of its
kind with the profile's timeout of that kind (R146). A conditions frame hands CHIME the rises of its
new conditions, ascending, and then the falls of those gone; a rise requests the pattern its condition maps to, if there
is one. -/
def Obligations.LinkByteRows : Prop :=
  ∀ (b : Byte) (s : State), s.link.started = true → s.link.rx = .inByte →
    (∀ p, s.boot.profile = some p → s.linkTimeout .steering = p.steerMs ∧ s.linkTimeout .conditions = p.condMs) ∧
    (s.link.held = [] → b = 0x5A →
      exec (.linkByteTaken b) s = .next
        { s with link := { s.link with rx := .watching, held := [b], gap := some 0 } }) ∧
    (s.link.held = [] → b ≠ 0x5A →
      exec (.linkByteTaken b) s = .next { s with link := { s.link with rx := .watching } }) ∧
    ((s.link.held.length = 1 ∧ (b = 1 ∨ b = 2)) ∨ (s.link.held.length = 2 ∧ b.toNat < 16) ∨
        (3 ≤ s.link.held.length ∧ s.link.held.length ≤ 6) →
      exec (.linkByteTaken b) s = .next
        { s with link := { s.link with rx := .watching, held := s.link.held ++ [b], gap := some 0 } }) ∧
    (s.link.held.length = 1 ∧ b ≠ 1 ∧ b ≠ 2 ∨ s.link.held.length = 2 ∧ 16 ≤ b.toNat →
      exec (.linkByteTaken b) s = .next
        { s with
          link := { s.link with
                    rx := .watching, held := [], gap := none,
                    checkErrors := min (s.link.checkErrors + 1) 65535 } }) ∧
    (∀ b0 b1 b2 b3 b4 b5 b6, s.link.held = [b0, b1, b2, b3, b4, b5, b6] →
      0xFF - (b1 + b2 + b3 + b4 + b5 + b6) ≠ b →
      exec (.linkByteTaken b) s = .next
        { s with
          link := { s.link with
                    rx := .watching, held := [], gap := none,
                    checkErrors := min (s.link.checkErrors + 1) 65535 } }) ∧
    (∀ b0 b2 b3 b4 b5 b6, s.link.held = [b0, 1, b2, b3, b4, b5, b6] →
      0xFF - (1 + b2 + b3 + b4 + b5 + b6) = b → s.link.steering.last ≠ some b2.toNat →
      ∃ t, exec (.linkByteTaken b) s = .next t ∧ t = { s with link := t.link } ∧
        t.link = { s.link with
                   rx := .watching, held := [], gap := none, angle := (b4 ++ b3).toInt, valid := b5.getLsbD 0,
                   steering := { last := some b2.toNat, stale := false, timer := some (s.linkTimeout .steering) },
                   good := min (s.link.good + 1) 65535, gaps := t.link.gaps } ∧
        t.link.gaps = (match s.link.steering.last with
          | none => s.link.gaps
          | some c => if b2.toNat = (c + 1) % 16 then s.link.gaps else min (s.link.gaps + 1) 65535)) ∧
    (∀ b0 b2 b3 b4 b5 b6, s.link.held = [b0, 2, b2, b3, b4, b5, b6] →
      0xFF - (2 + b2 + b3 + b4 + b5 + b6) = b → s.link.conditions.last ≠ some b2.toNat →
      ∃ t, exec (.linkByteTaken b) s = .next t ∧ t = { s with link := t.link, chime := t.chime, load := t.load } ∧
        t.link = { s.link with
                   rx := .watching, held := [], gap := none, conds := b6 ++ b5 ++ b4 ++ b3,
                   conditions := { last := some b2.toNat, stale := false, timer := some (s.linkTimeout .conditions) },
                   good := min (s.link.good + 1) 65535, gaps := t.link.gaps } ∧
        t.link.gaps = (match s.link.conditions.last with
          | none => s.link.gaps
          | some c => if b2.toNat = (c + 1) % 16 then s.link.gaps else min (s.link.gaps + 1) 65535) ∧
        (let now := b6 ++ b5 ++ b4 ++ b3
         let rises := (List.range 32).filter (fun k => now.getLsbD k && !s.link.conds.getLsbD k)
         let falls := (List.range 32).filter (fun k => s.link.conds.getLsbD k && !now.getLsbD k)
         t = falls.foldl (fun u k => u.chimeCancel (.cond k))
           (rises.foldl State.conditionRise { s with link := t.link }))) ∧
    (∀ k, (∀ p, s.boot.profile = some p → p.condMap.getD k 0xFF ≤ 15 →
        (patternAt s.patterns (p.condMap.getD k 0xFF)).count ≠ 0 →
        s.conditionRise k = s.chimeRequest (.cond k) (p.condMap.getD k 0xFF)) ∧
      (s.boot.profile = none ∨ (∃ p, s.boot.profile = some p ∧ (15 < p.condMap.getD k 0xFF ∨
          (patternAt s.patterns (p.condMap.getD k 0xFF)).count = 0)) →
        s.conditionRise k = s)) ∧
    (∀ b0 b2 b3 b4 b5 b6, s.link.held = [b0, 1, b2, b3, b4, b5, b6] →
      0xFF - (1 + b2 + b3 + b4 + b5 + b6) = b → s.link.steering.last = some b2.toNat →
      exec (.linkByteTaken b) s = .next { s with link := { s.link with rx := .watching, held := [], gap := none } }) ∧
    (∀ b0 b2 b3 b4 b5 b6, s.link.held = [b0, 2, b2, b3, b4, b5, b6] →
      0xFF - (2 + b2 + b3 + b4 + b5 + b6) = b → s.link.conditions.last = some b2.toNat →
      exec (.linkByteTaken b) s = .next { s with link := { s.link with rx := .watching, held := [], gap := none } })

/-! ### GUIDE -/

/-- R120, R123, R124, R127 to R136: a build that completes waits for the swap with its table in the back: one row a
camera row, within R134, with the angle used, 0 in static mode. Each row holds what its candidates leave, clipped to the
image and inserted in drawing order: the left edge's segments, the right edge's, and in a steered build the markers. The
points of an edge, the pixels of a segment and of a marker, and what an insertion does to a row are stated one after
another. -/
def Obligations.GuideBuildCompleted : Prop :=
  (∀ (s : State) (n : Snapshot) (p : Profile), s.guide.build = some n → s.boot.profile = some p →
    ∃ t, exec .guideBuildComplete s = .next t ∧ t = { s with guide := t.guide } ∧ t.guide.build = none ∧
      t.guide.waiting = true ∧ t.guide.front = s.guide.front ∧ t.guide.overruns = s.guide.overruns ∧
      t.guide.back.rows.length = p.cam.height ∧ t.guide.back.Sound ∧
      t.guide.back.isStatic = (n.stale || !n.valid) ∧
      t.guide.back.angle = (if n.stale = true ∨ n.valid = false then 0
        else if n.angle < -7800 then -7800 else if 7800 < n.angle then 7800 else n.angle) ∧
      t.guide.back.overfullRows = t.guide.back.rows.countP (·.overfull) ∧
      (∀ r, r < p.cam.height → t.guide.back.rows[r]? = some
        (((candidates p.guide p.cam n).filter (fun x => x.row == (r : Int))).foldl
          (fun (row : SpanRow) x =>
            if max x.s 0 ≤ min x.e ((p.cam.width : Int) - 1) then
              row.insert
                { s := (max x.s 0).toNat, e := (min x.e ((p.cam.width : Int) - 1)).toNat, band := x.band }
            else row) { spans := [], overfull := false }))) ∧
  (∀ n d : Int, d ≠ 0 → 2 * (n - roundDiv n d * d).natAbs ≤ d.natAbs ∧
    (2 * (n - roundDiv n d * d).natAbs = d.natAbs → n.natAbs ≤ (roundDiv n d * d).natAbs)) ∧
  (∀ (g : GuideProfile) (kappa : Int) (s : Nat),
    let xc := roundDiv (kappa * ((s * s : Nat) : Int)) 33554432
    let at32 : Int → Int := fun x => if x < -32768 then -32768 else if 32767 < x then 32767 else x
    let edge : Int → Int := fun x => if x < -32767 then -32767 else if 32767 < x then 32767 else x
    let y : Int := ((g.yb + s : Nat) : Int)
    let image : Int → Option ImgPoint := fun x =>
      let den := g.c1 * x + g.c2 * y + g.c3
      if den ≤ 0 then none
      else some { u := at32 (roundDiv (g.a1 * x + g.a2 * y + g.a3) den),
                  v := at32 (roundDiv (g.b1 * x + g.b2 * y + g.b3) den) }
    edgePoints g kappa s =
      (image (edge (xc - ((g.w / 2 : Nat) : Int))), image (edge (xc + ((g.w / 2 : Nat) : Int))))) ∧
  (∀ (g : GuideProfile) (c : CameraProfile) (n : Snapshot),
    let still := n.stale = true ∨ n.valid = false
    let kappa := n.kappa g
    let band : Nat → Nat := fun s =>
      if n.stale = true ∨ n.valid = false then 4 else if s < g.l1 then 1 else if s < g.l2 then 2 else 3
    let line : (Nat → Option ImgPoint) → List Candidate := fun pts =>
      (List.range (g.smax / 250)).flatMap (fun i =>
        match pts (250 * i), pts (250 * i + 250) with
        | some a, some b => segment g.lineWidth c.width c.height a b (band (250 * i))
        | _, _ => [])
    let bar : Nat → Nat → List Candidate := fun lb b =>
      match edgePoints g kappa lb with
      | (some l, some r) =>
        if lb % 250 = 0 ∧ lb ≤ g.smax then
          (List.range g.markerHeight).map (fun (i : Nat) =>
            { row := l.v + (i : Int), s := min l.u r.u, e := max l.u r.u, band := b })
        else []
      | _ => []
    let edges := line (fun s => (edgePoints g kappa s).1) ++ line (fun s => (edgePoints g kappa s).2)
    (still → kappa = 0 ∧ candidates g c n = edges) ∧
    (¬still → candidates g c n = edges ++ (bar g.l1 1 ++ bar g.l2 2 ++ bar g.l3 3))) ∧
  (∀ (w cw ch : Nat) (a b : ImgPoint) (band : Nat), 1 ≤ w →
    let xs := segment w cw ch a b band
    let du := b.u - a.u
    let dv := b.v - a.v
    let half : Int := (((w - 1) / 2 : Nat) : Int)
    (a = b → xs = (List.range w).map (fun (i : Nat) =>
      { row := a.v - half + (i : Int), s := a.u - half, e := a.u - half + (w : Int) - 1, band := band })) ∧
    (a ≠ b → du.natAbs ≤ dv.natAbs →
      (∀ x, x ∈ xs ↔ ∃ v : Int, min a.v b.v ≤ v ∧ v ≤ max a.v b.v ∧ 0 ≤ v ∧ v < (ch : Int) ∧
        x = { row := v, s := a.u + roundDiv ((v - a.v) * du) dv - half,
              e := a.u + roundDiv ((v - a.v) * du) dv - half + (w : Int) - 1, band := band }) ∧
      (a.v ≤ b.v → xs.Pairwise (fun x y => x.row < y.row)) ∧ (b.v < a.v → xs.Pairwise (fun x y => y.row < x.row))) ∧
    (dv.natAbs < du.natAbs →
      (∀ x, x ∈ xs ↔ ∃ (u : Int) (i : Nat), min a.u b.u ≤ u ∧ u ≤ max a.u b.u ∧ 0 ≤ u ∧ u < (cw : Int) ∧ i < w ∧
        x = { row := a.v + roundDiv ((u - a.u) * dv) du - half + (i : Int), s := u, e := u, band := band }) ∧
      (a.u ≤ b.u → xs.Pairwise (fun x y => x.s < y.s ∨ (x.s = y.s ∧ x.row < y.row))) ∧
      (b.u < a.u → xs.Pairwise (fun x y => y.s < x.s ∨ (x.s = y.s ∧ x.row < y.row))))) ∧
  (∀ (r : SpanRow) (n : Span), r.Sound → n.s ≤ n.e → 1 ≤ n.band → n.band ≤ 4 →
    let touches : Span → Bool := fun x => x.band == n.band && decide (x.s ≤ n.e + 1 ∧ n.s ≤ x.e + 1)
    let kept := r.spans.filter (fun x => !touches x)
    let met := r.spans.filter touches
    (r.insert n).Sound ∧
    (kept.length < 6 → (r.insert n).overfull = r.overfull ∧
      ∃ pre post, kept = pre ++ post ∧
        (r.insert n).spans = pre ++
          { s := met.foldl (fun z x => min z x.s) n.s, e := met.foldl (fun z x => max z x.e) n.e, band := n.band } ::
            post) ∧
    (6 ≤ kept.length → r.insert n = { r with overfull := true }))

/-- R126: in a steered build, GUIDE derives the curvature from the angle used by linear interpolation in K. -/
def Obligations.CurvatureInterpolates : Prop :=
  ∀ (n : Snapshot) (g : GuideProfile), n.stale = false → n.valid = true →
    let a : Int := clampAngle n.angle
    let i : Nat := if (a + 7800) / 975 = 16 then 15 else ((a + 7800) / 975).toNat
    let f : Int := (a + 7800) - 975 * i
    let k0 := g.k.getD i 0
    let k1 := g.k.getD (i + 1) 0
    i ≤ 15 ∧ 0 ≤ f ∧ f ≤ 975 ∧ n.kappa g = k0 + roundDiv ((k1 - k0) * f) 975 ∧
      min k0 k1 ≤ n.kappa g ∧ n.kappa g ≤ max k0 k1 ∧
      (7800 ≤ n.angle → i = 15 ∧ f = 975 ∧ n.kappa g = g.k.getD 16 0) ∧
      (n.angle ≤ -7800 → i = 0 ∧ f = 0 ∧ n.kappa g = g.k.getD 0 0) ∧
      (∀ j : Nat, j ≤ 16 → a = 975 * j - 7800 → n.kappa g = g.k.getD j 0)
end

