-- ==== Sys2Proof/Laws/State.lean ====
section
/-! SUPPORT. One lemma per field per update of the state, each true by `rfl`: a proof never unfolds a record
update. -/

namespace Sys2Proof.Machine

open Sys2Proof

variable (s : State)


/-! ### State.setPins -/

@[simp] theorem State.setPins_pins (x : Pins) : (s.setPins x).pins = x := rfl
@[simp] theorem State.setPins_boot (x : Pins) : (s.setPins x).boot = s.boot := rfl
@[simp] theorem State.setPins_tb (x : Pins) : (s.setPins x).tb = s.tb := rfl
@[simp] theorem State.setPins_path (x : Pins) : (s.setPins x).path = s.path := rfl
@[simp] theorem State.setPins_arb (x : Pins) : (s.setPins x).arb = s.arb := rfl
@[simp] theorem State.setPins_disp (x : Pins) : (s.setPins x).disp = s.disp := rfl
@[simp] theorem State.setPins_centre (x : Pins) : (s.setPins x).centre = s.centre := rfl
@[simp] theorem State.setPins_rear (x : Pins) : (s.setPins x).rear = s.rear := rfl
@[simp] theorem State.setPins_sets (x : Pins) : (s.setPins x).sets = s.sets := rfl
@[simp] theorem State.setPins_aud (x : Pins) : (s.setPins x).aud = s.aud := rfl
@[simp] theorem State.setPins_mix (x : Pins) : (s.setPins x).mix = s.mix := rfl
@[simp] theorem State.setPins_cam (x : Pins) : (s.setPins x).cam = s.cam := rfl
@[simp] theorem State.setPins_rvc (x : Pins) : (s.setPins x).rvc = s.rvc := rfl
@[simp] theorem State.setPins_guide (x : Pins) : (s.setPins x).guide = s.guide := rfl
@[simp] theorem State.setPins_link (x : Pins) : (s.setPins x).link = s.link := rfl
@[simp] theorem State.setPins_chime (x : Pins) : (s.setPins x).chime = s.chime := rfl
@[simp] theorem State.setPins_load (x : Pins) : (s.setPins x).load = s.load := rfl
@[simp] theorem State.setPins_bl (x : Pins) : (s.setPins x).bl = s.bl := rfl
@[simp] theorem State.setPins_pending (x : Pins) : (s.setPins x).pending = s.pending := rfl

/-! ### State.setBoot -/

@[simp] theorem State.setBoot_pins (x : BootState) : (s.setBoot x).pins = s.pins := rfl
@[simp] theorem State.setBoot_boot (x : BootState) : (s.setBoot x).boot = x := rfl
@[simp] theorem State.setBoot_tb (x : BootState) : (s.setBoot x).tb = s.tb := rfl
@[simp] theorem State.setBoot_path (x : BootState) : (s.setBoot x).path = s.path := rfl
@[simp] theorem State.setBoot_arb (x : BootState) : (s.setBoot x).arb = s.arb := rfl
@[simp] theorem State.setBoot_disp (x : BootState) : (s.setBoot x).disp = s.disp := rfl
@[simp] theorem State.setBoot_centre (x : BootState) : (s.setBoot x).centre = s.centre := rfl
@[simp] theorem State.setBoot_rear (x : BootState) : (s.setBoot x).rear = s.rear := rfl
@[simp] theorem State.setBoot_sets (x : BootState) : (s.setBoot x).sets = s.sets := rfl
@[simp] theorem State.setBoot_aud (x : BootState) : (s.setBoot x).aud = s.aud := rfl
@[simp] theorem State.setBoot_mix (x : BootState) : (s.setBoot x).mix = s.mix := rfl
@[simp] theorem State.setBoot_cam (x : BootState) : (s.setBoot x).cam = s.cam := rfl
@[simp] theorem State.setBoot_rvc (x : BootState) : (s.setBoot x).rvc = s.rvc := rfl
@[simp] theorem State.setBoot_guide (x : BootState) : (s.setBoot x).guide = s.guide := rfl
@[simp] theorem State.setBoot_link (x : BootState) : (s.setBoot x).link = s.link := rfl
@[simp] theorem State.setBoot_chime (x : BootState) : (s.setBoot x).chime = s.chime := rfl
@[simp] theorem State.setBoot_load (x : BootState) : (s.setBoot x).load = s.load := rfl
@[simp] theorem State.setBoot_bl (x : BootState) : (s.setBoot x).bl = s.bl := rfl
@[simp] theorem State.setBoot_pending (x : BootState) : (s.setBoot x).pending = s.pending := rfl

/-! ### State.setTb -/

@[simp] theorem State.setTb_pins (x : TimebaseState) : (s.setTb x).pins = s.pins := rfl
@[simp] theorem State.setTb_boot (x : TimebaseState) : (s.setTb x).boot = s.boot := rfl
@[simp] theorem State.setTb_tb (x : TimebaseState) : (s.setTb x).tb = x := rfl
@[simp] theorem State.setTb_path (x : TimebaseState) : (s.setTb x).path = s.path := rfl
@[simp] theorem State.setTb_arb (x : TimebaseState) : (s.setTb x).arb = s.arb := rfl
@[simp] theorem State.setTb_disp (x : TimebaseState) : (s.setTb x).disp = s.disp := rfl
@[simp] theorem State.setTb_centre (x : TimebaseState) : (s.setTb x).centre = s.centre := rfl
@[simp] theorem State.setTb_rear (x : TimebaseState) : (s.setTb x).rear = s.rear := rfl
@[simp] theorem State.setTb_sets (x : TimebaseState) : (s.setTb x).sets = s.sets := rfl
@[simp] theorem State.setTb_aud (x : TimebaseState) : (s.setTb x).aud = s.aud := rfl
@[simp] theorem State.setTb_mix (x : TimebaseState) : (s.setTb x).mix = s.mix := rfl
@[simp] theorem State.setTb_cam (x : TimebaseState) : (s.setTb x).cam = s.cam := rfl
@[simp] theorem State.setTb_rvc (x : TimebaseState) : (s.setTb x).rvc = s.rvc := rfl
@[simp] theorem State.setTb_guide (x : TimebaseState) : (s.setTb x).guide = s.guide := rfl
@[simp] theorem State.setTb_link (x : TimebaseState) : (s.setTb x).link = s.link := rfl
@[simp] theorem State.setTb_chime (x : TimebaseState) : (s.setTb x).chime = s.chime := rfl
@[simp] theorem State.setTb_load (x : TimebaseState) : (s.setTb x).load = s.load := rfl
@[simp] theorem State.setTb_bl (x : TimebaseState) : (s.setTb x).bl = s.bl := rfl
@[simp] theorem State.setTb_pending (x : TimebaseState) : (s.setTb x).pending = s.pending := rfl

/-! ### State.setPath -/

@[simp] theorem State.setPath_pins (x : PathState) : (s.setPath x).pins = s.pins := rfl
@[simp] theorem State.setPath_boot (x : PathState) : (s.setPath x).boot = s.boot := rfl
@[simp] theorem State.setPath_tb (x : PathState) : (s.setPath x).tb = s.tb := rfl
@[simp] theorem State.setPath_path (x : PathState) : (s.setPath x).path = x := rfl
@[simp] theorem State.setPath_arb (x : PathState) : (s.setPath x).arb = s.arb := rfl
@[simp] theorem State.setPath_disp (x : PathState) : (s.setPath x).disp = s.disp := rfl
@[simp] theorem State.setPath_centre (x : PathState) : (s.setPath x).centre = s.centre := rfl
@[simp] theorem State.setPath_rear (x : PathState) : (s.setPath x).rear = s.rear := rfl
@[simp] theorem State.setPath_sets (x : PathState) : (s.setPath x).sets = s.sets := rfl
@[simp] theorem State.setPath_aud (x : PathState) : (s.setPath x).aud = s.aud := rfl
@[simp] theorem State.setPath_mix (x : PathState) : (s.setPath x).mix = s.mix := rfl
@[simp] theorem State.setPath_cam (x : PathState) : (s.setPath x).cam = s.cam := rfl
@[simp] theorem State.setPath_rvc (x : PathState) : (s.setPath x).rvc = s.rvc := rfl
@[simp] theorem State.setPath_guide (x : PathState) : (s.setPath x).guide = s.guide := rfl
@[simp] theorem State.setPath_link (x : PathState) : (s.setPath x).link = s.link := rfl
@[simp] theorem State.setPath_chime (x : PathState) : (s.setPath x).chime = s.chime := rfl
@[simp] theorem State.setPath_load (x : PathState) : (s.setPath x).load = s.load := rfl
@[simp] theorem State.setPath_bl (x : PathState) : (s.setPath x).bl = s.bl := rfl
@[simp] theorem State.setPath_pending (x : PathState) : (s.setPath x).pending = s.pending := rfl

/-! ### State.setArb -/

@[simp] theorem State.setArb_pins (x : ArbState) : (s.setArb x).pins = s.pins := rfl
@[simp] theorem State.setArb_boot (x : ArbState) : (s.setArb x).boot = s.boot := rfl
@[simp] theorem State.setArb_tb (x : ArbState) : (s.setArb x).tb = s.tb := rfl
@[simp] theorem State.setArb_path (x : ArbState) : (s.setArb x).path = s.path := rfl
@[simp] theorem State.setArb_arb (x : ArbState) : (s.setArb x).arb = x := rfl
@[simp] theorem State.setArb_disp (x : ArbState) : (s.setArb x).disp = s.disp := rfl
@[simp] theorem State.setArb_centre (x : ArbState) : (s.setArb x).centre = s.centre := rfl
@[simp] theorem State.setArb_rear (x : ArbState) : (s.setArb x).rear = s.rear := rfl
@[simp] theorem State.setArb_sets (x : ArbState) : (s.setArb x).sets = s.sets := rfl
@[simp] theorem State.setArb_aud (x : ArbState) : (s.setArb x).aud = s.aud := rfl
@[simp] theorem State.setArb_mix (x : ArbState) : (s.setArb x).mix = s.mix := rfl
@[simp] theorem State.setArb_cam (x : ArbState) : (s.setArb x).cam = s.cam := rfl
@[simp] theorem State.setArb_rvc (x : ArbState) : (s.setArb x).rvc = s.rvc := rfl
@[simp] theorem State.setArb_guide (x : ArbState) : (s.setArb x).guide = s.guide := rfl
@[simp] theorem State.setArb_link (x : ArbState) : (s.setArb x).link = s.link := rfl
@[simp] theorem State.setArb_chime (x : ArbState) : (s.setArb x).chime = s.chime := rfl
@[simp] theorem State.setArb_load (x : ArbState) : (s.setArb x).load = s.load := rfl
@[simp] theorem State.setArb_bl (x : ArbState) : (s.setArb x).bl = s.bl := rfl
@[simp] theorem State.setArb_pending (x : ArbState) : (s.setArb x).pending = s.pending := rfl

/-! ### State.setDisps -/

@[simp] theorem State.setDisps_pins (x : Tri Display) : (s.setDisps x).pins = s.pins := rfl
@[simp] theorem State.setDisps_boot (x : Tri Display) : (s.setDisps x).boot = s.boot := rfl
@[simp] theorem State.setDisps_tb (x : Tri Display) : (s.setDisps x).tb = s.tb := rfl
@[simp] theorem State.setDisps_path (x : Tri Display) : (s.setDisps x).path = s.path := rfl
@[simp] theorem State.setDisps_arb (x : Tri Display) : (s.setDisps x).arb = s.arb := rfl
@[simp] theorem State.setDisps_disp (x : Tri Display) : (s.setDisps x).disp = x := rfl
@[simp] theorem State.setDisps_centre (x : Tri Display) : (s.setDisps x).centre = s.centre := rfl
@[simp] theorem State.setDisps_rear (x : Tri Display) : (s.setDisps x).rear = s.rear := rfl
@[simp] theorem State.setDisps_sets (x : Tri Display) : (s.setDisps x).sets = s.sets := rfl
@[simp] theorem State.setDisps_aud (x : Tri Display) : (s.setDisps x).aud = s.aud := rfl
@[simp] theorem State.setDisps_mix (x : Tri Display) : (s.setDisps x).mix = s.mix := rfl
@[simp] theorem State.setDisps_cam (x : Tri Display) : (s.setDisps x).cam = s.cam := rfl
@[simp] theorem State.setDisps_rvc (x : Tri Display) : (s.setDisps x).rvc = s.rvc := rfl
@[simp] theorem State.setDisps_guide (x : Tri Display) : (s.setDisps x).guide = s.guide := rfl
@[simp] theorem State.setDisps_link (x : Tri Display) : (s.setDisps x).link = s.link := rfl
@[simp] theorem State.setDisps_chime (x : Tri Display) : (s.setDisps x).chime = s.chime := rfl
@[simp] theorem State.setDisps_load (x : Tri Display) : (s.setDisps x).load = s.load := rfl
@[simp] theorem State.setDisps_bl (x : Tri Display) : (s.setDisps x).bl = s.bl := rfl
@[simp] theorem State.setDisps_pending (x : Tri Display) : (s.setDisps x).pending = s.pending := rfl

/-! ### State.setCentre -/

@[simp] theorem State.setCentre_pins (x : CentreState) : (s.setCentre x).pins = s.pins := rfl
@[simp] theorem State.setCentre_boot (x : CentreState) : (s.setCentre x).boot = s.boot := rfl
@[simp] theorem State.setCentre_tb (x : CentreState) : (s.setCentre x).tb = s.tb := rfl
@[simp] theorem State.setCentre_path (x : CentreState) : (s.setCentre x).path = s.path := rfl
@[simp] theorem State.setCentre_arb (x : CentreState) : (s.setCentre x).arb = s.arb := rfl
@[simp] theorem State.setCentre_disp (x : CentreState) : (s.setCentre x).disp = s.disp := rfl
@[simp] theorem State.setCentre_centre (x : CentreState) : (s.setCentre x).centre = x := rfl
@[simp] theorem State.setCentre_rear (x : CentreState) : (s.setCentre x).rear = s.rear := rfl
@[simp] theorem State.setCentre_sets (x : CentreState) : (s.setCentre x).sets = s.sets := rfl
@[simp] theorem State.setCentre_aud (x : CentreState) : (s.setCentre x).aud = s.aud := rfl
@[simp] theorem State.setCentre_mix (x : CentreState) : (s.setCentre x).mix = s.mix := rfl
@[simp] theorem State.setCentre_cam (x : CentreState) : (s.setCentre x).cam = s.cam := rfl
@[simp] theorem State.setCentre_rvc (x : CentreState) : (s.setCentre x).rvc = s.rvc := rfl
@[simp] theorem State.setCentre_guide (x : CentreState) : (s.setCentre x).guide = s.guide := rfl
@[simp] theorem State.setCentre_link (x : CentreState) : (s.setCentre x).link = s.link := rfl
@[simp] theorem State.setCentre_chime (x : CentreState) : (s.setCentre x).chime = s.chime := rfl
@[simp] theorem State.setCentre_load (x : CentreState) : (s.setCentre x).load = s.load := rfl
@[simp] theorem State.setCentre_bl (x : CentreState) : (s.setCentre x).bl = s.bl := rfl
@[simp] theorem State.setCentre_pending (x : CentreState) : (s.setCentre x).pending = s.pending := rfl

/-! ### State.setRears -/

@[simp] theorem State.setRears_pins (x : Pair RearState) : (s.setRears x).pins = s.pins := rfl
@[simp] theorem State.setRears_boot (x : Pair RearState) : (s.setRears x).boot = s.boot := rfl
@[simp] theorem State.setRears_tb (x : Pair RearState) : (s.setRears x).tb = s.tb := rfl
@[simp] theorem State.setRears_path (x : Pair RearState) : (s.setRears x).path = s.path := rfl
@[simp] theorem State.setRears_arb (x : Pair RearState) : (s.setRears x).arb = s.arb := rfl
@[simp] theorem State.setRears_disp (x : Pair RearState) : (s.setRears x).disp = s.disp := rfl
@[simp] theorem State.setRears_centre (x : Pair RearState) : (s.setRears x).centre = s.centre := rfl
@[simp] theorem State.setRears_rear (x : Pair RearState) : (s.setRears x).rear = x := rfl
@[simp] theorem State.setRears_sets (x : Pair RearState) : (s.setRears x).sets = s.sets := rfl
@[simp] theorem State.setRears_aud (x : Pair RearState) : (s.setRears x).aud = s.aud := rfl
@[simp] theorem State.setRears_mix (x : Pair RearState) : (s.setRears x).mix = s.mix := rfl
@[simp] theorem State.setRears_cam (x : Pair RearState) : (s.setRears x).cam = s.cam := rfl
@[simp] theorem State.setRears_rvc (x : Pair RearState) : (s.setRears x).rvc = s.rvc := rfl
@[simp] theorem State.setRears_guide (x : Pair RearState) : (s.setRears x).guide = s.guide := rfl
@[simp] theorem State.setRears_link (x : Pair RearState) : (s.setRears x).link = s.link := rfl
@[simp] theorem State.setRears_chime (x : Pair RearState) : (s.setRears x).chime = s.chime := rfl
@[simp] theorem State.setRears_load (x : Pair RearState) : (s.setRears x).load = s.load := rfl
@[simp] theorem State.setRears_bl (x : Pair RearState) : (s.setRears x).bl = s.bl := rfl
@[simp] theorem State.setRears_pending (x : Pair RearState) : (s.setRears x).pending = s.pending := rfl

/-! ### State.setSets -/

@[simp] theorem State.setSets_pins (x : List (Option BufSet)) : (s.setSets x).pins = s.pins := rfl
@[simp] theorem State.setSets_boot (x : List (Option BufSet)) : (s.setSets x).boot = s.boot := rfl
@[simp] theorem State.setSets_tb (x : List (Option BufSet)) : (s.setSets x).tb = s.tb := rfl
@[simp] theorem State.setSets_path (x : List (Option BufSet)) : (s.setSets x).path = s.path := rfl
@[simp] theorem State.setSets_arb (x : List (Option BufSet)) : (s.setSets x).arb = s.arb := rfl
@[simp] theorem State.setSets_disp (x : List (Option BufSet)) : (s.setSets x).disp = s.disp := rfl
@[simp] theorem State.setSets_centre (x : List (Option BufSet)) : (s.setSets x).centre = s.centre := rfl
@[simp] theorem State.setSets_rear (x : List (Option BufSet)) : (s.setSets x).rear = s.rear := rfl
@[simp] theorem State.setSets_sets (x : List (Option BufSet)) : (s.setSets x).sets = x := rfl
@[simp] theorem State.setSets_aud (x : List (Option BufSet)) : (s.setSets x).aud = s.aud := rfl
@[simp] theorem State.setSets_mix (x : List (Option BufSet)) : (s.setSets x).mix = s.mix := rfl
@[simp] theorem State.setSets_cam (x : List (Option BufSet)) : (s.setSets x).cam = s.cam := rfl
@[simp] theorem State.setSets_rvc (x : List (Option BufSet)) : (s.setSets x).rvc = s.rvc := rfl
@[simp] theorem State.setSets_guide (x : List (Option BufSet)) : (s.setSets x).guide = s.guide := rfl
@[simp] theorem State.setSets_link (x : List (Option BufSet)) : (s.setSets x).link = s.link := rfl
@[simp] theorem State.setSets_chime (x : List (Option BufSet)) : (s.setSets x).chime = s.chime := rfl
@[simp] theorem State.setSets_load (x : List (Option BufSet)) : (s.setSets x).load = s.load := rfl
@[simp] theorem State.setSets_bl (x : List (Option BufSet)) : (s.setSets x).bl = s.bl := rfl
@[simp] theorem State.setSets_pending (x : List (Option BufSet)) : (s.setSets x).pending = s.pending := rfl

/-! ### State.setAud -/

@[simp] theorem State.setAud_pins (x : AudState) : (s.setAud x).pins = s.pins := rfl
@[simp] theorem State.setAud_boot (x : AudState) : (s.setAud x).boot = s.boot := rfl
@[simp] theorem State.setAud_tb (x : AudState) : (s.setAud x).tb = s.tb := rfl
@[simp] theorem State.setAud_path (x : AudState) : (s.setAud x).path = s.path := rfl
@[simp] theorem State.setAud_arb (x : AudState) : (s.setAud x).arb = s.arb := rfl
@[simp] theorem State.setAud_disp (x : AudState) : (s.setAud x).disp = s.disp := rfl
@[simp] theorem State.setAud_centre (x : AudState) : (s.setAud x).centre = s.centre := rfl
@[simp] theorem State.setAud_rear (x : AudState) : (s.setAud x).rear = s.rear := rfl
@[simp] theorem State.setAud_sets (x : AudState) : (s.setAud x).sets = s.sets := rfl
@[simp] theorem State.setAud_aud (x : AudState) : (s.setAud x).aud = x := rfl
@[simp] theorem State.setAud_mix (x : AudState) : (s.setAud x).mix = s.mix := rfl
@[simp] theorem State.setAud_cam (x : AudState) : (s.setAud x).cam = s.cam := rfl
@[simp] theorem State.setAud_rvc (x : AudState) : (s.setAud x).rvc = s.rvc := rfl
@[simp] theorem State.setAud_guide (x : AudState) : (s.setAud x).guide = s.guide := rfl
@[simp] theorem State.setAud_link (x : AudState) : (s.setAud x).link = s.link := rfl
@[simp] theorem State.setAud_chime (x : AudState) : (s.setAud x).chime = s.chime := rfl
@[simp] theorem State.setAud_load (x : AudState) : (s.setAud x).load = s.load := rfl
@[simp] theorem State.setAud_bl (x : AudState) : (s.setAud x).bl = s.bl := rfl
@[simp] theorem State.setAud_pending (x : AudState) : (s.setAud x).pending = s.pending := rfl

/-! ### State.setMix -/

@[simp] theorem State.setMix_pins (x : MixState) : (s.setMix x).pins = s.pins := rfl
@[simp] theorem State.setMix_boot (x : MixState) : (s.setMix x).boot = s.boot := rfl
@[simp] theorem State.setMix_tb (x : MixState) : (s.setMix x).tb = s.tb := rfl
@[simp] theorem State.setMix_path (x : MixState) : (s.setMix x).path = s.path := rfl
@[simp] theorem State.setMix_arb (x : MixState) : (s.setMix x).arb = s.arb := rfl
@[simp] theorem State.setMix_disp (x : MixState) : (s.setMix x).disp = s.disp := rfl
@[simp] theorem State.setMix_centre (x : MixState) : (s.setMix x).centre = s.centre := rfl
@[simp] theorem State.setMix_rear (x : MixState) : (s.setMix x).rear = s.rear := rfl
@[simp] theorem State.setMix_sets (x : MixState) : (s.setMix x).sets = s.sets := rfl
@[simp] theorem State.setMix_aud (x : MixState) : (s.setMix x).aud = s.aud := rfl
@[simp] theorem State.setMix_mix (x : MixState) : (s.setMix x).mix = x := rfl
@[simp] theorem State.setMix_cam (x : MixState) : (s.setMix x).cam = s.cam := rfl
@[simp] theorem State.setMix_rvc (x : MixState) : (s.setMix x).rvc = s.rvc := rfl
@[simp] theorem State.setMix_guide (x : MixState) : (s.setMix x).guide = s.guide := rfl
@[simp] theorem State.setMix_link (x : MixState) : (s.setMix x).link = s.link := rfl
@[simp] theorem State.setMix_chime (x : MixState) : (s.setMix x).chime = s.chime := rfl
@[simp] theorem State.setMix_load (x : MixState) : (s.setMix x).load = s.load := rfl
@[simp] theorem State.setMix_bl (x : MixState) : (s.setMix x).bl = s.bl := rfl
@[simp] theorem State.setMix_pending (x : MixState) : (s.setMix x).pending = s.pending := rfl

/-! ### State.setCam -/

@[simp] theorem State.setCam_pins (x : CamState) : (s.setCam x).pins = s.pins := rfl
@[simp] theorem State.setCam_boot (x : CamState) : (s.setCam x).boot = s.boot := rfl
@[simp] theorem State.setCam_tb (x : CamState) : (s.setCam x).tb = s.tb := rfl
@[simp] theorem State.setCam_path (x : CamState) : (s.setCam x).path = s.path := rfl
@[simp] theorem State.setCam_arb (x : CamState) : (s.setCam x).arb = s.arb := rfl
@[simp] theorem State.setCam_disp (x : CamState) : (s.setCam x).disp = s.disp := rfl
@[simp] theorem State.setCam_centre (x : CamState) : (s.setCam x).centre = s.centre := rfl
@[simp] theorem State.setCam_rear (x : CamState) : (s.setCam x).rear = s.rear := rfl
@[simp] theorem State.setCam_sets (x : CamState) : (s.setCam x).sets = s.sets := rfl
@[simp] theorem State.setCam_aud (x : CamState) : (s.setCam x).aud = s.aud := rfl
@[simp] theorem State.setCam_mix (x : CamState) : (s.setCam x).mix = s.mix := rfl
@[simp] theorem State.setCam_cam (x : CamState) : (s.setCam x).cam = x := rfl
@[simp] theorem State.setCam_rvc (x : CamState) : (s.setCam x).rvc = s.rvc := rfl
@[simp] theorem State.setCam_guide (x : CamState) : (s.setCam x).guide = s.guide := rfl
@[simp] theorem State.setCam_link (x : CamState) : (s.setCam x).link = s.link := rfl
@[simp] theorem State.setCam_chime (x : CamState) : (s.setCam x).chime = s.chime := rfl
@[simp] theorem State.setCam_load (x : CamState) : (s.setCam x).load = s.load := rfl
@[simp] theorem State.setCam_bl (x : CamState) : (s.setCam x).bl = s.bl := rfl
@[simp] theorem State.setCam_pending (x : CamState) : (s.setCam x).pending = s.pending := rfl

/-! ### State.setRvc -/

@[simp] theorem State.setRvc_pins (x : RvcState) : (s.setRvc x).pins = s.pins := rfl
@[simp] theorem State.setRvc_boot (x : RvcState) : (s.setRvc x).boot = s.boot := rfl
@[simp] theorem State.setRvc_tb (x : RvcState) : (s.setRvc x).tb = s.tb := rfl
@[simp] theorem State.setRvc_path (x : RvcState) : (s.setRvc x).path = s.path := rfl
@[simp] theorem State.setRvc_arb (x : RvcState) : (s.setRvc x).arb = s.arb := rfl
@[simp] theorem State.setRvc_disp (x : RvcState) : (s.setRvc x).disp = s.disp := rfl
@[simp] theorem State.setRvc_centre (x : RvcState) : (s.setRvc x).centre = s.centre := rfl
@[simp] theorem State.setRvc_rear (x : RvcState) : (s.setRvc x).rear = s.rear := rfl
@[simp] theorem State.setRvc_sets (x : RvcState) : (s.setRvc x).sets = s.sets := rfl
@[simp] theorem State.setRvc_aud (x : RvcState) : (s.setRvc x).aud = s.aud := rfl
@[simp] theorem State.setRvc_mix (x : RvcState) : (s.setRvc x).mix = s.mix := rfl
@[simp] theorem State.setRvc_cam (x : RvcState) : (s.setRvc x).cam = s.cam := rfl
@[simp] theorem State.setRvc_rvc (x : RvcState) : (s.setRvc x).rvc = x := rfl
@[simp] theorem State.setRvc_guide (x : RvcState) : (s.setRvc x).guide = s.guide := rfl
@[simp] theorem State.setRvc_link (x : RvcState) : (s.setRvc x).link = s.link := rfl
@[simp] theorem State.setRvc_chime (x : RvcState) : (s.setRvc x).chime = s.chime := rfl
@[simp] theorem State.setRvc_load (x : RvcState) : (s.setRvc x).load = s.load := rfl
@[simp] theorem State.setRvc_bl (x : RvcState) : (s.setRvc x).bl = s.bl := rfl
@[simp] theorem State.setRvc_pending (x : RvcState) : (s.setRvc x).pending = s.pending := rfl

/-! ### State.setGuide -/

@[simp] theorem State.setGuide_pins (x : GuideState) : (s.setGuide x).pins = s.pins := rfl
@[simp] theorem State.setGuide_boot (x : GuideState) : (s.setGuide x).boot = s.boot := rfl
@[simp] theorem State.setGuide_tb (x : GuideState) : (s.setGuide x).tb = s.tb := rfl
@[simp] theorem State.setGuide_path (x : GuideState) : (s.setGuide x).path = s.path := rfl
@[simp] theorem State.setGuide_arb (x : GuideState) : (s.setGuide x).arb = s.arb := rfl
@[simp] theorem State.setGuide_disp (x : GuideState) : (s.setGuide x).disp = s.disp := rfl
@[simp] theorem State.setGuide_centre (x : GuideState) : (s.setGuide x).centre = s.centre := rfl
@[simp] theorem State.setGuide_rear (x : GuideState) : (s.setGuide x).rear = s.rear := rfl
@[simp] theorem State.setGuide_sets (x : GuideState) : (s.setGuide x).sets = s.sets := rfl
@[simp] theorem State.setGuide_aud (x : GuideState) : (s.setGuide x).aud = s.aud := rfl
@[simp] theorem State.setGuide_mix (x : GuideState) : (s.setGuide x).mix = s.mix := rfl
@[simp] theorem State.setGuide_cam (x : GuideState) : (s.setGuide x).cam = s.cam := rfl
@[simp] theorem State.setGuide_rvc (x : GuideState) : (s.setGuide x).rvc = s.rvc := rfl
@[simp] theorem State.setGuide_guide (x : GuideState) : (s.setGuide x).guide = x := rfl
@[simp] theorem State.setGuide_link (x : GuideState) : (s.setGuide x).link = s.link := rfl
@[simp] theorem State.setGuide_chime (x : GuideState) : (s.setGuide x).chime = s.chime := rfl
@[simp] theorem State.setGuide_load (x : GuideState) : (s.setGuide x).load = s.load := rfl
@[simp] theorem State.setGuide_bl (x : GuideState) : (s.setGuide x).bl = s.bl := rfl
@[simp] theorem State.setGuide_pending (x : GuideState) : (s.setGuide x).pending = s.pending := rfl

/-! ### State.setLink -/

@[simp] theorem State.setLink_pins (x : LinkState) : (s.setLink x).pins = s.pins := rfl
@[simp] theorem State.setLink_boot (x : LinkState) : (s.setLink x).boot = s.boot := rfl
@[simp] theorem State.setLink_tb (x : LinkState) : (s.setLink x).tb = s.tb := rfl
@[simp] theorem State.setLink_path (x : LinkState) : (s.setLink x).path = s.path := rfl
@[simp] theorem State.setLink_arb (x : LinkState) : (s.setLink x).arb = s.arb := rfl
@[simp] theorem State.setLink_disp (x : LinkState) : (s.setLink x).disp = s.disp := rfl
@[simp] theorem State.setLink_centre (x : LinkState) : (s.setLink x).centre = s.centre := rfl
@[simp] theorem State.setLink_rear (x : LinkState) : (s.setLink x).rear = s.rear := rfl
@[simp] theorem State.setLink_sets (x : LinkState) : (s.setLink x).sets = s.sets := rfl
@[simp] theorem State.setLink_aud (x : LinkState) : (s.setLink x).aud = s.aud := rfl
@[simp] theorem State.setLink_mix (x : LinkState) : (s.setLink x).mix = s.mix := rfl
@[simp] theorem State.setLink_cam (x : LinkState) : (s.setLink x).cam = s.cam := rfl
@[simp] theorem State.setLink_rvc (x : LinkState) : (s.setLink x).rvc = s.rvc := rfl
@[simp] theorem State.setLink_guide (x : LinkState) : (s.setLink x).guide = s.guide := rfl
@[simp] theorem State.setLink_link (x : LinkState) : (s.setLink x).link = x := rfl
@[simp] theorem State.setLink_chime (x : LinkState) : (s.setLink x).chime = s.chime := rfl
@[simp] theorem State.setLink_load (x : LinkState) : (s.setLink x).load = s.load := rfl
@[simp] theorem State.setLink_bl (x : LinkState) : (s.setLink x).bl = s.bl := rfl
@[simp] theorem State.setLink_pending (x : LinkState) : (s.setLink x).pending = s.pending := rfl

/-! ### State.setChime -/

@[simp] theorem State.setChime_pins (x : ChimeState) : (s.setChime x).pins = s.pins := rfl
@[simp] theorem State.setChime_boot (x : ChimeState) : (s.setChime x).boot = s.boot := rfl
@[simp] theorem State.setChime_tb (x : ChimeState) : (s.setChime x).tb = s.tb := rfl
@[simp] theorem State.setChime_path (x : ChimeState) : (s.setChime x).path = s.path := rfl
@[simp] theorem State.setChime_arb (x : ChimeState) : (s.setChime x).arb = s.arb := rfl
@[simp] theorem State.setChime_disp (x : ChimeState) : (s.setChime x).disp = s.disp := rfl
@[simp] theorem State.setChime_centre (x : ChimeState) : (s.setChime x).centre = s.centre := rfl
@[simp] theorem State.setChime_rear (x : ChimeState) : (s.setChime x).rear = s.rear := rfl
@[simp] theorem State.setChime_sets (x : ChimeState) : (s.setChime x).sets = s.sets := rfl
@[simp] theorem State.setChime_aud (x : ChimeState) : (s.setChime x).aud = s.aud := rfl
@[simp] theorem State.setChime_mix (x : ChimeState) : (s.setChime x).mix = s.mix := rfl
@[simp] theorem State.setChime_cam (x : ChimeState) : (s.setChime x).cam = s.cam := rfl
@[simp] theorem State.setChime_rvc (x : ChimeState) : (s.setChime x).rvc = s.rvc := rfl
@[simp] theorem State.setChime_guide (x : ChimeState) : (s.setChime x).guide = s.guide := rfl
@[simp] theorem State.setChime_link (x : ChimeState) : (s.setChime x).link = s.link := rfl
@[simp] theorem State.setChime_chime (x : ChimeState) : (s.setChime x).chime = x := rfl
@[simp] theorem State.setChime_load (x : ChimeState) : (s.setChime x).load = s.load := rfl
@[simp] theorem State.setChime_bl (x : ChimeState) : (s.setChime x).bl = s.bl := rfl
@[simp] theorem State.setChime_pending (x : ChimeState) : (s.setChime x).pending = s.pending := rfl

/-! ### State.setLoad -/

@[simp] theorem State.setLoad_pins (x : LoadState) : (s.setLoad x).pins = s.pins := rfl
@[simp] theorem State.setLoad_boot (x : LoadState) : (s.setLoad x).boot = s.boot := rfl
@[simp] theorem State.setLoad_tb (x : LoadState) : (s.setLoad x).tb = s.tb := rfl
@[simp] theorem State.setLoad_path (x : LoadState) : (s.setLoad x).path = s.path := rfl
@[simp] theorem State.setLoad_arb (x : LoadState) : (s.setLoad x).arb = s.arb := rfl
@[simp] theorem State.setLoad_disp (x : LoadState) : (s.setLoad x).disp = s.disp := rfl
@[simp] theorem State.setLoad_centre (x : LoadState) : (s.setLoad x).centre = s.centre := rfl
@[simp] theorem State.setLoad_rear (x : LoadState) : (s.setLoad x).rear = s.rear := rfl
@[simp] theorem State.setLoad_sets (x : LoadState) : (s.setLoad x).sets = s.sets := rfl
@[simp] theorem State.setLoad_aud (x : LoadState) : (s.setLoad x).aud = s.aud := rfl
@[simp] theorem State.setLoad_mix (x : LoadState) : (s.setLoad x).mix = s.mix := rfl
@[simp] theorem State.setLoad_cam (x : LoadState) : (s.setLoad x).cam = s.cam := rfl
@[simp] theorem State.setLoad_rvc (x : LoadState) : (s.setLoad x).rvc = s.rvc := rfl
@[simp] theorem State.setLoad_guide (x : LoadState) : (s.setLoad x).guide = s.guide := rfl
@[simp] theorem State.setLoad_link (x : LoadState) : (s.setLoad x).link = s.link := rfl
@[simp] theorem State.setLoad_chime (x : LoadState) : (s.setLoad x).chime = s.chime := rfl
@[simp] theorem State.setLoad_load (x : LoadState) : (s.setLoad x).load = x := rfl
@[simp] theorem State.setLoad_bl (x : LoadState) : (s.setLoad x).bl = s.bl := rfl
@[simp] theorem State.setLoad_pending (x : LoadState) : (s.setLoad x).pending = s.pending := rfl

/-! ### State.setBls -/

@[simp] theorem State.setBls_pins (x : Tri PwmState) : (s.setBls x).pins = s.pins := rfl
@[simp] theorem State.setBls_boot (x : Tri PwmState) : (s.setBls x).boot = s.boot := rfl
@[simp] theorem State.setBls_tb (x : Tri PwmState) : (s.setBls x).tb = s.tb := rfl
@[simp] theorem State.setBls_path (x : Tri PwmState) : (s.setBls x).path = s.path := rfl
@[simp] theorem State.setBls_arb (x : Tri PwmState) : (s.setBls x).arb = s.arb := rfl
@[simp] theorem State.setBls_disp (x : Tri PwmState) : (s.setBls x).disp = s.disp := rfl
@[simp] theorem State.setBls_centre (x : Tri PwmState) : (s.setBls x).centre = s.centre := rfl
@[simp] theorem State.setBls_rear (x : Tri PwmState) : (s.setBls x).rear = s.rear := rfl
@[simp] theorem State.setBls_sets (x : Tri PwmState) : (s.setBls x).sets = s.sets := rfl
@[simp] theorem State.setBls_aud (x : Tri PwmState) : (s.setBls x).aud = s.aud := rfl
@[simp] theorem State.setBls_mix (x : Tri PwmState) : (s.setBls x).mix = s.mix := rfl
@[simp] theorem State.setBls_cam (x : Tri PwmState) : (s.setBls x).cam = s.cam := rfl
@[simp] theorem State.setBls_rvc (x : Tri PwmState) : (s.setBls x).rvc = s.rvc := rfl
@[simp] theorem State.setBls_guide (x : Tri PwmState) : (s.setBls x).guide = s.guide := rfl
@[simp] theorem State.setBls_link (x : Tri PwmState) : (s.setBls x).link = s.link := rfl
@[simp] theorem State.setBls_chime (x : Tri PwmState) : (s.setBls x).chime = s.chime := rfl
@[simp] theorem State.setBls_load (x : Tri PwmState) : (s.setBls x).load = s.load := rfl
@[simp] theorem State.setBls_bl (x : Tri PwmState) : (s.setBls x).bl = x := rfl
@[simp] theorem State.setBls_pending (x : Tri PwmState) : (s.setBls x).pending = s.pending := rfl

/-! ### State.setPending -/

@[simp] theorem State.setPending_pins (x : List Instr) : (s.setPending x).pins = s.pins := rfl
@[simp] theorem State.setPending_boot (x : List Instr) : (s.setPending x).boot = s.boot := rfl
@[simp] theorem State.setPending_tb (x : List Instr) : (s.setPending x).tb = s.tb := rfl
@[simp] theorem State.setPending_path (x : List Instr) : (s.setPending x).path = s.path := rfl
@[simp] theorem State.setPending_arb (x : List Instr) : (s.setPending x).arb = s.arb := rfl
@[simp] theorem State.setPending_disp (x : List Instr) : (s.setPending x).disp = s.disp := rfl
@[simp] theorem State.setPending_centre (x : List Instr) : (s.setPending x).centre = s.centre := rfl
@[simp] theorem State.setPending_rear (x : List Instr) : (s.setPending x).rear = s.rear := rfl
@[simp] theorem State.setPending_sets (x : List Instr) : (s.setPending x).sets = s.sets := rfl
@[simp] theorem State.setPending_aud (x : List Instr) : (s.setPending x).aud = s.aud := rfl
@[simp] theorem State.setPending_mix (x : List Instr) : (s.setPending x).mix = s.mix := rfl
@[simp] theorem State.setPending_cam (x : List Instr) : (s.setPending x).cam = s.cam := rfl
@[simp] theorem State.setPending_rvc (x : List Instr) : (s.setPending x).rvc = s.rvc := rfl
@[simp] theorem State.setPending_guide (x : List Instr) : (s.setPending x).guide = s.guide := rfl
@[simp] theorem State.setPending_link (x : List Instr) : (s.setPending x).link = s.link := rfl
@[simp] theorem State.setPending_chime (x : List Instr) : (s.setPending x).chime = s.chime := rfl
@[simp] theorem State.setPending_load (x : List Instr) : (s.setPending x).load = s.load := rfl
@[simp] theorem State.setPending_bl (x : List Instr) : (s.setPending x).bl = s.bl := rfl
@[simp] theorem State.setPending_pending (x : List Instr) : (s.setPending x).pending = x := rfl

/-! ### State.setDisplay -/

@[simp] theorem State.setDisplay_pins (d : Disp) (x : Display) : (s.setDisplay d x).pins = s.pins := rfl
@[simp] theorem State.setDisplay_boot (d : Disp) (x : Display) : (s.setDisplay d x).boot = s.boot := rfl
@[simp] theorem State.setDisplay_tb (d : Disp) (x : Display) : (s.setDisplay d x).tb = s.tb := rfl
@[simp] theorem State.setDisplay_path (d : Disp) (x : Display) : (s.setDisplay d x).path = s.path := rfl
@[simp] theorem State.setDisplay_arb (d : Disp) (x : Display) : (s.setDisplay d x).arb = s.arb := rfl
@[simp] theorem State.setDisplay_centre (d : Disp) (x : Display) : (s.setDisplay d x).centre = s.centre := rfl
@[simp] theorem State.setDisplay_rear (d : Disp) (x : Display) : (s.setDisplay d x).rear = s.rear := rfl
@[simp] theorem State.setDisplay_sets (d : Disp) (x : Display) : (s.setDisplay d x).sets = s.sets := rfl
@[simp] theorem State.setDisplay_aud (d : Disp) (x : Display) : (s.setDisplay d x).aud = s.aud := rfl
@[simp] theorem State.setDisplay_mix (d : Disp) (x : Display) : (s.setDisplay d x).mix = s.mix := rfl
@[simp] theorem State.setDisplay_cam (d : Disp) (x : Display) : (s.setDisplay d x).cam = s.cam := rfl
@[simp] theorem State.setDisplay_rvc (d : Disp) (x : Display) : (s.setDisplay d x).rvc = s.rvc := rfl
@[simp] theorem State.setDisplay_guide (d : Disp) (x : Display) : (s.setDisplay d x).guide = s.guide := rfl
@[simp] theorem State.setDisplay_link (d : Disp) (x : Display) : (s.setDisplay d x).link = s.link := rfl
@[simp] theorem State.setDisplay_chime (d : Disp) (x : Display) : (s.setDisplay d x).chime = s.chime := rfl
@[simp] theorem State.setDisplay_load (d : Disp) (x : Display) : (s.setDisplay d x).load = s.load := rfl
@[simp] theorem State.setDisplay_bl (d : Disp) (x : Display) : (s.setDisplay d x).bl = s.bl := rfl
@[simp] theorem State.setDisplay_pending (d : Disp) (x : Display) : (s.setDisplay d x).pending = s.pending := rfl
@[simp] theorem State.setDisplay_disp (d : Disp) (x : Display) : (s.setDisplay d x).disp = Tri.set s.disp d x := rfl

/-! ### State.setPwm -/

@[simp] theorem State.setPwm_pins (d : Disp) (x : PwmState) : (s.setPwm d x).pins = s.pins := rfl
@[simp] theorem State.setPwm_boot (d : Disp) (x : PwmState) : (s.setPwm d x).boot = s.boot := rfl
@[simp] theorem State.setPwm_tb (d : Disp) (x : PwmState) : (s.setPwm d x).tb = s.tb := rfl
@[simp] theorem State.setPwm_path (d : Disp) (x : PwmState) : (s.setPwm d x).path = s.path := rfl
@[simp] theorem State.setPwm_arb (d : Disp) (x : PwmState) : (s.setPwm d x).arb = s.arb := rfl
@[simp] theorem State.setPwm_disp (d : Disp) (x : PwmState) : (s.setPwm d x).disp = s.disp := rfl
@[simp] theorem State.setPwm_centre (d : Disp) (x : PwmState) : (s.setPwm d x).centre = s.centre := rfl
@[simp] theorem State.setPwm_rear (d : Disp) (x : PwmState) : (s.setPwm d x).rear = s.rear := rfl
@[simp] theorem State.setPwm_sets (d : Disp) (x : PwmState) : (s.setPwm d x).sets = s.sets := rfl
@[simp] theorem State.setPwm_aud (d : Disp) (x : PwmState) : (s.setPwm d x).aud = s.aud := rfl
@[simp] theorem State.setPwm_mix (d : Disp) (x : PwmState) : (s.setPwm d x).mix = s.mix := rfl
@[simp] theorem State.setPwm_cam (d : Disp) (x : PwmState) : (s.setPwm d x).cam = s.cam := rfl
@[simp] theorem State.setPwm_rvc (d : Disp) (x : PwmState) : (s.setPwm d x).rvc = s.rvc := rfl
@[simp] theorem State.setPwm_guide (d : Disp) (x : PwmState) : (s.setPwm d x).guide = s.guide := rfl
@[simp] theorem State.setPwm_link (d : Disp) (x : PwmState) : (s.setPwm d x).link = s.link := rfl
@[simp] theorem State.setPwm_chime (d : Disp) (x : PwmState) : (s.setPwm d x).chime = s.chime := rfl
@[simp] theorem State.setPwm_load (d : Disp) (x : PwmState) : (s.setPwm d x).load = s.load := rfl
@[simp] theorem State.setPwm_pending (d : Disp) (x : PwmState) : (s.setPwm d x).pending = s.pending := rfl
@[simp] theorem State.setPwm_bl (d : Disp) (x : PwmState) : (s.setPwm d x).bl = Tri.set s.bl d x := rfl

/-! ### State.setRear -/

@[simp] theorem State.setRear_pins (k : Seat) (x : RearState) : (s.setRear k x).pins = s.pins := rfl
@[simp] theorem State.setRear_boot (k : Seat) (x : RearState) : (s.setRear k x).boot = s.boot := rfl
@[simp] theorem State.setRear_tb (k : Seat) (x : RearState) : (s.setRear k x).tb = s.tb := rfl
@[simp] theorem State.setRear_path (k : Seat) (x : RearState) : (s.setRear k x).path = s.path := rfl
@[simp] theorem State.setRear_arb (k : Seat) (x : RearState) : (s.setRear k x).arb = s.arb := rfl
@[simp] theorem State.setRear_disp (k : Seat) (x : RearState) : (s.setRear k x).disp = s.disp := rfl
@[simp] theorem State.setRear_centre (k : Seat) (x : RearState) : (s.setRear k x).centre = s.centre := rfl
@[simp] theorem State.setRear_sets (k : Seat) (x : RearState) : (s.setRear k x).sets = s.sets := rfl
@[simp] theorem State.setRear_aud (k : Seat) (x : RearState) : (s.setRear k x).aud = s.aud := rfl
@[simp] theorem State.setRear_mix (k : Seat) (x : RearState) : (s.setRear k x).mix = s.mix := rfl
@[simp] theorem State.setRear_cam (k : Seat) (x : RearState) : (s.setRear k x).cam = s.cam := rfl
@[simp] theorem State.setRear_rvc (k : Seat) (x : RearState) : (s.setRear k x).rvc = s.rvc := rfl
@[simp] theorem State.setRear_guide (k : Seat) (x : RearState) : (s.setRear k x).guide = s.guide := rfl
@[simp] theorem State.setRear_link (k : Seat) (x : RearState) : (s.setRear k x).link = s.link := rfl
@[simp] theorem State.setRear_chime (k : Seat) (x : RearState) : (s.setRear k x).chime = s.chime := rfl
@[simp] theorem State.setRear_load (k : Seat) (x : RearState) : (s.setRear k x).load = s.load := rfl
@[simp] theorem State.setRear_bl (k : Seat) (x : RearState) : (s.setRear k x).bl = s.bl := rfl
@[simp] theorem State.setRear_pending (k : Seat) (x : RearState) : (s.setRear k x).pending = s.pending := rfl
@[simp] theorem State.setRear_rear (k : Seat) (x : RearState) : (s.setRear k x).rear = Pair.set s.rear k x := rfl

/-! ### State.raise -/

@[simp] theorem State.raise_pins (c : Cause) : (s.raise c).pins = s.pins := rfl
@[simp] theorem State.raise_boot (c : Cause) : (s.raise c).boot = s.boot := rfl
@[simp] theorem State.raise_tb (c : Cause) : (s.raise c).tb = s.tb := rfl
@[simp] theorem State.raise_path (c : Cause) : (s.raise c).path = s.path := rfl
@[simp] theorem State.raise_arb (c : Cause) : (s.raise c).arb = s.arb := rfl
@[simp] theorem State.raise_disp (c : Cause) : (s.raise c).disp = s.disp := rfl
@[simp] theorem State.raise_centre (c : Cause) : (s.raise c).centre = s.centre := rfl
@[simp] theorem State.raise_rear (c : Cause) : (s.raise c).rear = s.rear := rfl
@[simp] theorem State.raise_sets (c : Cause) : (s.raise c).sets = s.sets := rfl
@[simp] theorem State.raise_aud (c : Cause) : (s.raise c).aud = s.aud := rfl
@[simp] theorem State.raise_mix (c : Cause) : (s.raise c).mix = s.mix := rfl
@[simp] theorem State.raise_cam (c : Cause) : (s.raise c).cam = s.cam := rfl
@[simp] theorem State.raise_rvc (c : Cause) : (s.raise c).rvc = s.rvc := rfl
@[simp] theorem State.raise_guide (c : Cause) : (s.raise c).guide = s.guide := rfl
@[simp] theorem State.raise_link (c : Cause) : (s.raise c).link = s.link := rfl
@[simp] theorem State.raise_chime (c : Cause) : (s.raise c).chime = s.chime := rfl
@[simp] theorem State.raise_bl (c : Cause) : (s.raise c).bl = s.bl := rfl
@[simp] theorem State.raise_pending (c : Cause) : (s.raise c).pending = s.pending := rfl
@[simp] theorem State.raise_load (c : Cause) :
    (s.raise c).load = { s.load with causes := withCause s.load.causes c } := rfl

/-! ### State.countFetchError -/

@[simp] theorem State.countFetchError_pins : (s.countFetchError).pins = s.pins := rfl
@[simp] theorem State.countFetchError_boot : (s.countFetchError).boot = s.boot := rfl
@[simp] theorem State.countFetchError_tb : (s.countFetchError).tb = s.tb := rfl
@[simp] theorem State.countFetchError_arb : (s.countFetchError).arb = s.arb := rfl
@[simp] theorem State.countFetchError_disp : (s.countFetchError).disp = s.disp := rfl
@[simp] theorem State.countFetchError_centre : (s.countFetchError).centre = s.centre := rfl
@[simp] theorem State.countFetchError_rear : (s.countFetchError).rear = s.rear := rfl
@[simp] theorem State.countFetchError_sets : (s.countFetchError).sets = s.sets := rfl
@[simp] theorem State.countFetchError_aud : (s.countFetchError).aud = s.aud := rfl
@[simp] theorem State.countFetchError_mix : (s.countFetchError).mix = s.mix := rfl
@[simp] theorem State.countFetchError_cam : (s.countFetchError).cam = s.cam := rfl
@[simp] theorem State.countFetchError_rvc : (s.countFetchError).rvc = s.rvc := rfl
@[simp] theorem State.countFetchError_guide : (s.countFetchError).guide = s.guide := rfl
@[simp] theorem State.countFetchError_link : (s.countFetchError).link = s.link := rfl
@[simp] theorem State.countFetchError_chime : (s.countFetchError).chime = s.chime := rfl
@[simp] theorem State.countFetchError_load : (s.countFetchError).load = s.load := rfl
@[simp] theorem State.countFetchError_bl : (s.countFetchError).bl = s.bl := rfl
@[simp] theorem State.countFetchError_pending : (s.countFetchError).pending = s.pending := rfl
@[simp] theorem State.countFetchError_path :
    s.countFetchError.path = { s.path with fetchErrors := satInc s.path.fetchErrors } := rfl

/-! ### State.kill -/

@[simp] theorem State.kill_pins (p : Owner → Bool) : (s.kill p).pins = s.pins := rfl
@[simp] theorem State.kill_boot (p : Owner → Bool) : (s.kill p).boot = s.boot := rfl
@[simp] theorem State.kill_tb (p : Owner → Bool) : (s.kill p).tb = s.tb := rfl
@[simp] theorem State.kill_path (p : Owner → Bool) : (s.kill p).path = s.path := rfl
@[simp] theorem State.kill_disp (p : Owner → Bool) : (s.kill p).disp = s.disp := rfl
@[simp] theorem State.kill_centre (p : Owner → Bool) : (s.kill p).centre = s.centre := rfl
@[simp] theorem State.kill_rear (p : Owner → Bool) : (s.kill p).rear = s.rear := rfl
@[simp] theorem State.kill_sets (p : Owner → Bool) : (s.kill p).sets = s.sets := rfl
@[simp] theorem State.kill_aud (p : Owner → Bool) : (s.kill p).aud = s.aud := rfl
@[simp] theorem State.kill_mix (p : Owner → Bool) : (s.kill p).mix = s.mix := rfl
@[simp] theorem State.kill_cam (p : Owner → Bool) : (s.kill p).cam = s.cam := rfl
@[simp] theorem State.kill_rvc (p : Owner → Bool) : (s.kill p).rvc = s.rvc := rfl
@[simp] theorem State.kill_guide (p : Owner → Bool) : (s.kill p).guide = s.guide := rfl
@[simp] theorem State.kill_link (p : Owner → Bool) : (s.kill p).link = s.link := rfl
@[simp] theorem State.kill_chime (p : Owner → Bool) : (s.kill p).chime = s.chime := rfl
@[simp] theorem State.kill_load (p : Owner → Bool) : (s.kill p).load = s.load := rfl
@[simp] theorem State.kill_bl (p : Owner → Bool) : (s.kill p).bl = s.bl := rfl
@[simp] theorem State.kill_pending (p : Owner → Bool) : (s.kill p).pending = s.pending := rfl
@[simp] theorem State.kill_arb (p : Owner → Bool) :
    (s.kill p).arb = { s.arb with flights := killFlights p s.arb.flights } := rfl

/-! ### State.popFlight -/

@[simp] theorem State.popFlight_pins : (s.popFlight).pins = s.pins := rfl
@[simp] theorem State.popFlight_boot : (s.popFlight).boot = s.boot := rfl
@[simp] theorem State.popFlight_tb : (s.popFlight).tb = s.tb := rfl
@[simp] theorem State.popFlight_path : (s.popFlight).path = s.path := rfl
@[simp] theorem State.popFlight_disp : (s.popFlight).disp = s.disp := rfl
@[simp] theorem State.popFlight_centre : (s.popFlight).centre = s.centre := rfl
@[simp] theorem State.popFlight_rear : (s.popFlight).rear = s.rear := rfl
@[simp] theorem State.popFlight_sets : (s.popFlight).sets = s.sets := rfl
@[simp] theorem State.popFlight_aud : (s.popFlight).aud = s.aud := rfl
@[simp] theorem State.popFlight_mix : (s.popFlight).mix = s.mix := rfl
@[simp] theorem State.popFlight_cam : (s.popFlight).cam = s.cam := rfl
@[simp] theorem State.popFlight_rvc : (s.popFlight).rvc = s.rvc := rfl
@[simp] theorem State.popFlight_guide : (s.popFlight).guide = s.guide := rfl
@[simp] theorem State.popFlight_link : (s.popFlight).link = s.link := rfl
@[simp] theorem State.popFlight_chime : (s.popFlight).chime = s.chime := rfl
@[simp] theorem State.popFlight_load : (s.popFlight).load = s.load := rfl
@[simp] theorem State.popFlight_bl : (s.popFlight).bl = s.bl := rfl
@[simp] theorem State.popFlight_pending : (s.popFlight).pending = s.pending := rfl
@[simp] theorem State.popFlight_arb : s.popFlight.arb = { s.arb with flights := s.arb.flights.tail } := rfl

/-! ### Equality of states, field by field -/

theorem State.ext_fields {s t : State} : s = t ↔
    s.pins = t.pins ∧ s.boot = t.boot ∧ s.tb = t.tb ∧ s.path = t.path ∧ s.arb = t.arb ∧ s.disp = t.disp ∧ s.centre = t.centre ∧
    s.rear = t.rear ∧ s.sets = t.sets ∧ s.aud = t.aud ∧ s.mix = t.mix ∧ s.cam = t.cam ∧ s.rvc = t.rvc ∧
    s.guide = t.guide ∧ s.link = t.link ∧ s.chime = t.chime ∧ s.load = t.load ∧ s.bl = t.bl ∧ s.pending = t.pending := by
  cases s; cases t; simp

end Sys2Proof.Machine
end

