-- ==== Sys2Proof/Laws/Frames.lean ====
section
/-! SUPPORT. What each operation over the state leaves unchanged: one lemma per untouched field, so that a proof
about a command reads a field of the state after it without unfolding the operations it is made of. -/

namespace Sys2Proof.Machine

open Sys2Proof

/-- A fold of updates that each leave a part of the state leaves it. -/
theorem foldl_keeps {α β : Type} (f : State → α → State) (g : State → β) (h : ∀ s a, g (f s a) = g s) :
    ∀ (l : List α) (s : State), g (l.foldl f s) = g s
  | [], _ => rfl
  | a :: l, s => (foldl_keeps f g h l (f s a)).trans (h s a)

variable (s : State)


/-! ### State.noteUrgent -/

@[simp] theorem State.noteUrgent_pins : (s.noteUrgent).pins = s.pins := by
  unfold State.noteUrgent; (try dsimp only); (repeat' split) <;> simp
@[simp] theorem State.noteUrgent_boot : (s.noteUrgent).boot = s.boot := by
  unfold State.noteUrgent; (try dsimp only); (repeat' split) <;> simp
@[simp] theorem State.noteUrgent_tb : (s.noteUrgent).tb = s.tb := by
  unfold State.noteUrgent; (try dsimp only); (repeat' split) <;> simp
@[simp] theorem State.noteUrgent_path : (s.noteUrgent).path = s.path := by
  unfold State.noteUrgent; (try dsimp only); (repeat' split) <;> simp
@[simp] theorem State.noteUrgent_arb : (s.noteUrgent).arb = s.arb := by
  unfold State.noteUrgent; (try dsimp only); (repeat' split) <;> simp
@[simp] theorem State.noteUrgent_disp : (s.noteUrgent).disp = s.disp := by
  unfold State.noteUrgent; (try dsimp only); (repeat' split) <;> simp
@[simp] theorem State.noteUrgent_rear : (s.noteUrgent).rear = s.rear := by
  unfold State.noteUrgent; (try dsimp only); (repeat' split) <;> simp
@[simp] theorem State.noteUrgent_sets : (s.noteUrgent).sets = s.sets := by
  unfold State.noteUrgent; (try dsimp only); (repeat' split) <;> simp
@[simp] theorem State.noteUrgent_aud : (s.noteUrgent).aud = s.aud := by
  unfold State.noteUrgent; (try dsimp only); (repeat' split) <;> simp
@[simp] theorem State.noteUrgent_mix : (s.noteUrgent).mix = s.mix := by
  unfold State.noteUrgent; (try dsimp only); (repeat' split) <;> simp
@[simp] theorem State.noteUrgent_cam : (s.noteUrgent).cam = s.cam := by
  unfold State.noteUrgent; (try dsimp only); (repeat' split) <;> simp
@[simp] theorem State.noteUrgent_rvc : (s.noteUrgent).rvc = s.rvc := by
  unfold State.noteUrgent; (try dsimp only); (repeat' split) <;> simp
@[simp] theorem State.noteUrgent_guide : (s.noteUrgent).guide = s.guide := by
  unfold State.noteUrgent; (try dsimp only); (repeat' split) <;> simp
@[simp] theorem State.noteUrgent_link : (s.noteUrgent).link = s.link := by
  unfold State.noteUrgent; (try dsimp only); (repeat' split) <;> simp
@[simp] theorem State.noteUrgent_chime : (s.noteUrgent).chime = s.chime := by
  unfold State.noteUrgent; (try dsimp only); (repeat' split) <;> simp
@[simp] theorem State.noteUrgent_load : (s.noteUrgent).load = s.load := by
  unfold State.noteUrgent; (try dsimp only); (repeat' split) <;> simp
@[simp] theorem State.noteUrgent_bl : (s.noteUrgent).bl = s.bl := by
  unfold State.noteUrgent; (try dsimp only); (repeat' split) <;> simp
@[simp] theorem State.noteUrgent_pending : (s.noteUrgent).pending = s.pending := by
  unfold State.noteUrgent; (try dsimp only); (repeat' split) <;> simp

/-! ### State.refetch -/

@[simp] theorem State.refetch_pins (d : Disp) : (s.refetch d).pins = s.pins := by
  unfold State.refetch; simp
@[simp] theorem State.refetch_boot (d : Disp) : (s.refetch d).boot = s.boot := by
  unfold State.refetch; simp
@[simp] theorem State.refetch_tb (d : Disp) : (s.refetch d).tb = s.tb := by
  unfold State.refetch; simp
@[simp] theorem State.refetch_path (d : Disp) : (s.refetch d).path = s.path := by
  unfold State.refetch; simp
@[simp] theorem State.refetch_arb (d : Disp) : (s.refetch d).arb = s.arb := by
  unfold State.refetch; simp
@[simp] theorem State.refetch_centre (d : Disp) : (s.refetch d).centre = s.centre := by
  unfold State.refetch; simp
@[simp] theorem State.refetch_rear (d : Disp) : (s.refetch d).rear = s.rear := by
  unfold State.refetch; simp
@[simp] theorem State.refetch_sets (d : Disp) : (s.refetch d).sets = s.sets := by
  unfold State.refetch; simp
@[simp] theorem State.refetch_aud (d : Disp) : (s.refetch d).aud = s.aud := by
  unfold State.refetch; simp
@[simp] theorem State.refetch_mix (d : Disp) : (s.refetch d).mix = s.mix := by
  unfold State.refetch; simp
@[simp] theorem State.refetch_cam (d : Disp) : (s.refetch d).cam = s.cam := by
  unfold State.refetch; simp
@[simp] theorem State.refetch_rvc (d : Disp) : (s.refetch d).rvc = s.rvc := by
  unfold State.refetch; simp
@[simp] theorem State.refetch_guide (d : Disp) : (s.refetch d).guide = s.guide := by
  unfold State.refetch; simp
@[simp] theorem State.refetch_link (d : Disp) : (s.refetch d).link = s.link := by
  unfold State.refetch; simp
@[simp] theorem State.refetch_chime (d : Disp) : (s.refetch d).chime = s.chime := by
  unfold State.refetch; simp
@[simp] theorem State.refetch_load (d : Disp) : (s.refetch d).load = s.load := by
  unfold State.refetch; simp
@[simp] theorem State.refetch_bl (d : Disp) : (s.refetch d).bl = s.bl := by
  unfold State.refetch; simp
@[simp] theorem State.refetch_pending (d : Disp) : (s.refetch d).pending = s.pending := by
  unfold State.refetch; simp

/-! ### State.refill -/

@[simp] theorem State.refill_pins (d : Disp) : (s.refill d).pins = s.pins := by
  unfold State.refill; (try dsimp only); (repeat' split) <;> simp
@[simp] theorem State.refill_boot (d : Disp) : (s.refill d).boot = s.boot := by
  unfold State.refill; (try dsimp only); (repeat' split) <;> simp
@[simp] theorem State.refill_tb (d : Disp) : (s.refill d).tb = s.tb := by
  unfold State.refill; (try dsimp only); (repeat' split) <;> simp
@[simp] theorem State.refill_path (d : Disp) : (s.refill d).path = s.path := by
  unfold State.refill; (try dsimp only); (repeat' split) <;> simp
@[simp] theorem State.refill_arb (d : Disp) : (s.refill d).arb = s.arb := by
  unfold State.refill; (try dsimp only); (repeat' split) <;> simp
@[simp] theorem State.refill_rear (d : Disp) : (s.refill d).rear = s.rear := by
  unfold State.refill; (try dsimp only); (repeat' split) <;> simp
@[simp] theorem State.refill_sets (d : Disp) : (s.refill d).sets = s.sets := by
  unfold State.refill; (try dsimp only); (repeat' split) <;> simp
@[simp] theorem State.refill_aud (d : Disp) : (s.refill d).aud = s.aud := by
  unfold State.refill; (try dsimp only); (repeat' split) <;> simp
@[simp] theorem State.refill_mix (d : Disp) : (s.refill d).mix = s.mix := by
  unfold State.refill; (try dsimp only); (repeat' split) <;> simp
@[simp] theorem State.refill_cam (d : Disp) : (s.refill d).cam = s.cam := by
  unfold State.refill; (try dsimp only); (repeat' split) <;> simp
@[simp] theorem State.refill_rvc (d : Disp) : (s.refill d).rvc = s.rvc := by
  unfold State.refill; (try dsimp only); (repeat' split) <;> simp
@[simp] theorem State.refill_guide (d : Disp) : (s.refill d).guide = s.guide := by
  unfold State.refill; (try dsimp only); (repeat' split) <;> simp
@[simp] theorem State.refill_link (d : Disp) : (s.refill d).link = s.link := by
  unfold State.refill; (try dsimp only); (repeat' split) <;> simp
@[simp] theorem State.refill_chime (d : Disp) : (s.refill d).chime = s.chime := by
  unfold State.refill; (try dsimp only); (repeat' split) <;> simp
@[simp] theorem State.refill_load (d : Disp) : (s.refill d).load = s.load := by
  unfold State.refill; (try dsimp only); (repeat' split) <;> simp
@[simp] theorem State.refill_bl (d : Disp) : (s.refill d).bl = s.bl := by
  unfold State.refill; (try dsimp only); (repeat' split) <;> simp
@[simp] theorem State.refill_pending (d : Disp) : (s.refill d).pending = s.pending := by
  unfold State.refill; (try dsimp only); (repeat' split) <;> simp

/-! ### State.preloadDuty -/

@[simp] theorem State.preloadDuty_pins (d : Disp) (n : Nat) : (s.preloadDuty d n).pins = s.pins := by
  unfold State.preloadDuty; (try dsimp only); (repeat' split) <;> simp
@[simp] theorem State.preloadDuty_boot (d : Disp) (n : Nat) : (s.preloadDuty d n).boot = s.boot := by
  unfold State.preloadDuty; (try dsimp only); (repeat' split) <;> simp
@[simp] theorem State.preloadDuty_tb (d : Disp) (n : Nat) : (s.preloadDuty d n).tb = s.tb := by
  unfold State.preloadDuty; (try dsimp only); (repeat' split) <;> simp
@[simp] theorem State.preloadDuty_path (d : Disp) (n : Nat) : (s.preloadDuty d n).path = s.path := by
  unfold State.preloadDuty; (try dsimp only); (repeat' split) <;> simp
@[simp] theorem State.preloadDuty_arb (d : Disp) (n : Nat) : (s.preloadDuty d n).arb = s.arb := by
  unfold State.preloadDuty; (try dsimp only); (repeat' split) <;> simp
@[simp] theorem State.preloadDuty_disp (d : Disp) (n : Nat) : (s.preloadDuty d n).disp = s.disp := by
  unfold State.preloadDuty; (try dsimp only); (repeat' split) <;> simp
@[simp] theorem State.preloadDuty_centre (d : Disp) (n : Nat) : (s.preloadDuty d n).centre = s.centre := by
  unfold State.preloadDuty; (try dsimp only); (repeat' split) <;> simp
@[simp] theorem State.preloadDuty_rear (d : Disp) (n : Nat) : (s.preloadDuty d n).rear = s.rear := by
  unfold State.preloadDuty; (try dsimp only); (repeat' split) <;> simp
@[simp] theorem State.preloadDuty_sets (d : Disp) (n : Nat) : (s.preloadDuty d n).sets = s.sets := by
  unfold State.preloadDuty; (try dsimp only); (repeat' split) <;> simp
@[simp] theorem State.preloadDuty_aud (d : Disp) (n : Nat) : (s.preloadDuty d n).aud = s.aud := by
  unfold State.preloadDuty; (try dsimp only); (repeat' split) <;> simp
@[simp] theorem State.preloadDuty_mix (d : Disp) (n : Nat) : (s.preloadDuty d n).mix = s.mix := by
  unfold State.preloadDuty; (try dsimp only); (repeat' split) <;> simp
@[simp] theorem State.preloadDuty_cam (d : Disp) (n : Nat) : (s.preloadDuty d n).cam = s.cam := by
  unfold State.preloadDuty; (try dsimp only); (repeat' split) <;> simp
@[simp] theorem State.preloadDuty_rvc (d : Disp) (n : Nat) : (s.preloadDuty d n).rvc = s.rvc := by
  unfold State.preloadDuty; (try dsimp only); (repeat' split) <;> simp
@[simp] theorem State.preloadDuty_guide (d : Disp) (n : Nat) : (s.preloadDuty d n).guide = s.guide := by
  unfold State.preloadDuty; (try dsimp only); (repeat' split) <;> simp
@[simp] theorem State.preloadDuty_link (d : Disp) (n : Nat) : (s.preloadDuty d n).link = s.link := by
  unfold State.preloadDuty; (try dsimp only); (repeat' split) <;> simp
@[simp] theorem State.preloadDuty_chime (d : Disp) (n : Nat) : (s.preloadDuty d n).chime = s.chime := by
  unfold State.preloadDuty; (try dsimp only); (repeat' split) <;> simp
@[simp] theorem State.preloadDuty_load (d : Disp) (n : Nat) : (s.preloadDuty d n).load = s.load := by
  unfold State.preloadDuty; (try dsimp only); (repeat' split) <;> simp
@[simp] theorem State.preloadDuty_pending (d : Disp) (n : Nat) : (s.preloadDuty d n).pending = s.pending := by
  unfold State.preloadDuty; (try dsimp only); (repeat' split) <;> simp

/-! ### State.holdCentre -/

@[simp] theorem State.holdCentre_pins : (s.holdCentre).pins = s.pins := by
  unfold State.holdCentre; (try dsimp only); (repeat' split) <;> simp
@[simp] theorem State.holdCentre_boot : (s.holdCentre).boot = s.boot := by
  unfold State.holdCentre; (try dsimp only); (repeat' split) <;> simp
@[simp] theorem State.holdCentre_tb : (s.holdCentre).tb = s.tb := by
  unfold State.holdCentre; (try dsimp only); (repeat' split) <;> simp
@[simp] theorem State.holdCentre_path : (s.holdCentre).path = s.path := by
  unfold State.holdCentre; (try dsimp only); (repeat' split) <;> simp
@[simp] theorem State.holdCentre_arb : (s.holdCentre).arb = s.arb := by
  unfold State.holdCentre; (try dsimp only); (repeat' split) <;> simp
@[simp] theorem State.holdCentre_disp : (s.holdCentre).disp = s.disp := by
  unfold State.holdCentre; (try dsimp only); (repeat' split) <;> simp
@[simp] theorem State.holdCentre_centre : (s.holdCentre).centre = s.centre := by
  unfold State.holdCentre; (try dsimp only); (repeat' split) <;> simp
@[simp] theorem State.holdCentre_rear : (s.holdCentre).rear = s.rear := by
  unfold State.holdCentre; (try dsimp only); (repeat' split) <;> simp
@[simp] theorem State.holdCentre_sets : (s.holdCentre).sets = s.sets := by
  unfold State.holdCentre; (try dsimp only); (repeat' split) <;> simp
@[simp] theorem State.holdCentre_aud : (s.holdCentre).aud = s.aud := by
  unfold State.holdCentre; (try dsimp only); (repeat' split) <;> simp
@[simp] theorem State.holdCentre_mix : (s.holdCentre).mix = s.mix := by
  unfold State.holdCentre; (try dsimp only); (repeat' split) <;> simp
@[simp] theorem State.holdCentre_cam : (s.holdCentre).cam = s.cam := by
  unfold State.holdCentre; (try dsimp only); (repeat' split) <;> simp
@[simp] theorem State.holdCentre_rvc : (s.holdCentre).rvc = s.rvc := by
  unfold State.holdCentre; (try dsimp only); (repeat' split) <;> simp
@[simp] theorem State.holdCentre_guide : (s.holdCentre).guide = s.guide := by
  unfold State.holdCentre; (try dsimp only); (repeat' split) <;> simp
@[simp] theorem State.holdCentre_link : (s.holdCentre).link = s.link := by
  unfold State.holdCentre; (try dsimp only); (repeat' split) <;> simp
@[simp] theorem State.holdCentre_chime : (s.holdCentre).chime = s.chime := by
  unfold State.holdCentre; (try dsimp only); (repeat' split) <;> simp
@[simp] theorem State.holdCentre_load : (s.holdCentre).load = s.load := by
  unfold State.holdCentre; (try dsimp only); (repeat' split) <;> simp
@[simp] theorem State.holdCentre_pending : (s.holdCentre).pending = s.pending := by
  unfold State.holdCentre; (try dsimp only); (repeat' split) <;> simp

/-! ### State.dropHeld -/

@[simp] theorem State.dropHeld_pins : (s.dropHeld).pins = s.pins := by
  unfold State.dropHeld; (try dsimp only); (repeat' split) <;> simp
@[simp] theorem State.dropHeld_boot : (s.dropHeld).boot = s.boot := by
  unfold State.dropHeld; (try dsimp only); (repeat' split) <;> simp
@[simp] theorem State.dropHeld_tb : (s.dropHeld).tb = s.tb := by
  unfold State.dropHeld; (try dsimp only); (repeat' split) <;> simp
@[simp] theorem State.dropHeld_path : (s.dropHeld).path = s.path := by
  unfold State.dropHeld; (try dsimp only); (repeat' split) <;> simp
@[simp] theorem State.dropHeld_arb : (s.dropHeld).arb = s.arb := by
  unfold State.dropHeld; (try dsimp only); (repeat' split) <;> simp
@[simp] theorem State.dropHeld_disp : (s.dropHeld).disp = s.disp := by
  unfold State.dropHeld; (try dsimp only); (repeat' split) <;> simp
@[simp] theorem State.dropHeld_centre : (s.dropHeld).centre = s.centre := by
  unfold State.dropHeld; (try dsimp only); (repeat' split) <;> simp
@[simp] theorem State.dropHeld_rear : (s.dropHeld).rear = s.rear := by
  unfold State.dropHeld; (try dsimp only); (repeat' split) <;> simp
@[simp] theorem State.dropHeld_sets : (s.dropHeld).sets = s.sets := by
  unfold State.dropHeld; (try dsimp only); (repeat' split) <;> simp
@[simp] theorem State.dropHeld_aud : (s.dropHeld).aud = s.aud := by
  unfold State.dropHeld; (try dsimp only); (repeat' split) <;> simp
@[simp] theorem State.dropHeld_mix : (s.dropHeld).mix = s.mix := by
  unfold State.dropHeld; (try dsimp only); (repeat' split) <;> simp
@[simp] theorem State.dropHeld_cam : (s.dropHeld).cam = s.cam := by
  unfold State.dropHeld; (try dsimp only); (repeat' split) <;> simp
@[simp] theorem State.dropHeld_rvc : (s.dropHeld).rvc = s.rvc := by
  unfold State.dropHeld; (try dsimp only); (repeat' split) <;> simp
@[simp] theorem State.dropHeld_guide : (s.dropHeld).guide = s.guide := by
  unfold State.dropHeld; (try dsimp only); (repeat' split) <;> simp
@[simp] theorem State.dropHeld_link : (s.dropHeld).link = s.link := by
  unfold State.dropHeld; (try dsimp only); (repeat' split) <;> simp
@[simp] theorem State.dropHeld_chime : (s.dropHeld).chime = s.chime := by
  unfold State.dropHeld; (try dsimp only); (repeat' split) <;> simp
@[simp] theorem State.dropHeld_load : (s.dropHeld).load = s.load := by
  unfold State.dropHeld; (try dsimp only); (repeat' split) <;> simp
@[simp] theorem State.dropHeld_pending : (s.dropHeld).pending = s.pending := by
  unfold State.dropHeld; (try dsimp only); (repeat' split) <;> simp

/-! ### State.startPwm -/

@[simp] theorem State.startPwm_pins (d : Disp) (t : DispTiming) : (s.startPwm d t).pins = s.pins := by
  unfold State.startPwm; (try dsimp only); (repeat' split) <;> simp
@[simp] theorem State.startPwm_boot (d : Disp) (t : DispTiming) : (s.startPwm d t).boot = s.boot := by
  unfold State.startPwm; (try dsimp only); (repeat' split) <;> simp
@[simp] theorem State.startPwm_tb (d : Disp) (t : DispTiming) : (s.startPwm d t).tb = s.tb := by
  unfold State.startPwm; (try dsimp only); (repeat' split) <;> simp
@[simp] theorem State.startPwm_path (d : Disp) (t : DispTiming) : (s.startPwm d t).path = s.path := by
  unfold State.startPwm; (try dsimp only); (repeat' split) <;> simp
@[simp] theorem State.startPwm_arb (d : Disp) (t : DispTiming) : (s.startPwm d t).arb = s.arb := by
  unfold State.startPwm; (try dsimp only); (repeat' split) <;> simp
@[simp] theorem State.startPwm_disp (d : Disp) (t : DispTiming) : (s.startPwm d t).disp = s.disp := by
  unfold State.startPwm; (try dsimp only); (repeat' split) <;> simp
@[simp] theorem State.startPwm_centre (d : Disp) (t : DispTiming) : (s.startPwm d t).centre = s.centre := by
  unfold State.startPwm; (try dsimp only); (repeat' split) <;> simp
@[simp] theorem State.startPwm_rear (d : Disp) (t : DispTiming) : (s.startPwm d t).rear = s.rear := by
  unfold State.startPwm; (try dsimp only); (repeat' split) <;> simp
@[simp] theorem State.startPwm_sets (d : Disp) (t : DispTiming) : (s.startPwm d t).sets = s.sets := by
  unfold State.startPwm; (try dsimp only); (repeat' split) <;> simp
@[simp] theorem State.startPwm_aud (d : Disp) (t : DispTiming) : (s.startPwm d t).aud = s.aud := by
  unfold State.startPwm; (try dsimp only); (repeat' split) <;> simp
@[simp] theorem State.startPwm_mix (d : Disp) (t : DispTiming) : (s.startPwm d t).mix = s.mix := by
  unfold State.startPwm; (try dsimp only); (repeat' split) <;> simp
@[simp] theorem State.startPwm_cam (d : Disp) (t : DispTiming) : (s.startPwm d t).cam = s.cam := by
  unfold State.startPwm; (try dsimp only); (repeat' split) <;> simp
@[simp] theorem State.startPwm_rvc (d : Disp) (t : DispTiming) : (s.startPwm d t).rvc = s.rvc := by
  unfold State.startPwm; (try dsimp only); (repeat' split) <;> simp
@[simp] theorem State.startPwm_guide (d : Disp) (t : DispTiming) : (s.startPwm d t).guide = s.guide := by
  unfold State.startPwm; (try dsimp only); (repeat' split) <;> simp
@[simp] theorem State.startPwm_link (d : Disp) (t : DispTiming) : (s.startPwm d t).link = s.link := by
  unfold State.startPwm; (try dsimp only); (repeat' split) <;> simp
@[simp] theorem State.startPwm_chime (d : Disp) (t : DispTiming) : (s.startPwm d t).chime = s.chime := by
  unfold State.startPwm; (try dsimp only); (repeat' split) <;> simp
@[simp] theorem State.startPwm_pending (d : Disp) (t : DispTiming) : (s.startPwm d t).pending = s.pending := by
  unfold State.startPwm; (try dsimp only); (repeat' split) <;> simp

/-! ### State.clearLatch -/

@[simp] theorem State.clearLatch_pins (d : Disp) : (s.clearLatch d).pins = s.pins := by
  unfold State.clearLatch; (try dsimp only); (repeat' split) <;> simp
@[simp] theorem State.clearLatch_boot (d : Disp) : (s.clearLatch d).boot = s.boot := by
  unfold State.clearLatch; (try dsimp only); (repeat' split) <;> simp
@[simp] theorem State.clearLatch_tb (d : Disp) : (s.clearLatch d).tb = s.tb := by
  unfold State.clearLatch; (try dsimp only); (repeat' split) <;> simp
@[simp] theorem State.clearLatch_path (d : Disp) : (s.clearLatch d).path = s.path := by
  unfold State.clearLatch; (try dsimp only); (repeat' split) <;> simp
@[simp] theorem State.clearLatch_arb (d : Disp) : (s.clearLatch d).arb = s.arb := by
  unfold State.clearLatch; (try dsimp only); (repeat' split) <;> simp
@[simp] theorem State.clearLatch_disp (d : Disp) : (s.clearLatch d).disp = s.disp := by
  unfold State.clearLatch; (try dsimp only); (repeat' split) <;> simp
@[simp] theorem State.clearLatch_centre (d : Disp) : (s.clearLatch d).centre = s.centre := by
  unfold State.clearLatch; (try dsimp only); (repeat' split) <;> simp
@[simp] theorem State.clearLatch_rear (d : Disp) : (s.clearLatch d).rear = s.rear := by
  unfold State.clearLatch; (try dsimp only); (repeat' split) <;> simp
@[simp] theorem State.clearLatch_sets (d : Disp) : (s.clearLatch d).sets = s.sets := by
  unfold State.clearLatch; (try dsimp only); (repeat' split) <;> simp
@[simp] theorem State.clearLatch_aud (d : Disp) : (s.clearLatch d).aud = s.aud := by
  unfold State.clearLatch; (try dsimp only); (repeat' split) <;> simp
@[simp] theorem State.clearLatch_mix (d : Disp) : (s.clearLatch d).mix = s.mix := by
  unfold State.clearLatch; (try dsimp only); (repeat' split) <;> simp
@[simp] theorem State.clearLatch_cam (d : Disp) : (s.clearLatch d).cam = s.cam := by
  unfold State.clearLatch; (try dsimp only); (repeat' split) <;> simp
@[simp] theorem State.clearLatch_rvc (d : Disp) : (s.clearLatch d).rvc = s.rvc := by
  unfold State.clearLatch; (try dsimp only); (repeat' split) <;> simp
@[simp] theorem State.clearLatch_guide (d : Disp) : (s.clearLatch d).guide = s.guide := by
  unfold State.clearLatch; (try dsimp only); (repeat' split) <;> simp
@[simp] theorem State.clearLatch_link (d : Disp) : (s.clearLatch d).link = s.link := by
  unfold State.clearLatch; (try dsimp only); (repeat' split) <;> simp
@[simp] theorem State.clearLatch_chime (d : Disp) : (s.clearLatch d).chime = s.chime := by
  unfold State.clearLatch; (try dsimp only); (repeat' split) <;> simp
@[simp] theorem State.clearLatch_load (d : Disp) : (s.clearLatch d).load = s.load := by
  unfold State.clearLatch; (try dsimp only); (repeat' split) <;> simp
@[simp] theorem State.clearLatch_pending (d : Disp) : (s.clearLatch d).pending = s.pending := by
  unfold State.clearLatch; (try dsimp only); (repeat' split) <;> simp

/-! ### State.clearLatches -/

@[simp] theorem State.clearLatches_pins : (s.clearLatches).pins = s.pins := by
  unfold State.clearLatches; (try dsimp only); (repeat' split) <;> simp
@[simp] theorem State.clearLatches_boot : (s.clearLatches).boot = s.boot := by
  unfold State.clearLatches; (try dsimp only); (repeat' split) <;> simp
@[simp] theorem State.clearLatches_tb : (s.clearLatches).tb = s.tb := by
  unfold State.clearLatches; (try dsimp only); (repeat' split) <;> simp
@[simp] theorem State.clearLatches_path : (s.clearLatches).path = s.path := by
  unfold State.clearLatches; (try dsimp only); (repeat' split) <;> simp
@[simp] theorem State.clearLatches_arb : (s.clearLatches).arb = s.arb := by
  unfold State.clearLatches; (try dsimp only); (repeat' split) <;> simp
@[simp] theorem State.clearLatches_disp : (s.clearLatches).disp = s.disp := by
  unfold State.clearLatches; (try dsimp only); (repeat' split) <;> simp
@[simp] theorem State.clearLatches_centre : (s.clearLatches).centre = s.centre := by
  unfold State.clearLatches; (try dsimp only); (repeat' split) <;> simp
@[simp] theorem State.clearLatches_rear : (s.clearLatches).rear = s.rear := by
  unfold State.clearLatches; (try dsimp only); (repeat' split) <;> simp
@[simp] theorem State.clearLatches_sets : (s.clearLatches).sets = s.sets := by
  unfold State.clearLatches; (try dsimp only); (repeat' split) <;> simp
@[simp] theorem State.clearLatches_aud : (s.clearLatches).aud = s.aud := by
  unfold State.clearLatches; (try dsimp only); (repeat' split) <;> simp
@[simp] theorem State.clearLatches_mix : (s.clearLatches).mix = s.mix := by
  unfold State.clearLatches; (try dsimp only); (repeat' split) <;> simp
@[simp] theorem State.clearLatches_cam : (s.clearLatches).cam = s.cam := by
  unfold State.clearLatches; (try dsimp only); (repeat' split) <;> simp
@[simp] theorem State.clearLatches_rvc : (s.clearLatches).rvc = s.rvc := by
  unfold State.clearLatches; (try dsimp only); (repeat' split) <;> simp
@[simp] theorem State.clearLatches_guide : (s.clearLatches).guide = s.guide := by
  unfold State.clearLatches; (try dsimp only); (repeat' split) <;> simp
@[simp] theorem State.clearLatches_link : (s.clearLatches).link = s.link := by
  unfold State.clearLatches; (try dsimp only); (repeat' split) <;> simp
@[simp] theorem State.clearLatches_chime : (s.clearLatches).chime = s.chime := by
  unfold State.clearLatches; (try dsimp only); (repeat' split) <;> simp
@[simp] theorem State.clearLatches_load : (s.clearLatches).load = s.load := by
  unfold State.clearLatches; (try dsimp only); (repeat' split) <;> simp
@[simp] theorem State.clearLatches_pending : (s.clearLatches).pending = s.pending := by
  unfold State.clearLatches; (try dsimp only); (repeat' split) <;> simp

/-! ### State.rvcEnter -/

@[simp] theorem State.rvcEnter_pins (r : RvcState) : (s.rvcEnter r).pins = s.pins := by
  unfold State.rvcEnter; (try dsimp only); (repeat' split) <;> simp
@[simp] theorem State.rvcEnter_boot (r : RvcState) : (s.rvcEnter r).boot = s.boot := by
  unfold State.rvcEnter; (try dsimp only); (repeat' split) <;> simp
@[simp] theorem State.rvcEnter_tb (r : RvcState) : (s.rvcEnter r).tb = s.tb := by
  unfold State.rvcEnter; (try dsimp only); (repeat' split) <;> simp
@[simp] theorem State.rvcEnter_path (r : RvcState) : (s.rvcEnter r).path = s.path := by
  unfold State.rvcEnter; (try dsimp only); (repeat' split) <;> simp
@[simp] theorem State.rvcEnter_arb (r : RvcState) : (s.rvcEnter r).arb = s.arb := by
  unfold State.rvcEnter; (try dsimp only); (repeat' split) <;> simp
@[simp] theorem State.rvcEnter_disp (r : RvcState) : (s.rvcEnter r).disp = s.disp := by
  unfold State.rvcEnter; (try dsimp only); (repeat' split) <;> simp
@[simp] theorem State.rvcEnter_centre (r : RvcState) : (s.rvcEnter r).centre = s.centre := by
  unfold State.rvcEnter; (try dsimp only); (repeat' split) <;> simp
@[simp] theorem State.rvcEnter_rear (r : RvcState) : (s.rvcEnter r).rear = s.rear := by
  unfold State.rvcEnter; (try dsimp only); (repeat' split) <;> simp
@[simp] theorem State.rvcEnter_sets (r : RvcState) : (s.rvcEnter r).sets = s.sets := by
  unfold State.rvcEnter; (try dsimp only); (repeat' split) <;> simp
@[simp] theorem State.rvcEnter_aud (r : RvcState) : (s.rvcEnter r).aud = s.aud := by
  unfold State.rvcEnter; (try dsimp only); (repeat' split) <;> simp
@[simp] theorem State.rvcEnter_mix (r : RvcState) : (s.rvcEnter r).mix = s.mix := by
  unfold State.rvcEnter; (try dsimp only); (repeat' split) <;> simp
@[simp] theorem State.rvcEnter_cam (r : RvcState) : (s.rvcEnter r).cam = s.cam := by
  unfold State.rvcEnter; (try dsimp only); (repeat' split) <;> simp
@[simp] theorem State.rvcEnter_guide (r : RvcState) : (s.rvcEnter r).guide = s.guide := by
  unfold State.rvcEnter; (try dsimp only); (repeat' split) <;> simp
@[simp] theorem State.rvcEnter_link (r : RvcState) : (s.rvcEnter r).link = s.link := by
  unfold State.rvcEnter; (try dsimp only); (repeat' split) <;> simp
@[simp] theorem State.rvcEnter_chime (r : RvcState) : (s.rvcEnter r).chime = s.chime := by
  unfold State.rvcEnter; (try dsimp only); (repeat' split) <;> simp
@[simp] theorem State.rvcEnter_bl (r : RvcState) : (s.rvcEnter r).bl = s.bl := by
  unfold State.rvcEnter; (try dsimp only); (repeat' split) <;> simp
@[simp] theorem State.rvcEnter_pending (r : RvcState) : (s.rvcEnter r).pending = s.pending := by
  unfold State.rvcEnter; (try dsimp only); (repeat' split) <;> simp

/-! ### State.keepWindow -/

@[simp] theorem State.keepWindow_pins : (s.keepWindow).pins = s.pins := by
  unfold State.keepWindow; (try dsimp only); (repeat' split) <;> simp
@[simp] theorem State.keepWindow_boot : (s.keepWindow).boot = s.boot := by
  unfold State.keepWindow; (try dsimp only); (repeat' split) <;> simp
@[simp] theorem State.keepWindow_tb : (s.keepWindow).tb = s.tb := by
  unfold State.keepWindow; (try dsimp only); (repeat' split) <;> simp
@[simp] theorem State.keepWindow_path : (s.keepWindow).path = s.path := by
  unfold State.keepWindow; (try dsimp only); (repeat' split) <;> simp
@[simp] theorem State.keepWindow_arb : (s.keepWindow).arb = s.arb := by
  unfold State.keepWindow; (try dsimp only); (repeat' split) <;> simp
@[simp] theorem State.keepWindow_disp : (s.keepWindow).disp = s.disp := by
  unfold State.keepWindow; (try dsimp only); (repeat' split) <;> simp
@[simp] theorem State.keepWindow_rear : (s.keepWindow).rear = s.rear := by
  unfold State.keepWindow; (try dsimp only); (repeat' split) <;> simp
@[simp] theorem State.keepWindow_sets : (s.keepWindow).sets = s.sets := by
  unfold State.keepWindow; (try dsimp only); (repeat' split) <;> simp
@[simp] theorem State.keepWindow_aud : (s.keepWindow).aud = s.aud := by
  unfold State.keepWindow; (try dsimp only); (repeat' split) <;> simp
@[simp] theorem State.keepWindow_mix : (s.keepWindow).mix = s.mix := by
  unfold State.keepWindow; (try dsimp only); (repeat' split) <;> simp
@[simp] theorem State.keepWindow_cam : (s.keepWindow).cam = s.cam := by
  unfold State.keepWindow; (try dsimp only); (repeat' split) <;> simp
@[simp] theorem State.keepWindow_rvc : (s.keepWindow).rvc = s.rvc := by
  unfold State.keepWindow; (try dsimp only); (repeat' split) <;> simp
@[simp] theorem State.keepWindow_guide : (s.keepWindow).guide = s.guide := by
  unfold State.keepWindow; (try dsimp only); (repeat' split) <;> simp
@[simp] theorem State.keepWindow_link : (s.keepWindow).link = s.link := by
  unfold State.keepWindow; (try dsimp only); (repeat' split) <;> simp
@[simp] theorem State.keepWindow_chime : (s.keepWindow).chime = s.chime := by
  unfold State.keepWindow; (try dsimp only); (repeat' split) <;> simp
@[simp] theorem State.keepWindow_load : (s.keepWindow).load = s.load := by
  unfold State.keepWindow; (try dsimp only); (repeat' split) <;> simp
@[simp] theorem State.keepWindow_bl : (s.keepWindow).bl = s.bl := by
  unfold State.keepWindow; (try dsimp only); (repeat' split) <;> simp
@[simp] theorem State.keepWindow_pending : (s.keepWindow).pending = s.pending := by
  unfold State.keepWindow; (try dsimp only); (repeat' split) <;> simp

/-! ### State.takeChime -/

@[simp] theorem State.takeChime_pins (x : ChimeState × Bool) : (s.takeChime x).pins = s.pins := by
  unfold State.takeChime; (try dsimp only); (repeat' split) <;> simp
@[simp] theorem State.takeChime_boot (x : ChimeState × Bool) : (s.takeChime x).boot = s.boot := by
  unfold State.takeChime; (try dsimp only); (repeat' split) <;> simp
@[simp] theorem State.takeChime_tb (x : ChimeState × Bool) : (s.takeChime x).tb = s.tb := by
  unfold State.takeChime; (try dsimp only); (repeat' split) <;> simp
@[simp] theorem State.takeChime_path (x : ChimeState × Bool) : (s.takeChime x).path = s.path := by
  unfold State.takeChime; (try dsimp only); (repeat' split) <;> simp
@[simp] theorem State.takeChime_arb (x : ChimeState × Bool) : (s.takeChime x).arb = s.arb := by
  unfold State.takeChime; (try dsimp only); (repeat' split) <;> simp
@[simp] theorem State.takeChime_disp (x : ChimeState × Bool) : (s.takeChime x).disp = s.disp := by
  unfold State.takeChime; (try dsimp only); (repeat' split) <;> simp
@[simp] theorem State.takeChime_centre (x : ChimeState × Bool) : (s.takeChime x).centre = s.centre := by
  unfold State.takeChime; (try dsimp only); (repeat' split) <;> simp
@[simp] theorem State.takeChime_rear (x : ChimeState × Bool) : (s.takeChime x).rear = s.rear := by
  unfold State.takeChime; (try dsimp only); (repeat' split) <;> simp
@[simp] theorem State.takeChime_sets (x : ChimeState × Bool) : (s.takeChime x).sets = s.sets := by
  unfold State.takeChime; (try dsimp only); (repeat' split) <;> simp
@[simp] theorem State.takeChime_aud (x : ChimeState × Bool) : (s.takeChime x).aud = s.aud := by
  unfold State.takeChime; (try dsimp only); (repeat' split) <;> simp
@[simp] theorem State.takeChime_mix (x : ChimeState × Bool) : (s.takeChime x).mix = s.mix := by
  unfold State.takeChime; (try dsimp only); (repeat' split) <;> simp
@[simp] theorem State.takeChime_cam (x : ChimeState × Bool) : (s.takeChime x).cam = s.cam := by
  unfold State.takeChime; (try dsimp only); (repeat' split) <;> simp
@[simp] theorem State.takeChime_rvc (x : ChimeState × Bool) : (s.takeChime x).rvc = s.rvc := by
  unfold State.takeChime; (try dsimp only); (repeat' split) <;> simp
@[simp] theorem State.takeChime_guide (x : ChimeState × Bool) : (s.takeChime x).guide = s.guide := by
  unfold State.takeChime; (try dsimp only); (repeat' split) <;> simp
@[simp] theorem State.takeChime_link (x : ChimeState × Bool) : (s.takeChime x).link = s.link := by
  unfold State.takeChime; (try dsimp only); (repeat' split) <;> simp
@[simp] theorem State.takeChime_bl (x : ChimeState × Bool) : (s.takeChime x).bl = s.bl := by
  unfold State.takeChime; (try dsimp only); (repeat' split) <;> simp
@[simp] theorem State.takeChime_pending (x : ChimeState × Bool) : (s.takeChime x).pending = s.pending := by
  unfold State.takeChime; (try dsimp only); (repeat' split) <;> simp

/-! ### State.chimeRequest -/

@[simp] theorem State.chimeRequest_pins (src : Source) (pat : Nat) : (s.chimeRequest src pat).pins = s.pins := by
  unfold State.chimeRequest; (try dsimp only); (repeat' split) <;> simp
@[simp] theorem State.chimeRequest_boot (src : Source) (pat : Nat) : (s.chimeRequest src pat).boot = s.boot := by
  unfold State.chimeRequest; (try dsimp only); (repeat' split) <;> simp
@[simp] theorem State.chimeRequest_tb (src : Source) (pat : Nat) : (s.chimeRequest src pat).tb = s.tb := by
  unfold State.chimeRequest; (try dsimp only); (repeat' split) <;> simp
@[simp] theorem State.chimeRequest_path (src : Source) (pat : Nat) : (s.chimeRequest src pat).path = s.path := by
  unfold State.chimeRequest; (try dsimp only); (repeat' split) <;> simp
@[simp] theorem State.chimeRequest_arb (src : Source) (pat : Nat) : (s.chimeRequest src pat).arb = s.arb := by
  unfold State.chimeRequest; (try dsimp only); (repeat' split) <;> simp
@[simp] theorem State.chimeRequest_disp (src : Source) (pat : Nat) : (s.chimeRequest src pat).disp = s.disp := by
  unfold State.chimeRequest; (try dsimp only); (repeat' split) <;> simp
@[simp] theorem State.chimeRequest_centre (src : Source) (pat : Nat) : (s.chimeRequest src pat).centre = s.centre := by
  unfold State.chimeRequest; (try dsimp only); (repeat' split) <;> simp
@[simp] theorem State.chimeRequest_rear (src : Source) (pat : Nat) : (s.chimeRequest src pat).rear = s.rear := by
  unfold State.chimeRequest; (try dsimp only); (repeat' split) <;> simp
@[simp] theorem State.chimeRequest_sets (src : Source) (pat : Nat) : (s.chimeRequest src pat).sets = s.sets := by
  unfold State.chimeRequest; (try dsimp only); (repeat' split) <;> simp
@[simp] theorem State.chimeRequest_aud (src : Source) (pat : Nat) : (s.chimeRequest src pat).aud = s.aud := by
  unfold State.chimeRequest; (try dsimp only); (repeat' split) <;> simp
@[simp] theorem State.chimeRequest_mix (src : Source) (pat : Nat) : (s.chimeRequest src pat).mix = s.mix := by
  unfold State.chimeRequest; (try dsimp only); (repeat' split) <;> simp
@[simp] theorem State.chimeRequest_cam (src : Source) (pat : Nat) : (s.chimeRequest src pat).cam = s.cam := by
  unfold State.chimeRequest; (try dsimp only); (repeat' split) <;> simp
@[simp] theorem State.chimeRequest_rvc (src : Source) (pat : Nat) : (s.chimeRequest src pat).rvc = s.rvc := by
  unfold State.chimeRequest; (try dsimp only); (repeat' split) <;> simp
@[simp] theorem State.chimeRequest_guide (src : Source) (pat : Nat) : (s.chimeRequest src pat).guide = s.guide := by
  unfold State.chimeRequest; (try dsimp only); (repeat' split) <;> simp
@[simp] theorem State.chimeRequest_link (src : Source) (pat : Nat) : (s.chimeRequest src pat).link = s.link := by
  unfold State.chimeRequest; (try dsimp only); (repeat' split) <;> simp
@[simp] theorem State.chimeRequest_bl (src : Source) (pat : Nat) : (s.chimeRequest src pat).bl = s.bl := by
  unfold State.chimeRequest; (try dsimp only); (repeat' split) <;> simp
@[simp] theorem State.chimeRequest_pending (src : Source) (pat : Nat) : (s.chimeRequest src pat).pending = s.pending := by
  unfold State.chimeRequest; (try dsimp only); (repeat' split) <;> simp

/-! ### State.chimeCancel -/

@[simp] theorem State.chimeCancel_pins (src : Source) : (s.chimeCancel src).pins = s.pins := by
  unfold State.chimeCancel; (try dsimp only); (repeat' split) <;> simp
@[simp] theorem State.chimeCancel_boot (src : Source) : (s.chimeCancel src).boot = s.boot := by
  unfold State.chimeCancel; (try dsimp only); (repeat' split) <;> simp
@[simp] theorem State.chimeCancel_tb (src : Source) : (s.chimeCancel src).tb = s.tb := by
  unfold State.chimeCancel; (try dsimp only); (repeat' split) <;> simp
@[simp] theorem State.chimeCancel_path (src : Source) : (s.chimeCancel src).path = s.path := by
  unfold State.chimeCancel; (try dsimp only); (repeat' split) <;> simp
@[simp] theorem State.chimeCancel_arb (src : Source) : (s.chimeCancel src).arb = s.arb := by
  unfold State.chimeCancel; (try dsimp only); (repeat' split) <;> simp
@[simp] theorem State.chimeCancel_disp (src : Source) : (s.chimeCancel src).disp = s.disp := by
  unfold State.chimeCancel; (try dsimp only); (repeat' split) <;> simp
@[simp] theorem State.chimeCancel_centre (src : Source) : (s.chimeCancel src).centre = s.centre := by
  unfold State.chimeCancel; (try dsimp only); (repeat' split) <;> simp
@[simp] theorem State.chimeCancel_rear (src : Source) : (s.chimeCancel src).rear = s.rear := by
  unfold State.chimeCancel; (try dsimp only); (repeat' split) <;> simp
@[simp] theorem State.chimeCancel_sets (src : Source) : (s.chimeCancel src).sets = s.sets := by
  unfold State.chimeCancel; (try dsimp only); (repeat' split) <;> simp
@[simp] theorem State.chimeCancel_aud (src : Source) : (s.chimeCancel src).aud = s.aud := by
  unfold State.chimeCancel; (try dsimp only); (repeat' split) <;> simp
@[simp] theorem State.chimeCancel_mix (src : Source) : (s.chimeCancel src).mix = s.mix := by
  unfold State.chimeCancel; (try dsimp only); (repeat' split) <;> simp
@[simp] theorem State.chimeCancel_cam (src : Source) : (s.chimeCancel src).cam = s.cam := by
  unfold State.chimeCancel; (try dsimp only); (repeat' split) <;> simp
@[simp] theorem State.chimeCancel_rvc (src : Source) : (s.chimeCancel src).rvc = s.rvc := by
  unfold State.chimeCancel; (try dsimp only); (repeat' split) <;> simp
@[simp] theorem State.chimeCancel_guide (src : Source) : (s.chimeCancel src).guide = s.guide := by
  unfold State.chimeCancel; (try dsimp only); (repeat' split) <;> simp
@[simp] theorem State.chimeCancel_link (src : Source) : (s.chimeCancel src).link = s.link := by
  unfold State.chimeCancel; (try dsimp only); (repeat' split) <;> simp
@[simp] theorem State.chimeCancel_load (src : Source) : (s.chimeCancel src).load = s.load := by
  unfold State.chimeCancel; (try dsimp only); (repeat' split) <;> simp
@[simp] theorem State.chimeCancel_bl (src : Source) : (s.chimeCancel src).bl = s.bl := by
  unfold State.chimeCancel; (try dsimp only); (repeat' split) <;> simp
@[simp] theorem State.chimeCancel_pending (src : Source) : (s.chimeCancel src).pending = s.pending := by
  unfold State.chimeCancel; (try dsimp only); (repeat' split) <;> simp

/-! ### State.conditionRise -/

@[simp] theorem State.conditionRise_pins (k : Nat) : (s.conditionRise k).pins = s.pins := by
  unfold State.conditionRise; (try dsimp only); (repeat' split) <;> simp
@[simp] theorem State.conditionRise_boot (k : Nat) : (s.conditionRise k).boot = s.boot := by
  unfold State.conditionRise; (try dsimp only); (repeat' split) <;> simp
@[simp] theorem State.conditionRise_tb (k : Nat) : (s.conditionRise k).tb = s.tb := by
  unfold State.conditionRise; (try dsimp only); (repeat' split) <;> simp
@[simp] theorem State.conditionRise_path (k : Nat) : (s.conditionRise k).path = s.path := by
  unfold State.conditionRise; (try dsimp only); (repeat' split) <;> simp
@[simp] theorem State.conditionRise_arb (k : Nat) : (s.conditionRise k).arb = s.arb := by
  unfold State.conditionRise; (try dsimp only); (repeat' split) <;> simp
@[simp] theorem State.conditionRise_disp (k : Nat) : (s.conditionRise k).disp = s.disp := by
  unfold State.conditionRise; (try dsimp only); (repeat' split) <;> simp
@[simp] theorem State.conditionRise_centre (k : Nat) : (s.conditionRise k).centre = s.centre := by
  unfold State.conditionRise; (try dsimp only); (repeat' split) <;> simp
@[simp] theorem State.conditionRise_rear (k : Nat) : (s.conditionRise k).rear = s.rear := by
  unfold State.conditionRise; (try dsimp only); (repeat' split) <;> simp
@[simp] theorem State.conditionRise_sets (k : Nat) : (s.conditionRise k).sets = s.sets := by
  unfold State.conditionRise; (try dsimp only); (repeat' split) <;> simp
@[simp] theorem State.conditionRise_aud (k : Nat) : (s.conditionRise k).aud = s.aud := by
  unfold State.conditionRise; (try dsimp only); (repeat' split) <;> simp
@[simp] theorem State.conditionRise_mix (k : Nat) : (s.conditionRise k).mix = s.mix := by
  unfold State.conditionRise; (try dsimp only); (repeat' split) <;> simp
@[simp] theorem State.conditionRise_cam (k : Nat) : (s.conditionRise k).cam = s.cam := by
  unfold State.conditionRise; (try dsimp only); (repeat' split) <;> simp
@[simp] theorem State.conditionRise_rvc (k : Nat) : (s.conditionRise k).rvc = s.rvc := by
  unfold State.conditionRise; (try dsimp only); (repeat' split) <;> simp
@[simp] theorem State.conditionRise_guide (k : Nat) : (s.conditionRise k).guide = s.guide := by
  unfold State.conditionRise; (try dsimp only); (repeat' split) <;> simp
@[simp] theorem State.conditionRise_link (k : Nat) : (s.conditionRise k).link = s.link := by
  unfold State.conditionRise; (try dsimp only); (repeat' split) <;> simp
@[simp] theorem State.conditionRise_bl (k : Nat) : (s.conditionRise k).bl = s.bl := by
  unfold State.conditionRise; (try dsimp only); (repeat' split) <;> simp
@[simp] theorem State.conditionRise_pending (k : Nat) : (s.conditionRise k).pending = s.pending := by
  unfold State.conditionRise; (try dsimp only); (repeat' split) <;> simp

/-! ### State.conditionFall -/

@[simp] theorem State.conditionFall_pins (k : Nat) : (s.conditionFall k).pins = s.pins := by
  unfold State.conditionFall; (try dsimp only); (repeat' split) <;> simp
@[simp] theorem State.conditionFall_boot (k : Nat) : (s.conditionFall k).boot = s.boot := by
  unfold State.conditionFall; (try dsimp only); (repeat' split) <;> simp
@[simp] theorem State.conditionFall_tb (k : Nat) : (s.conditionFall k).tb = s.tb := by
  unfold State.conditionFall; (try dsimp only); (repeat' split) <;> simp
@[simp] theorem State.conditionFall_path (k : Nat) : (s.conditionFall k).path = s.path := by
  unfold State.conditionFall; (try dsimp only); (repeat' split) <;> simp
@[simp] theorem State.conditionFall_arb (k : Nat) : (s.conditionFall k).arb = s.arb := by
  unfold State.conditionFall; (try dsimp only); (repeat' split) <;> simp
@[simp] theorem State.conditionFall_disp (k : Nat) : (s.conditionFall k).disp = s.disp := by
  unfold State.conditionFall; (try dsimp only); (repeat' split) <;> simp
@[simp] theorem State.conditionFall_centre (k : Nat) : (s.conditionFall k).centre = s.centre := by
  unfold State.conditionFall; (try dsimp only); (repeat' split) <;> simp
@[simp] theorem State.conditionFall_rear (k : Nat) : (s.conditionFall k).rear = s.rear := by
  unfold State.conditionFall; (try dsimp only); (repeat' split) <;> simp
@[simp] theorem State.conditionFall_sets (k : Nat) : (s.conditionFall k).sets = s.sets := by
  unfold State.conditionFall; (try dsimp only); (repeat' split) <;> simp
@[simp] theorem State.conditionFall_aud (k : Nat) : (s.conditionFall k).aud = s.aud := by
  unfold State.conditionFall; (try dsimp only); (repeat' split) <;> simp
@[simp] theorem State.conditionFall_mix (k : Nat) : (s.conditionFall k).mix = s.mix := by
  unfold State.conditionFall; (try dsimp only); (repeat' split) <;> simp
@[simp] theorem State.conditionFall_cam (k : Nat) : (s.conditionFall k).cam = s.cam := by
  unfold State.conditionFall; (try dsimp only); (repeat' split) <;> simp
@[simp] theorem State.conditionFall_rvc (k : Nat) : (s.conditionFall k).rvc = s.rvc := by
  unfold State.conditionFall; (try dsimp only); (repeat' split) <;> simp
@[simp] theorem State.conditionFall_guide (k : Nat) : (s.conditionFall k).guide = s.guide := by
  unfold State.conditionFall; (try dsimp only); (repeat' split) <;> simp
@[simp] theorem State.conditionFall_link (k : Nat) : (s.conditionFall k).link = s.link := by
  unfold State.conditionFall; (try dsimp only); (repeat' split) <;> simp
@[simp] theorem State.conditionFall_load (k : Nat) : (s.conditionFall k).load = s.load := by
  unfold State.conditionFall; (try dsimp only); (repeat' split) <;> simp
@[simp] theorem State.conditionFall_bl (k : Nat) : (s.conditionFall k).bl = s.bl := by
  unfold State.conditionFall; (try dsimp only); (repeat' split) <;> simp
@[simp] theorem State.conditionFall_pending (k : Nat) : (s.conditionFall k).pending = s.pending := by
  unfold State.conditionFall; (try dsimp only); (repeat' split) <;> simp

/-! ### State.reverseChime -/

@[simp] theorem State.reverseChime_pins : (s.reverseChime).pins = s.pins := by
  unfold State.reverseChime; (try dsimp only); (repeat' split) <;> simp
@[simp] theorem State.reverseChime_boot : (s.reverseChime).boot = s.boot := by
  unfold State.reverseChime; (try dsimp only); (repeat' split) <;> simp
@[simp] theorem State.reverseChime_tb : (s.reverseChime).tb = s.tb := by
  unfold State.reverseChime; (try dsimp only); (repeat' split) <;> simp
@[simp] theorem State.reverseChime_path : (s.reverseChime).path = s.path := by
  unfold State.reverseChime; (try dsimp only); (repeat' split) <;> simp
@[simp] theorem State.reverseChime_arb : (s.reverseChime).arb = s.arb := by
  unfold State.reverseChime; (try dsimp only); (repeat' split) <;> simp
@[simp] theorem State.reverseChime_disp : (s.reverseChime).disp = s.disp := by
  unfold State.reverseChime; (try dsimp only); (repeat' split) <;> simp
@[simp] theorem State.reverseChime_centre : (s.reverseChime).centre = s.centre := by
  unfold State.reverseChime; (try dsimp only); (repeat' split) <;> simp
@[simp] theorem State.reverseChime_rear : (s.reverseChime).rear = s.rear := by
  unfold State.reverseChime; (try dsimp only); (repeat' split) <;> simp
@[simp] theorem State.reverseChime_sets : (s.reverseChime).sets = s.sets := by
  unfold State.reverseChime; (try dsimp only); (repeat' split) <;> simp
@[simp] theorem State.reverseChime_aud : (s.reverseChime).aud = s.aud := by
  unfold State.reverseChime; (try dsimp only); (repeat' split) <;> simp
@[simp] theorem State.reverseChime_mix : (s.reverseChime).mix = s.mix := by
  unfold State.reverseChime; (try dsimp only); (repeat' split) <;> simp
@[simp] theorem State.reverseChime_cam : (s.reverseChime).cam = s.cam := by
  unfold State.reverseChime; (try dsimp only); (repeat' split) <;> simp
@[simp] theorem State.reverseChime_rvc : (s.reverseChime).rvc = s.rvc := by
  unfold State.reverseChime; (try dsimp only); (repeat' split) <;> simp
@[simp] theorem State.reverseChime_guide : (s.reverseChime).guide = s.guide := by
  unfold State.reverseChime; (try dsimp only); (repeat' split) <;> simp
@[simp] theorem State.reverseChime_link : (s.reverseChime).link = s.link := by
  unfold State.reverseChime; (try dsimp only); (repeat' split) <;> simp
@[simp] theorem State.reverseChime_bl : (s.reverseChime).bl = s.bl := by
  unfold State.reverseChime; (try dsimp only); (repeat' split) <;> simp
@[simp] theorem State.reverseChime_pending : (s.reverseChime).pending = s.pending := by
  unfold State.reverseChime; (try dsimp only); (repeat' split) <;> simp

/-! ### State.handConditions -/

@[simp] theorem State.handConditions_pins (old new : BitVec 32) : (s.handConditions old new).pins = s.pins :=
  (foldl_keeps _ (·.pins) (fun s a => State.conditionFall_pins s a) _ _).trans
    (foldl_keeps _ (·.pins) (fun s a => State.conditionRise_pins s a) _ _)
@[simp] theorem State.handConditions_boot (old new : BitVec 32) : (s.handConditions old new).boot = s.boot :=
  (foldl_keeps _ (·.boot) (fun s a => State.conditionFall_boot s a) _ _).trans
    (foldl_keeps _ (·.boot) (fun s a => State.conditionRise_boot s a) _ _)
@[simp] theorem State.handConditions_tb (old new : BitVec 32) : (s.handConditions old new).tb = s.tb :=
  (foldl_keeps _ (·.tb) (fun s a => State.conditionFall_tb s a) _ _).trans
    (foldl_keeps _ (·.tb) (fun s a => State.conditionRise_tb s a) _ _)
@[simp] theorem State.handConditions_path (old new : BitVec 32) : (s.handConditions old new).path = s.path :=
  (foldl_keeps _ (·.path) (fun s a => State.conditionFall_path s a) _ _).trans
    (foldl_keeps _ (·.path) (fun s a => State.conditionRise_path s a) _ _)
@[simp] theorem State.handConditions_arb (old new : BitVec 32) : (s.handConditions old new).arb = s.arb :=
  (foldl_keeps _ (·.arb) (fun s a => State.conditionFall_arb s a) _ _).trans
    (foldl_keeps _ (·.arb) (fun s a => State.conditionRise_arb s a) _ _)
@[simp] theorem State.handConditions_disp (old new : BitVec 32) : (s.handConditions old new).disp = s.disp :=
  (foldl_keeps _ (·.disp) (fun s a => State.conditionFall_disp s a) _ _).trans
    (foldl_keeps _ (·.disp) (fun s a => State.conditionRise_disp s a) _ _)
@[simp] theorem State.handConditions_centre (old new : BitVec 32) : (s.handConditions old new).centre = s.centre :=
  (foldl_keeps _ (·.centre) (fun s a => State.conditionFall_centre s a) _ _).trans
    (foldl_keeps _ (·.centre) (fun s a => State.conditionRise_centre s a) _ _)
@[simp] theorem State.handConditions_rear (old new : BitVec 32) : (s.handConditions old new).rear = s.rear :=
  (foldl_keeps _ (·.rear) (fun s a => State.conditionFall_rear s a) _ _).trans
    (foldl_keeps _ (·.rear) (fun s a => State.conditionRise_rear s a) _ _)
@[simp] theorem State.handConditions_sets (old new : BitVec 32) : (s.handConditions old new).sets = s.sets :=
  (foldl_keeps _ (·.sets) (fun s a => State.conditionFall_sets s a) _ _).trans
    (foldl_keeps _ (·.sets) (fun s a => State.conditionRise_sets s a) _ _)
@[simp] theorem State.handConditions_aud (old new : BitVec 32) : (s.handConditions old new).aud = s.aud :=
  (foldl_keeps _ (·.aud) (fun s a => State.conditionFall_aud s a) _ _).trans
    (foldl_keeps _ (·.aud) (fun s a => State.conditionRise_aud s a) _ _)
@[simp] theorem State.handConditions_mix (old new : BitVec 32) : (s.handConditions old new).mix = s.mix :=
  (foldl_keeps _ (·.mix) (fun s a => State.conditionFall_mix s a) _ _).trans
    (foldl_keeps _ (·.mix) (fun s a => State.conditionRise_mix s a) _ _)
@[simp] theorem State.handConditions_cam (old new : BitVec 32) : (s.handConditions old new).cam = s.cam :=
  (foldl_keeps _ (·.cam) (fun s a => State.conditionFall_cam s a) _ _).trans
    (foldl_keeps _ (·.cam) (fun s a => State.conditionRise_cam s a) _ _)
@[simp] theorem State.handConditions_rvc (old new : BitVec 32) : (s.handConditions old new).rvc = s.rvc :=
  (foldl_keeps _ (·.rvc) (fun s a => State.conditionFall_rvc s a) _ _).trans
    (foldl_keeps _ (·.rvc) (fun s a => State.conditionRise_rvc s a) _ _)
@[simp] theorem State.handConditions_guide (old new : BitVec 32) : (s.handConditions old new).guide = s.guide :=
  (foldl_keeps _ (·.guide) (fun s a => State.conditionFall_guide s a) _ _).trans
    (foldl_keeps _ (·.guide) (fun s a => State.conditionRise_guide s a) _ _)
@[simp] theorem State.handConditions_link (old new : BitVec 32) : (s.handConditions old new).link = s.link :=
  (foldl_keeps _ (·.link) (fun s a => State.conditionFall_link s a) _ _).trans
    (foldl_keeps _ (·.link) (fun s a => State.conditionRise_link s a) _ _)
@[simp] theorem State.handConditions_bl (old new : BitVec 32) : (s.handConditions old new).bl = s.bl :=
  (foldl_keeps _ (·.bl) (fun s a => State.conditionFall_bl s a) _ _).trans
    (foldl_keeps _ (·.bl) (fun s a => State.conditionRise_bl s a) _ _)
@[simp] theorem State.handConditions_pending (old new : BitVec 32) : (s.handConditions old new).pending = s.pending :=
  (foldl_keeps _ (·.pending) (fun s a => State.conditionFall_pending s a) _ _).trans
    (foldl_keeps _ (·.pending) (fun s a => State.conditionRise_pending s a) _ _)

/-! ### State.completeFrame -/

@[simp] theorem State.completeFrame_pins (bytes : List Byte) : (s.completeFrame bytes).pins = s.pins := by
  unfold State.completeFrame; (try dsimp only); (repeat' split) <;> simp
@[simp] theorem State.completeFrame_boot (bytes : List Byte) : (s.completeFrame bytes).boot = s.boot := by
  unfold State.completeFrame; (try dsimp only); (repeat' split) <;> simp
@[simp] theorem State.completeFrame_tb (bytes : List Byte) : (s.completeFrame bytes).tb = s.tb := by
  unfold State.completeFrame; (try dsimp only); (repeat' split) <;> simp
@[simp] theorem State.completeFrame_path (bytes : List Byte) : (s.completeFrame bytes).path = s.path := by
  unfold State.completeFrame; (try dsimp only); (repeat' split) <;> simp
@[simp] theorem State.completeFrame_arb (bytes : List Byte) : (s.completeFrame bytes).arb = s.arb := by
  unfold State.completeFrame; (try dsimp only); (repeat' split) <;> simp
@[simp] theorem State.completeFrame_disp (bytes : List Byte) : (s.completeFrame bytes).disp = s.disp := by
  unfold State.completeFrame; (try dsimp only); (repeat' split) <;> simp
@[simp] theorem State.completeFrame_centre (bytes : List Byte) : (s.completeFrame bytes).centre = s.centre := by
  unfold State.completeFrame; (try dsimp only); (repeat' split) <;> simp
@[simp] theorem State.completeFrame_rear (bytes : List Byte) : (s.completeFrame bytes).rear = s.rear := by
  unfold State.completeFrame; (try dsimp only); (repeat' split) <;> simp
@[simp] theorem State.completeFrame_sets (bytes : List Byte) : (s.completeFrame bytes).sets = s.sets := by
  unfold State.completeFrame; (try dsimp only); (repeat' split) <;> simp
@[simp] theorem State.completeFrame_aud (bytes : List Byte) : (s.completeFrame bytes).aud = s.aud := by
  unfold State.completeFrame; (try dsimp only); (repeat' split) <;> simp
@[simp] theorem State.completeFrame_mix (bytes : List Byte) : (s.completeFrame bytes).mix = s.mix := by
  unfold State.completeFrame; (try dsimp only); (repeat' split) <;> simp
@[simp] theorem State.completeFrame_cam (bytes : List Byte) : (s.completeFrame bytes).cam = s.cam := by
  unfold State.completeFrame; (try dsimp only); (repeat' split) <;> simp
@[simp] theorem State.completeFrame_rvc (bytes : List Byte) : (s.completeFrame bytes).rvc = s.rvc := by
  unfold State.completeFrame; (try dsimp only); (repeat' split) <;> simp
@[simp] theorem State.completeFrame_guide (bytes : List Byte) : (s.completeFrame bytes).guide = s.guide := by
  unfold State.completeFrame; (try dsimp only); (repeat' split) <;> simp
@[simp] theorem State.completeFrame_bl (bytes : List Byte) : (s.completeFrame bytes).bl = s.bl := by
  unfold State.completeFrame; (try dsimp only); (repeat' split) <;> simp
@[simp] theorem State.completeFrame_pending (bytes : List Byte) : (s.completeFrame bytes).pending = s.pending := by
  unfold State.completeFrame; (try dsimp only); (repeat' split) <;> simp

/-! ### State.takeByte -/

@[simp] theorem State.takeByte_pins (b : Byte) : (s.takeByte b).pins = s.pins := by
  unfold State.takeByte; (try dsimp only); (repeat' split) <;> simp
@[simp] theorem State.takeByte_boot (b : Byte) : (s.takeByte b).boot = s.boot := by
  unfold State.takeByte; (try dsimp only); (repeat' split) <;> simp
@[simp] theorem State.takeByte_tb (b : Byte) : (s.takeByte b).tb = s.tb := by
  unfold State.takeByte; (try dsimp only); (repeat' split) <;> simp
@[simp] theorem State.takeByte_path (b : Byte) : (s.takeByte b).path = s.path := by
  unfold State.takeByte; (try dsimp only); (repeat' split) <;> simp
@[simp] theorem State.takeByte_arb (b : Byte) : (s.takeByte b).arb = s.arb := by
  unfold State.takeByte; (try dsimp only); (repeat' split) <;> simp
@[simp] theorem State.takeByte_disp (b : Byte) : (s.takeByte b).disp = s.disp := by
  unfold State.takeByte; (try dsimp only); (repeat' split) <;> simp
@[simp] theorem State.takeByte_centre (b : Byte) : (s.takeByte b).centre = s.centre := by
  unfold State.takeByte; (try dsimp only); (repeat' split) <;> simp
@[simp] theorem State.takeByte_rear (b : Byte) : (s.takeByte b).rear = s.rear := by
  unfold State.takeByte; (try dsimp only); (repeat' split) <;> simp
@[simp] theorem State.takeByte_sets (b : Byte) : (s.takeByte b).sets = s.sets := by
  unfold State.takeByte; (try dsimp only); (repeat' split) <;> simp
@[simp] theorem State.takeByte_aud (b : Byte) : (s.takeByte b).aud = s.aud := by
  unfold State.takeByte; (try dsimp only); (repeat' split) <;> simp
@[simp] theorem State.takeByte_mix (b : Byte) : (s.takeByte b).mix = s.mix := by
  unfold State.takeByte; (try dsimp only); (repeat' split) <;> simp
@[simp] theorem State.takeByte_cam (b : Byte) : (s.takeByte b).cam = s.cam := by
  unfold State.takeByte; (try dsimp only); (repeat' split) <;> simp
@[simp] theorem State.takeByte_rvc (b : Byte) : (s.takeByte b).rvc = s.rvc := by
  unfold State.takeByte; (try dsimp only); (repeat' split) <;> simp
@[simp] theorem State.takeByte_guide (b : Byte) : (s.takeByte b).guide = s.guide := by
  unfold State.takeByte; (try dsimp only); (repeat' split) <;> simp
@[simp] theorem State.takeByte_bl (b : Byte) : (s.takeByte b).bl = s.bl := by
  unfold State.takeByte; (try dsimp only); (repeat' split) <;> simp
@[simp] theorem State.takeByte_pending (b : Byte) : (s.takeByte b).pending = s.pending := by
  unfold State.takeByte; (try dsimp only); (repeat' split) <;> simp

/-! ### State.leaveOff -/

@[simp] theorem State.leaveOff_pins : (s.leaveOff).pins = s.pins := by
  unfold State.leaveOff; (try dsimp only); (repeat' split) <;> simp
@[simp] theorem State.leaveOff_boot : (s.leaveOff).boot = s.boot := by
  unfold State.leaveOff; (try dsimp only); (repeat' split) <;> simp
@[simp] theorem State.leaveOff_tb : (s.leaveOff).tb = s.tb := by
  unfold State.leaveOff; (try dsimp only); (repeat' split) <;> simp
@[simp] theorem State.leaveOff_path : (s.leaveOff).path = s.path := by
  unfold State.leaveOff; (try dsimp only); (repeat' split) <;> simp
@[simp] theorem State.leaveOff_arb : (s.leaveOff).arb = s.arb := by
  unfold State.leaveOff; (try dsimp only); (repeat' split) <;> simp
@[simp] theorem State.leaveOff_disp : (s.leaveOff).disp = s.disp := by
  unfold State.leaveOff; (try dsimp only); (repeat' split) <;> simp
@[simp] theorem State.leaveOff_rear : (s.leaveOff).rear = s.rear := by
  unfold State.leaveOff; (try dsimp only); (repeat' split) <;> simp
@[simp] theorem State.leaveOff_sets : (s.leaveOff).sets = s.sets := by
  unfold State.leaveOff; (try dsimp only); (repeat' split) <;> simp
@[simp] theorem State.leaveOff_aud : (s.leaveOff).aud = s.aud := by
  unfold State.leaveOff; (try dsimp only); (repeat' split) <;> simp
@[simp] theorem State.leaveOff_mix : (s.leaveOff).mix = s.mix := by
  unfold State.leaveOff; (try dsimp only); (repeat' split) <;> simp
@[simp] theorem State.leaveOff_cam : (s.leaveOff).cam = s.cam := by
  unfold State.leaveOff; (try dsimp only); (repeat' split) <;> simp
@[simp] theorem State.leaveOff_guide : (s.leaveOff).guide = s.guide := by
  unfold State.leaveOff; (try dsimp only); (repeat' split) <;> simp
@[simp] theorem State.leaveOff_link : (s.leaveOff).link = s.link := by
  unfold State.leaveOff; (try dsimp only); (repeat' split) <;> simp
@[simp] theorem State.leaveOff_pending : (s.leaveOff).pending = s.pending := by
  unfold State.leaveOff; (try dsimp only); (repeat' split) <;> simp

/-! ### State.enterOff -/

@[simp] theorem State.enterOff_pins : (s.enterOff).pins = s.pins := by
  unfold State.enterOff; (try dsimp only); (repeat' split) <;> simp
@[simp] theorem State.enterOff_boot : (s.enterOff).boot = s.boot := by
  unfold State.enterOff; (try dsimp only); (repeat' split) <;> simp
@[simp] theorem State.enterOff_tb : (s.enterOff).tb = s.tb := by
  unfold State.enterOff; (try dsimp only); (repeat' split) <;> simp
@[simp] theorem State.enterOff_path : (s.enterOff).path = s.path := by
  unfold State.enterOff; (try dsimp only); (repeat' split) <;> simp
@[simp] theorem State.enterOff_arb : (s.enterOff).arb = s.arb := by
  unfold State.enterOff; (try dsimp only); (repeat' split) <;> simp
@[simp] theorem State.enterOff_disp : (s.enterOff).disp = s.disp := by
  unfold State.enterOff; (try dsimp only); (repeat' split) <;> simp
@[simp] theorem State.enterOff_centre : (s.enterOff).centre = s.centre := by
  unfold State.enterOff; (try dsimp only); (repeat' split) <;> simp
@[simp] theorem State.enterOff_rear : (s.enterOff).rear = s.rear := by
  unfold State.enterOff; (try dsimp only); (repeat' split) <;> simp
@[simp] theorem State.enterOff_sets : (s.enterOff).sets = s.sets := by
  unfold State.enterOff; (try dsimp only); (repeat' split) <;> simp
@[simp] theorem State.enterOff_aud : (s.enterOff).aud = s.aud := by
  unfold State.enterOff; (try dsimp only); (repeat' split) <;> simp
@[simp] theorem State.enterOff_mix : (s.enterOff).mix = s.mix := by
  unfold State.enterOff; (try dsimp only); (repeat' split) <;> simp
@[simp] theorem State.enterOff_cam : (s.enterOff).cam = s.cam := by
  unfold State.enterOff; (try dsimp only); (repeat' split) <;> simp
@[simp] theorem State.enterOff_guide : (s.enterOff).guide = s.guide := by
  unfold State.enterOff; (try dsimp only); (repeat' split) <;> simp
@[simp] theorem State.enterOff_link : (s.enterOff).link = s.link := by
  unfold State.enterOff; (try dsimp only); (repeat' split) <;> simp
@[simp] theorem State.enterOff_pending : (s.enterOff).pending = s.pending := by
  unfold State.enterOff; (try dsimp only); (repeat' split) <;> simp

/-! ### State.reverseOn -/

@[simp] theorem State.reverseOn_pins : (s.reverseOn).pins = s.pins := by
  unfold State.reverseOn; (try dsimp only); (repeat' split) <;> simp
@[simp] theorem State.reverseOn_boot : (s.reverseOn).boot = s.boot := by
  unfold State.reverseOn; (try dsimp only); (repeat' split) <;> simp
@[simp] theorem State.reverseOn_tb : (s.reverseOn).tb = s.tb := by
  unfold State.reverseOn; (try dsimp only); (repeat' split) <;> simp
@[simp] theorem State.reverseOn_path : (s.reverseOn).path = s.path := by
  unfold State.reverseOn; (try dsimp only); (repeat' split) <;> simp
@[simp] theorem State.reverseOn_arb : (s.reverseOn).arb = s.arb := by
  unfold State.reverseOn; (try dsimp only); (repeat' split) <;> simp
@[simp] theorem State.reverseOn_disp : (s.reverseOn).disp = s.disp := by
  unfold State.reverseOn; (try dsimp only); (repeat' split) <;> simp
@[simp] theorem State.reverseOn_rear : (s.reverseOn).rear = s.rear := by
  unfold State.reverseOn; (try dsimp only); (repeat' split) <;> simp
@[simp] theorem State.reverseOn_sets : (s.reverseOn).sets = s.sets := by
  unfold State.reverseOn; (try dsimp only); (repeat' split) <;> simp
@[simp] theorem State.reverseOn_aud : (s.reverseOn).aud = s.aud := by
  unfold State.reverseOn; (try dsimp only); (repeat' split) <;> simp
@[simp] theorem State.reverseOn_mix : (s.reverseOn).mix = s.mix := by
  unfold State.reverseOn; (try dsimp only); (repeat' split) <;> simp
@[simp] theorem State.reverseOn_cam : (s.reverseOn).cam = s.cam := by
  unfold State.reverseOn; (try dsimp only); (repeat' split) <;> simp
@[simp] theorem State.reverseOn_guide : (s.reverseOn).guide = s.guide := by
  unfold State.reverseOn; (try dsimp only); (repeat' split) <;> simp
@[simp] theorem State.reverseOn_link : (s.reverseOn).link = s.link := by
  unfold State.reverseOn; (try dsimp only); (repeat' split) <;> simp
@[simp] theorem State.reverseOn_pending : (s.reverseOn).pending = s.pending := by
  unfold State.reverseOn; (try dsimp only); (repeat' split) <;> simp

/-! ### State.beginRelease -/

@[simp] theorem State.beginRelease_pins : (s.beginRelease).pins = s.pins := by
  unfold State.beginRelease; (try dsimp only); (repeat' split) <;> simp
@[simp] theorem State.beginRelease_boot : (s.beginRelease).boot = s.boot := by
  unfold State.beginRelease; (try dsimp only); (repeat' split) <;> simp
@[simp] theorem State.beginRelease_tb : (s.beginRelease).tb = s.tb := by
  unfold State.beginRelease; (try dsimp only); (repeat' split) <;> simp
@[simp] theorem State.beginRelease_path : (s.beginRelease).path = s.path := by
  unfold State.beginRelease; (try dsimp only); (repeat' split) <;> simp
@[simp] theorem State.beginRelease_arb : (s.beginRelease).arb = s.arb := by
  unfold State.beginRelease; (try dsimp only); (repeat' split) <;> simp
@[simp] theorem State.beginRelease_disp : (s.beginRelease).disp = s.disp := by
  unfold State.beginRelease; (try dsimp only); (repeat' split) <;> simp
@[simp] theorem State.beginRelease_centre : (s.beginRelease).centre = s.centre := by
  unfold State.beginRelease; (try dsimp only); (repeat' split) <;> simp
@[simp] theorem State.beginRelease_rear : (s.beginRelease).rear = s.rear := by
  unfold State.beginRelease; (try dsimp only); (repeat' split) <;> simp
@[simp] theorem State.beginRelease_sets : (s.beginRelease).sets = s.sets := by
  unfold State.beginRelease; (try dsimp only); (repeat' split) <;> simp
@[simp] theorem State.beginRelease_aud : (s.beginRelease).aud = s.aud := by
  unfold State.beginRelease; (try dsimp only); (repeat' split) <;> simp
@[simp] theorem State.beginRelease_mix : (s.beginRelease).mix = s.mix := by
  unfold State.beginRelease; (try dsimp only); (repeat' split) <;> simp
@[simp] theorem State.beginRelease_cam : (s.beginRelease).cam = s.cam := by
  unfold State.beginRelease; (try dsimp only); (repeat' split) <;> simp
@[simp] theorem State.beginRelease_guide : (s.beginRelease).guide = s.guide := by
  unfold State.beginRelease; (try dsimp only); (repeat' split) <;> simp
@[simp] theorem State.beginRelease_link : (s.beginRelease).link = s.link := by
  unfold State.beginRelease; (try dsimp only); (repeat' split) <;> simp
@[simp] theorem State.beginRelease_pending : (s.beginRelease).pending = s.pending := by
  unfold State.beginRelease; (try dsimp only); (repeat' split) <;> simp

/-! ### State.reverseOff -/

@[simp] theorem State.reverseOff_pins : (s.reverseOff).pins = s.pins := by
  unfold State.reverseOff; (try dsimp only); (repeat' split) <;> simp
@[simp] theorem State.reverseOff_boot : (s.reverseOff).boot = s.boot := by
  unfold State.reverseOff; (try dsimp only); (repeat' split) <;> simp
@[simp] theorem State.reverseOff_tb : (s.reverseOff).tb = s.tb := by
  unfold State.reverseOff; (try dsimp only); (repeat' split) <;> simp
@[simp] theorem State.reverseOff_path : (s.reverseOff).path = s.path := by
  unfold State.reverseOff; (try dsimp only); (repeat' split) <;> simp
@[simp] theorem State.reverseOff_arb : (s.reverseOff).arb = s.arb := by
  unfold State.reverseOff; (try dsimp only); (repeat' split) <;> simp
@[simp] theorem State.reverseOff_disp : (s.reverseOff).disp = s.disp := by
  unfold State.reverseOff; (try dsimp only); (repeat' split) <;> simp
@[simp] theorem State.reverseOff_centre : (s.reverseOff).centre = s.centre := by
  unfold State.reverseOff; (try dsimp only); (repeat' split) <;> simp
@[simp] theorem State.reverseOff_rear : (s.reverseOff).rear = s.rear := by
  unfold State.reverseOff; (try dsimp only); (repeat' split) <;> simp
@[simp] theorem State.reverseOff_sets : (s.reverseOff).sets = s.sets := by
  unfold State.reverseOff; (try dsimp only); (repeat' split) <;> simp
@[simp] theorem State.reverseOff_aud : (s.reverseOff).aud = s.aud := by
  unfold State.reverseOff; (try dsimp only); (repeat' split) <;> simp
@[simp] theorem State.reverseOff_mix : (s.reverseOff).mix = s.mix := by
  unfold State.reverseOff; (try dsimp only); (repeat' split) <;> simp
@[simp] theorem State.reverseOff_cam : (s.reverseOff).cam = s.cam := by
  unfold State.reverseOff; (try dsimp only); (repeat' split) <;> simp
@[simp] theorem State.reverseOff_guide : (s.reverseOff).guide = s.guide := by
  unfold State.reverseOff; (try dsimp only); (repeat' split) <;> simp
@[simp] theorem State.reverseOff_link : (s.reverseOff).link = s.link := by
  unfold State.reverseOff; (try dsimp only); (repeat' split) <;> simp
@[simp] theorem State.reverseOff_pending : (s.reverseOff).pending = s.pending := by
  unfold State.reverseOff; (try dsimp only); (repeat' split) <;> simp

/-! ### State.takeLevel -/

@[simp] theorem State.takeLevel_pins : (s.takeLevel).pins = s.pins := by
  unfold State.takeLevel; (try dsimp only); (repeat' split) <;> simp
@[simp] theorem State.takeLevel_boot : (s.takeLevel).boot = s.boot := by
  unfold State.takeLevel; (try dsimp only); (repeat' split) <;> simp
@[simp] theorem State.takeLevel_tb : (s.takeLevel).tb = s.tb := by
  unfold State.takeLevel; (try dsimp only); (repeat' split) <;> simp
@[simp] theorem State.takeLevel_path : (s.takeLevel).path = s.path := by
  unfold State.takeLevel; (try dsimp only); (repeat' split) <;> simp
@[simp] theorem State.takeLevel_arb : (s.takeLevel).arb = s.arb := by
  unfold State.takeLevel; (try dsimp only); (repeat' split) <;> simp
@[simp] theorem State.takeLevel_disp : (s.takeLevel).disp = s.disp := by
  unfold State.takeLevel; (try dsimp only); (repeat' split) <;> simp
@[simp] theorem State.takeLevel_rear : (s.takeLevel).rear = s.rear := by
  unfold State.takeLevel; (try dsimp only); (repeat' split) <;> simp
@[simp] theorem State.takeLevel_sets : (s.takeLevel).sets = s.sets := by
  unfold State.takeLevel; (try dsimp only); (repeat' split) <;> simp
@[simp] theorem State.takeLevel_aud : (s.takeLevel).aud = s.aud := by
  unfold State.takeLevel; (try dsimp only); (repeat' split) <;> simp
@[simp] theorem State.takeLevel_mix : (s.takeLevel).mix = s.mix := by
  unfold State.takeLevel; (try dsimp only); (repeat' split) <;> simp
@[simp] theorem State.takeLevel_cam : (s.takeLevel).cam = s.cam := by
  unfold State.takeLevel; (try dsimp only); (repeat' split) <;> simp
@[simp] theorem State.takeLevel_guide : (s.takeLevel).guide = s.guide := by
  unfold State.takeLevel; (try dsimp only); (repeat' split) <;> simp
@[simp] theorem State.takeLevel_link : (s.takeLevel).link = s.link := by
  unfold State.takeLevel; (try dsimp only); (repeat' split) <;> simp
@[simp] theorem State.takeLevel_pending : (s.takeLevel).pending = s.pending := by
  unfold State.takeLevel; (try dsimp only); (repeat' split) <;> simp

/-! ### State.frameCompletion -/

@[simp] theorem State.frameCompletion_pins : (s.frameCompletion).pins = s.pins := by
  unfold State.frameCompletion; (try dsimp only); (repeat' split) <;> simp
@[simp] theorem State.frameCompletion_boot : (s.frameCompletion).boot = s.boot := by
  unfold State.frameCompletion; (try dsimp only); (repeat' split) <;> simp
@[simp] theorem State.frameCompletion_tb : (s.frameCompletion).tb = s.tb := by
  unfold State.frameCompletion; (try dsimp only); (repeat' split) <;> simp
@[simp] theorem State.frameCompletion_path : (s.frameCompletion).path = s.path := by
  unfold State.frameCompletion; (try dsimp only); (repeat' split) <;> simp
@[simp] theorem State.frameCompletion_arb : (s.frameCompletion).arb = s.arb := by
  unfold State.frameCompletion; (try dsimp only); (repeat' split) <;> simp
@[simp] theorem State.frameCompletion_disp : (s.frameCompletion).disp = s.disp := by
  unfold State.frameCompletion; (try dsimp only); (repeat' split) <;> simp
@[simp] theorem State.frameCompletion_centre : (s.frameCompletion).centre = s.centre := by
  unfold State.frameCompletion; (try dsimp only); (repeat' split) <;> simp
@[simp] theorem State.frameCompletion_rear : (s.frameCompletion).rear = s.rear := by
  unfold State.frameCompletion; (try dsimp only); (repeat' split) <;> simp
@[simp] theorem State.frameCompletion_sets : (s.frameCompletion).sets = s.sets := by
  unfold State.frameCompletion; (try dsimp only); (repeat' split) <;> simp
@[simp] theorem State.frameCompletion_aud : (s.frameCompletion).aud = s.aud := by
  unfold State.frameCompletion; (try dsimp only); (repeat' split) <;> simp
@[simp] theorem State.frameCompletion_mix : (s.frameCompletion).mix = s.mix := by
  unfold State.frameCompletion; (try dsimp only); (repeat' split) <;> simp
@[simp] theorem State.frameCompletion_cam : (s.frameCompletion).cam = s.cam := by
  unfold State.frameCompletion; (try dsimp only); (repeat' split) <;> simp
@[simp] theorem State.frameCompletion_guide : (s.frameCompletion).guide = s.guide := by
  unfold State.frameCompletion; (try dsimp only); (repeat' split) <;> simp
@[simp] theorem State.frameCompletion_link : (s.frameCompletion).link = s.link := by
  unfold State.frameCompletion; (try dsimp only); (repeat' split) <;> simp
@[simp] theorem State.frameCompletion_chime : (s.frameCompletion).chime = s.chime := by
  unfold State.frameCompletion; (try dsimp only); (repeat' split) <;> simp
@[simp] theorem State.frameCompletion_load : (s.frameCompletion).load = s.load := by
  unfold State.frameCompletion; (try dsimp only); (repeat' split) <;> simp
@[simp] theorem State.frameCompletion_bl : (s.frameCompletion).bl = s.bl := by
  unfold State.frameCompletion; (try dsimp only); (repeat' split) <;> simp
@[simp] theorem State.frameCompletion_pending : (s.frameCompletion).pending = s.pending := by
  unfold State.frameCompletion; (try dsimp only); (repeat' split) <;> simp

/-! ### State.blankTransition -/

@[simp] theorem State.blankTransition_pins (made shown : Bool) : (s.blankTransition made shown).pins = s.pins := by
  unfold State.blankTransition; (try dsimp only); (repeat' split) <;> simp
@[simp] theorem State.blankTransition_boot (made shown : Bool) : (s.blankTransition made shown).boot = s.boot := by
  unfold State.blankTransition; (try dsimp only); (repeat' split) <;> simp
@[simp] theorem State.blankTransition_tb (made shown : Bool) : (s.blankTransition made shown).tb = s.tb := by
  unfold State.blankTransition; (try dsimp only); (repeat' split) <;> simp
@[simp] theorem State.blankTransition_path (made shown : Bool) : (s.blankTransition made shown).path = s.path := by
  unfold State.blankTransition; (try dsimp only); (repeat' split) <;> simp
@[simp] theorem State.blankTransition_arb (made shown : Bool) : (s.blankTransition made shown).arb = s.arb := by
  unfold State.blankTransition; (try dsimp only); (repeat' split) <;> simp
@[simp] theorem State.blankTransition_disp (made shown : Bool) : (s.blankTransition made shown).disp = s.disp := by
  unfold State.blankTransition; (try dsimp only); (repeat' split) <;> simp
@[simp] theorem State.blankTransition_centre (made shown : Bool) : (s.blankTransition made shown).centre = s.centre := by
  unfold State.blankTransition; (try dsimp only); (repeat' split) <;> simp
@[simp] theorem State.blankTransition_rear (made shown : Bool) : (s.blankTransition made shown).rear = s.rear := by
  unfold State.blankTransition; (try dsimp only); (repeat' split) <;> simp
@[simp] theorem State.blankTransition_sets (made shown : Bool) : (s.blankTransition made shown).sets = s.sets := by
  unfold State.blankTransition; (try dsimp only); (repeat' split) <;> simp
@[simp] theorem State.blankTransition_aud (made shown : Bool) : (s.blankTransition made shown).aud = s.aud := by
  unfold State.blankTransition; (try dsimp only); (repeat' split) <;> simp
@[simp] theorem State.blankTransition_mix (made shown : Bool) : (s.blankTransition made shown).mix = s.mix := by
  unfold State.blankTransition; (try dsimp only); (repeat' split) <;> simp
@[simp] theorem State.blankTransition_cam (made shown : Bool) : (s.blankTransition made shown).cam = s.cam := by
  unfold State.blankTransition; (try dsimp only); (repeat' split) <;> simp
@[simp] theorem State.blankTransition_guide (made shown : Bool) : (s.blankTransition made shown).guide = s.guide := by
  unfold State.blankTransition; (try dsimp only); (repeat' split) <;> simp
@[simp] theorem State.blankTransition_link (made shown : Bool) : (s.blankTransition made shown).link = s.link := by
  unfold State.blankTransition; (try dsimp only); (repeat' split) <;> simp
@[simp] theorem State.blankTransition_chime (made shown : Bool) : (s.blankTransition made shown).chime = s.chime := by
  unfold State.blankTransition; (try dsimp only); (repeat' split) <;> simp
@[simp] theorem State.blankTransition_bl (made shown : Bool) : (s.blankTransition made shown).bl = s.bl := by
  unfold State.blankTransition; (try dsimp only); (repeat' split) <;> simp
@[simp] theorem State.blankTransition_pending (made shown : Bool) : (s.blankTransition made shown).pending = s.pending := by
  unfold State.blankTransition; (try dsimp only); (repeat' split) <;> simp

/-! ### State.advanceDisplays -/

@[simp] theorem State.advanceDisplays_pins (n : Nat) : (s.advanceDisplays n).pins = s.pins := by
  unfold State.advanceDisplays; (try dsimp only); (repeat' split) <;> simp
@[simp] theorem State.advanceDisplays_boot (n : Nat) : (s.advanceDisplays n).boot = s.boot := by
  unfold State.advanceDisplays; (try dsimp only); (repeat' split) <;> simp
@[simp] theorem State.advanceDisplays_tb (n : Nat) : (s.advanceDisplays n).tb = s.tb := by
  unfold State.advanceDisplays; (try dsimp only); (repeat' split) <;> simp
@[simp] theorem State.advanceDisplays_path (n : Nat) : (s.advanceDisplays n).path = s.path := by
  unfold State.advanceDisplays; (try dsimp only); (repeat' split) <;> simp
@[simp] theorem State.advanceDisplays_arb (n : Nat) : (s.advanceDisplays n).arb = s.arb := by
  unfold State.advanceDisplays; (try dsimp only); (repeat' split) <;> simp
@[simp] theorem State.advanceDisplays_centre (n : Nat) : (s.advanceDisplays n).centre = s.centre := by
  unfold State.advanceDisplays; (try dsimp only); (repeat' split) <;> simp
@[simp] theorem State.advanceDisplays_rear (n : Nat) : (s.advanceDisplays n).rear = s.rear := by
  unfold State.advanceDisplays; (try dsimp only); (repeat' split) <;> simp
@[simp] theorem State.advanceDisplays_sets (n : Nat) : (s.advanceDisplays n).sets = s.sets := by
  unfold State.advanceDisplays; (try dsimp only); (repeat' split) <;> simp
@[simp] theorem State.advanceDisplays_aud (n : Nat) : (s.advanceDisplays n).aud = s.aud := by
  unfold State.advanceDisplays; (try dsimp only); (repeat' split) <;> simp
@[simp] theorem State.advanceDisplays_mix (n : Nat) : (s.advanceDisplays n).mix = s.mix := by
  unfold State.advanceDisplays; (try dsimp only); (repeat' split) <;> simp
@[simp] theorem State.advanceDisplays_cam (n : Nat) : (s.advanceDisplays n).cam = s.cam := by
  unfold State.advanceDisplays; (try dsimp only); (repeat' split) <;> simp
@[simp] theorem State.advanceDisplays_rvc (n : Nat) : (s.advanceDisplays n).rvc = s.rvc := by
  unfold State.advanceDisplays; (try dsimp only); (repeat' split) <;> simp
@[simp] theorem State.advanceDisplays_guide (n : Nat) : (s.advanceDisplays n).guide = s.guide := by
  unfold State.advanceDisplays; (try dsimp only); (repeat' split) <;> simp
@[simp] theorem State.advanceDisplays_link (n : Nat) : (s.advanceDisplays n).link = s.link := by
  unfold State.advanceDisplays; (try dsimp only); (repeat' split) <;> simp
@[simp] theorem State.advanceDisplays_chime (n : Nat) : (s.advanceDisplays n).chime = s.chime := by
  unfold State.advanceDisplays; (try dsimp only); (repeat' split) <;> simp
@[simp] theorem State.advanceDisplays_load (n : Nat) : (s.advanceDisplays n).load = s.load := by
  unfold State.advanceDisplays; (try dsimp only); (repeat' split) <;> simp
@[simp] theorem State.advanceDisplays_pending (n : Nat) : (s.advanceDisplays n).pending = s.pending := by
  unfold State.advanceDisplays; (try dsimp only); (repeat' split) <;> simp

/-! ### State.advance -/

@[simp] theorem State.advance_pins (n : Nat) : (s.advance n).pins = s.pins := by
  unfold State.advance; (try dsimp only); (repeat' split) <;> simp
@[simp] theorem State.advance_path (n : Nat) : (s.advance n).path = s.path := by
  unfold State.advance; (try dsimp only); (repeat' split) <;> simp
@[simp] theorem State.advance_arb (n : Nat) : (s.advance n).arb = s.arb := by
  unfold State.advance; (try dsimp only); (repeat' split) <;> simp
@[simp] theorem State.advance_centre (n : Nat) : (s.advance n).centre = s.centre := by
  unfold State.advance; (try dsimp only); (repeat' split) <;> simp
@[simp] theorem State.advance_rear (n : Nat) : (s.advance n).rear = s.rear := by
  unfold State.advance; (try dsimp only); (repeat' split) <;> simp
@[simp] theorem State.advance_sets (n : Nat) : (s.advance n).sets = s.sets := by
  unfold State.advance; (try dsimp only); (repeat' split) <;> simp
@[simp] theorem State.advance_mix (n : Nat) : (s.advance n).mix = s.mix := by
  unfold State.advance; (try dsimp only); (repeat' split) <;> simp
@[simp] theorem State.advance_rvc (n : Nat) : (s.advance n).rvc = s.rvc := by
  unfold State.advance; (try dsimp only); (repeat' split) <;> simp
@[simp] theorem State.advance_chime (n : Nat) : (s.advance n).chime = s.chime := by
  unfold State.advance; (try dsimp only); (repeat' split) <;> simp
@[simp] theorem State.advance_load (n : Nat) : (s.advance n).load = s.load := by
  unfold State.advance; (try dsimp only); (repeat' split) <;> simp
@[simp] theorem State.advance_pending (n : Nat) : (s.advance n).pending = s.pending := by
  unfold State.advance; (try dsimp only); (repeat' split) <;> simp

/-! ### State.putSet -/

@[simp] theorem State.putSet_pins (i : Nat) (b : BufSet) : (s.putSet i b).pins = s.pins := by
  unfold State.putSet; (try dsimp only); (repeat' split) <;> simp
@[simp] theorem State.putSet_boot (i : Nat) (b : BufSet) : (s.putSet i b).boot = s.boot := by
  unfold State.putSet; (try dsimp only); (repeat' split) <;> simp
@[simp] theorem State.putSet_tb (i : Nat) (b : BufSet) : (s.putSet i b).tb = s.tb := by
  unfold State.putSet; (try dsimp only); (repeat' split) <;> simp
@[simp] theorem State.putSet_path (i : Nat) (b : BufSet) : (s.putSet i b).path = s.path := by
  unfold State.putSet; (try dsimp only); (repeat' split) <;> simp
@[simp] theorem State.putSet_arb (i : Nat) (b : BufSet) : (s.putSet i b).arb = s.arb := by
  unfold State.putSet; (try dsimp only); (repeat' split) <;> simp
@[simp] theorem State.putSet_disp (i : Nat) (b : BufSet) : (s.putSet i b).disp = s.disp := by
  unfold State.putSet; (try dsimp only); (repeat' split) <;> simp
@[simp] theorem State.putSet_centre (i : Nat) (b : BufSet) : (s.putSet i b).centre = s.centre := by
  unfold State.putSet; (try dsimp only); (repeat' split) <;> simp
@[simp] theorem State.putSet_rear (i : Nat) (b : BufSet) : (s.putSet i b).rear = s.rear := by
  unfold State.putSet; (try dsimp only); (repeat' split) <;> simp
@[simp] theorem State.putSet_aud (i : Nat) (b : BufSet) : (s.putSet i b).aud = s.aud := by
  unfold State.putSet; (try dsimp only); (repeat' split) <;> simp
@[simp] theorem State.putSet_mix (i : Nat) (b : BufSet) : (s.putSet i b).mix = s.mix := by
  unfold State.putSet; (try dsimp only); (repeat' split) <;> simp
@[simp] theorem State.putSet_cam (i : Nat) (b : BufSet) : (s.putSet i b).cam = s.cam := by
  unfold State.putSet; (try dsimp only); (repeat' split) <;> simp
@[simp] theorem State.putSet_rvc (i : Nat) (b : BufSet) : (s.putSet i b).rvc = s.rvc := by
  unfold State.putSet; (try dsimp only); (repeat' split) <;> simp
@[simp] theorem State.putSet_guide (i : Nat) (b : BufSet) : (s.putSet i b).guide = s.guide := by
  unfold State.putSet; (try dsimp only); (repeat' split) <;> simp
@[simp] theorem State.putSet_link (i : Nat) (b : BufSet) : (s.putSet i b).link = s.link := by
  unfold State.putSet; (try dsimp only); (repeat' split) <;> simp
@[simp] theorem State.putSet_chime (i : Nat) (b : BufSet) : (s.putSet i b).chime = s.chime := by
  unfold State.putSet; (try dsimp only); (repeat' split) <;> simp
@[simp] theorem State.putSet_load (i : Nat) (b : BufSet) : (s.putSet i b).load = s.load := by
  unfold State.putSet; (try dsimp only); (repeat' split) <;> simp
@[simp] theorem State.putSet_bl (i : Nat) (b : BufSet) : (s.putSet i b).bl = s.bl := by
  unfold State.putSet; (try dsimp only); (repeat' split) <;> simp
@[simp] theorem State.putSet_pending (i : Nat) (b : BufSet) : (s.putSet i b).pending = s.pending := by
  unfold State.putSet; (try dsimp only); (repeat' split) <;> simp

/-! ### State.filmPixelWrite -/

@[simp] theorem State.filmPixelWrite_pins (i j : Nat) : (s.filmPixelWrite i j).pins = s.pins := by
  unfold State.filmPixelWrite; (try dsimp only); (repeat' split) <;> simp
@[simp] theorem State.filmPixelWrite_boot (i j : Nat) : (s.filmPixelWrite i j).boot = s.boot := by
  unfold State.filmPixelWrite; (try dsimp only); (repeat' split) <;> simp
@[simp] theorem State.filmPixelWrite_tb (i j : Nat) : (s.filmPixelWrite i j).tb = s.tb := by
  unfold State.filmPixelWrite; (try dsimp only); (repeat' split) <;> simp
@[simp] theorem State.filmPixelWrite_path (i j : Nat) : (s.filmPixelWrite i j).path = s.path := by
  unfold State.filmPixelWrite; (try dsimp only); (repeat' split) <;> simp
@[simp] theorem State.filmPixelWrite_arb (i j : Nat) : (s.filmPixelWrite i j).arb = s.arb := by
  unfold State.filmPixelWrite; (try dsimp only); (repeat' split) <;> simp
@[simp] theorem State.filmPixelWrite_disp (i j : Nat) : (s.filmPixelWrite i j).disp = s.disp := by
  unfold State.filmPixelWrite; (try dsimp only); (repeat' split) <;> simp
@[simp] theorem State.filmPixelWrite_centre (i j : Nat) : (s.filmPixelWrite i j).centre = s.centre := by
  unfold State.filmPixelWrite; (try dsimp only); (repeat' split) <;> simp
@[simp] theorem State.filmPixelWrite_aud (i j : Nat) : (s.filmPixelWrite i j).aud = s.aud := by
  unfold State.filmPixelWrite; (try dsimp only); (repeat' split) <;> simp
@[simp] theorem State.filmPixelWrite_mix (i j : Nat) : (s.filmPixelWrite i j).mix = s.mix := by
  unfold State.filmPixelWrite; (try dsimp only); (repeat' split) <;> simp
@[simp] theorem State.filmPixelWrite_cam (i j : Nat) : (s.filmPixelWrite i j).cam = s.cam := by
  unfold State.filmPixelWrite; (try dsimp only); (repeat' split) <;> simp
@[simp] theorem State.filmPixelWrite_rvc (i j : Nat) : (s.filmPixelWrite i j).rvc = s.rvc := by
  unfold State.filmPixelWrite; (try dsimp only); (repeat' split) <;> simp
@[simp] theorem State.filmPixelWrite_guide (i j : Nat) : (s.filmPixelWrite i j).guide = s.guide := by
  unfold State.filmPixelWrite; (try dsimp only); (repeat' split) <;> simp
@[simp] theorem State.filmPixelWrite_link (i j : Nat) : (s.filmPixelWrite i j).link = s.link := by
  unfold State.filmPixelWrite; (try dsimp only); (repeat' split) <;> simp
@[simp] theorem State.filmPixelWrite_chime (i j : Nat) : (s.filmPixelWrite i j).chime = s.chime := by
  unfold State.filmPixelWrite; (try dsimp only); (repeat' split) <;> simp
@[simp] theorem State.filmPixelWrite_load (i j : Nat) : (s.filmPixelWrite i j).load = s.load := by
  unfold State.filmPixelWrite; (try dsimp only); (repeat' split) <;> simp
@[simp] theorem State.filmPixelWrite_bl (i j : Nat) : (s.filmPixelWrite i j).bl = s.bl := by
  unfold State.filmPixelWrite; (try dsimp only); (repeat' split) <;> simp
@[simp] theorem State.filmPixelWrite_pending (i j : Nat) : (s.filmPixelWrite i j).pending = s.pending := by
  unfold State.filmPixelWrite; (try dsimp only); (repeat' split) <;> simp

/-! ### State.filmTagWrite -/

@[simp] theorem State.filmTagWrite_pins (i j : Nat) (bytes : List Byte) : (s.filmTagWrite i j bytes).pins = s.pins := by
  unfold State.filmTagWrite; (try dsimp only); (repeat' split) <;> simp
@[simp] theorem State.filmTagWrite_boot (i j : Nat) (bytes : List Byte) : (s.filmTagWrite i j bytes).boot = s.boot := by
  unfold State.filmTagWrite; (try dsimp only); (repeat' split) <;> simp
@[simp] theorem State.filmTagWrite_tb (i j : Nat) (bytes : List Byte) : (s.filmTagWrite i j bytes).tb = s.tb := by
  unfold State.filmTagWrite; (try dsimp only); (repeat' split) <;> simp
@[simp] theorem State.filmTagWrite_path (i j : Nat) (bytes : List Byte) : (s.filmTagWrite i j bytes).path = s.path := by
  unfold State.filmTagWrite; (try dsimp only); (repeat' split) <;> simp
@[simp] theorem State.filmTagWrite_arb (i j : Nat) (bytes : List Byte) : (s.filmTagWrite i j bytes).arb = s.arb := by
  unfold State.filmTagWrite; (try dsimp only); (repeat' split) <;> simp
@[simp] theorem State.filmTagWrite_disp (i j : Nat) (bytes : List Byte) : (s.filmTagWrite i j bytes).disp = s.disp := by
  unfold State.filmTagWrite; (try dsimp only); (repeat' split) <;> simp
@[simp] theorem State.filmTagWrite_centre (i j : Nat) (bytes : List Byte) : (s.filmTagWrite i j bytes).centre = s.centre := by
  unfold State.filmTagWrite; (try dsimp only); (repeat' split) <;> simp
@[simp] theorem State.filmTagWrite_aud (i j : Nat) (bytes : List Byte) : (s.filmTagWrite i j bytes).aud = s.aud := by
  unfold State.filmTagWrite; (try dsimp only); (repeat' split) <;> simp
@[simp] theorem State.filmTagWrite_mix (i j : Nat) (bytes : List Byte) : (s.filmTagWrite i j bytes).mix = s.mix := by
  unfold State.filmTagWrite; (try dsimp only); (repeat' split) <;> simp
@[simp] theorem State.filmTagWrite_cam (i j : Nat) (bytes : List Byte) : (s.filmTagWrite i j bytes).cam = s.cam := by
  unfold State.filmTagWrite; (try dsimp only); (repeat' split) <;> simp
@[simp] theorem State.filmTagWrite_rvc (i j : Nat) (bytes : List Byte) : (s.filmTagWrite i j bytes).rvc = s.rvc := by
  unfold State.filmTagWrite; (try dsimp only); (repeat' split) <;> simp
@[simp] theorem State.filmTagWrite_guide (i j : Nat) (bytes : List Byte) : (s.filmTagWrite i j bytes).guide = s.guide := by
  unfold State.filmTagWrite; (try dsimp only); (repeat' split) <;> simp
@[simp] theorem State.filmTagWrite_link (i j : Nat) (bytes : List Byte) : (s.filmTagWrite i j bytes).link = s.link := by
  unfold State.filmTagWrite; (try dsimp only); (repeat' split) <;> simp
@[simp] theorem State.filmTagWrite_chime (i j : Nat) (bytes : List Byte) : (s.filmTagWrite i j bytes).chime = s.chime := by
  unfold State.filmTagWrite; (try dsimp only); (repeat' split) <;> simp
@[simp] theorem State.filmTagWrite_load (i j : Nat) (bytes : List Byte) : (s.filmTagWrite i j bytes).load = s.load := by
  unfold State.filmTagWrite; (try dsimp only); (repeat' split) <;> simp
@[simp] theorem State.filmTagWrite_bl (i j : Nat) (bytes : List Byte) : (s.filmTagWrite i j bytes).bl = s.bl := by
  unfold State.filmTagWrite; (try dsimp only); (repeat' split) <;> simp
@[simp] theorem State.filmTagWrite_pending (i j : Nat) (bytes : List Byte) : (s.filmTagWrite i j bytes).pending = s.pending := by
  unfold State.filmTagWrite; (try dsimp only); (repeat' split) <;> simp

/-! ### State.changePresented -/

@[simp] theorem State.changePresented_pins (k : Seat) (now : Option Nat) : (s.changePresented k now).pins = s.pins := by
  unfold State.changePresented; (try dsimp only); (repeat' split) <;> simp
@[simp] theorem State.changePresented_boot (k : Seat) (now : Option Nat) : (s.changePresented k now).boot = s.boot := by
  unfold State.changePresented; (try dsimp only); (repeat' split) <;> simp
@[simp] theorem State.changePresented_tb (k : Seat) (now : Option Nat) : (s.changePresented k now).tb = s.tb := by
  unfold State.changePresented; (try dsimp only); (repeat' split) <;> simp
@[simp] theorem State.changePresented_path (k : Seat) (now : Option Nat) : (s.changePresented k now).path = s.path := by
  unfold State.changePresented; (try dsimp only); (repeat' split) <;> simp
@[simp] theorem State.changePresented_arb (k : Seat) (now : Option Nat) : (s.changePresented k now).arb = s.arb := by
  unfold State.changePresented; (try dsimp only); (repeat' split) <;> simp
@[simp] theorem State.changePresented_disp (k : Seat) (now : Option Nat) : (s.changePresented k now).disp = s.disp := by
  unfold State.changePresented; (try dsimp only); (repeat' split) <;> simp
@[simp] theorem State.changePresented_centre (k : Seat) (now : Option Nat) : (s.changePresented k now).centre = s.centre := by
  unfold State.changePresented; (try dsimp only); (repeat' split) <;> simp
@[simp] theorem State.changePresented_aud (k : Seat) (now : Option Nat) : (s.changePresented k now).aud = s.aud := by
  unfold State.changePresented; (try dsimp only); (repeat' split) <;> simp
@[simp] theorem State.changePresented_mix (k : Seat) (now : Option Nat) : (s.changePresented k now).mix = s.mix := by
  unfold State.changePresented; (try dsimp only); (repeat' split) <;> simp
@[simp] theorem State.changePresented_cam (k : Seat) (now : Option Nat) : (s.changePresented k now).cam = s.cam := by
  unfold State.changePresented; (try dsimp only); (repeat' split) <;> simp
@[simp] theorem State.changePresented_rvc (k : Seat) (now : Option Nat) : (s.changePresented k now).rvc = s.rvc := by
  unfold State.changePresented; (try dsimp only); (repeat' split) <;> simp
@[simp] theorem State.changePresented_guide (k : Seat) (now : Option Nat) : (s.changePresented k now).guide = s.guide := by
  unfold State.changePresented; (try dsimp only); (repeat' split) <;> simp
@[simp] theorem State.changePresented_link (k : Seat) (now : Option Nat) : (s.changePresented k now).link = s.link := by
  unfold State.changePresented; (try dsimp only); (repeat' split) <;> simp
@[simp] theorem State.changePresented_chime (k : Seat) (now : Option Nat) : (s.changePresented k now).chime = s.chime := by
  unfold State.changePresented; (try dsimp only); (repeat' split) <;> simp
@[simp] theorem State.changePresented_load (k : Seat) (now : Option Nat) : (s.changePresented k now).load = s.load := by
  unfold State.changePresented; (try dsimp only); (repeat' split) <;> simp
@[simp] theorem State.changePresented_bl (k : Seat) (now : Option Nat) : (s.changePresented k now).bl = s.bl := by
  unfold State.changePresented; (try dsimp only); (repeat' split) <;> simp
@[simp] theorem State.changePresented_pending (k : Seat) (now : Option Nat) : (s.changePresented k now).pending = s.pending := by
  unfold State.changePresented; (try dsimp only); (repeat' split) <;> simp

/-! ### State.selectFilm -/

@[simp] theorem State.selectFilm_pins (k : Seat) : (s.selectFilm k).1.pins = s.pins := by
  unfold State.selectFilm; (try dsimp only); (repeat' split) <;> simp
@[simp] theorem State.selectFilm_boot (k : Seat) : (s.selectFilm k).1.boot = s.boot := by
  unfold State.selectFilm; (try dsimp only); (repeat' split) <;> simp
@[simp] theorem State.selectFilm_tb (k : Seat) : (s.selectFilm k).1.tb = s.tb := by
  unfold State.selectFilm; (try dsimp only); (repeat' split) <;> simp
@[simp] theorem State.selectFilm_path (k : Seat) : (s.selectFilm k).1.path = s.path := by
  unfold State.selectFilm; (try dsimp only); (repeat' split) <;> simp
@[simp] theorem State.selectFilm_arb (k : Seat) : (s.selectFilm k).1.arb = s.arb := by
  unfold State.selectFilm; (try dsimp only); (repeat' split) <;> simp
@[simp] theorem State.selectFilm_disp (k : Seat) : (s.selectFilm k).1.disp = s.disp := by
  unfold State.selectFilm; (try dsimp only); (repeat' split) <;> simp
@[simp] theorem State.selectFilm_centre (k : Seat) : (s.selectFilm k).1.centre = s.centre := by
  unfold State.selectFilm; (try dsimp only); (repeat' split) <;> simp
@[simp] theorem State.selectFilm_aud (k : Seat) : (s.selectFilm k).1.aud = s.aud := by
  unfold State.selectFilm; (try dsimp only); (repeat' split) <;> simp
@[simp] theorem State.selectFilm_mix (k : Seat) : (s.selectFilm k).1.mix = s.mix := by
  unfold State.selectFilm; (try dsimp only); (repeat' split) <;> simp
@[simp] theorem State.selectFilm_cam (k : Seat) : (s.selectFilm k).1.cam = s.cam := by
  unfold State.selectFilm; (try dsimp only); (repeat' split) <;> simp
@[simp] theorem State.selectFilm_rvc (k : Seat) : (s.selectFilm k).1.rvc = s.rvc := by
  unfold State.selectFilm; (try dsimp only); (repeat' split) <;> simp
@[simp] theorem State.selectFilm_guide (k : Seat) : (s.selectFilm k).1.guide = s.guide := by
  unfold State.selectFilm; (try dsimp only); (repeat' split) <;> simp
@[simp] theorem State.selectFilm_link (k : Seat) : (s.selectFilm k).1.link = s.link := by
  unfold State.selectFilm; (try dsimp only); (repeat' split) <;> simp
@[simp] theorem State.selectFilm_chime (k : Seat) : (s.selectFilm k).1.chime = s.chime := by
  unfold State.selectFilm; (try dsimp only); (repeat' split) <;> simp
@[simp] theorem State.selectFilm_load (k : Seat) : (s.selectFilm k).1.load = s.load := by
  unfold State.selectFilm; (try dsimp only); (repeat' split) <;> simp
@[simp] theorem State.selectFilm_bl (k : Seat) : (s.selectFilm k).1.bl = s.bl := by
  unfold State.selectFilm; (try dsimp only); (repeat' split) <;> simp
@[simp] theorem State.selectFilm_pending (k : Seat) : (s.selectFilm k).1.pending = s.pending := by
  unfold State.selectFilm; (try dsimp only); (repeat' split) <;> simp

/-! ### State.withdrawReset -/

@[simp] theorem State.withdrawReset_pins (old new : List Region) (k : Seat) : (s.withdrawReset old new k).pins = s.pins := by
  unfold State.withdrawReset; (try dsimp only); (repeat' split) <;> simp
@[simp] theorem State.withdrawReset_boot (old new : List Region) (k : Seat) : (s.withdrawReset old new k).boot = s.boot := by
  unfold State.withdrawReset; (try dsimp only); (repeat' split) <;> simp
@[simp] theorem State.withdrawReset_tb (old new : List Region) (k : Seat) : (s.withdrawReset old new k).tb = s.tb := by
  unfold State.withdrawReset; (try dsimp only); (repeat' split) <;> simp
@[simp] theorem State.withdrawReset_path (old new : List Region) (k : Seat) : (s.withdrawReset old new k).path = s.path := by
  unfold State.withdrawReset; (try dsimp only); (repeat' split) <;> simp
@[simp] theorem State.withdrawReset_arb (old new : List Region) (k : Seat) : (s.withdrawReset old new k).arb = s.arb := by
  unfold State.withdrawReset; (try dsimp only); (repeat' split) <;> simp
@[simp] theorem State.withdrawReset_centre (old new : List Region) (k : Seat) : (s.withdrawReset old new k).centre = s.centre := by
  unfold State.withdrawReset; (try dsimp only); (repeat' split) <;> simp
@[simp] theorem State.withdrawReset_sets (old new : List Region) (k : Seat) : (s.withdrawReset old new k).sets = s.sets := by
  unfold State.withdrawReset; (try dsimp only); (repeat' split) <;> simp
@[simp] theorem State.withdrawReset_aud (old new : List Region) (k : Seat) : (s.withdrawReset old new k).aud = s.aud := by
  unfold State.withdrawReset; (try dsimp only); (repeat' split) <;> simp
@[simp] theorem State.withdrawReset_mix (old new : List Region) (k : Seat) : (s.withdrawReset old new k).mix = s.mix := by
  unfold State.withdrawReset; (try dsimp only); (repeat' split) <;> simp
@[simp] theorem State.withdrawReset_cam (old new : List Region) (k : Seat) : (s.withdrawReset old new k).cam = s.cam := by
  unfold State.withdrawReset; (try dsimp only); (repeat' split) <;> simp
@[simp] theorem State.withdrawReset_rvc (old new : List Region) (k : Seat) : (s.withdrawReset old new k).rvc = s.rvc := by
  unfold State.withdrawReset; (try dsimp only); (repeat' split) <;> simp
@[simp] theorem State.withdrawReset_guide (old new : List Region) (k : Seat) : (s.withdrawReset old new k).guide = s.guide := by
  unfold State.withdrawReset; (try dsimp only); (repeat' split) <;> simp
@[simp] theorem State.withdrawReset_link (old new : List Region) (k : Seat) : (s.withdrawReset old new k).link = s.link := by
  unfold State.withdrawReset; (try dsimp only); (repeat' split) <;> simp
@[simp] theorem State.withdrawReset_chime (old new : List Region) (k : Seat) : (s.withdrawReset old new k).chime = s.chime := by
  unfold State.withdrawReset; (try dsimp only); (repeat' split) <;> simp
@[simp] theorem State.withdrawReset_load (old new : List Region) (k : Seat) : (s.withdrawReset old new k).load = s.load := by
  unfold State.withdrawReset; (try dsimp only); (repeat' split) <;> simp
@[simp] theorem State.withdrawReset_bl (old new : List Region) (k : Seat) : (s.withdrawReset old new k).bl = s.bl := by
  unfold State.withdrawReset; (try dsimp only); (repeat' split) <;> simp
@[simp] theorem State.withdrawReset_pending (old new : List Region) (k : Seat) : (s.withdrawReset old new k).pending = s.pending := by
  unfold State.withdrawReset; (try dsimp only); (repeat' split) <;> simp

/-! ### State.tableChanged -/

@[simp] theorem State.tableChanged_pins (old new : List Region) : (s.tableChanged old new).pins = s.pins := by
  unfold State.tableChanged; (try dsimp only); (repeat' split) <;> simp
@[simp] theorem State.tableChanged_boot (old new : List Region) : (s.tableChanged old new).boot = s.boot := by
  unfold State.tableChanged; (try dsimp only); (repeat' split) <;> simp
@[simp] theorem State.tableChanged_tb (old new : List Region) : (s.tableChanged old new).tb = s.tb := by
  unfold State.tableChanged; (try dsimp only); (repeat' split) <;> simp
@[simp] theorem State.tableChanged_path (old new : List Region) : (s.tableChanged old new).path = s.path := by
  unfold State.tableChanged; (try dsimp only); (repeat' split) <;> simp
@[simp] theorem State.tableChanged_arb (old new : List Region) : (s.tableChanged old new).arb = s.arb := by
  unfold State.tableChanged; (try dsimp only); (repeat' split) <;> simp
@[simp] theorem State.tableChanged_centre (old new : List Region) : (s.tableChanged old new).centre = s.centre := by
  unfold State.tableChanged; (try dsimp only); (repeat' split) <;> simp
@[simp] theorem State.tableChanged_aud (old new : List Region) : (s.tableChanged old new).aud = s.aud := by
  unfold State.tableChanged; (try dsimp only); (repeat' split) <;> simp
@[simp] theorem State.tableChanged_mix (old new : List Region) : (s.tableChanged old new).mix = s.mix := by
  unfold State.tableChanged; (try dsimp only); (repeat' split) <;> simp
@[simp] theorem State.tableChanged_cam (old new : List Region) : (s.tableChanged old new).cam = s.cam := by
  unfold State.tableChanged; (try dsimp only); (repeat' split) <;> simp
@[simp] theorem State.tableChanged_rvc (old new : List Region) : (s.tableChanged old new).rvc = s.rvc := by
  unfold State.tableChanged; (try dsimp only); (repeat' split) <;> simp
@[simp] theorem State.tableChanged_guide (old new : List Region) : (s.tableChanged old new).guide = s.guide := by
  unfold State.tableChanged; (try dsimp only); (repeat' split) <;> simp
@[simp] theorem State.tableChanged_link (old new : List Region) : (s.tableChanged old new).link = s.link := by
  unfold State.tableChanged; (try dsimp only); (repeat' split) <;> simp
@[simp] theorem State.tableChanged_chime (old new : List Region) : (s.tableChanged old new).chime = s.chime := by
  unfold State.tableChanged; (try dsimp only); (repeat' split) <;> simp
@[simp] theorem State.tableChanged_load (old new : List Region) : (s.tableChanged old new).load = s.load := by
  unfold State.tableChanged; (try dsimp only); (repeat' split) <;> simp
@[simp] theorem State.tableChanged_bl (old new : List Region) : (s.tableChanged old new).bl = s.bl := by
  unfold State.tableChanged; (try dsimp only); (repeat' split) <;> simp
@[simp] theorem State.tableChanged_pending (old new : List Region) : (s.tableChanged old new).pending = s.pending := by
  unfold State.tableChanged; (try dsimp only); (repeat' split) <;> simp

/-! ### State.abandonPrefetch -/

@[simp] theorem State.abandonPrefetch_pins (k : Seat) : (s.abandonPrefetch k).pins = s.pins := by
  unfold State.abandonPrefetch; (try dsimp only); (repeat' split) <;> simp
@[simp] theorem State.abandonPrefetch_boot (k : Seat) : (s.abandonPrefetch k).boot = s.boot := by
  unfold State.abandonPrefetch; (try dsimp only); (repeat' split) <;> simp
@[simp] theorem State.abandonPrefetch_tb (k : Seat) : (s.abandonPrefetch k).tb = s.tb := by
  unfold State.abandonPrefetch; (try dsimp only); (repeat' split) <;> simp
@[simp] theorem State.abandonPrefetch_path (k : Seat) : (s.abandonPrefetch k).path = s.path := by
  unfold State.abandonPrefetch; (try dsimp only); (repeat' split) <;> simp
@[simp] theorem State.abandonPrefetch_disp (k : Seat) : (s.abandonPrefetch k).disp = s.disp := by
  unfold State.abandonPrefetch; (try dsimp only); (repeat' split) <;> simp
@[simp] theorem State.abandonPrefetch_centre (k : Seat) : (s.abandonPrefetch k).centre = s.centre := by
  unfold State.abandonPrefetch; (try dsimp only); (repeat' split) <;> simp
@[simp] theorem State.abandonPrefetch_rear (k : Seat) : (s.abandonPrefetch k).rear = s.rear := by
  unfold State.abandonPrefetch; (try dsimp only); (repeat' split) <;> simp
@[simp] theorem State.abandonPrefetch_sets (k : Seat) : (s.abandonPrefetch k).sets = s.sets := by
  unfold State.abandonPrefetch; (try dsimp only); (repeat' split) <;> simp
@[simp] theorem State.abandonPrefetch_mix (k : Seat) : (s.abandonPrefetch k).mix = s.mix := by
  unfold State.abandonPrefetch; (try dsimp only); (repeat' split) <;> simp
@[simp] theorem State.abandonPrefetch_cam (k : Seat) : (s.abandonPrefetch k).cam = s.cam := by
  unfold State.abandonPrefetch; (try dsimp only); (repeat' split) <;> simp
@[simp] theorem State.abandonPrefetch_rvc (k : Seat) : (s.abandonPrefetch k).rvc = s.rvc := by
  unfold State.abandonPrefetch; (try dsimp only); (repeat' split) <;> simp
@[simp] theorem State.abandonPrefetch_guide (k : Seat) : (s.abandonPrefetch k).guide = s.guide := by
  unfold State.abandonPrefetch; (try dsimp only); (repeat' split) <;> simp
@[simp] theorem State.abandonPrefetch_link (k : Seat) : (s.abandonPrefetch k).link = s.link := by
  unfold State.abandonPrefetch; (try dsimp only); (repeat' split) <;> simp
@[simp] theorem State.abandonPrefetch_chime (k : Seat) : (s.abandonPrefetch k).chime = s.chime := by
  unfold State.abandonPrefetch; (try dsimp only); (repeat' split) <;> simp
@[simp] theorem State.abandonPrefetch_load (k : Seat) : (s.abandonPrefetch k).load = s.load := by
  unfold State.abandonPrefetch; (try dsimp only); (repeat' split) <;> simp
@[simp] theorem State.abandonPrefetch_bl (k : Seat) : (s.abandonPrefetch k).bl = s.bl := by
  unfold State.abandonPrefetch; (try dsimp only); (repeat' split) <;> simp
@[simp] theorem State.abandonPrefetch_pending (k : Seat) : (s.abandonPrefetch k).pending = s.pending := by
  unfold State.abandonPrefetch; (try dsimp only); (repeat' split) <;> simp

/-! ### State.stopStream -/

@[simp] theorem State.stopStream_pins (k : Seat) : (s.stopStream k).pins = s.pins := by
  unfold State.stopStream; (try dsimp only); (repeat' split) <;> simp
@[simp] theorem State.stopStream_boot (k : Seat) : (s.stopStream k).boot = s.boot := by
  unfold State.stopStream; (try dsimp only); (repeat' split) <;> simp
@[simp] theorem State.stopStream_tb (k : Seat) : (s.stopStream k).tb = s.tb := by
  unfold State.stopStream; (try dsimp only); (repeat' split) <;> simp
@[simp] theorem State.stopStream_path (k : Seat) : (s.stopStream k).path = s.path := by
  unfold State.stopStream; (try dsimp only); (repeat' split) <;> simp
@[simp] theorem State.stopStream_disp (k : Seat) : (s.stopStream k).disp = s.disp := by
  unfold State.stopStream; (try dsimp only); (repeat' split) <;> simp
@[simp] theorem State.stopStream_centre (k : Seat) : (s.stopStream k).centre = s.centre := by
  unfold State.stopStream; (try dsimp only); (repeat' split) <;> simp
@[simp] theorem State.stopStream_rear (k : Seat) : (s.stopStream k).rear = s.rear := by
  unfold State.stopStream; (try dsimp only); (repeat' split) <;> simp
@[simp] theorem State.stopStream_sets (k : Seat) : (s.stopStream k).sets = s.sets := by
  unfold State.stopStream; (try dsimp only); (repeat' split) <;> simp
@[simp] theorem State.stopStream_mix (k : Seat) : (s.stopStream k).mix = s.mix := by
  unfold State.stopStream; (try dsimp only); (repeat' split) <;> simp
@[simp] theorem State.stopStream_cam (k : Seat) : (s.stopStream k).cam = s.cam := by
  unfold State.stopStream; (try dsimp only); (repeat' split) <;> simp
@[simp] theorem State.stopStream_rvc (k : Seat) : (s.stopStream k).rvc = s.rvc := by
  unfold State.stopStream; (try dsimp only); (repeat' split) <;> simp
@[simp] theorem State.stopStream_guide (k : Seat) : (s.stopStream k).guide = s.guide := by
  unfold State.stopStream; (try dsimp only); (repeat' split) <;> simp
@[simp] theorem State.stopStream_link (k : Seat) : (s.stopStream k).link = s.link := by
  unfold State.stopStream; (try dsimp only); (repeat' split) <;> simp
@[simp] theorem State.stopStream_chime (k : Seat) : (s.stopStream k).chime = s.chime := by
  unfold State.stopStream; (try dsimp only); (repeat' split) <;> simp
@[simp] theorem State.stopStream_load (k : Seat) : (s.stopStream k).load = s.load := by
  unfold State.stopStream; (try dsimp only); (repeat' split) <;> simp
@[simp] theorem State.stopStream_bl (k : Seat) : (s.stopStream k).bl = s.bl := by
  unfold State.stopStream; (try dsimp only); (repeat' split) <;> simp
@[simp] theorem State.stopStream_pending (k : Seat) : (s.stopStream k).pending = s.pending := by
  unfold State.stopStream; (try dsimp only); (repeat' split) <;> simp

/-! ### State.startStream -/

@[simp] theorem State.startStream_pins (k : Seat) (idx : Nat) (g : AudioRing) (st pr : Nat) : (s.startStream k idx g st pr).pins = s.pins := by
  unfold State.startStream; (try dsimp only); (repeat' split) <;> simp
@[simp] theorem State.startStream_boot (k : Seat) (idx : Nat) (g : AudioRing) (st pr : Nat) : (s.startStream k idx g st pr).boot = s.boot := by
  unfold State.startStream; (try dsimp only); (repeat' split) <;> simp
@[simp] theorem State.startStream_tb (k : Seat) (idx : Nat) (g : AudioRing) (st pr : Nat) : (s.startStream k idx g st pr).tb = s.tb := by
  unfold State.startStream; (try dsimp only); (repeat' split) <;> simp
@[simp] theorem State.startStream_path (k : Seat) (idx : Nat) (g : AudioRing) (st pr : Nat) : (s.startStream k idx g st pr).path = s.path := by
  unfold State.startStream; (try dsimp only); (repeat' split) <;> simp
@[simp] theorem State.startStream_disp (k : Seat) (idx : Nat) (g : AudioRing) (st pr : Nat) : (s.startStream k idx g st pr).disp = s.disp := by
  unfold State.startStream; (try dsimp only); (repeat' split) <;> simp
@[simp] theorem State.startStream_centre (k : Seat) (idx : Nat) (g : AudioRing) (st pr : Nat) : (s.startStream k idx g st pr).centre = s.centre := by
  unfold State.startStream; (try dsimp only); (repeat' split) <;> simp
@[simp] theorem State.startStream_rear (k : Seat) (idx : Nat) (g : AudioRing) (st pr : Nat) : (s.startStream k idx g st pr).rear = s.rear := by
  unfold State.startStream; (try dsimp only); (repeat' split) <;> simp
@[simp] theorem State.startStream_sets (k : Seat) (idx : Nat) (g : AudioRing) (st pr : Nat) : (s.startStream k idx g st pr).sets = s.sets := by
  unfold State.startStream; (try dsimp only); (repeat' split) <;> simp
@[simp] theorem State.startStream_mix (k : Seat) (idx : Nat) (g : AudioRing) (st pr : Nat) : (s.startStream k idx g st pr).mix = s.mix := by
  unfold State.startStream; (try dsimp only); (repeat' split) <;> simp
@[simp] theorem State.startStream_cam (k : Seat) (idx : Nat) (g : AudioRing) (st pr : Nat) : (s.startStream k idx g st pr).cam = s.cam := by
  unfold State.startStream; (try dsimp only); (repeat' split) <;> simp
@[simp] theorem State.startStream_rvc (k : Seat) (idx : Nat) (g : AudioRing) (st pr : Nat) : (s.startStream k idx g st pr).rvc = s.rvc := by
  unfold State.startStream; (try dsimp only); (repeat' split) <;> simp
@[simp] theorem State.startStream_guide (k : Seat) (idx : Nat) (g : AudioRing) (st pr : Nat) : (s.startStream k idx g st pr).guide = s.guide := by
  unfold State.startStream; (try dsimp only); (repeat' split) <;> simp
@[simp] theorem State.startStream_link (k : Seat) (idx : Nat) (g : AudioRing) (st pr : Nat) : (s.startStream k idx g st pr).link = s.link := by
  unfold State.startStream; (try dsimp only); (repeat' split) <;> simp
@[simp] theorem State.startStream_chime (k : Seat) (idx : Nat) (g : AudioRing) (st pr : Nat) : (s.startStream k idx g st pr).chime = s.chime := by
  unfold State.startStream; (try dsimp only); (repeat' split) <;> simp
@[simp] theorem State.startStream_load (k : Seat) (idx : Nat) (g : AudioRing) (st pr : Nat) : (s.startStream k idx g st pr).load = s.load := by
  unfold State.startStream; (try dsimp only); (repeat' split) <;> simp
@[simp] theorem State.startStream_bl (k : Seat) (idx : Nat) (g : AudioRing) (st pr : Nat) : (s.startStream k idx g st pr).bl = s.bl := by
  unfold State.startStream; (try dsimp only); (repeat' split) <;> simp
@[simp] theorem State.startStream_pending (k : Seat) (idx : Nat) (g : AudioRing) (st pr : Nat) : (s.startStream k idx g st pr).pending = s.pending := by
  unfold State.startStream; (try dsimp only); (repeat' split) <;> simp

/-! ### State.applyStream -/

@[simp] theorem State.applyStream_pins (k : Seat) (x : StreamRecord) : (s.applyStream k x).pins = s.pins := by
  unfold State.applyStream; (try dsimp only); (repeat' split) <;> simp
@[simp] theorem State.applyStream_boot (k : Seat) (x : StreamRecord) : (s.applyStream k x).boot = s.boot := by
  unfold State.applyStream; (try dsimp only); (repeat' split) <;> simp
@[simp] theorem State.applyStream_tb (k : Seat) (x : StreamRecord) : (s.applyStream k x).tb = s.tb := by
  unfold State.applyStream; (try dsimp only); (repeat' split) <;> simp
@[simp] theorem State.applyStream_path (k : Seat) (x : StreamRecord) : (s.applyStream k x).path = s.path := by
  unfold State.applyStream; (try dsimp only); (repeat' split) <;> simp
@[simp] theorem State.applyStream_disp (k : Seat) (x : StreamRecord) : (s.applyStream k x).disp = s.disp := by
  unfold State.applyStream; (try dsimp only); (repeat' split) <;> simp
@[simp] theorem State.applyStream_centre (k : Seat) (x : StreamRecord) : (s.applyStream k x).centre = s.centre := by
  unfold State.applyStream; (try dsimp only); (repeat' split) <;> simp
@[simp] theorem State.applyStream_rear (k : Seat) (x : StreamRecord) : (s.applyStream k x).rear = s.rear := by
  unfold State.applyStream; (try dsimp only); (repeat' split) <;> simp
@[simp] theorem State.applyStream_sets (k : Seat) (x : StreamRecord) : (s.applyStream k x).sets = s.sets := by
  unfold State.applyStream; (try dsimp only); (repeat' split) <;> simp
@[simp] theorem State.applyStream_mix (k : Seat) (x : StreamRecord) : (s.applyStream k x).mix = s.mix := by
  unfold State.applyStream; (try dsimp only); (repeat' split) <;> simp
@[simp] theorem State.applyStream_cam (k : Seat) (x : StreamRecord) : (s.applyStream k x).cam = s.cam := by
  unfold State.applyStream; (try dsimp only); (repeat' split) <;> simp
@[simp] theorem State.applyStream_rvc (k : Seat) (x : StreamRecord) : (s.applyStream k x).rvc = s.rvc := by
  unfold State.applyStream; (try dsimp only); (repeat' split) <;> simp
@[simp] theorem State.applyStream_guide (k : Seat) (x : StreamRecord) : (s.applyStream k x).guide = s.guide := by
  unfold State.applyStream; (try dsimp only); (repeat' split) <;> simp
@[simp] theorem State.applyStream_link (k : Seat) (x : StreamRecord) : (s.applyStream k x).link = s.link := by
  unfold State.applyStream; (try dsimp only); (repeat' split) <;> simp
@[simp] theorem State.applyStream_chime (k : Seat) (x : StreamRecord) : (s.applyStream k x).chime = s.chime := by
  unfold State.applyStream; (try dsimp only); (repeat' split) <;> simp
@[simp] theorem State.applyStream_load (k : Seat) (x : StreamRecord) : (s.applyStream k x).load = s.load := by
  unfold State.applyStream; (try dsimp only); (repeat' split) <;> simp
@[simp] theorem State.applyStream_bl (k : Seat) (x : StreamRecord) : (s.applyStream k x).bl = s.bl := by
  unfold State.applyStream; (try dsimp only); (repeat' split) <;> simp
@[simp] theorem State.applyStream_pending (k : Seat) (x : StreamRecord) : (s.applyStream k x).pending = s.pending := by
  unfold State.applyStream; (try dsimp only); (repeat' split) <;> simp

/-! ### State.applyAudio -/

@[simp] theorem State.applyAudio_pins (x : AudioRecord) : (s.applyAudio x).pins = s.pins := by
  unfold State.applyAudio; (try dsimp only); (repeat' split) <;> simp
@[simp] theorem State.applyAudio_boot (x : AudioRecord) : (s.applyAudio x).boot = s.boot := by
  unfold State.applyAudio; (try dsimp only); (repeat' split) <;> simp
@[simp] theorem State.applyAudio_tb (x : AudioRecord) : (s.applyAudio x).tb = s.tb := by
  unfold State.applyAudio; (try dsimp only); (repeat' split) <;> simp
@[simp] theorem State.applyAudio_path (x : AudioRecord) : (s.applyAudio x).path = s.path := by
  unfold State.applyAudio; (try dsimp only); (repeat' split) <;> simp
@[simp] theorem State.applyAudio_disp (x : AudioRecord) : (s.applyAudio x).disp = s.disp := by
  unfold State.applyAudio; (try dsimp only); (repeat' split) <;> simp
@[simp] theorem State.applyAudio_centre (x : AudioRecord) : (s.applyAudio x).centre = s.centre := by
  unfold State.applyAudio; (try dsimp only); (repeat' split) <;> simp
@[simp] theorem State.applyAudio_rear (x : AudioRecord) : (s.applyAudio x).rear = s.rear := by
  unfold State.applyAudio; (try dsimp only); (repeat' split) <;> simp
@[simp] theorem State.applyAudio_sets (x : AudioRecord) : (s.applyAudio x).sets = s.sets := by
  unfold State.applyAudio; (try dsimp only); (repeat' split) <;> simp
@[simp] theorem State.applyAudio_cam (x : AudioRecord) : (s.applyAudio x).cam = s.cam := by
  unfold State.applyAudio; (try dsimp only); (repeat' split) <;> simp
@[simp] theorem State.applyAudio_rvc (x : AudioRecord) : (s.applyAudio x).rvc = s.rvc := by
  unfold State.applyAudio; (try dsimp only); (repeat' split) <;> simp
@[simp] theorem State.applyAudio_guide (x : AudioRecord) : (s.applyAudio x).guide = s.guide := by
  unfold State.applyAudio; (try dsimp only); (repeat' split) <;> simp
@[simp] theorem State.applyAudio_link (x : AudioRecord) : (s.applyAudio x).link = s.link := by
  unfold State.applyAudio; (try dsimp only); (repeat' split) <;> simp
@[simp] theorem State.applyAudio_chime (x : AudioRecord) : (s.applyAudio x).chime = s.chime := by
  unfold State.applyAudio; (try dsimp only); (repeat' split) <;> simp
@[simp] theorem State.applyAudio_load (x : AudioRecord) : (s.applyAudio x).load = s.load := by
  unfold State.applyAudio; (try dsimp only); (repeat' split) <;> simp
@[simp] theorem State.applyAudio_bl (x : AudioRecord) : (s.applyAudio x).bl = s.bl := by
  unfold State.applyAudio; (try dsimp only); (repeat' split) <;> simp
@[simp] theorem State.applyAudio_pending (x : AudioRecord) : (s.applyAudio x).pending = s.pending := by
  unfold State.applyAudio; (try dsimp only); (repeat' split) <;> simp

/-! ### State.loseRing -/

@[simp] theorem State.loseRing_pins (k : Seat) (gone : Nat → Bool) : (s.loseRing k gone).pins = s.pins := by
  unfold State.loseRing; (try dsimp only); (repeat' split) <;> simp
@[simp] theorem State.loseRing_boot (k : Seat) (gone : Nat → Bool) : (s.loseRing k gone).boot = s.boot := by
  unfold State.loseRing; (try dsimp only); (repeat' split) <;> simp
@[simp] theorem State.loseRing_tb (k : Seat) (gone : Nat → Bool) : (s.loseRing k gone).tb = s.tb := by
  unfold State.loseRing; (try dsimp only); (repeat' split) <;> simp
@[simp] theorem State.loseRing_path (k : Seat) (gone : Nat → Bool) : (s.loseRing k gone).path = s.path := by
  unfold State.loseRing; (try dsimp only); (repeat' split) <;> simp
@[simp] theorem State.loseRing_disp (k : Seat) (gone : Nat → Bool) : (s.loseRing k gone).disp = s.disp := by
  unfold State.loseRing; (try dsimp only); (repeat' split) <;> simp
@[simp] theorem State.loseRing_centre (k : Seat) (gone : Nat → Bool) : (s.loseRing k gone).centre = s.centre := by
  unfold State.loseRing; (try dsimp only); (repeat' split) <;> simp
@[simp] theorem State.loseRing_rear (k : Seat) (gone : Nat → Bool) : (s.loseRing k gone).rear = s.rear := by
  unfold State.loseRing; (try dsimp only); (repeat' split) <;> simp
@[simp] theorem State.loseRing_sets (k : Seat) (gone : Nat → Bool) : (s.loseRing k gone).sets = s.sets := by
  unfold State.loseRing; (try dsimp only); (repeat' split) <;> simp
@[simp] theorem State.loseRing_mix (k : Seat) (gone : Nat → Bool) : (s.loseRing k gone).mix = s.mix := by
  unfold State.loseRing; (try dsimp only); (repeat' split) <;> simp
@[simp] theorem State.loseRing_cam (k : Seat) (gone : Nat → Bool) : (s.loseRing k gone).cam = s.cam := by
  unfold State.loseRing; (try dsimp only); (repeat' split) <;> simp
@[simp] theorem State.loseRing_rvc (k : Seat) (gone : Nat → Bool) : (s.loseRing k gone).rvc = s.rvc := by
  unfold State.loseRing; (try dsimp only); (repeat' split) <;> simp
@[simp] theorem State.loseRing_guide (k : Seat) (gone : Nat → Bool) : (s.loseRing k gone).guide = s.guide := by
  unfold State.loseRing; (try dsimp only); (repeat' split) <;> simp
@[simp] theorem State.loseRing_link (k : Seat) (gone : Nat → Bool) : (s.loseRing k gone).link = s.link := by
  unfold State.loseRing; (try dsimp only); (repeat' split) <;> simp
@[simp] theorem State.loseRing_chime (k : Seat) (gone : Nat → Bool) : (s.loseRing k gone).chime = s.chime := by
  unfold State.loseRing; (try dsimp only); (repeat' split) <;> simp
@[simp] theorem State.loseRing_load (k : Seat) (gone : Nat → Bool) : (s.loseRing k gone).load = s.load := by
  unfold State.loseRing; (try dsimp only); (repeat' split) <;> simp
@[simp] theorem State.loseRing_bl (k : Seat) (gone : Nat → Bool) : (s.loseRing k gone).bl = s.bl := by
  unfold State.loseRing; (try dsimp only); (repeat' split) <;> simp
@[simp] theorem State.loseRing_pending (k : Seat) (gone : Nat → Bool) : (s.loseRing k gone).pending = s.pending := by
  unfold State.loseRing; (try dsimp only); (repeat' split) <;> simp

/-! ### State.noteUnderrun -/

@[simp] theorem State.noteUnderrun_pins (b : Bool) : (s.noteUnderrun b).pins = s.pins := by
  unfold State.noteUnderrun; (try dsimp only); (repeat' split) <;> simp
@[simp] theorem State.noteUnderrun_boot (b : Bool) : (s.noteUnderrun b).boot = s.boot := by
  unfold State.noteUnderrun; (try dsimp only); (repeat' split) <;> simp
@[simp] theorem State.noteUnderrun_tb (b : Bool) : (s.noteUnderrun b).tb = s.tb := by
  unfold State.noteUnderrun; (try dsimp only); (repeat' split) <;> simp
@[simp] theorem State.noteUnderrun_path (b : Bool) : (s.noteUnderrun b).path = s.path := by
  unfold State.noteUnderrun; (try dsimp only); (repeat' split) <;> simp
@[simp] theorem State.noteUnderrun_arb (b : Bool) : (s.noteUnderrun b).arb = s.arb := by
  unfold State.noteUnderrun; (try dsimp only); (repeat' split) <;> simp
@[simp] theorem State.noteUnderrun_disp (b : Bool) : (s.noteUnderrun b).disp = s.disp := by
  unfold State.noteUnderrun; (try dsimp only); (repeat' split) <;> simp
@[simp] theorem State.noteUnderrun_centre (b : Bool) : (s.noteUnderrun b).centre = s.centre := by
  unfold State.noteUnderrun; (try dsimp only); (repeat' split) <;> simp
@[simp] theorem State.noteUnderrun_rear (b : Bool) : (s.noteUnderrun b).rear = s.rear := by
  unfold State.noteUnderrun; (try dsimp only); (repeat' split) <;> simp
@[simp] theorem State.noteUnderrun_sets (b : Bool) : (s.noteUnderrun b).sets = s.sets := by
  unfold State.noteUnderrun; (try dsimp only); (repeat' split) <;> simp
@[simp] theorem State.noteUnderrun_aud (b : Bool) : (s.noteUnderrun b).aud = s.aud := by
  unfold State.noteUnderrun; (try dsimp only); (repeat' split) <;> simp
@[simp] theorem State.noteUnderrun_mix (b : Bool) : (s.noteUnderrun b).mix = s.mix := by
  unfold State.noteUnderrun; (try dsimp only); (repeat' split) <;> simp
@[simp] theorem State.noteUnderrun_cam (b : Bool) : (s.noteUnderrun b).cam = s.cam := by
  unfold State.noteUnderrun; (try dsimp only); (repeat' split) <;> simp
@[simp] theorem State.noteUnderrun_rvc (b : Bool) : (s.noteUnderrun b).rvc = s.rvc := by
  unfold State.noteUnderrun; (try dsimp only); (repeat' split) <;> simp
@[simp] theorem State.noteUnderrun_guide (b : Bool) : (s.noteUnderrun b).guide = s.guide := by
  unfold State.noteUnderrun; (try dsimp only); (repeat' split) <;> simp
@[simp] theorem State.noteUnderrun_link (b : Bool) : (s.noteUnderrun b).link = s.link := by
  unfold State.noteUnderrun; (try dsimp only); (repeat' split) <;> simp
@[simp] theorem State.noteUnderrun_chime (b : Bool) : (s.noteUnderrun b).chime = s.chime := by
  unfold State.noteUnderrun; (try dsimp only); (repeat' split) <;> simp
@[simp] theorem State.noteUnderrun_bl (b : Bool) : (s.noteUnderrun b).bl = s.bl := by
  unfold State.noteUnderrun; (try dsimp only); (repeat' split) <;> simp
@[simp] theorem State.noteUnderrun_pending (b : Bool) : (s.noteUnderrun b).pending = s.pending := by
  unfold State.noteUnderrun; (try dsimp only); (repeat' split) <;> simp

/-! ### State.rejectFrame -/

@[simp] theorem State.rejectFrame_pins (w : Writing) : (s.rejectFrame w).pins = s.pins := by
  unfold State.rejectFrame; (try dsimp only); (repeat' split) <;> simp
@[simp] theorem State.rejectFrame_boot (w : Writing) : (s.rejectFrame w).boot = s.boot := by
  unfold State.rejectFrame; (try dsimp only); (repeat' split) <;> simp
@[simp] theorem State.rejectFrame_tb (w : Writing) : (s.rejectFrame w).tb = s.tb := by
  unfold State.rejectFrame; (try dsimp only); (repeat' split) <;> simp
@[simp] theorem State.rejectFrame_path (w : Writing) : (s.rejectFrame w).path = s.path := by
  unfold State.rejectFrame; (try dsimp only); (repeat' split) <;> simp
@[simp] theorem State.rejectFrame_disp (w : Writing) : (s.rejectFrame w).disp = s.disp := by
  unfold State.rejectFrame; (try dsimp only); (repeat' split) <;> simp
@[simp] theorem State.rejectFrame_centre (w : Writing) : (s.rejectFrame w).centre = s.centre := by
  unfold State.rejectFrame; (try dsimp only); (repeat' split) <;> simp
@[simp] theorem State.rejectFrame_rear (w : Writing) : (s.rejectFrame w).rear = s.rear := by
  unfold State.rejectFrame; (try dsimp only); (repeat' split) <;> simp
@[simp] theorem State.rejectFrame_sets (w : Writing) : (s.rejectFrame w).sets = s.sets := by
  unfold State.rejectFrame; (try dsimp only); (repeat' split) <;> simp
@[simp] theorem State.rejectFrame_aud (w : Writing) : (s.rejectFrame w).aud = s.aud := by
  unfold State.rejectFrame; (try dsimp only); (repeat' split) <;> simp
@[simp] theorem State.rejectFrame_mix (w : Writing) : (s.rejectFrame w).mix = s.mix := by
  unfold State.rejectFrame; (try dsimp only); (repeat' split) <;> simp
@[simp] theorem State.rejectFrame_rvc (w : Writing) : (s.rejectFrame w).rvc = s.rvc := by
  unfold State.rejectFrame; (try dsimp only); (repeat' split) <;> simp
@[simp] theorem State.rejectFrame_guide (w : Writing) : (s.rejectFrame w).guide = s.guide := by
  unfold State.rejectFrame; (try dsimp only); (repeat' split) <;> simp
@[simp] theorem State.rejectFrame_link (w : Writing) : (s.rejectFrame w).link = s.link := by
  unfold State.rejectFrame; (try dsimp only); (repeat' split) <;> simp
@[simp] theorem State.rejectFrame_chime (w : Writing) : (s.rejectFrame w).chime = s.chime := by
  unfold State.rejectFrame; (try dsimp only); (repeat' split) <;> simp
@[simp] theorem State.rejectFrame_load (w : Writing) : (s.rejectFrame w).load = s.load := by
  unfold State.rejectFrame; (try dsimp only); (repeat' split) <;> simp
@[simp] theorem State.rejectFrame_bl (w : Writing) : (s.rejectFrame w).bl = s.bl := by
  unfold State.rejectFrame; (try dsimp only); (repeat' split) <;> simp
@[simp] theorem State.rejectFrame_pending (w : Writing) : (s.rejectFrame w).pending = s.pending := by
  unfold State.rejectFrame; (try dsimp only); (repeat' split) <;> simp

/-! ### State.completeCamera -/

@[simp] theorem State.completeCamera_pins (w : Writing) : (s.completeCamera w).pins = s.pins := by
  unfold State.completeCamera; (try dsimp only); (repeat' split) <;> simp
@[simp] theorem State.completeCamera_boot (w : Writing) : (s.completeCamera w).boot = s.boot := by
  unfold State.completeCamera; (try dsimp only); (repeat' split) <;> simp
@[simp] theorem State.completeCamera_tb (w : Writing) : (s.completeCamera w).tb = s.tb := by
  unfold State.completeCamera; (try dsimp only); (repeat' split) <;> simp
@[simp] theorem State.completeCamera_path (w : Writing) : (s.completeCamera w).path = s.path := by
  unfold State.completeCamera; (try dsimp only); (repeat' split) <;> simp
@[simp] theorem State.completeCamera_arb (w : Writing) : (s.completeCamera w).arb = s.arb := by
  unfold State.completeCamera; (try dsimp only); (repeat' split) <;> simp
@[simp] theorem State.completeCamera_disp (w : Writing) : (s.completeCamera w).disp = s.disp := by
  unfold State.completeCamera; (try dsimp only); (repeat' split) <;> simp
@[simp] theorem State.completeCamera_centre (w : Writing) : (s.completeCamera w).centre = s.centre := by
  unfold State.completeCamera; (try dsimp only); (repeat' split) <;> simp
@[simp] theorem State.completeCamera_rear (w : Writing) : (s.completeCamera w).rear = s.rear := by
  unfold State.completeCamera; (try dsimp only); (repeat' split) <;> simp
@[simp] theorem State.completeCamera_sets (w : Writing) : (s.completeCamera w).sets = s.sets := by
  unfold State.completeCamera; (try dsimp only); (repeat' split) <;> simp
@[simp] theorem State.completeCamera_aud (w : Writing) : (s.completeCamera w).aud = s.aud := by
  unfold State.completeCamera; (try dsimp only); (repeat' split) <;> simp
@[simp] theorem State.completeCamera_mix (w : Writing) : (s.completeCamera w).mix = s.mix := by
  unfold State.completeCamera; (try dsimp only); (repeat' split) <;> simp
@[simp] theorem State.completeCamera_guide (w : Writing) : (s.completeCamera w).guide = s.guide := by
  unfold State.completeCamera; (try dsimp only); (repeat' split) <;> simp
@[simp] theorem State.completeCamera_link (w : Writing) : (s.completeCamera w).link = s.link := by
  unfold State.completeCamera; (try dsimp only); (repeat' split) <;> simp
@[simp] theorem State.completeCamera_chime (w : Writing) : (s.completeCamera w).chime = s.chime := by
  unfold State.completeCamera; (try dsimp only); (repeat' split) <;> simp
@[simp] theorem State.completeCamera_load (w : Writing) : (s.completeCamera w).load = s.load := by
  unfold State.completeCamera; (try dsimp only); (repeat' split) <;> simp
@[simp] theorem State.completeCamera_bl (w : Writing) : (s.completeCamera w).bl = s.bl := by
  unfold State.completeCamera; (try dsimp only); (repeat' split) <;> simp
@[simp] theorem State.completeCamera_pending (w : Writing) : (s.completeCamera w).pending = s.pending := by
  unfold State.completeCamera; (try dsimp only); (repeat' split) <;> simp

/-! ### State.endCameraLine -/

@[simp] theorem State.endCameraLine_pins (p : CameraProfile) (w : Writing) : (s.endCameraLine p w).pins = s.pins := by
  unfold State.endCameraLine; (try dsimp only); (repeat' split) <;> simp
@[simp] theorem State.endCameraLine_boot (p : CameraProfile) (w : Writing) : (s.endCameraLine p w).boot = s.boot := by
  unfold State.endCameraLine; (try dsimp only); (repeat' split) <;> simp
@[simp] theorem State.endCameraLine_tb (p : CameraProfile) (w : Writing) : (s.endCameraLine p w).tb = s.tb := by
  unfold State.endCameraLine; (try dsimp only); (repeat' split) <;> simp
@[simp] theorem State.endCameraLine_path (p : CameraProfile) (w : Writing) : (s.endCameraLine p w).path = s.path := by
  unfold State.endCameraLine; (try dsimp only); (repeat' split) <;> simp
@[simp] theorem State.endCameraLine_disp (p : CameraProfile) (w : Writing) : (s.endCameraLine p w).disp = s.disp := by
  unfold State.endCameraLine; (try dsimp only); (repeat' split) <;> simp
@[simp] theorem State.endCameraLine_centre (p : CameraProfile) (w : Writing) : (s.endCameraLine p w).centre = s.centre := by
  unfold State.endCameraLine; (try dsimp only); (repeat' split) <;> simp
@[simp] theorem State.endCameraLine_rear (p : CameraProfile) (w : Writing) : (s.endCameraLine p w).rear = s.rear := by
  unfold State.endCameraLine; (try dsimp only); (repeat' split) <;> simp
@[simp] theorem State.endCameraLine_sets (p : CameraProfile) (w : Writing) : (s.endCameraLine p w).sets = s.sets := by
  unfold State.endCameraLine; (try dsimp only); (repeat' split) <;> simp
@[simp] theorem State.endCameraLine_aud (p : CameraProfile) (w : Writing) : (s.endCameraLine p w).aud = s.aud := by
  unfold State.endCameraLine; (try dsimp only); (repeat' split) <;> simp
@[simp] theorem State.endCameraLine_mix (p : CameraProfile) (w : Writing) : (s.endCameraLine p w).mix = s.mix := by
  unfold State.endCameraLine; (try dsimp only); (repeat' split) <;> simp
@[simp] theorem State.endCameraLine_rvc (p : CameraProfile) (w : Writing) : (s.endCameraLine p w).rvc = s.rvc := by
  unfold State.endCameraLine; (try dsimp only); (repeat' split) <;> simp
@[simp] theorem State.endCameraLine_guide (p : CameraProfile) (w : Writing) : (s.endCameraLine p w).guide = s.guide := by
  unfold State.endCameraLine; (try dsimp only); (repeat' split) <;> simp
@[simp] theorem State.endCameraLine_link (p : CameraProfile) (w : Writing) : (s.endCameraLine p w).link = s.link := by
  unfold State.endCameraLine; (try dsimp only); (repeat' split) <;> simp
@[simp] theorem State.endCameraLine_chime (p : CameraProfile) (w : Writing) : (s.endCameraLine p w).chime = s.chime := by
  unfold State.endCameraLine; (try dsimp only); (repeat' split) <;> simp
@[simp] theorem State.endCameraLine_load (p : CameraProfile) (w : Writing) : (s.endCameraLine p w).load = s.load := by
  unfold State.endCameraLine; (try dsimp only); (repeat' split) <;> simp
@[simp] theorem State.endCameraLine_bl (p : CameraProfile) (w : Writing) : (s.endCameraLine p w).bl = s.bl := by
  unfold State.endCameraLine; (try dsimp only); (repeat' split) <;> simp
@[simp] theorem State.endCameraLine_pending (p : CameraProfile) (w : Writing) : (s.endCameraLine p w).pending = s.pending := by
  unfold State.endCameraLine; (try dsimp only); (repeat' split) <;> simp

/-! ### State.checkFrame -/

@[simp] theorem State.checkFrame_pins (p : CameraProfile) (w : Writing) : (s.checkFrame p w).pins = s.pins := by
  unfold State.checkFrame; (try dsimp only); (repeat' split) <;> simp
@[simp] theorem State.checkFrame_boot (p : CameraProfile) (w : Writing) : (s.checkFrame p w).boot = s.boot := by
  unfold State.checkFrame; (try dsimp only); (repeat' split) <;> simp
@[simp] theorem State.checkFrame_tb (p : CameraProfile) (w : Writing) : (s.checkFrame p w).tb = s.tb := by
  unfold State.checkFrame; (try dsimp only); (repeat' split) <;> simp
@[simp] theorem State.checkFrame_path (p : CameraProfile) (w : Writing) : (s.checkFrame p w).path = s.path := by
  unfold State.checkFrame; (try dsimp only); (repeat' split) <;> simp
@[simp] theorem State.checkFrame_disp (p : CameraProfile) (w : Writing) : (s.checkFrame p w).disp = s.disp := by
  unfold State.checkFrame; (try dsimp only); (repeat' split) <;> simp
@[simp] theorem State.checkFrame_centre (p : CameraProfile) (w : Writing) : (s.checkFrame p w).centre = s.centre := by
  unfold State.checkFrame; (try dsimp only); (repeat' split) <;> simp
@[simp] theorem State.checkFrame_rear (p : CameraProfile) (w : Writing) : (s.checkFrame p w).rear = s.rear := by
  unfold State.checkFrame; (try dsimp only); (repeat' split) <;> simp
@[simp] theorem State.checkFrame_sets (p : CameraProfile) (w : Writing) : (s.checkFrame p w).sets = s.sets := by
  unfold State.checkFrame; (try dsimp only); (repeat' split) <;> simp
@[simp] theorem State.checkFrame_aud (p : CameraProfile) (w : Writing) : (s.checkFrame p w).aud = s.aud := by
  unfold State.checkFrame; (try dsimp only); (repeat' split) <;> simp
@[simp] theorem State.checkFrame_mix (p : CameraProfile) (w : Writing) : (s.checkFrame p w).mix = s.mix := by
  unfold State.checkFrame; (try dsimp only); (repeat' split) <;> simp
@[simp] theorem State.checkFrame_guide (p : CameraProfile) (w : Writing) : (s.checkFrame p w).guide = s.guide := by
  unfold State.checkFrame; (try dsimp only); (repeat' split) <;> simp
@[simp] theorem State.checkFrame_link (p : CameraProfile) (w : Writing) : (s.checkFrame p w).link = s.link := by
  unfold State.checkFrame; (try dsimp only); (repeat' split) <;> simp
@[simp] theorem State.checkFrame_chime (p : CameraProfile) (w : Writing) : (s.checkFrame p w).chime = s.chime := by
  unfold State.checkFrame; (try dsimp only); (repeat' split) <;> simp
@[simp] theorem State.checkFrame_load (p : CameraProfile) (w : Writing) : (s.checkFrame p w).load = s.load := by
  unfold State.checkFrame; (try dsimp only); (repeat' split) <;> simp
@[simp] theorem State.checkFrame_bl (p : CameraProfile) (w : Writing) : (s.checkFrame p w).bl = s.bl := by
  unfold State.checkFrame; (try dsimp only); (repeat' split) <;> simp
@[simp] theorem State.checkFrame_pending (p : CameraProfile) (w : Writing) : (s.checkFrame p w).pending = s.pending := by
  unfold State.checkFrame; (try dsimp only); (repeat' split) <;> simp

/-! ### State.takePixel -/

@[simp] theorem State.takePixel_pins (p : CameraProfile) (w : Writing) (rgb : BitVec 24) : (s.takePixel p w rgb).pins = s.pins := by
  unfold State.takePixel; (try dsimp only); (repeat' split) <;> simp
@[simp] theorem State.takePixel_boot (p : CameraProfile) (w : Writing) (rgb : BitVec 24) : (s.takePixel p w rgb).boot = s.boot := by
  unfold State.takePixel; (try dsimp only); (repeat' split) <;> simp
@[simp] theorem State.takePixel_tb (p : CameraProfile) (w : Writing) (rgb : BitVec 24) : (s.takePixel p w rgb).tb = s.tb := by
  unfold State.takePixel; (try dsimp only); (repeat' split) <;> simp
@[simp] theorem State.takePixel_path (p : CameraProfile) (w : Writing) (rgb : BitVec 24) : (s.takePixel p w rgb).path = s.path := by
  unfold State.takePixel; (try dsimp only); (repeat' split) <;> simp
@[simp] theorem State.takePixel_disp (p : CameraProfile) (w : Writing) (rgb : BitVec 24) : (s.takePixel p w rgb).disp = s.disp := by
  unfold State.takePixel; (try dsimp only); (repeat' split) <;> simp
@[simp] theorem State.takePixel_centre (p : CameraProfile) (w : Writing) (rgb : BitVec 24) : (s.takePixel p w rgb).centre = s.centre := by
  unfold State.takePixel; (try dsimp only); (repeat' split) <;> simp
@[simp] theorem State.takePixel_rear (p : CameraProfile) (w : Writing) (rgb : BitVec 24) : (s.takePixel p w rgb).rear = s.rear := by
  unfold State.takePixel; (try dsimp only); (repeat' split) <;> simp
@[simp] theorem State.takePixel_sets (p : CameraProfile) (w : Writing) (rgb : BitVec 24) : (s.takePixel p w rgb).sets = s.sets := by
  unfold State.takePixel; (try dsimp only); (repeat' split) <;> simp
@[simp] theorem State.takePixel_aud (p : CameraProfile) (w : Writing) (rgb : BitVec 24) : (s.takePixel p w rgb).aud = s.aud := by
  unfold State.takePixel; (try dsimp only); (repeat' split) <;> simp
@[simp] theorem State.takePixel_mix (p : CameraProfile) (w : Writing) (rgb : BitVec 24) : (s.takePixel p w rgb).mix = s.mix := by
  unfold State.takePixel; (try dsimp only); (repeat' split) <;> simp
@[simp] theorem State.takePixel_rvc (p : CameraProfile) (w : Writing) (rgb : BitVec 24) : (s.takePixel p w rgb).rvc = s.rvc := by
  unfold State.takePixel; (try dsimp only); (repeat' split) <;> simp
@[simp] theorem State.takePixel_guide (p : CameraProfile) (w : Writing) (rgb : BitVec 24) : (s.takePixel p w rgb).guide = s.guide := by
  unfold State.takePixel; (try dsimp only); (repeat' split) <;> simp
@[simp] theorem State.takePixel_link (p : CameraProfile) (w : Writing) (rgb : BitVec 24) : (s.takePixel p w rgb).link = s.link := by
  unfold State.takePixel; (try dsimp only); (repeat' split) <;> simp
@[simp] theorem State.takePixel_chime (p : CameraProfile) (w : Writing) (rgb : BitVec 24) : (s.takePixel p w rgb).chime = s.chime := by
  unfold State.takePixel; (try dsimp only); (repeat' split) <;> simp
@[simp] theorem State.takePixel_load (p : CameraProfile) (w : Writing) (rgb : BitVec 24) : (s.takePixel p w rgb).load = s.load := by
  unfold State.takePixel; (try dsimp only); (repeat' split) <;> simp
@[simp] theorem State.takePixel_bl (p : CameraProfile) (w : Writing) (rgb : BitVec 24) : (s.takePixel p w rgb).bl = s.bl := by
  unfold State.takePixel; (try dsimp only); (repeat' split) <;> simp
@[simp] theorem State.takePixel_pending (p : CameraProfile) (w : Writing) (rgb : BitVec 24) : (s.takePixel p w rgb).pending = s.pending := by
  unfold State.takePixel; (try dsimp only); (repeat' split) <;> simp

/-! ### State.scanBack -/

@[simp] theorem State.scanBack_pins (d : Disp) (q : ScanReq) (r : Reply) : (s.scanBack d q r).pins = s.pins := by
  unfold State.scanBack; (try dsimp only); (repeat' split) <;> simp
@[simp] theorem State.scanBack_boot (d : Disp) (q : ScanReq) (r : Reply) : (s.scanBack d q r).boot = s.boot := by
  unfold State.scanBack; (try dsimp only); (repeat' split) <;> simp
@[simp] theorem State.scanBack_tb (d : Disp) (q : ScanReq) (r : Reply) : (s.scanBack d q r).tb = s.tb := by
  unfold State.scanBack; (try dsimp only); (repeat' split) <;> simp
@[simp] theorem State.scanBack_arb (d : Disp) (q : ScanReq) (r : Reply) : (s.scanBack d q r).arb = s.arb := by
  unfold State.scanBack; (try dsimp only); (repeat' split) <;> simp
@[simp] theorem State.scanBack_centre (d : Disp) (q : ScanReq) (r : Reply) : (s.scanBack d q r).centre = s.centre := by
  unfold State.scanBack; (try dsimp only); (repeat' split) <;> simp
@[simp] theorem State.scanBack_rear (d : Disp) (q : ScanReq) (r : Reply) : (s.scanBack d q r).rear = s.rear := by
  unfold State.scanBack; (try dsimp only); (repeat' split) <;> simp
@[simp] theorem State.scanBack_sets (d : Disp) (q : ScanReq) (r : Reply) : (s.scanBack d q r).sets = s.sets := by
  unfold State.scanBack; (try dsimp only); (repeat' split) <;> simp
@[simp] theorem State.scanBack_aud (d : Disp) (q : ScanReq) (r : Reply) : (s.scanBack d q r).aud = s.aud := by
  unfold State.scanBack; (try dsimp only); (repeat' split) <;> simp
@[simp] theorem State.scanBack_mix (d : Disp) (q : ScanReq) (r : Reply) : (s.scanBack d q r).mix = s.mix := by
  unfold State.scanBack; (try dsimp only); (repeat' split) <;> simp
@[simp] theorem State.scanBack_cam (d : Disp) (q : ScanReq) (r : Reply) : (s.scanBack d q r).cam = s.cam := by
  unfold State.scanBack; (try dsimp only); (repeat' split) <;> simp
@[simp] theorem State.scanBack_rvc (d : Disp) (q : ScanReq) (r : Reply) : (s.scanBack d q r).rvc = s.rvc := by
  unfold State.scanBack; (try dsimp only); (repeat' split) <;> simp
@[simp] theorem State.scanBack_guide (d : Disp) (q : ScanReq) (r : Reply) : (s.scanBack d q r).guide = s.guide := by
  unfold State.scanBack; (try dsimp only); (repeat' split) <;> simp
@[simp] theorem State.scanBack_link (d : Disp) (q : ScanReq) (r : Reply) : (s.scanBack d q r).link = s.link := by
  unfold State.scanBack; (try dsimp only); (repeat' split) <;> simp
@[simp] theorem State.scanBack_chime (d : Disp) (q : ScanReq) (r : Reply) : (s.scanBack d q r).chime = s.chime := by
  unfold State.scanBack; (try dsimp only); (repeat' split) <;> simp
@[simp] theorem State.scanBack_load (d : Disp) (q : ScanReq) (r : Reply) : (s.scanBack d q r).load = s.load := by
  unfold State.scanBack; (try dsimp only); (repeat' split) <;> simp
@[simp] theorem State.scanBack_bl (d : Disp) (q : ScanReq) (r : Reply) : (s.scanBack d q r).bl = s.bl := by
  unfold State.scanBack; (try dsimp only); (repeat' split) <;> simp
@[simp] theorem State.scanBack_pending (d : Disp) (q : ScanReq) (r : Reply) : (s.scanBack d q r).pending = s.pending := by
  unfold State.scanBack; (try dsimp only); (repeat' split) <;> simp

/-! ### State.stageScenes -/

@[simp] theorem State.stageScenes_pins (rd : Nat → Nat) : (s.stageScenes rd).pins = s.pins := by
  unfold State.stageScenes; (try dsimp only); (repeat' split) <;> simp
@[simp] theorem State.stageScenes_boot (rd : Nat → Nat) : (s.stageScenes rd).boot = s.boot := by
  unfold State.stageScenes; (try dsimp only); (repeat' split) <;> simp
@[simp] theorem State.stageScenes_tb (rd : Nat → Nat) : (s.stageScenes rd).tb = s.tb := by
  unfold State.stageScenes; (try dsimp only); (repeat' split) <;> simp
@[simp] theorem State.stageScenes_path (rd : Nat → Nat) : (s.stageScenes rd).path = s.path := by
  unfold State.stageScenes; (try dsimp only); (repeat' split) <;> simp
@[simp] theorem State.stageScenes_arb (rd : Nat → Nat) : (s.stageScenes rd).arb = s.arb := by
  unfold State.stageScenes; (try dsimp only); (repeat' split) <;> simp
@[simp] theorem State.stageScenes_centre (rd : Nat → Nat) : (s.stageScenes rd).centre = s.centre := by
  unfold State.stageScenes; (try dsimp only); (repeat' split) <;> simp
@[simp] theorem State.stageScenes_rear (rd : Nat → Nat) : (s.stageScenes rd).rear = s.rear := by
  unfold State.stageScenes; (try dsimp only); (repeat' split) <;> simp
@[simp] theorem State.stageScenes_sets (rd : Nat → Nat) : (s.stageScenes rd).sets = s.sets := by
  unfold State.stageScenes; (try dsimp only); (repeat' split) <;> simp
@[simp] theorem State.stageScenes_aud (rd : Nat → Nat) : (s.stageScenes rd).aud = s.aud := by
  unfold State.stageScenes; (try dsimp only); (repeat' split) <;> simp
@[simp] theorem State.stageScenes_mix (rd : Nat → Nat) : (s.stageScenes rd).mix = s.mix := by
  unfold State.stageScenes; (try dsimp only); (repeat' split) <;> simp
@[simp] theorem State.stageScenes_cam (rd : Nat → Nat) : (s.stageScenes rd).cam = s.cam := by
  unfold State.stageScenes; (try dsimp only); (repeat' split) <;> simp
@[simp] theorem State.stageScenes_rvc (rd : Nat → Nat) : (s.stageScenes rd).rvc = s.rvc := by
  unfold State.stageScenes; (try dsimp only); (repeat' split) <;> simp
@[simp] theorem State.stageScenes_guide (rd : Nat → Nat) : (s.stageScenes rd).guide = s.guide := by
  unfold State.stageScenes; (try dsimp only); (repeat' split) <;> simp
@[simp] theorem State.stageScenes_link (rd : Nat → Nat) : (s.stageScenes rd).link = s.link := by
  unfold State.stageScenes; (try dsimp only); (repeat' split) <;> simp
@[simp] theorem State.stageScenes_chime (rd : Nat → Nat) : (s.stageScenes rd).chime = s.chime := by
  unfold State.stageScenes; (try dsimp only); (repeat' split) <;> simp
@[simp] theorem State.stageScenes_load (rd : Nat → Nat) : (s.stageScenes rd).load = s.load := by
  unfold State.stageScenes; (try dsimp only); (repeat' split) <;> simp
@[simp] theorem State.stageScenes_bl (rd : Nat → Nat) : (s.stageScenes rd).bl = s.bl := by
  unfold State.stageScenes; (try dsimp only); (repeat' split) <;> simp
@[simp] theorem State.stageScenes_pending (rd : Nat → Nat) : (s.stageScenes rd).pending = s.pending := by
  unfold State.stageScenes; (try dsimp only); (repeat' split) <;> simp

/-! ### State.swapTable -/

@[simp] theorem State.swapTable_pins (t : List Region) : (s.swapTable t).pins = s.pins := by
  unfold State.swapTable; (try dsimp only); (repeat' split) <;> simp
@[simp] theorem State.swapTable_boot (t : List Region) : (s.swapTable t).boot = s.boot := by
  unfold State.swapTable; (try dsimp only); (repeat' split) <;> simp
@[simp] theorem State.swapTable_tb (t : List Region) : (s.swapTable t).tb = s.tb := by
  unfold State.swapTable; (try dsimp only); (repeat' split) <;> simp
@[simp] theorem State.swapTable_arb (t : List Region) : (s.swapTable t).arb = s.arb := by
  unfold State.swapTable; (try dsimp only); (repeat' split) <;> simp
@[simp] theorem State.swapTable_centre (t : List Region) : (s.swapTable t).centre = s.centre := by
  unfold State.swapTable; (try dsimp only); (repeat' split) <;> simp
@[simp] theorem State.swapTable_aud (t : List Region) : (s.swapTable t).aud = s.aud := by
  unfold State.swapTable; (try dsimp only); (repeat' split) <;> simp
@[simp] theorem State.swapTable_mix (t : List Region) : (s.swapTable t).mix = s.mix := by
  unfold State.swapTable; (try dsimp only); (repeat' split) <;> simp
@[simp] theorem State.swapTable_cam (t : List Region) : (s.swapTable t).cam = s.cam := by
  unfold State.swapTable; (try dsimp only); (repeat' split) <;> simp
@[simp] theorem State.swapTable_rvc (t : List Region) : (s.swapTable t).rvc = s.rvc := by
  unfold State.swapTable; (try dsimp only); (repeat' split) <;> simp
@[simp] theorem State.swapTable_guide (t : List Region) : (s.swapTable t).guide = s.guide := by
  unfold State.swapTable; (try dsimp only); (repeat' split) <;> simp
@[simp] theorem State.swapTable_link (t : List Region) : (s.swapTable t).link = s.link := by
  unfold State.swapTable; (try dsimp only); (repeat' split) <;> simp
@[simp] theorem State.swapTable_chime (t : List Region) : (s.swapTable t).chime = s.chime := by
  unfold State.swapTable; (try dsimp only); (repeat' split) <;> simp
@[simp] theorem State.swapTable_load (t : List Region) : (s.swapTable t).load = s.load := by
  unfold State.swapTable; (try dsimp only); (repeat' split) <;> simp
@[simp] theorem State.swapTable_bl (t : List Region) : (s.swapTable t).bl = s.bl := by
  unfold State.swapTable; (try dsimp only); (repeat' split) <;> simp
@[simp] theorem State.swapTable_pending (t : List Region) : (s.swapTable t).pending = s.pending := by
  unfold State.swapTable; (try dsimp only); (repeat' split) <;> simp

/-! ### State.acceptLoad -/

@[simp] theorem State.acceptLoad_pins : (s.acceptLoad).pins = s.pins := by
  unfold State.acceptLoad; (try dsimp only); (repeat' split) <;> simp
@[simp] theorem State.acceptLoad_boot : (s.acceptLoad).boot = s.boot := by
  unfold State.acceptLoad; (try dsimp only); (repeat' split) <;> simp
@[simp] theorem State.acceptLoad_tb : (s.acceptLoad).tb = s.tb := by
  unfold State.acceptLoad; (try dsimp only); (repeat' split) <;> simp
@[simp] theorem State.acceptLoad_centre : (s.acceptLoad).centre = s.centre := by
  unfold State.acceptLoad; (try dsimp only); (repeat' split) <;> simp
@[simp] theorem State.acceptLoad_cam : (s.acceptLoad).cam = s.cam := by
  unfold State.acceptLoad; (try dsimp only); (repeat' split) <;> simp
@[simp] theorem State.acceptLoad_rvc : (s.acceptLoad).rvc = s.rvc := by
  unfold State.acceptLoad; (try dsimp only); (repeat' split) <;> simp
@[simp] theorem State.acceptLoad_guide : (s.acceptLoad).guide = s.guide := by
  unfold State.acceptLoad; (try dsimp only); (repeat' split) <;> simp
@[simp] theorem State.acceptLoad_link : (s.acceptLoad).link = s.link := by
  unfold State.acceptLoad; (try dsimp only); (repeat' split) <;> simp
@[simp] theorem State.acceptLoad_chime : (s.acceptLoad).chime = s.chime := by
  unfold State.acceptLoad; (try dsimp only); (repeat' split) <;> simp
@[simp] theorem State.acceptLoad_pending : (s.acceptLoad).pending = s.pending := by
  unfold State.acceptLoad; (try dsimp only); (repeat' split) <;> simp

/-! ### State.refuseLoad -/

@[simp] theorem State.refuseLoad_pins (e : Failure) : (s.refuseLoad e).pins = s.pins := by
  unfold State.refuseLoad; (try dsimp only); (repeat' split) <;> simp
@[simp] theorem State.refuseLoad_boot (e : Failure) : (s.refuseLoad e).boot = s.boot := by
  unfold State.refuseLoad; (try dsimp only); (repeat' split) <;> simp
@[simp] theorem State.refuseLoad_tb (e : Failure) : (s.refuseLoad e).tb = s.tb := by
  unfold State.refuseLoad; (try dsimp only); (repeat' split) <;> simp
@[simp] theorem State.refuseLoad_path (e : Failure) : (s.refuseLoad e).path = s.path := by
  unfold State.refuseLoad; (try dsimp only); (repeat' split) <;> simp
@[simp] theorem State.refuseLoad_arb (e : Failure) : (s.refuseLoad e).arb = s.arb := by
  unfold State.refuseLoad; (try dsimp only); (repeat' split) <;> simp
@[simp] theorem State.refuseLoad_disp (e : Failure) : (s.refuseLoad e).disp = s.disp := by
  unfold State.refuseLoad; (try dsimp only); (repeat' split) <;> simp
@[simp] theorem State.refuseLoad_centre (e : Failure) : (s.refuseLoad e).centre = s.centre := by
  unfold State.refuseLoad; (try dsimp only); (repeat' split) <;> simp
@[simp] theorem State.refuseLoad_rear (e : Failure) : (s.refuseLoad e).rear = s.rear := by
  unfold State.refuseLoad; (try dsimp only); (repeat' split) <;> simp
@[simp] theorem State.refuseLoad_sets (e : Failure) : (s.refuseLoad e).sets = s.sets := by
  unfold State.refuseLoad; (try dsimp only); (repeat' split) <;> simp
@[simp] theorem State.refuseLoad_aud (e : Failure) : (s.refuseLoad e).aud = s.aud := by
  unfold State.refuseLoad; (try dsimp only); (repeat' split) <;> simp
@[simp] theorem State.refuseLoad_mix (e : Failure) : (s.refuseLoad e).mix = s.mix := by
  unfold State.refuseLoad; (try dsimp only); (repeat' split) <;> simp
@[simp] theorem State.refuseLoad_cam (e : Failure) : (s.refuseLoad e).cam = s.cam := by
  unfold State.refuseLoad; (try dsimp only); (repeat' split) <;> simp
@[simp] theorem State.refuseLoad_rvc (e : Failure) : (s.refuseLoad e).rvc = s.rvc := by
  unfold State.refuseLoad; (try dsimp only); (repeat' split) <;> simp
@[simp] theorem State.refuseLoad_guide (e : Failure) : (s.refuseLoad e).guide = s.guide := by
  unfold State.refuseLoad; (try dsimp only); (repeat' split) <;> simp
@[simp] theorem State.refuseLoad_link (e : Failure) : (s.refuseLoad e).link = s.link := by
  unfold State.refuseLoad; (try dsimp only); (repeat' split) <;> simp
@[simp] theorem State.refuseLoad_chime (e : Failure) : (s.refuseLoad e).chime = s.chime := by
  unfold State.refuseLoad; (try dsimp only); (repeat' split) <;> simp
@[simp] theorem State.refuseLoad_bl (e : Failure) : (s.refuseLoad e).bl = s.bl := by
  unfold State.refuseLoad; (try dsimp only); (repeat' split) <;> simp
@[simp] theorem State.refuseLoad_pending (e : Failure) : (s.refuseLoad e).pending = s.pending := by
  unfold State.refuseLoad; (try dsimp only); (repeat' split) <;> simp

/-! ### State.endChecking -/

@[simp] theorem State.endChecking_pins : (s.endChecking).pins = s.pins := by
  unfold State.endChecking; (try dsimp only); (repeat' split) <;> simp
@[simp] theorem State.endChecking_boot : (s.endChecking).boot = s.boot := by
  unfold State.endChecking; (try dsimp only); (repeat' split) <;> simp
@[simp] theorem State.endChecking_tb : (s.endChecking).tb = s.tb := by
  unfold State.endChecking; (try dsimp only); (repeat' split) <;> simp
@[simp] theorem State.endChecking_centre : (s.endChecking).centre = s.centre := by
  unfold State.endChecking; (try dsimp only); (repeat' split) <;> simp
@[simp] theorem State.endChecking_cam : (s.endChecking).cam = s.cam := by
  unfold State.endChecking; (try dsimp only); (repeat' split) <;> simp
@[simp] theorem State.endChecking_rvc : (s.endChecking).rvc = s.rvc := by
  unfold State.endChecking; (try dsimp only); (repeat' split) <;> simp
@[simp] theorem State.endChecking_guide : (s.endChecking).guide = s.guide := by
  unfold State.endChecking; (try dsimp only); (repeat' split) <;> simp
@[simp] theorem State.endChecking_link : (s.endChecking).link = s.link := by
  unfold State.endChecking; (try dsimp only); (repeat' split) <;> simp
@[simp] theorem State.endChecking_chime : (s.endChecking).chime = s.chime := by
  unfold State.endChecking; (try dsimp only); (repeat' split) <;> simp
@[simp] theorem State.endChecking_pending : (s.endChecking).pending = s.pending := by
  unfold State.endChecking; (try dsimp only); (repeat' split) <;> simp

/-! ### State.reportDue -/

@[simp] theorem State.reportDue_pins : (s.reportDue).pins = s.pins := by
  unfold State.reportDue; (try dsimp only); (repeat' split) <;> simp
@[simp] theorem State.reportDue_boot : (s.reportDue).boot = s.boot := by
  unfold State.reportDue; (try dsimp only); (repeat' split) <;> simp
@[simp] theorem State.reportDue_tb : (s.reportDue).tb = s.tb := by
  unfold State.reportDue; (try dsimp only); (repeat' split) <;> simp
@[simp] theorem State.reportDue_path : (s.reportDue).path = s.path := by
  unfold State.reportDue; (try dsimp only); (repeat' split) <;> simp
@[simp] theorem State.reportDue_arb : (s.reportDue).arb = s.arb := by
  unfold State.reportDue; (try dsimp only); (repeat' split) <;> simp
@[simp] theorem State.reportDue_disp : (s.reportDue).disp = s.disp := by
  unfold State.reportDue; (try dsimp only); (repeat' split) <;> simp
@[simp] theorem State.reportDue_centre : (s.reportDue).centre = s.centre := by
  unfold State.reportDue; (try dsimp only); (repeat' split) <;> simp
@[simp] theorem State.reportDue_rear : (s.reportDue).rear = s.rear := by
  unfold State.reportDue; (try dsimp only); (repeat' split) <;> simp
@[simp] theorem State.reportDue_sets : (s.reportDue).sets = s.sets := by
  unfold State.reportDue; (try dsimp only); (repeat' split) <;> simp
@[simp] theorem State.reportDue_aud : (s.reportDue).aud = s.aud := by
  unfold State.reportDue; (try dsimp only); (repeat' split) <;> simp
@[simp] theorem State.reportDue_mix : (s.reportDue).mix = s.mix := by
  unfold State.reportDue; (try dsimp only); (repeat' split) <;> simp
@[simp] theorem State.reportDue_cam : (s.reportDue).cam = s.cam := by
  unfold State.reportDue; (try dsimp only); (repeat' split) <;> simp
@[simp] theorem State.reportDue_rvc : (s.reportDue).rvc = s.rvc := by
  unfold State.reportDue; (try dsimp only); (repeat' split) <;> simp
@[simp] theorem State.reportDue_guide : (s.reportDue).guide = s.guide := by
  unfold State.reportDue; (try dsimp only); (repeat' split) <;> simp
@[simp] theorem State.reportDue_link : (s.reportDue).link = s.link := by
  unfold State.reportDue; (try dsimp only); (repeat' split) <;> simp
@[simp] theorem State.reportDue_chime : (s.reportDue).chime = s.chime := by
  unfold State.reportDue; (try dsimp only); (repeat' split) <;> simp
@[simp] theorem State.reportDue_bl : (s.reportDue).bl = s.bl := by
  unfold State.reportDue; (try dsimp only); (repeat' split) <;> simp
@[simp] theorem State.reportDue_pending : (s.reportDue).pending = s.pending := by
  unfold State.reportDue; (try dsimp only); (repeat' split) <;> simp

/-! ### State.takeGrant -/

@[simp] theorem State.takeGrant_pins (q : Requester) : (s.takeGrant q).pins = s.pins := by
  unfold State.takeGrant; (try dsimp only); (repeat' split) <;> simp
@[simp] theorem State.takeGrant_boot (q : Requester) : (s.takeGrant q).boot = s.boot := by
  unfold State.takeGrant; (try dsimp only); (repeat' split) <;> simp
@[simp] theorem State.takeGrant_tb (q : Requester) : (s.takeGrant q).tb = s.tb := by
  unfold State.takeGrant; (try dsimp only); (repeat' split) <;> simp
@[simp] theorem State.takeGrant_arb (q : Requester) : (s.takeGrant q).arb = s.arb := by
  unfold State.takeGrant; (try dsimp only); (repeat' split) <;> simp
@[simp] theorem State.takeGrant_centre (q : Requester) : (s.takeGrant q).centre = s.centre := by
  unfold State.takeGrant; (try dsimp only); (repeat' split) <;> simp
@[simp] theorem State.takeGrant_rear (q : Requester) : (s.takeGrant q).rear = s.rear := by
  unfold State.takeGrant; (try dsimp only); (repeat' split) <;> simp
@[simp] theorem State.takeGrant_sets (q : Requester) : (s.takeGrant q).sets = s.sets := by
  unfold State.takeGrant; (try dsimp only); (repeat' split) <;> simp
@[simp] theorem State.takeGrant_mix (q : Requester) : (s.takeGrant q).mix = s.mix := by
  unfold State.takeGrant; (try dsimp only); (repeat' split) <;> simp
@[simp] theorem State.takeGrant_rvc (q : Requester) : (s.takeGrant q).rvc = s.rvc := by
  unfold State.takeGrant; (try dsimp only); (repeat' split) <;> simp
@[simp] theorem State.takeGrant_guide (q : Requester) : (s.takeGrant q).guide = s.guide := by
  unfold State.takeGrant; (try dsimp only); (repeat' split) <;> simp
@[simp] theorem State.takeGrant_link (q : Requester) : (s.takeGrant q).link = s.link := by
  unfold State.takeGrant; (try dsimp only); (repeat' split) <;> simp
@[simp] theorem State.takeGrant_chime (q : Requester) : (s.takeGrant q).chime = s.chime := by
  unfold State.takeGrant; (try dsimp only); (repeat' split) <;> simp
@[simp] theorem State.takeGrant_bl (q : Requester) : (s.takeGrant q).bl = s.bl := by
  unfold State.takeGrant; (try dsimp only); (repeat' split) <;> simp
@[simp] theorem State.takeGrant_pending (q : Requester) : (s.takeGrant q).pending = s.pending := by
  unfold State.takeGrant; (try dsimp only); (repeat' split) <;> simp

/-! ### State.grant -/

@[simp] theorem State.grant_pins (q : Requester) (b : Burst) : (s.grant q b).pins = s.pins := by
  unfold State.grant; (try dsimp only); (repeat' split) <;> simp
@[simp] theorem State.grant_boot (q : Requester) (b : Burst) : (s.grant q b).boot = s.boot := by
  unfold State.grant; (try dsimp only); (repeat' split) <;> simp
@[simp] theorem State.grant_tb (q : Requester) (b : Burst) : (s.grant q b).tb = s.tb := by
  unfold State.grant; (try dsimp only); (repeat' split) <;> simp
@[simp] theorem State.grant_centre (q : Requester) (b : Burst) : (s.grant q b).centre = s.centre := by
  unfold State.grant; (try dsimp only); (repeat' split) <;> simp
@[simp] theorem State.grant_rear (q : Requester) (b : Burst) : (s.grant q b).rear = s.rear := by
  unfold State.grant; (try dsimp only); (repeat' split) <;> simp
@[simp] theorem State.grant_sets (q : Requester) (b : Burst) : (s.grant q b).sets = s.sets := by
  unfold State.grant; (try dsimp only); (repeat' split) <;> simp
@[simp] theorem State.grant_mix (q : Requester) (b : Burst) : (s.grant q b).mix = s.mix := by
  unfold State.grant; (try dsimp only); (repeat' split) <;> simp
@[simp] theorem State.grant_rvc (q : Requester) (b : Burst) : (s.grant q b).rvc = s.rvc := by
  unfold State.grant; (try dsimp only); (repeat' split) <;> simp
@[simp] theorem State.grant_guide (q : Requester) (b : Burst) : (s.grant q b).guide = s.guide := by
  unfold State.grant; (try dsimp only); (repeat' split) <;> simp
@[simp] theorem State.grant_link (q : Requester) (b : Burst) : (s.grant q b).link = s.link := by
  unfold State.grant; (try dsimp only); (repeat' split) <;> simp
@[simp] theorem State.grant_chime (q : Requester) (b : Burst) : (s.grant q b).chime = s.chime := by
  unfold State.grant; (try dsimp only); (repeat' split) <;> simp
@[simp] theorem State.grant_bl (q : Requester) (b : Burst) : (s.grant q b).bl = s.bl := by
  unfold State.grant; (try dsimp only); (repeat' split) <;> simp
@[simp] theorem State.grant_pending (q : Requester) (b : Burst) : (s.grant q b).pending = s.pending := by
  unfold State.grant; (try dsimp only); (repeat' split) <;> simp

/-! ### State.chimeWrite -/

@[simp] theorem State.chimeWrite_pins (j : Nat) (n : BitVec 16) (a p : Nat) : (s.chimeWrite j n a p).pins = s.pins := by
  unfold State.chimeWrite; (try dsimp only); (repeat' split) <;> simp
@[simp] theorem State.chimeWrite_boot (j : Nat) (n : BitVec 16) (a p : Nat) : (s.chimeWrite j n a p).boot = s.boot := by
  unfold State.chimeWrite; (try dsimp only); (repeat' split) <;> simp
@[simp] theorem State.chimeWrite_tb (j : Nat) (n : BitVec 16) (a p : Nat) : (s.chimeWrite j n a p).tb = s.tb := by
  unfold State.chimeWrite; (try dsimp only); (repeat' split) <;> simp
@[simp] theorem State.chimeWrite_arb (j : Nat) (n : BitVec 16) (a p : Nat) : (s.chimeWrite j n a p).arb = s.arb := by
  unfold State.chimeWrite; (try dsimp only); (repeat' split) <;> simp
@[simp] theorem State.chimeWrite_disp (j : Nat) (n : BitVec 16) (a p : Nat) : (s.chimeWrite j n a p).disp = s.disp := by
  unfold State.chimeWrite; (try dsimp only); (repeat' split) <;> simp
@[simp] theorem State.chimeWrite_centre (j : Nat) (n : BitVec 16) (a p : Nat) : (s.chimeWrite j n a p).centre = s.centre := by
  unfold State.chimeWrite; (try dsimp only); (repeat' split) <;> simp
@[simp] theorem State.chimeWrite_rear (j : Nat) (n : BitVec 16) (a p : Nat) : (s.chimeWrite j n a p).rear = s.rear := by
  unfold State.chimeWrite; (try dsimp only); (repeat' split) <;> simp
@[simp] theorem State.chimeWrite_sets (j : Nat) (n : BitVec 16) (a p : Nat) : (s.chimeWrite j n a p).sets = s.sets := by
  unfold State.chimeWrite; (try dsimp only); (repeat' split) <;> simp
@[simp] theorem State.chimeWrite_aud (j : Nat) (n : BitVec 16) (a p : Nat) : (s.chimeWrite j n a p).aud = s.aud := by
  unfold State.chimeWrite; (try dsimp only); (repeat' split) <;> simp
@[simp] theorem State.chimeWrite_mix (j : Nat) (n : BitVec 16) (a p : Nat) : (s.chimeWrite j n a p).mix = s.mix := by
  unfold State.chimeWrite; (try dsimp only); (repeat' split) <;> simp
@[simp] theorem State.chimeWrite_cam (j : Nat) (n : BitVec 16) (a p : Nat) : (s.chimeWrite j n a p).cam = s.cam := by
  unfold State.chimeWrite; (try dsimp only); (repeat' split) <;> simp
@[simp] theorem State.chimeWrite_rvc (j : Nat) (n : BitVec 16) (a p : Nat) : (s.chimeWrite j n a p).rvc = s.rvc := by
  unfold State.chimeWrite; (try dsimp only); (repeat' split) <;> simp
@[simp] theorem State.chimeWrite_guide (j : Nat) (n : BitVec 16) (a p : Nat) : (s.chimeWrite j n a p).guide = s.guide := by
  unfold State.chimeWrite; (try dsimp only); (repeat' split) <;> simp
@[simp] theorem State.chimeWrite_link (j : Nat) (n : BitVec 16) (a p : Nat) : (s.chimeWrite j n a p).link = s.link := by
  unfold State.chimeWrite; (try dsimp only); (repeat' split) <;> simp
@[simp] theorem State.chimeWrite_bl (j : Nat) (n : BitVec 16) (a p : Nat) : (s.chimeWrite j n a p).bl = s.bl := by
  unfold State.chimeWrite; (try dsimp only); (repeat' split) <;> simp
@[simp] theorem State.chimeWrite_pending (j : Nat) (n : BitVec 16) (a p : Nat) : (s.chimeWrite j n a p).pending = s.pending := by
  unfold State.chimeWrite; (try dsimp only); (repeat' split) <;> simp

/-! ### State.notice -/

@[simp] theorem State.notice_pins (n : Notice) : (s.notice n).pins = s.pins := by
  unfold State.notice; (try dsimp only); (repeat' split) <;> simp
@[simp] theorem State.notice_boot (n : Notice) : (s.notice n).boot = s.boot := by
  unfold State.notice; (try dsimp only); (repeat' split) <;> simp
@[simp] theorem State.notice_tb (n : Notice) : (s.notice n).tb = s.tb := by
  unfold State.notice; (try dsimp only); (repeat' split) <;> simp
@[simp] theorem State.notice_arb (n : Notice) : (s.notice n).arb = s.arb := by
  unfold State.notice; (try dsimp only); (repeat' split) <;> simp
@[simp] theorem State.notice_disp (n : Notice) : (s.notice n).disp = s.disp := by
  unfold State.notice; (try dsimp only); (repeat' split) <;> simp
@[simp] theorem State.notice_centre (n : Notice) : (s.notice n).centre = s.centre := by
  unfold State.notice; (try dsimp only); (repeat' split) <;> simp
@[simp] theorem State.notice_mix (n : Notice) : (s.notice n).mix = s.mix := by
  unfold State.notice; (try dsimp only); (repeat' split) <;> simp
@[simp] theorem State.notice_cam (n : Notice) : (s.notice n).cam = s.cam := by
  unfold State.notice; (try dsimp only); (repeat' split) <;> simp
@[simp] theorem State.notice_rvc (n : Notice) : (s.notice n).rvc = s.rvc := by
  unfold State.notice; (try dsimp only); (repeat' split) <;> simp
@[simp] theorem State.notice_guide (n : Notice) : (s.notice n).guide = s.guide := by
  unfold State.notice; (try dsimp only); (repeat' split) <;> simp
@[simp] theorem State.notice_link (n : Notice) : (s.notice n).link = s.link := by
  unfold State.notice; (try dsimp only); (repeat' split) <;> simp
@[simp] theorem State.notice_bl (n : Notice) : (s.notice n).bl = s.bl := by
  unfold State.notice; (try dsimp only); (repeat' split) <;> simp
@[simp] theorem State.notice_pending (n : Notice) : (s.notice n).pending = s.pending := by
  unfold State.notice; (try dsimp only); (repeat' split) <;> simp

/-! ### State.notify -/

@[simp] theorem State.notify_pins (ns : List Notice) : (s.notify ns).pins = s.pins :=
  foldl_keeps _ (·.pins) (fun s a => State.notice_pins s a) _ _
@[simp] theorem State.notify_boot (ns : List Notice) : (s.notify ns).boot = s.boot :=
  foldl_keeps _ (·.boot) (fun s a => State.notice_boot s a) _ _
@[simp] theorem State.notify_tb (ns : List Notice) : (s.notify ns).tb = s.tb :=
  foldl_keeps _ (·.tb) (fun s a => State.notice_tb s a) _ _
@[simp] theorem State.notify_arb (ns : List Notice) : (s.notify ns).arb = s.arb :=
  foldl_keeps _ (·.arb) (fun s a => State.notice_arb s a) _ _
@[simp] theorem State.notify_disp (ns : List Notice) : (s.notify ns).disp = s.disp :=
  foldl_keeps _ (·.disp) (fun s a => State.notice_disp s a) _ _
@[simp] theorem State.notify_centre (ns : List Notice) : (s.notify ns).centre = s.centre :=
  foldl_keeps _ (·.centre) (fun s a => State.notice_centre s a) _ _
@[simp] theorem State.notify_mix (ns : List Notice) : (s.notify ns).mix = s.mix :=
  foldl_keeps _ (·.mix) (fun s a => State.notice_mix s a) _ _
@[simp] theorem State.notify_cam (ns : List Notice) : (s.notify ns).cam = s.cam :=
  foldl_keeps _ (·.cam) (fun s a => State.notice_cam s a) _ _
@[simp] theorem State.notify_rvc (ns : List Notice) : (s.notify ns).rvc = s.rvc :=
  foldl_keeps _ (·.rvc) (fun s a => State.notice_rvc s a) _ _
@[simp] theorem State.notify_guide (ns : List Notice) : (s.notify ns).guide = s.guide :=
  foldl_keeps _ (·.guide) (fun s a => State.notice_guide s a) _ _
@[simp] theorem State.notify_link (ns : List Notice) : (s.notify ns).link = s.link :=
  foldl_keeps _ (·.link) (fun s a => State.notice_link s a) _ _
@[simp] theorem State.notify_bl (ns : List Notice) : (s.notify ns).bl = s.bl :=
  foldl_keeps _ (·.bl) (fun s a => State.notice_bl s a) _ _
@[simp] theorem State.notify_pending (ns : List Notice) : (s.notify ns).pending = s.pending :=
  foldl_keeps _ (·.pending) (fun s a => State.notice_pending s a) _ _

/-! ### State.adoptStaged -/

@[simp] theorem State.adoptStaged_pins (d : Disp) : (s.adoptStaged d).pins = s.pins := by
  unfold State.adoptStaged; (try dsimp only); (repeat' split) <;> simp
@[simp] theorem State.adoptStaged_boot (d : Disp) : (s.adoptStaged d).boot = s.boot := by
  unfold State.adoptStaged; (try dsimp only); (repeat' split) <;> simp
@[simp] theorem State.adoptStaged_tb (d : Disp) : (s.adoptStaged d).tb = s.tb := by
  unfold State.adoptStaged; (try dsimp only); (repeat' split) <;> simp
@[simp] theorem State.adoptStaged_path (d : Disp) : (s.adoptStaged d).path = s.path := by
  unfold State.adoptStaged; (try dsimp only); (repeat' split) <;> simp
@[simp] theorem State.adoptStaged_arb (d : Disp) : (s.adoptStaged d).arb = s.arb := by
  unfold State.adoptStaged; (try dsimp only); (repeat' split) <;> simp
@[simp] theorem State.adoptStaged_centre (d : Disp) : (s.adoptStaged d).centre = s.centre := by
  unfold State.adoptStaged; (try dsimp only); (repeat' split) <;> simp
@[simp] theorem State.adoptStaged_rear (d : Disp) : (s.adoptStaged d).rear = s.rear := by
  unfold State.adoptStaged; (try dsimp only); (repeat' split) <;> simp
@[simp] theorem State.adoptStaged_sets (d : Disp) : (s.adoptStaged d).sets = s.sets := by
  unfold State.adoptStaged; (try dsimp only); (repeat' split) <;> simp
@[simp] theorem State.adoptStaged_aud (d : Disp) : (s.adoptStaged d).aud = s.aud := by
  unfold State.adoptStaged; (try dsimp only); (repeat' split) <;> simp
@[simp] theorem State.adoptStaged_mix (d : Disp) : (s.adoptStaged d).mix = s.mix := by
  unfold State.adoptStaged; (try dsimp only); (repeat' split) <;> simp
@[simp] theorem State.adoptStaged_cam (d : Disp) : (s.adoptStaged d).cam = s.cam := by
  unfold State.adoptStaged; (try dsimp only); (repeat' split) <;> simp
@[simp] theorem State.adoptStaged_rvc (d : Disp) : (s.adoptStaged d).rvc = s.rvc := by
  unfold State.adoptStaged; (try dsimp only); (repeat' split) <;> simp
@[simp] theorem State.adoptStaged_guide (d : Disp) : (s.adoptStaged d).guide = s.guide := by
  unfold State.adoptStaged; (try dsimp only); (repeat' split) <;> simp
@[simp] theorem State.adoptStaged_link (d : Disp) : (s.adoptStaged d).link = s.link := by
  unfold State.adoptStaged; (try dsimp only); (repeat' split) <;> simp
@[simp] theorem State.adoptStaged_chime (d : Disp) : (s.adoptStaged d).chime = s.chime := by
  unfold State.adoptStaged; (try dsimp only); (repeat' split) <;> simp
@[simp] theorem State.adoptStaged_load (d : Disp) : (s.adoptStaged d).load = s.load := by
  unfold State.adoptStaged; (try dsimp only); (repeat' split) <;> simp
@[simp] theorem State.adoptStaged_pending (d : Disp) : (s.adoptStaged d).pending = s.pending := by
  unfold State.adoptStaged; (try dsimp only); (repeat' split) <;> simp

/-! ### State.setView -/

@[simp] theorem State.setView_pins : (s.setView).pins = s.pins := by
  unfold State.setView; (try dsimp only); (repeat' split) <;> simp
@[simp] theorem State.setView_boot : (s.setView).boot = s.boot := by
  unfold State.setView; (try dsimp only); (repeat' split) <;> simp
@[simp] theorem State.setView_tb : (s.setView).tb = s.tb := by
  unfold State.setView; (try dsimp only); (repeat' split) <;> simp
@[simp] theorem State.setView_path : (s.setView).path = s.path := by
  unfold State.setView; (try dsimp only); (repeat' split) <;> simp
@[simp] theorem State.setView_arb : (s.setView).arb = s.arb := by
  unfold State.setView; (try dsimp only); (repeat' split) <;> simp
@[simp] theorem State.setView_disp : (s.setView).disp = s.disp := by
  unfold State.setView; (try dsimp only); (repeat' split) <;> simp
@[simp] theorem State.setView_rear : (s.setView).rear = s.rear := by
  unfold State.setView; (try dsimp only); (repeat' split) <;> simp
@[simp] theorem State.setView_sets : (s.setView).sets = s.sets := by
  unfold State.setView; (try dsimp only); (repeat' split) <;> simp
@[simp] theorem State.setView_aud : (s.setView).aud = s.aud := by
  unfold State.setView; (try dsimp only); (repeat' split) <;> simp
@[simp] theorem State.setView_mix : (s.setView).mix = s.mix := by
  unfold State.setView; (try dsimp only); (repeat' split) <;> simp
@[simp] theorem State.setView_cam : (s.setView).cam = s.cam := by
  unfold State.setView; (try dsimp only); (repeat' split) <;> simp
@[simp] theorem State.setView_rvc : (s.setView).rvc = s.rvc := by
  unfold State.setView; (try dsimp only); (repeat' split) <;> simp
@[simp] theorem State.setView_guide : (s.setView).guide = s.guide := by
  unfold State.setView; (try dsimp only); (repeat' split) <;> simp
@[simp] theorem State.setView_link : (s.setView).link = s.link := by
  unfold State.setView; (try dsimp only); (repeat' split) <;> simp
@[simp] theorem State.setView_chime : (s.setView).chime = s.chime := by
  unfold State.setView; (try dsimp only); (repeat' split) <;> simp
@[simp] theorem State.setView_load : (s.setView).load = s.load := by
  unfold State.setView; (try dsimp only); (repeat' split) <;> simp
@[simp] theorem State.setView_bl : (s.setView).bl = s.bl := by
  unfold State.setView; (try dsimp only); (repeat' split) <;> simp
@[simp] theorem State.setView_pending : (s.setView).pending = s.pending := by
  unfold State.setView; (try dsimp only); (repeat' split) <;> simp

/-! ### State.cameraWork -/

@[simp] theorem State.cameraWork_pins : (s.cameraWork).pins = s.pins := by
  unfold State.cameraWork; (try dsimp only); (repeat' split) <;> simp
@[simp] theorem State.cameraWork_boot : (s.cameraWork).boot = s.boot := by
  unfold State.cameraWork; (try dsimp only); (repeat' split) <;> simp
@[simp] theorem State.cameraWork_tb : (s.cameraWork).tb = s.tb := by
  unfold State.cameraWork; (try dsimp only); (repeat' split) <;> simp
@[simp] theorem State.cameraWork_path : (s.cameraWork).path = s.path := by
  unfold State.cameraWork; (try dsimp only); (repeat' split) <;> simp
@[simp] theorem State.cameraWork_arb : (s.cameraWork).arb = s.arb := by
  unfold State.cameraWork; (try dsimp only); (repeat' split) <;> simp
@[simp] theorem State.cameraWork_disp : (s.cameraWork).disp = s.disp := by
  unfold State.cameraWork; (try dsimp only); (repeat' split) <;> simp
@[simp] theorem State.cameraWork_centre : (s.cameraWork).centre = s.centre := by
  unfold State.cameraWork; (try dsimp only); (repeat' split) <;> simp
@[simp] theorem State.cameraWork_rear : (s.cameraWork).rear = s.rear := by
  unfold State.cameraWork; (try dsimp only); (repeat' split) <;> simp
@[simp] theorem State.cameraWork_sets : (s.cameraWork).sets = s.sets := by
  unfold State.cameraWork; (try dsimp only); (repeat' split) <;> simp
@[simp] theorem State.cameraWork_aud : (s.cameraWork).aud = s.aud := by
  unfold State.cameraWork; (try dsimp only); (repeat' split) <;> simp
@[simp] theorem State.cameraWork_mix : (s.cameraWork).mix = s.mix := by
  unfold State.cameraWork; (try dsimp only); (repeat' split) <;> simp
@[simp] theorem State.cameraWork_guide : (s.cameraWork).guide = s.guide := by
  unfold State.cameraWork; (try dsimp only); (repeat' split) <;> simp
@[simp] theorem State.cameraWork_link : (s.cameraWork).link = s.link := by
  unfold State.cameraWork; (try dsimp only); (repeat' split) <;> simp
@[simp] theorem State.cameraWork_chime : (s.cameraWork).chime = s.chime := by
  unfold State.cameraWork; (try dsimp only); (repeat' split) <;> simp
@[simp] theorem State.cameraWork_bl : (s.cameraWork).bl = s.bl := by
  unfold State.cameraWork; (try dsimp only); (repeat' split) <;> simp
@[simp] theorem State.cameraWork_pending : (s.cameraWork).pending = s.pending := by
  unfold State.cameraWork; (try dsimp only); (repeat' split) <;> simp

/-! ### State.decideQuality -/

@[simp] theorem State.decideQuality_pins (k : Seat) : (s.decideQuality k).pins = s.pins := by
  unfold State.decideQuality; (try dsimp only); (repeat' split) <;> simp
@[simp] theorem State.decideQuality_boot (k : Seat) : (s.decideQuality k).boot = s.boot := by
  unfold State.decideQuality; (try dsimp only); (repeat' split) <;> simp
@[simp] theorem State.decideQuality_tb (k : Seat) : (s.decideQuality k).tb = s.tb := by
  unfold State.decideQuality; (try dsimp only); (repeat' split) <;> simp
@[simp] theorem State.decideQuality_path (k : Seat) : (s.decideQuality k).path = s.path := by
  unfold State.decideQuality; (try dsimp only); (repeat' split) <;> simp
@[simp] theorem State.decideQuality_arb (k : Seat) : (s.decideQuality k).arb = s.arb := by
  unfold State.decideQuality; (try dsimp only); (repeat' split) <;> simp
@[simp] theorem State.decideQuality_disp (k : Seat) : (s.decideQuality k).disp = s.disp := by
  unfold State.decideQuality; (try dsimp only); (repeat' split) <;> simp
@[simp] theorem State.decideQuality_centre (k : Seat) : (s.decideQuality k).centre = s.centre := by
  unfold State.decideQuality; (try dsimp only); (repeat' split) <;> simp
@[simp] theorem State.decideQuality_sets (k : Seat) : (s.decideQuality k).sets = s.sets := by
  unfold State.decideQuality; (try dsimp only); (repeat' split) <;> simp
@[simp] theorem State.decideQuality_aud (k : Seat) : (s.decideQuality k).aud = s.aud := by
  unfold State.decideQuality; (try dsimp only); (repeat' split) <;> simp
@[simp] theorem State.decideQuality_mix (k : Seat) : (s.decideQuality k).mix = s.mix := by
  unfold State.decideQuality; (try dsimp only); (repeat' split) <;> simp
@[simp] theorem State.decideQuality_cam (k : Seat) : (s.decideQuality k).cam = s.cam := by
  unfold State.decideQuality; (try dsimp only); (repeat' split) <;> simp
@[simp] theorem State.decideQuality_rvc (k : Seat) : (s.decideQuality k).rvc = s.rvc := by
  unfold State.decideQuality; (try dsimp only); (repeat' split) <;> simp
@[simp] theorem State.decideQuality_guide (k : Seat) : (s.decideQuality k).guide = s.guide := by
  unfold State.decideQuality; (try dsimp only); (repeat' split) <;> simp
@[simp] theorem State.decideQuality_link (k : Seat) : (s.decideQuality k).link = s.link := by
  unfold State.decideQuality; (try dsimp only); (repeat' split) <;> simp
@[simp] theorem State.decideQuality_chime (k : Seat) : (s.decideQuality k).chime = s.chime := by
  unfold State.decideQuality; (try dsimp only); (repeat' split) <;> simp
@[simp] theorem State.decideQuality_load (k : Seat) : (s.decideQuality k).load = s.load := by
  unfold State.decideQuality; (try dsimp only); (repeat' split) <;> simp
@[simp] theorem State.decideQuality_bl (k : Seat) : (s.decideQuality k).bl = s.bl := by
  unfold State.decideQuality; (try dsimp only); (repeat' split) <;> simp
@[simp] theorem State.decideQuality_pending (k : Seat) : (s.decideQuality k).pending = s.pending := by
  unfold State.decideQuality; (try dsimp only); (repeat' split) <;> simp

/-! ### State.latchFrame -/

@[simp] theorem State.latchFrame_pins (d : Disp) (fr : FrameRecord) (flip : Bool) : (s.latchFrame d fr flip).pins = s.pins := by
  unfold State.latchFrame; (try dsimp only); (repeat' split) <;> simp
@[simp] theorem State.latchFrame_boot (d : Disp) (fr : FrameRecord) (flip : Bool) : (s.latchFrame d fr flip).boot = s.boot := by
  unfold State.latchFrame; (try dsimp only); (repeat' split) <;> simp
@[simp] theorem State.latchFrame_tb (d : Disp) (fr : FrameRecord) (flip : Bool) : (s.latchFrame d fr flip).tb = s.tb := by
  unfold State.latchFrame; (try dsimp only); (repeat' split) <;> simp
@[simp] theorem State.latchFrame_path (d : Disp) (fr : FrameRecord) (flip : Bool) : (s.latchFrame d fr flip).path = s.path := by
  unfold State.latchFrame; (try dsimp only); (repeat' split) <;> simp
@[simp] theorem State.latchFrame_arb (d : Disp) (fr : FrameRecord) (flip : Bool) : (s.latchFrame d fr flip).arb = s.arb := by
  unfold State.latchFrame; (try dsimp only); (repeat' split) <;> simp
@[simp] theorem State.latchFrame_rear (d : Disp) (fr : FrameRecord) (flip : Bool) : (s.latchFrame d fr flip).rear = s.rear := by
  unfold State.latchFrame; (try dsimp only); (repeat' split) <;> simp
@[simp] theorem State.latchFrame_sets (d : Disp) (fr : FrameRecord) (flip : Bool) : (s.latchFrame d fr flip).sets = s.sets := by
  unfold State.latchFrame; (try dsimp only); (repeat' split) <;> simp
@[simp] theorem State.latchFrame_aud (d : Disp) (fr : FrameRecord) (flip : Bool) : (s.latchFrame d fr flip).aud = s.aud := by
  unfold State.latchFrame; (try dsimp only); (repeat' split) <;> simp
@[simp] theorem State.latchFrame_mix (d : Disp) (fr : FrameRecord) (flip : Bool) : (s.latchFrame d fr flip).mix = s.mix := by
  unfold State.latchFrame; (try dsimp only); (repeat' split) <;> simp
@[simp] theorem State.latchFrame_cam (d : Disp) (fr : FrameRecord) (flip : Bool) : (s.latchFrame d fr flip).cam = s.cam := by
  unfold State.latchFrame; (try dsimp only); (repeat' split) <;> simp
@[simp] theorem State.latchFrame_rvc (d : Disp) (fr : FrameRecord) (flip : Bool) : (s.latchFrame d fr flip).rvc = s.rvc := by
  unfold State.latchFrame; (try dsimp only); (repeat' split) <;> simp
@[simp] theorem State.latchFrame_guide (d : Disp) (fr : FrameRecord) (flip : Bool) : (s.latchFrame d fr flip).guide = s.guide := by
  unfold State.latchFrame; (try dsimp only); (repeat' split) <;> simp
@[simp] theorem State.latchFrame_link (d : Disp) (fr : FrameRecord) (flip : Bool) : (s.latchFrame d fr flip).link = s.link := by
  unfold State.latchFrame; (try dsimp only); (repeat' split) <;> simp
@[simp] theorem State.latchFrame_chime (d : Disp) (fr : FrameRecord) (flip : Bool) : (s.latchFrame d fr flip).chime = s.chime := by
  unfold State.latchFrame; (try dsimp only); (repeat' split) <;> simp
@[simp] theorem State.latchFrame_load (d : Disp) (fr : FrameRecord) (flip : Bool) : (s.latchFrame d fr flip).load = s.load := by
  unfold State.latchFrame; (try dsimp only); (repeat' split) <;> simp
@[simp] theorem State.latchFrame_bl (d : Disp) (fr : FrameRecord) (flip : Bool) : (s.latchFrame d fr flip).bl = s.bl := by
  unfold State.latchFrame; (try dsimp only); (repeat' split) <;> simp
@[simp] theorem State.latchFrame_pending (d : Disp) (fr : FrameRecord) (flip : Bool) : (s.latchFrame d fr flip).pending = s.pending := by
  unfold State.latchFrame; (try dsimp only); (repeat' split) <;> simp

/-! ### State.startReferenceBlocks -/

@[simp] theorem State.startReferenceBlocks_pins : (s.startReferenceBlocks).pins = s.pins := by
  unfold State.startReferenceBlocks; (try dsimp only); (repeat' split) <;> simp
@[simp] theorem State.startReferenceBlocks_boot : (s.startReferenceBlocks).boot = s.boot := by
  unfold State.startReferenceBlocks; (try dsimp only); (repeat' split) <;> simp
@[simp] theorem State.startReferenceBlocks_path : (s.startReferenceBlocks).path = s.path := by
  unfold State.startReferenceBlocks; (try dsimp only); (repeat' split) <;> simp
@[simp] theorem State.startReferenceBlocks_arb : (s.startReferenceBlocks).arb = s.arb := by
  unfold State.startReferenceBlocks; (try dsimp only); (repeat' split) <;> simp
@[simp] theorem State.startReferenceBlocks_disp : (s.startReferenceBlocks).disp = s.disp := by
  unfold State.startReferenceBlocks; (try dsimp only); (repeat' split) <;> simp
@[simp] theorem State.startReferenceBlocks_centre : (s.startReferenceBlocks).centre = s.centre := by
  unfold State.startReferenceBlocks; (try dsimp only); (repeat' split) <;> simp
@[simp] theorem State.startReferenceBlocks_rear : (s.startReferenceBlocks).rear = s.rear := by
  unfold State.startReferenceBlocks; (try dsimp only); (repeat' split) <;> simp
@[simp] theorem State.startReferenceBlocks_sets : (s.startReferenceBlocks).sets = s.sets := by
  unfold State.startReferenceBlocks; (try dsimp only); (repeat' split) <;> simp
@[simp] theorem State.startReferenceBlocks_mix : (s.startReferenceBlocks).mix = s.mix := by
  unfold State.startReferenceBlocks; (try dsimp only); (repeat' split) <;> simp
@[simp] theorem State.startReferenceBlocks_cam : (s.startReferenceBlocks).cam = s.cam := by
  unfold State.startReferenceBlocks; (try dsimp only); (repeat' split) <;> simp
@[simp] theorem State.startReferenceBlocks_guide : (s.startReferenceBlocks).guide = s.guide := by
  unfold State.startReferenceBlocks; (try dsimp only); (repeat' split) <;> simp
@[simp] theorem State.startReferenceBlocks_link : (s.startReferenceBlocks).link = s.link := by
  unfold State.startReferenceBlocks; (try dsimp only); (repeat' split) <;> simp
@[simp] theorem State.startReferenceBlocks_chime : (s.startReferenceBlocks).chime = s.chime := by
  unfold State.startReferenceBlocks; (try dsimp only); (repeat' split) <;> simp
@[simp] theorem State.startReferenceBlocks_bl : (s.startReferenceBlocks).bl = s.bl := by
  unfold State.startReferenceBlocks; (try dsimp only); (repeat' split) <;> simp
@[simp] theorem State.startReferenceBlocks_pending : (s.startReferenceBlocks).pending = s.pending := by
  unfold State.startReferenceBlocks; (try dsimp only); (repeat' split) <;> simp

/-! ### State.profileFault -/

@[simp] theorem State.profileFault_pins (why : ProfileState) : (s.profileFault why).pins = s.pins := by
  unfold State.profileFault; (try dsimp only); (repeat' split) <;> simp
@[simp] theorem State.profileFault_tb (why : ProfileState) : (s.profileFault why).tb = s.tb := by
  unfold State.profileFault; (try dsimp only); (repeat' split) <;> simp
@[simp] theorem State.profileFault_path (why : ProfileState) : (s.profileFault why).path = s.path := by
  unfold State.profileFault; (try dsimp only); (repeat' split) <;> simp
@[simp] theorem State.profileFault_arb (why : ProfileState) : (s.profileFault why).arb = s.arb := by
  unfold State.profileFault; (try dsimp only); (repeat' split) <;> simp
@[simp] theorem State.profileFault_disp (why : ProfileState) : (s.profileFault why).disp = s.disp := by
  unfold State.profileFault; (try dsimp only); (repeat' split) <;> simp
@[simp] theorem State.profileFault_centre (why : ProfileState) : (s.profileFault why).centre = s.centre := by
  unfold State.profileFault; (try dsimp only); (repeat' split) <;> simp
@[simp] theorem State.profileFault_rear (why : ProfileState) : (s.profileFault why).rear = s.rear := by
  unfold State.profileFault; (try dsimp only); (repeat' split) <;> simp
@[simp] theorem State.profileFault_sets (why : ProfileState) : (s.profileFault why).sets = s.sets := by
  unfold State.profileFault; (try dsimp only); (repeat' split) <;> simp
@[simp] theorem State.profileFault_aud (why : ProfileState) : (s.profileFault why).aud = s.aud := by
  unfold State.profileFault; (try dsimp only); (repeat' split) <;> simp
@[simp] theorem State.profileFault_mix (why : ProfileState) : (s.profileFault why).mix = s.mix := by
  unfold State.profileFault; (try dsimp only); (repeat' split) <;> simp
@[simp] theorem State.profileFault_cam (why : ProfileState) : (s.profileFault why).cam = s.cam := by
  unfold State.profileFault; (try dsimp only); (repeat' split) <;> simp
@[simp] theorem State.profileFault_rvc (why : ProfileState) : (s.profileFault why).rvc = s.rvc := by
  unfold State.profileFault; (try dsimp only); (repeat' split) <;> simp
@[simp] theorem State.profileFault_guide (why : ProfileState) : (s.profileFault why).guide = s.guide := by
  unfold State.profileFault; (try dsimp only); (repeat' split) <;> simp
@[simp] theorem State.profileFault_link (why : ProfileState) : (s.profileFault why).link = s.link := by
  unfold State.profileFault; (try dsimp only); (repeat' split) <;> simp
@[simp] theorem State.profileFault_chime (why : ProfileState) : (s.profileFault why).chime = s.chime := by
  unfold State.profileFault; (try dsimp only); (repeat' split) <;> simp
@[simp] theorem State.profileFault_bl (why : ProfileState) : (s.profileFault why).bl = s.bl := by
  unfold State.profileFault; (try dsimp only); (repeat' split) <;> simp
@[simp] theorem State.profileFault_pending (why : ProfileState) : (s.profileFault why).pending = s.pending := by
  unfold State.profileFault; (try dsimp only); (repeat' split) <;> simp

/-! ### State.defineCamera -/

@[simp] theorem State.defineCamera_pins (c : CamRegion) : (s.defineCamera c).pins = s.pins := by
  unfold State.defineCamera; (try dsimp only); (repeat' split) <;> simp
@[simp] theorem State.defineCamera_boot (c : CamRegion) : (s.defineCamera c).boot = s.boot := by
  unfold State.defineCamera; (try dsimp only); (repeat' split) <;> simp
@[simp] theorem State.defineCamera_tb (c : CamRegion) : (s.defineCamera c).tb = s.tb := by
  unfold State.defineCamera; (try dsimp only); (repeat' split) <;> simp
@[simp] theorem State.defineCamera_centre (c : CamRegion) : (s.defineCamera c).centre = s.centre := by
  unfold State.defineCamera; (try dsimp only); (repeat' split) <;> simp
@[simp] theorem State.defineCamera_mix (c : CamRegion) : (s.defineCamera c).mix = s.mix := by
  unfold State.defineCamera; (try dsimp only); (repeat' split) <;> simp
@[simp] theorem State.defineCamera_cam (c : CamRegion) : (s.defineCamera c).cam = s.cam := by
  unfold State.defineCamera; (try dsimp only); (repeat' split) <;> simp
@[simp] theorem State.defineCamera_rvc (c : CamRegion) : (s.defineCamera c).rvc = s.rvc := by
  unfold State.defineCamera; (try dsimp only); (repeat' split) <;> simp
@[simp] theorem State.defineCamera_guide (c : CamRegion) : (s.defineCamera c).guide = s.guide := by
  unfold State.defineCamera; (try dsimp only); (repeat' split) <;> simp
@[simp] theorem State.defineCamera_link (c : CamRegion) : (s.defineCamera c).link = s.link := by
  unfold State.defineCamera; (try dsimp only); (repeat' split) <;> simp
@[simp] theorem State.defineCamera_chime (c : CamRegion) : (s.defineCamera c).chime = s.chime := by
  unfold State.defineCamera; (try dsimp only); (repeat' split) <;> simp
@[simp] theorem State.defineCamera_load (c : CamRegion) : (s.defineCamera c).load = s.load := by
  unfold State.defineCamera; (try dsimp only); (repeat' split) <;> simp
@[simp] theorem State.defineCamera_bl (c : CamRegion) : (s.defineCamera c).bl = s.bl := by
  unfold State.defineCamera; (try dsimp only); (repeat' split) <;> simp
@[simp] theorem State.defineCamera_pending (c : CamRegion) : (s.defineCamera c).pending = s.pending := by
  unfold State.defineCamera; (try dsimp only); (repeat' split) <;> simp

/-! ### State.startDisplay -/

@[simp] theorem State.startDisplay_pins (d : Disp) (t : DispTiming) : (s.startDisplay d t).pins = s.pins := by
  unfold State.startDisplay; (try dsimp only); (repeat' split) <;> simp
@[simp] theorem State.startDisplay_boot (d : Disp) (t : DispTiming) : (s.startDisplay d t).boot = s.boot := by
  unfold State.startDisplay; (try dsimp only); (repeat' split) <;> simp
@[simp] theorem State.startDisplay_tb (d : Disp) (t : DispTiming) : (s.startDisplay d t).tb = s.tb := by
  unfold State.startDisplay; (try dsimp only); (repeat' split) <;> simp
@[simp] theorem State.startDisplay_path (d : Disp) (t : DispTiming) : (s.startDisplay d t).path = s.path := by
  unfold State.startDisplay; (try dsimp only); (repeat' split) <;> simp
@[simp] theorem State.startDisplay_arb (d : Disp) (t : DispTiming) : (s.startDisplay d t).arb = s.arb := by
  unfold State.startDisplay; (try dsimp only); (repeat' split) <;> simp
@[simp] theorem State.startDisplay_rear (d : Disp) (t : DispTiming) : (s.startDisplay d t).rear = s.rear := by
  unfold State.startDisplay; (try dsimp only); (repeat' split) <;> simp
@[simp] theorem State.startDisplay_sets (d : Disp) (t : DispTiming) : (s.startDisplay d t).sets = s.sets := by
  unfold State.startDisplay; (try dsimp only); (repeat' split) <;> simp
@[simp] theorem State.startDisplay_aud (d : Disp) (t : DispTiming) : (s.startDisplay d t).aud = s.aud := by
  unfold State.startDisplay; (try dsimp only); (repeat' split) <;> simp
@[simp] theorem State.startDisplay_mix (d : Disp) (t : DispTiming) : (s.startDisplay d t).mix = s.mix := by
  unfold State.startDisplay; (try dsimp only); (repeat' split) <;> simp
@[simp] theorem State.startDisplay_cam (d : Disp) (t : DispTiming) : (s.startDisplay d t).cam = s.cam := by
  unfold State.startDisplay; (try dsimp only); (repeat' split) <;> simp
@[simp] theorem State.startDisplay_rvc (d : Disp) (t : DispTiming) : (s.startDisplay d t).rvc = s.rvc := by
  unfold State.startDisplay; (try dsimp only); (repeat' split) <;> simp
@[simp] theorem State.startDisplay_guide (d : Disp) (t : DispTiming) : (s.startDisplay d t).guide = s.guide := by
  unfold State.startDisplay; (try dsimp only); (repeat' split) <;> simp
@[simp] theorem State.startDisplay_link (d : Disp) (t : DispTiming) : (s.startDisplay d t).link = s.link := by
  unfold State.startDisplay; (try dsimp only); (repeat' split) <;> simp
@[simp] theorem State.startDisplay_chime (d : Disp) (t : DispTiming) : (s.startDisplay d t).chime = s.chime := by
  unfold State.startDisplay; (try dsimp only); (repeat' split) <;> simp
@[simp] theorem State.startDisplay_pending (d : Disp) (t : DispTiming) : (s.startDisplay d t).pending = s.pending := by
  unfold State.startDisplay; (try dsimp only); (repeat' split) <;> simp

/-! ### State.startProfileBlocks -/

@[simp] theorem State.startProfileBlocks_pins (p : Profile) : (s.startProfileBlocks p).pins = s.pins := by
  unfold State.startProfileBlocks; (try dsimp only); (repeat' split) <;> simp
@[simp] theorem State.startProfileBlocks_tb (p : Profile) : (s.startProfileBlocks p).tb = s.tb := by
  unfold State.startProfileBlocks; (try dsimp only); (repeat' split) <;> simp
@[simp] theorem State.startProfileBlocks_path (p : Profile) : (s.startProfileBlocks p).path = s.path := by
  unfold State.startProfileBlocks; (try dsimp only); (repeat' split) <;> simp
@[simp] theorem State.startProfileBlocks_arb (p : Profile) : (s.startProfileBlocks p).arb = s.arb := by
  unfold State.startProfileBlocks; (try dsimp only); (repeat' split) <;> simp
@[simp] theorem State.startProfileBlocks_rear (p : Profile) : (s.startProfileBlocks p).rear = s.rear := by
  unfold State.startProfileBlocks; (try dsimp only); (repeat' split) <;> simp
@[simp] theorem State.startProfileBlocks_sets (p : Profile) : (s.startProfileBlocks p).sets = s.sets := by
  unfold State.startProfileBlocks; (try dsimp only); (repeat' split) <;> simp
@[simp] theorem State.startProfileBlocks_aud (p : Profile) : (s.startProfileBlocks p).aud = s.aud := by
  unfold State.startProfileBlocks; (try dsimp only); (repeat' split) <;> simp
@[simp] theorem State.startProfileBlocks_mix (p : Profile) : (s.startProfileBlocks p).mix = s.mix := by
  unfold State.startProfileBlocks; (try dsimp only); (repeat' split) <;> simp
@[simp] theorem State.startProfileBlocks_rvc (p : Profile) : (s.startProfileBlocks p).rvc = s.rvc := by
  unfold State.startProfileBlocks; (try dsimp only); (repeat' split) <;> simp
@[simp] theorem State.startProfileBlocks_guide (p : Profile) : (s.startProfileBlocks p).guide = s.guide := by
  unfold State.startProfileBlocks; (try dsimp only); (repeat' split) <;> simp
@[simp] theorem State.startProfileBlocks_pending (p : Profile) : (s.startProfileBlocks p).pending = s.pending := by
  unfold State.startProfileBlocks; (try dsimp only); (repeat' split) <;> simp

/-! ### State.resetDuty -/

@[simp] theorem State.resetDuty_pins (d : Disp) : (s.resetDuty d).pins = s.pins := by
  unfold State.resetDuty; (try dsimp only); (repeat' split) <;> simp
@[simp] theorem State.resetDuty_boot (d : Disp) : (s.resetDuty d).boot = s.boot := by
  unfold State.resetDuty; (try dsimp only); (repeat' split) <;> simp
@[simp] theorem State.resetDuty_tb (d : Disp) : (s.resetDuty d).tb = s.tb := by
  unfold State.resetDuty; (try dsimp only); (repeat' split) <;> simp
@[simp] theorem State.resetDuty_path (d : Disp) : (s.resetDuty d).path = s.path := by
  unfold State.resetDuty; (try dsimp only); (repeat' split) <;> simp
@[simp] theorem State.resetDuty_arb (d : Disp) : (s.resetDuty d).arb = s.arb := by
  unfold State.resetDuty; (try dsimp only); (repeat' split) <;> simp
@[simp] theorem State.resetDuty_disp (d : Disp) : (s.resetDuty d).disp = s.disp := by
  unfold State.resetDuty; (try dsimp only); (repeat' split) <;> simp
@[simp] theorem State.resetDuty_centre (d : Disp) : (s.resetDuty d).centre = s.centre := by
  unfold State.resetDuty; (try dsimp only); (repeat' split) <;> simp
@[simp] theorem State.resetDuty_rear (d : Disp) : (s.resetDuty d).rear = s.rear := by
  unfold State.resetDuty; (try dsimp only); (repeat' split) <;> simp
@[simp] theorem State.resetDuty_sets (d : Disp) : (s.resetDuty d).sets = s.sets := by
  unfold State.resetDuty; (try dsimp only); (repeat' split) <;> simp
@[simp] theorem State.resetDuty_aud (d : Disp) : (s.resetDuty d).aud = s.aud := by
  unfold State.resetDuty; (try dsimp only); (repeat' split) <;> simp
@[simp] theorem State.resetDuty_mix (d : Disp) : (s.resetDuty d).mix = s.mix := by
  unfold State.resetDuty; (try dsimp only); (repeat' split) <;> simp
@[simp] theorem State.resetDuty_cam (d : Disp) : (s.resetDuty d).cam = s.cam := by
  unfold State.resetDuty; (try dsimp only); (repeat' split) <;> simp
@[simp] theorem State.resetDuty_rvc (d : Disp) : (s.resetDuty d).rvc = s.rvc := by
  unfold State.resetDuty; (try dsimp only); (repeat' split) <;> simp
@[simp] theorem State.resetDuty_guide (d : Disp) : (s.resetDuty d).guide = s.guide := by
  unfold State.resetDuty; (try dsimp only); (repeat' split) <;> simp
@[simp] theorem State.resetDuty_link (d : Disp) : (s.resetDuty d).link = s.link := by
  unfold State.resetDuty; (try dsimp only); (repeat' split) <;> simp
@[simp] theorem State.resetDuty_chime (d : Disp) : (s.resetDuty d).chime = s.chime := by
  unfold State.resetDuty; (try dsimp only); (repeat' split) <;> simp
@[simp] theorem State.resetDuty_load (d : Disp) : (s.resetDuty d).load = s.load := by
  unfold State.resetDuty; (try dsimp only); (repeat' split) <;> simp
@[simp] theorem State.resetDuty_pending (d : Disp) : (s.resetDuty d).pending = s.pending := by
  unfold State.resetDuty; (try dsimp only); (repeat' split) <;> simp

/-! ### State.applyHostReset -/

@[simp] theorem State.applyHostReset_pins : (s.applyHostReset).pins = s.pins := by
  unfold State.applyHostReset; (try dsimp only); (repeat' split) <;> simp
@[simp] theorem State.applyHostReset_boot : (s.applyHostReset).boot = s.boot := by
  unfold State.applyHostReset; (try dsimp only); (repeat' split) <;> simp
@[simp] theorem State.applyHostReset_centre : (s.applyHostReset).centre = s.centre := by
  unfold State.applyHostReset; (try dsimp only); (repeat' split) <;> simp
@[simp] theorem State.applyHostReset_tb : (s.applyHostReset).tb = s.tb := by
  unfold State.applyHostReset; (try dsimp only); (repeat' split) <;> simp
@[simp] theorem State.applyHostReset_cam : (s.applyHostReset).cam = s.cam := by
  unfold State.applyHostReset; (try dsimp only); (repeat' split) <;> simp
@[simp] theorem State.applyHostReset_rvc : (s.applyHostReset).rvc = s.rvc := by
  unfold State.applyHostReset; (try dsimp only); (repeat' split) <;> simp
@[simp] theorem State.applyHostReset_guide : (s.applyHostReset).guide = s.guide := by
  unfold State.applyHostReset; (try dsimp only); (repeat' split) <;> simp
@[simp] theorem State.applyHostReset_link : (s.applyHostReset).link = s.link := by
  unfold State.applyHostReset; (try dsimp only); (repeat' split) <;> simp
@[simp] theorem State.applyHostReset_pending : (s.applyHostReset).pending = s.pending := by
  unfold State.applyHostReset; (try dsimp only); (repeat' split) <;> simp

end Sys2Proof.Machine
end

