-- ==== Sys2Proof/Laws/Execs.lean ====
section
/-! SUPPORT. What each command leaves unchanged: one lemma per command, so that a proof over all commands reads the
fields a command does not touch without unfolding it. POWER_ON_RESET touches every field but the pins and the queue
and has no lemma here. -/

namespace Sys2Proof.Machine

open Sys2Proof

variable {s t : State}

theorem execPornRelease_frame (n : BitVec 3) (h : execPornRelease n s = .next t) :
    t = { s with boot := t.boot } := by
  unfold execPornRelease at h
  (repeat' split at h) <;> (injection h with h; subst h; simp [State.ext_fields])

theorem execHostReset_frame (h : execHostReset s = .next t) :
    t = { s with
          pins := t.pins, path := t.path, arb := t.arb, disp := t.disp, rear := t.rear, sets := t.sets,
          aud := t.aud, mix := t.mix, chime := t.chime, load := t.load, bl := t.bl } := by
  unfold execHostReset at h; dsimp only at h
  (repeat' split at h) <;> (injection h with h; subst h; simp [State.ext_fields])

theorem execHostResetRelease_frame (h : execHostResetRelease s = .next t) :
    t = { s with pins := t.pins } := by
  unfold execHostResetRelease at h
  injection h with h; subst h; simp [State.ext_fields]

theorem execClockCheckEnd_frame (e : Nat) (h : execClockCheckEnd e s = .next t) :
    t = { s with
          boot := t.boot, tb := t.tb, disp := t.disp, aud := t.aud, cam := t.cam, rvc := t.rvc, guide := t.guide,
          link := t.link, load := t.load, bl := t.bl } := by
  unfold execClockCheckEnd at h; dsimp only at h
  (repeat' split at h) <;> (injection h with h; subst h; simp [State.ext_fields])

theorem execProfileLengthRead_frame (b0 b1 : Byte) (h : execProfileLengthRead b0 b1 s = .next t) :
    t = { s with boot := t.boot, load := t.load } := by
  unfold execProfileLengthRead at h; dsimp only at h
  (repeat' split at h) <;> (injection h with h; subst h; simp [State.ext_fields])

theorem execProfileReadDone_frame (rest : List Byte) (h : execProfileReadDone rest s = .next t) :
    t = { s with boot := t.boot, load := t.load } := by
  unfold execProfileReadDone at h; dsimp only at h
  (repeat' split at h) <;> first | (injection h with h; subst h; simp [State.ext_fields]) | cases h

theorem execCameraRegionDefine_frame (h : execCameraRegionDefine s = .next t) :
    t = { s with
          boot := t.boot, path := t.path, arb := t.arb, disp := t.disp, centre := t.centre, rear := t.rear, sets := t.sets,
          aud := t.aud, cam := t.cam, link := t.link, chime := t.chime, load := t.load, bl := t.bl } := by
  unfold execCameraRegionDefine at h; dsimp only at h
  (repeat' split at h) <;> (injection h with h; subst h; simp [State.ext_fields])

theorem execTbTick_frame (h : execTbTick s = .next t) :
    t = { s with tb := t.tb, rvc := t.rvc, link := t.link, load := t.load } := by
  unfold execTbTick at h; dsimp only at h
  (repeat' split at h) <;> (injection h with h; subst h; simp [State.ext_fields])

theorem execHostRequest_frame (q : HostReq) (h : execHostRequest q s = .next t) :
    t = { s with path := t.path } := by
  unfold execHostRequest at h
  (repeat' split at h) <;> first | (injection h with h; subst h; simp [State.ext_fields]) | cases h

theorem execArbGrant_frame (h : execArbGrant s = .next t) :
    t = { s with path := t.path, arb := t.arb, disp := t.disp, aud := t.aud, cam := t.cam, load := t.load } := by
  unfold execArbGrant at h
  (repeat' split at h) <;> (injection h with h; subst h; simp [State.ext_fields])

theorem execBurstHandoverDone_frame (h : execBurstHandoverDone s = .next t) :
    t = { s with arb := t.arb, cam := t.cam } := by
  unfold execBurstHandoverDone at h
  (repeat' split at h) <;> (injection h with h; subst h; simp [State.ext_fields])

theorem execHostPieceDrop_frame (h : execHostPieceDrop s = .next t) :
    t = { s with path := t.path, load := t.load } := by
  unfold execHostPieceDrop at h
  (repeat' split at h) <;> (injection h with h; subst h; simp [State.ext_fields])

theorem execHostPieceComplete_frame (r : Reply) (h : execHostPieceComplete r s = .next t) :
    t = { s with
          path := t.path, arb := t.arb, rear := t.rear, sets := t.sets, aud := t.aud, chime := t.chime, load := t.load,
           } := by
  unfold execHostPieceComplete at h; dsimp only at h
  (repeat' split at h) <;> first | (injection h with h; subst h; simp [State.ext_fields]) | cases h

theorem execLoadReadBurstComplete_frame (r : Reply) (h : execLoadReadBurstComplete r s = .next t) :
    t = { s with path := t.path, arb := t.arb, load := t.load } := by
  unfold execLoadReadBurstComplete at h; dsimp only at h
  (repeat' split at h) <;> first | (injection h with h; subst h; simp [State.ext_fields]) | cases h

theorem execLoadRereadComplete_frame (r : Reply) (h : execLoadRereadComplete r s = .next t) :
    t = { s with path := t.path, arb := t.arb, load := t.load } := by
  unfold execLoadRereadComplete at h; dsimp only at h
  (repeat' split at h) <;> first | (injection h with h; subst h; simp [State.ext_fields]) | cases h

theorem execLoadCheck_frame (h : execLoadCheck s = .next t) :
    t = { s with
          path := t.path, arb := t.arb, disp := t.disp, rear := t.rear, sets := t.sets, aud := t.aud, mix := t.mix,
          load := t.load, bl := t.bl } := by
  unfold execLoadCheck at h
  split at h
  · simp only [Host.Outcome.next.injEq] at h
    have hp := congrArg (·.pins) h; have hb := congrArg (·.boot) h; have ht := congrArg (·.tb) h
    have hc := congrArg (·.centre) h; have hm := congrArg (·.cam) h; have hr := congrArg (·.rvc) h
    have hg := congrArg (·.guide) h; have hl := congrArg (·.link) h; have hh := congrArg (·.chime) h
    have hq := congrArg (·.pending) h
    clear h
    simp only [State.endChecking_pins, State.endChecking_boot, State.endChecking_tb, State.endChecking_centre,
      State.endChecking_cam, State.endChecking_rvc, State.endChecking_guide, State.endChecking_link,
      State.endChecking_chime, State.endChecking_pending] at hp hb ht hc hm hr hg hl hh hq
    simp [State.ext_fields, ← hp, ← hb, ← ht, ← hc, ← hm, ← hr, ← hg, ← hl, ← hh, ← hq]
  · simp only [Host.Outcome.next.injEq] at h
    subst h; rfl

theorem execReportTick_frame (h : execReportTick s = .next t) :
    t = { s with load := t.load } := by
  unfold execReportTick at h
  (repeat' split at h) <;> (injection h with h; subst h; simp [State.ext_fields])

theorem execReportBurstComplete_frame (err : Bool) (h : execReportBurstComplete err s = .next t) :
    t = { s with path := t.path, arb := t.arb, load := t.load } := by
  unfold execReportBurstComplete at h; dsimp only at h
  (repeat' split at h) <;> (injection h with h; subst h; simp [State.ext_fields])

theorem execCentreBlankEvent_frame (h : execCentreBlankEvent s = .next t) :
    t = { s with
          disp := t.disp, centre := t.centre, cam := t.cam, rvc := t.rvc, guide := t.guide, load := t.load, bl := t.bl,
           } := by
  unfold execCentreBlankEvent at h; dsimp only at h
  (repeat' split at h) <;> (injection h with h; subst h; simp [State.ext_fields])

theorem execCentreActiveEvent_frame (h : execCentreActiveEvent s = .next t) :
    t = { s with disp := t.disp, centre := t.centre, guide := t.guide } := by
  unfold execCentreActiveEvent at h; dsimp only at h
  (repeat' split at h) <;> (injection h with h; subst h; simp [State.ext_fields])

theorem execGuideBuildComplete_frame (h : execGuideBuildComplete s = .next t) :
    t = { s with guide := t.guide } := by
  unfold execGuideBuildComplete at h
  injection h with h; subst h; simp [State.ext_fields]

theorem execRearBlankEvent_frame (k : Seat) (h : execRearBlankEvent k s = .next t) :
    t = { s with disp := t.disp, centre := t.centre, rear := t.rear, sets := t.sets, bl := t.bl } := by
  unfold execRearBlankEvent at h; dsimp only at h
  (repeat' split at h) <;> (injection h with h; subst h; simp [State.ext_fields])

theorem execRearActiveEvent_frame (k : Seat) (h : execRearActiveEvent k s = .next t) :
    t = { s with disp := t.disp } := by
  unfold execRearActiveEvent at h; dsimp only at h
  (repeat' split at h) <;> (injection h with h; subst h; simp [State.ext_fields])

theorem execDisplayLineEnd_frame (d : Disp) (h : execDisplayLineEnd d s = .next t) :
    t = { s with disp := t.disp, centre := t.centre } := by
  unfold execDisplayLineEnd at h; dsimp only at h
  (repeat' split at h) <;> (injection h with h; subst h; simp [State.ext_fields])

theorem execLayerUnderrun_frame (d : Disp) (l : LayerId) (col : Nat) (h : execLayerUnderrun d l col s = .next t) :
    t = { s with disp := t.disp, centre := t.centre } := by
  unfold execLayerUnderrun at h; dsimp only at h
  (repeat' split at h) <;> first | (injection h with h; subst h; simp [State.ext_fields]) | cases h

theorem execScanBurstComplete_frame (d : Disp) (r : Reply) (h : execScanBurstComplete d r s = .next t) :
    t = { s with path := t.path, arb := t.arb, disp := t.disp, centre := t.centre } := by
  unfold execScanBurstComplete at h
  (repeat' split at h) <;> first | (injection h with h; subst h; simp [State.ext_fields]) | cases h

theorem execPwmPeriodEnd_frame (d : Disp) (h : execPwmPeriodEnd d s = .next t) :
    t = { s with bl := t.bl } := by
  unfold execPwmPeriodEnd at h; dsimp only at h
  (repeat' split at h) <;> (injection h with h; subst h; simp [State.ext_fields])

theorem execBacklightFault_frame (d : Disp) (h : execBacklightFault d s = .next t) :
    t = { s with pins := t.pins, load := t.load, bl := t.bl } := by
  unfold execBacklightFault at h; dsimp only at h
  (repeat' split at h) <;> (injection h with h; subst h; simp [State.ext_fields])

theorem execOutputFrame_frame (h : execOutputFrame s = .next t) :
    t = { s with aud := t.aud, mix := t.mix, chime := t.chime } := by
  unfold execOutputFrame at h; dsimp only at h
  (repeat' split at h) <;> (injection h with h; subst h; simp [State.ext_fields])

theorem execDuckStep_frame (h : execDuckStep s = .next t) :
    t = { s with mix := t.mix } := by
  unfold execDuckStep at h
  (repeat' split at h) <;> (injection h with h; subst h; simp [State.ext_fields])

theorem execBlockBoundary_frame (h : execBlockBoundary s = .next t) :
    t = { s with aud := t.aud, load := t.load } := by
  unfold execBlockBoundary at h; dsimp only at h
  (repeat' split at h) <;> (injection h with h; subst h; simp [State.ext_fields])

theorem execAudioBurstComplete_frame (r : Reply) (h : execAudioBurstComplete r s = .next t) :
    t = { s with path := t.path, arb := t.arb, aud := t.aud } := by
  unfold execAudioBurstComplete at h; dsimp only at h
  (repeat' split at h) <;> first | (injection h with h; subst h; simp [State.ext_fields]) | cases h

theorem execChimeStepEnd_frame (h : execChimeStepEnd s = .next t) :
    t = { s with chime := t.chime, load := t.load } := by
  unfold execChimeStepEnd at h
  injection h with h; subst h; simp [State.ext_fields]

theorem execFadeEnd_frame (h : execFadeEnd s = .next t) :
    t = { s with chime := t.chime } := by
  unfold execFadeEnd at h
  injection h with h; subst h; simp [State.ext_fields]

theorem execCameraFrameStart_frame (e : Nat) (h : execCameraFrameStart e s = .next t) :
    t = { s with
          boot := t.boot, tb := t.tb, disp := t.disp, aud := t.aud, cam := t.cam, guide := t.guide, link := t.link,
          bl := t.bl } := by
  unfold execCameraFrameStart at h; dsimp only at h
  (repeat' split at h) <;> (injection h with h; subst h; simp [State.ext_fields])

theorem execCameraLineStart_frame (h : execCameraLineStart s = .next t) :
    t = { s with arb := t.arb, cam := t.cam } := by
  unfold execCameraLineStart at h
  (repeat' split at h) <;> (injection h with h; subst h; simp [State.ext_fields])

theorem execCameraPixel_frame (rgb : BitVec 24) (h : execCameraPixel rgb s = .next t) :
    t = { s with arb := t.arb, cam := t.cam } := by
  unfold execCameraPixel at h
  (repeat' split at h) <;> (injection h with h; subst h; simp [State.ext_fields])

theorem execCameraLineEnd_frame (h : execCameraLineEnd s = .next t) :
    t = { s with arb := t.arb, cam := t.cam } := by
  unfold execCameraLineEnd at h
  (repeat' split at h) <;> (injection h with h; subst h; simp [State.ext_fields])

theorem execCameraFrameEnd_frame (h : execCameraFrameEnd s = .next t) :
    t = { s with arb := t.arb, cam := t.cam, rvc := t.rvc } := by
  unfold execCameraFrameEnd at h
  (repeat' split at h) <;> (injection h with h; subst h; simp [State.ext_fields])

theorem execCameraBurstComplete_frame (err : Bool) (h : execCameraBurstComplete err s = .next t) :
    t = { s with path := t.path, arb := t.arb, cam := t.cam, rvc := t.rvc } := by
  unfold execCameraBurstComplete at h; dsimp only at h
  (repeat' split at h) <;> (injection h with h; subst h; simp [State.ext_fields])

theorem execCameraLoss_frame (h : execCameraLoss s = .next t) :
    t = { s with cam := t.cam } := by
  unfold execCameraLoss at h
  (repeat' split at h) <;> (injection h with h; subst h; simp [State.ext_fields])

theorem execRevinChange_frame (h : execRevinChange s = .next t) :
    t = { s with
          pins := t.pins, centre := t.centre, rvc := t.rvc, chime := t.chime, load := t.load, bl := t.bl,
           } := by
  unfold execRevinChange at h; dsimp only at h
  (repeat' split at h) <;> (injection h with h; subst h; simp [State.ext_fields])

theorem execDebounceExpiry_frame (h : execDebounceExpiry s = .next t) :
    t = { s with centre := t.centre, rvc := t.rvc, chime := t.chime, load := t.load, bl := t.bl } := by
  unfold execDebounceExpiry at h
  (repeat' split at h) <;> (injection h with h; subst h; simp [State.ext_fields])

theorem execEngageTimerExpiry_frame (h : execEngageTimerExpiry s = .next t) :
    t = { s with rvc := t.rvc, load := t.load } := by
  unfold execEngageTimerExpiry at h
  (repeat' split at h) <;> (injection h with h; subst h; simp [State.ext_fields])

theorem execFreezeTimerExpiry_frame (h : execFreezeTimerExpiry s = .next t) :
    t = { s with rvc := t.rvc, load := t.load } := by
  unfold execFreezeTimerExpiry at h
  (repeat' split at h) <;> (injection h with h; subst h; simp [State.ext_fields])

theorem execReleaseTimerExpiry_frame (h : execReleaseTimerExpiry s = .next t) :
    t = { s with rvc := t.rvc, chime := t.chime, load := t.load, bl := t.bl } := by
  unfold execReleaseTimerExpiry at h
  (repeat' split at h) <;> (injection h with h; subst h; simp [State.ext_fields])

theorem execLinkByteTaken_frame (b : Byte) (h : execLinkByteTaken b s = .next t) :
    t = { s with link := t.link, chime := t.chime, load := t.load } := by
  unfold execLinkByteTaken at h
  (repeat' split at h) <;> (injection h with h; subst h; simp [State.ext_fields])

theorem execLinkStopBitError_frame (h : execLinkStopBitError s = .next t) :
    t = { s with link := t.link } := by
  unfold execLinkStopBitError at h; dsimp only at h
  (repeat' split at h) <;> (injection h with h; subst h; simp [State.ext_fields])

theorem execGapTimerExpiry_frame (h : execGapTimerExpiry s = .next t) :
    t = { s with link := t.link } := by
  unfold execGapTimerExpiry at h
  (repeat' split at h) <;> (injection h with h; subst h; simp [State.ext_fields])

theorem execFreshnessTimerExpiry_frame (k : LinkKind) (h : execFreshnessTimerExpiry k s = .next t) :
    t = { s with link := t.link, chime := t.chime, load := t.load } := by
  unfold execFreshnessTimerExpiry at h; dsimp only at h
  (repeat' split at h) <;> (injection h with h; subst h; simp [State.ext_fields])

theorem execLinkStartBit_frame (h : execLinkStartBit s = .next t) :
    t = { s with link := t.link } := by
  unfold execLinkStartBit at h
  (repeat' split at h) <;> (injection h with h; subst h; simp [State.ext_fields])

theorem execFaultInputRelease_frame (d : Disp) (h : execFaultInputRelease d s = .next t) :
    t = { s with pins := t.pins } := by
  unfold execFaultInputRelease at h
  injection h with h; subst h; simp [State.ext_fields]

end Sys2Proof.Machine
end

