-- ==== Sys2Proof/Laws/Ops.lean ====
section
/-! SUPPORT. What the shared operations can do, said once: reading after writing a display, channel, seat or stream;
counters; the fields of the state after some reference ticks; queues, runs, grants and flights; the line a display has begun. -/

namespace Sys2Proof.Machine

open Sys2Proof

/-! ### Pairs, triples and the parts they index -/

@[simp] theorem Pair.get_set_self {α : Type} (p : Pair α) (k : Seat) (a : α) : Pair.get (Pair.set p k a) k = a := by
  cases k <;> rfl

theorem Pair.get_set_ne {α : Type} (p : Pair α) {k j : Seat} (a : α) (h : j ≠ k) :
    Pair.get (Pair.set p k a) j = Pair.get p j := by
  cases k <;> cases j <;> first | rfl | exact absurd rfl h

@[simp] theorem Tri.get_set_self {α : Type} (t : Tri α) (d : Disp) (a : α) : Tri.get (Tri.set t d a) d = a := by
  rcases d with _ | (_ | _) <;> rfl

theorem Tri.get_set_ne {α : Type} (t : Tri α) {d e : Disp} (a : α) (h : e ≠ d) :
    Tri.get (Tri.set t d a) e = Tri.get t e := by
  rcases d with _ | (_ | _) <;> rcases e with _ | (_ | _) <;> first | rfl | exact absurd rfl h

variable (s : State)

@[simp] theorem State.display_setDisplay_self (d : Disp) (x : Display) : (s.setDisplay d x).display d = x :=
  Tri.get_set_self _ _ _

theorem State.display_setDisplay_ne {d e : Disp} (x : Display) (h : e ≠ d) :
    (s.setDisplay d x).display e = s.display e := Tri.get_set_ne _ _ h

@[simp] theorem State.pwm_setPwm_self (d : Disp) (x : PwmState) : (s.setPwm d x).pwm d = x := Tri.get_set_self _ _ _

theorem State.pwm_setPwm_ne {d e : Disp} (x : PwmState) (h : e ≠ d) : (s.setPwm d x).pwm e = s.pwm e :=
  Tri.get_set_ne _ _ h

@[simp] theorem State.rearOf_setRear_self (k : Seat) (x : RearState) : (s.setRear k x).rearOf k = x :=
  Pair.get_set_self _ _ _

theorem State.rearOf_setRear_ne {k j : Seat} (x : RearState) (h : j ≠ k) : (s.setRear k x).rearOf j = s.rearOf j :=
  Pair.get_set_ne _ _ h

/-- Reading and writing a display at the same fields of the state. -/
theorem State.display_congr {s t : State} (h : t.disp = s.disp) (d : Disp) : t.display d = s.display d := by
  unfold State.display; rw [h]

theorem State.pwm_congr {s t : State} (h : t.bl = s.bl) (d : Disp) : t.pwm d = s.pwm d := by
  unfold State.pwm; rw [h]

theorem State.rearOf_congr {s t : State} (h : t.rear = s.rear) (k : Seat) : t.rearOf k = s.rearOf k := by
  unfold State.rearOf; rw [h]

theorem State.setAt_congr {s t : State} (h : t.sets = s.sets) (i : Nat) : t.setAt i = s.setAt i := by
  unfold State.setAt; rw [h]

theorem State.timing_congr {s t : State} (h : t.boot = s.boot) (d : Disp) : t.timing d = s.timing d := by
  unfold State.timing; rw [h]

/-! ### Counters -/

/-- An event counter holds at 65535 (00_scope 1.6). -/
theorem satInc_le (n : Nat) : satInc n ≤ 65535 := Nat.min_le_right _ _

theorem satAdd_le (n k : Nat) : satAdd n k ≤ 65535 := Nat.min_le_right _ _

theorem le_satInc {n : Nat} (h : n ≤ 65535) : n ≤ satInc n := by unfold satInc; omega

/-- A starvation count stays within its limit (R62). -/
theorem starved_le (count limit : Nat) (granted asked : Bool) : starved count limit granted asked ≤ limit := by
  unfold starved; split <;> [exact Nat.zero_le _; split <;> [exact Nat.min_le_right _ _; exact Nat.zero_le _]]

/-! ### Time -/

theorem State.advance_tb (n : Nat) :
    (s.advance n).tb =
      if s.tb.running = true then { s.tb with sub := min (s.tb.sub + n) Config.ticksPerMs } else s.tb := by
  unfold State.advance State.advanceDisplays
  cases s.boot.profile <;> by_cases h1 : s.tb.running = true <;> by_cases h2 : s.boot.startup = .clockCheck <;>
    by_cases h3 : s.aud.clock = true <;> by_cases h4 : s.guide.build.isSome = true <;> simp [h1, h2, h3, h4]

theorem State.advance_boot (n : Nat) :
    (s.advance n).boot =
      if s.boot.startup = .clockCheck then { s.boot with clkCount := min (s.boot.clkCount + n) 0x1FFF } else s.boot := by
  unfold State.advance State.advanceDisplays
  cases hp : s.boot.profile <;> by_cases h1 : s.tb.running = true <;> by_cases h2 : s.boot.startup = .clockCheck <;>
    by_cases h3 : s.aud.clock = true <;> by_cases h4 : s.guide.build.isSome = true <;> simp [h1, h2, h3, h4, hp]

theorem State.advance_aud (n : Nat) :
    (s.advance n).aud =
      if s.aud.clock = true then { s.aud with sub := min (s.aud.sub + n) Config.ticksPerFrame } else s.aud := by
  unfold State.advance State.advanceDisplays
  cases s.boot.profile <;> by_cases h1 : s.tb.running = true <;> by_cases h2 : s.boot.startup = .clockCheck <;>
    by_cases h3 : s.aud.clock = true <;> by_cases h4 : s.guide.build.isSome = true <;> simp [h1, h2, h3, h4]

theorem State.advance_cam (n : Nat) :
    (s.advance n).cam = { s.cam with period := s.cam.period.map (fun c => min (c + n) (Config.periodLimit * 24)) } := by
  unfold State.advance State.advanceDisplays
  cases s.boot.profile <;> by_cases h1 : s.tb.running = true <;> by_cases h2 : s.boot.startup = .clockCheck <;>
    by_cases h3 : s.aud.clock = true <;> by_cases h4 : s.guide.build.isSome = true <;> simp [h1, h2, h3, h4]

theorem State.advance_link (n : Nat) :
    (s.advance n).link = { s.link with gap := s.link.gap.map (fun g => min (g + n) (Config.gapLimit + 1)) } := by
  unfold State.advance State.advanceDisplays
  cases s.boot.profile <;> by_cases h1 : s.tb.running = true <;> by_cases h2 : s.boot.startup = .clockCheck <;>
    by_cases h3 : s.aud.clock = true <;> by_cases h4 : s.guide.build.isSome = true <;> simp [h1, h2, h3, h4]

theorem State.advance_guide (n : Nat) :
    (s.advance n).guide =
      if s.guide.build.isSome = true then { s.guide with work := s.guide.work + 8 * n } else s.guide := by
  unfold State.advance State.advanceDisplays
  cases s.boot.profile <;> by_cases h1 : s.tb.running = true <;> by_cases h2 : s.boot.startup = .clockCheck <;>
    by_cases h3 : s.aud.clock = true <;> by_cases h4 : s.guide.build.isSome = true <;> simp [h1, h2, h3, h4]

theorem State.advance_disp (n : Nat) : (s.advance n).disp = (s.advanceDisplays n).disp := by
  unfold State.advance
  generalize s.advanceDisplays n = x
  by_cases h1 : x.tb.running = true <;> by_cases h2 : x.boot.startup = .clockCheck <;>
    by_cases h3 : x.aud.clock = true <;> by_cases h4 : x.guide.build.isSome = true <;> simp [h1, h2, h3, h4]

theorem State.advance_bl (n : Nat) : (s.advance n).bl = (s.advanceDisplays n).bl := by
  unfold State.advance
  generalize s.advanceDisplays n = x
  by_cases h1 : x.tb.running = true <;> by_cases h2 : x.boot.startup = .clockCheck <;>
    by_cases h3 : x.aud.clock = true <;> by_cases h4 : x.guide.build.isSome = true <;> simp [h1, h2, h3, h4]

/-! ### The upstream queue and pieces -/

/-- The runs of a list, written out, are the list. -/
theorem keyRuns_flatMap {κ : Type} [DecidableEq κ] :
    ∀ l : List κ, (keyRuns l).flatMap (fun x => List.replicate x.2 x.1) = l
  | [] => rfl
  | k :: ks => by
    have ih := keyRuns_flatMap ks
    unfold keyRuns
    cases h : keyRuns ks with
    | nil => rw [h] at ih; simp at ih; simp [← ih]
    | cons x rest =>
      obtain ⟨k', n⟩ := x
      rw [h] at ih
      by_cases hk : k = k'
      · subst hk
        simp only [if_true, List.flatMap_cons, List.replicate_succ, List.cons_append, List.cons.injEq, true_and]
        simpa using ih
      · simp only [hk, if_false, List.flatMap_cons, List.replicate_one, List.cons_append, List.nil_append,
          List.cons.injEq, true_and]
        simpa using ih

/-- No run is empty. -/
theorem keyRuns_pos {κ : Type} [DecidableEq κ] : ∀ (l : List κ), ∀ x ∈ keyRuns l, 1 ≤ x.2
  | [] => by simp [keyRuns]
  | k :: ks => by
    have ih := keyRuns_pos ks
    unfold keyRuns
    cases h : keyRuns ks with
    | nil => simp
    | cons x rest =>
      obtain ⟨k', n⟩ := x
      rw [h] at ih
      by_cases hk : k = k'
      · simp [hk] at ih ⊢; exact ih.2
      · simp [hk] at ih ⊢; exact ih

/-- What leaves the queue and what stays: the complete entries at the head leave, and the first that stays is not
complete (R40). -/
theorem drainQueue_spec :
    ∀ q : List HostEntry, ∃ done, q = done ++ (drainQueue q).2 ∧ (drainQueue q).1 = done.map HostEntry.response ∧
      (∀ e ∈ done, e.complete = true) ∧ (∀ e, (drainQueue q).2.head? = some e → e.complete = false)
  | [] => ⟨[], rfl, rfl, by simp, by simp [drainQueue]⟩
  | e :: es => by
    obtain ⟨done, h1, h2, h3, h4⟩ := drainQueue_spec es
    by_cases h : e.complete = true
    · refine ⟨e :: done, ?_, ?_, ?_, ?_⟩
      · simpa [drainQueue, h] using h1
      · simpa [drainQueue, h] using h2
      · simp only [List.mem_cons, forall_eq_or_imp]; exact ⟨h, h3⟩
      · simpa [drainQueue, h] using h4
    · refine ⟨[], by simp [drainQueue, h], by simp [drainQueue, h], by simp, ?_⟩
      simp [drainQueue, h]

/-! ### ARB -/

/-- ARB grants only a requester that presents a burst (R61). -/
theorem grantChoice_asks {asks urgent : Requester → Bool} {h l : Nat} {q : Requester}
    (hq : grantChoice asks urgent h l = some q) : asks q = true := by
  unfold grantChoice at hq
  rw [Option.map_eq_some_iff] at hq
  obtain ⟨⟨r, c⟩, h1, h2⟩ := hq
  have := List.find?_some h1
  simp only [Bool.and_eq_true] at this
  exact h2 ▸ this.2

/-- ARB grants someone exactly when someone presents a burst (R61). -/
theorem grantChoice_isSome {asks urgent : Requester → Bool} {h l : Nat} :
    (grantChoice asks urgent h l).isSome = true ↔ ∃ q, asks q = true := by
  constructor
  · intro hs
    obtain ⟨q, hq⟩ := Option.isSome_iff_exists.mp hs
    exact ⟨q, grantChoice_asks hq⟩
  · rintro ⟨q, hq⟩
    unfold grantChoice
    rw [Option.isSome_map, List.find?_isSome]
    refine ⟨(q, true), ?_, by simp [hq]⟩
    cases q <;> simp [grantList]

/-- Marking bursts for discard changes neither their number nor what they are. -/
@[simp] theorem killFlights_length (p : Owner → Bool) (fl : List Flight) : (killFlights p fl).length = fl.length := by
  simp [killFlights]

theorem killFlights_owner (p : Owner → Bool) (fl : List Flight) :
    (killFlights p fl).map (·.owner) = fl.map (·.owner) := by
  simp only [killFlights, List.map_map]
  refine List.map_congr_left fun f _ => ?_
  by_cases h : p f.owner = true <;> simp [h]

theorem killFlights_burst (p : Owner → Bool) (fl : List Flight) :
    (killFlights p fl).map (·.burst) = fl.map (·.burst) := by
  simp only [killFlights, List.map_map]
  refine List.map_congr_left fun f _ => ?_
  by_cases h : p f.owner = true <;> simp [h]

/-! ### CHIME -/

/-- Placing an entry in the pending list adds that entry and nothing else (R153). -/
theorem insertWaiting_perm (e : ChimeEntry) : ∀ l : List ChimeEntry, (insertWaiting e l).Perm (e :: l)
  | [] => List.Perm.refl _
  | x :: xs => by
    unfold insertWaiting
    split
    · exact ((insertWaiting_perm e xs).cons x).trans (List.Perm.swap e x xs)
    · exact List.Perm.refl _

/-- A cancel leaves no entry that it did not find, with its pattern, priority and place as they were (R155). -/
theorem withoutSource_mem {src : Source} {es : List ChimeEntry} {x : ChimeEntry} (h : x ∈ withoutSource src es) :
    ∃ e ∈ es, x = e ∨ x = e.without src := by
  unfold withoutSource at h
  rw [List.mem_filterMap] at h
  obtain ⟨e, he, hx⟩ := h
  refine ⟨e, he, ?_⟩
  split at hx
  · dsimp only at hx
    split at hx
    · cases hx
    · exact .inr (Option.some.inj hx).symm
  · exact .inl (Option.some.inj hx).symm

/-! ### GUIDE -/

/-- Inserting a span adds that span and nothing else (R135). -/
theorem insertSpan_perm (n : Span) : ∀ l : List Span, (insertSpan n l).Perm (n :: l)
  | [] => List.Perm.refl _
  | x :: xs => by
    unfold insertSpan
    split
    · exact ((insertSpan_perm n xs).cons x).trans (List.Perm.swap n x xs)
    · exact List.Perm.refl _

/-! ### The line a display has begun (R22) -/

/-- What a display has of a base layer for its line shows at each column what the layer shows there. -/
theorem Display.baseLine_pixel (x : Display) {v : LayerView} (h : v.window = none) (c : Nat) :
    (x.baseLine v).bind (·.pixel c) = fetchedPixel x.base (some v) c x.line := by
  unfold Display.baseLine fetchedPixel LayerBuf.pixelAt
  by_cases hy : v.rect.y0 ≤ x.line ∧ x.line < v.rect.y1
  · cases hs : x.base.slotFor x.line with
    | none => simp [hy]
    | some k =>
      cases hu : x.base.under with
      | none => by_cases hx : v.rect.x0 ≤ c ∧ c < v.rect.x1 <;> simp [KeptLine.pixel, Rect.holds, LayerView.draws, *]
      | some u =>
        by_cases hx : v.rect.x0 ≤ c ∧ c < v.rect.x1 <;> by_cases huc : u ≤ c <;>
          simp [KeptLine.pixel, Rect.holds, LayerView.draws, *] <;> omega
  · simp [Rect.holds, hy]

/-- A film base draws at every column and row it covers. -/
theorem layerOf_rear_window {p : Profile} {k : Seat} {fr : FrameRecord} {v : LayerView}
    (h : layerOf p (.rear k) fr .base = some v) : v.window = none := by
  simp only [layerOf, filmView] at h
  split at h
  · injection h with h; subst h; rfl
  · cases h

/-- A host reset leaves to the line begun all it has, or nothing (R22, log entry 42). -/
theorem Display.lineLeft_eq (x : Display) (d : Disp) (v : Option LayerView) :
    x.lineLeft d v = if Config.hostResetKeepsLine = true then x.lineBegun d v else none := by
  unfold Display.lineLeft
  cases x.lineBegun d v <;> simp

/-- The line begun shows at each column the base pixel of the frame the display is in (R22). -/
theorem Display.lineBegun_pixel (x : Display) (p : Profile) (k : Seat) (fr : FrameRecord) (c : Nat) :
    (x.lineBegun (.rear k) (layerOf p (.rear k) fr .base)).bind (·.pixel c) =
      basePixel p (.rear k) fr x c x.line := by
  unfold Display.lineBegun basePixel
  cases x.kept with
  | some l => rfl
  | none =>
    cases hv : layerOf p (.rear k) fr .base with
    | none => rfl
    | some v => simpa using x.baseLine_pixel (layerOf_rear_window hv) c

end Sys2Proof.Machine
end

