-- ==== Sys2Proof/Laws/Fetch.lean ====
section
/-! SUPPORT. What the scan-out engines' fetching on can do, said once (R32, R33): which rows the free slots take, which
burst is asked for next, and all that an engine leaves unchanged in doing so (`Display.refill_spec`). -/

namespace Sys2Proof.Machine

open Sys2Proof

/-! ### The slots assigned (R32) -/

/-- R11: the row fetched after another: every other one where rows are fetched alternately. -/
theorem LayerView.rowAfter_eq (v : LayerView) (r : Nat) : v.rowAfter r = r + (if v.alternate = true then 2 else 1) := by
  unfold LayerView.rowAfter; split <;> rfl

theorem assignSlot_phase (v : LayerView) (r : Nat) : (assignSlot v r).phase ≠ .free := by
  unfold assignSlot; dsimp only; split <;> simp

theorem assignFree_length (v : LayerView) (slots : List LineSlot) (next : Nat) :
    (assignFree v slots next).1.length = slots.length := by
  induction slots generalizing next with
  | nil => rfl
  | cons k ks ih => unfold assignFree; split <;> simp [ih]

theorem assignFree_pos (v : LayerView) (k : LineSlot) (ks : List LineSlot) (next : Nat)
    (h : k.phase = .free ∧ next < v.rows) :
    assignFree v (k :: ks) next =
      (assignSlot v next :: (assignFree v ks (v.rowAfter next)).1, (assignFree v ks (v.rowAfter next)).2) := by
  rw [assignFree, if_pos h]

theorem assignFree_neg (v : LayerView) (k : LineSlot) (ks : List LineSlot) (next : Nat)
    (h : ¬(k.phase = .free ∧ next < v.rows)) :
    assignFree v (k :: ks) next = (k :: (assignFree v ks next).1, (assignFree v ks next).2) := by
  rw [assignFree, if_neg h]

/-- R32: a slot that is not free stays; the free ones take the rows needed next, in order, while there are any. -/
theorem assignFree_slot (v : LayerView) (slots : List LineSlot) (next i : Nat) (k : LineSlot) (h : slots[i]? = some k) :
    (assignFree v slots next).1[i]? = some
      (if k.phase = .free ∧
          next + (if v.alternate = true then 2 else 1) * (slots.take i).countP (fun k => k.phase == .free) < v.rows then
        assignSlot v
          (next + (if v.alternate = true then 2 else 1) * (slots.take i).countP (fun k => k.phase == .free))
       else k) := by
  have hp := v.rowAfter_eq
  generalize (if v.alternate = true then 2 else 1) = pitch at hp ⊢
  induction slots generalizing next i with
  | nil => simp at h
  | cons a ks ih =>
    by_cases hf : a.phase = .free ∧ next < v.rows
    · rw [assignFree_pos v a ks next hf]
      cases i with
      | zero => simp at h; subst h; simp [hf]
      | succ i =>
        have := ih (v.rowAfter next) i (by simpa using h)
        rw [hp, Nat.add_assoc, Nat.add_comm pitch, ← Nat.mul_succ] at this
        simpa only [List.getElem?_cons_succ, List.take_succ_cons, List.countP_cons, hf.1, beq_self_eq_true, if_true,
          hp] using this
    · rw [assignFree_neg v a ks next hf]
      cases i with
      | zero => simp at h; subst h; simp; intro h1 h2; exact absurd ⟨h1, h2⟩ hf
      | succ i =>
        have := ih next i (by simpa using h)
        simp only [List.getElem?_cons_succ, List.take_succ_cons, List.countP_cons]
        rw [this]
        by_cases ha : a.phase = .free
        · have hn : v.rows ≤ next := by
            by_contra hn; exact hf ⟨ha, by omega⟩
          rw [if_neg (fun h => absurd (Nat.lt_of_le_of_lt (Nat.le_add_right _ _) h.2) (Nat.not_lt.mpr hn)),
            if_neg (fun h => absurd (Nat.lt_of_le_of_lt (Nat.le_add_right _ _) h.2) (Nat.not_lt.mpr hn))]
        · simp [ha]

theorem assignFree_next (v : LayerView) (slots : List LineSlot) (next : Nat) :
    (assignFree v slots next).2 = next + (if v.alternate = true then 2 else 1) *
      (slots.zip (assignFree v slots next).1).countP (fun y => y.1.phase == .free && decide (y.2.phase ≠ .free)) := by
  induction slots generalizing next with
  | nil => simp [assignFree]
  | cons a ks ih =>
    by_cases hf : a.phase = .free ∧ next < v.rows
    · rw [assignFree_pos v a ks next hf]
      have := ih (v.rowAfter next)
      simp only [List.zip_cons_cons, List.countP_cons, hf.1, assignSlot_phase, beq_self_eq_true, ne_eq,
        not_false_eq_true, decide_true, Bool.and_self, if_true]
      rw [this, LayerView.rowAfter_eq, Nat.mul_add]; simp only [ne_eq]; omega
    · rw [assignFree_neg v a ks next hf]
      have := ih next
      simp only [List.zip_cons_cons, List.countP_cons]
      rw [this]
      have : (a.phase == .free && decide (a.phase ≠ .free)) = false := by
        cases h : a.phase <;> simp
      simp

theorem LayerBuf.refill_under (b : LayerBuf) (v : Option LayerView) : (b.refill v).under = b.under := by
  cases v <;> rfl

/-- R32: the assignment of a layer's free slots. -/
theorem LayerBuf.refill_reassigned (b : LayerBuf) (v : Option LayerView) :
    b.Reassigned (b.refill v) v (fun k => k.phase == .free) id := by
  cases v with
  | none =>
    refine ⟨rfl, fun i k h _ => ⟨k.asked, h⟩, fun _ => ⟨rfl, fun i k h hv => ⟨k, h, by simpa using hv⟩⟩, fun _ h => ?_⟩
    cases h
  | some v =>
    refine ⟨assignFree_length _ _ _, fun i k h hv => ⟨k.asked, ?_⟩, (fun h => by cases h), ?_⟩
    · have := assignFree_slot v b.slots b.nextRow i k h
      have hk : k.phase ≠ .free := by simpa using hv
      simp only [hk, false_and, if_false] at this
      exact this
    · rintro _ ⟨⟩
      refine ⟨assignFree_next v b.slots b.nextRow, fun i k h hv => ?_⟩
      have := assignFree_slot v b.slots b.nextRow i k h
      have hk : k.phase = .free := by simpa using hv
      dsimp only at this ⊢
      refine ⟨_, this, fun hr => ?_, fun hr => ?_⟩
      · rw [if_neg]; exact hk
        rintro ⟨-, h2⟩; unfold LayerView.rows at h2; omega
      · have hr' : b.nextRow + (if v.alternate = true then 2 else 1) *
            (b.slots.take i).countP (fun k => k.phase == .free) < v.rows := by
          unfold LayerView.rows; exact hr
        rw [if_pos ⟨hk, hr'⟩]
        exact ⟨assignSlot_phase _ _, rfl, rfl, rfl, rfl, rfl⟩


/-! ### The next request (R33) -/

theorem LayerBuf.mem_wanting {b : LayerBuf} {v : LayerView} {x : Nat × Nat} :
    x ∈ b.wanting v ↔ ∃ k, b.slots[x.2]? = some k ∧ k.phase = .filling ∧ k.stopped = false ∧ k.asked < v.bursts ∧
      x.1 = k.first := by
  unfold LayerBuf.wanting
  constructor
  · intro h
    obtain ⟨⟨i, k⟩, hm, h⟩ := List.mem_filterMap.mp h
    obtain ⟨n, hn, e⟩ := List.mem_mapIdx.mp hm
    injection e with e1 e2; subst e1; subst e2
    split at h
    · rename_i hc; injection h with h; subst h
      simp at hc
      exact ⟨_, List.getElem?_eq_getElem hn, hc.1.1, hc.1.2, hc.2, rfl⟩
    · cases h
  · rintro ⟨k, hk, h1, h2, h3, h4⟩
    obtain ⟨hn, e⟩ := List.getElem?_eq_some_iff.mp hk
    refine List.mem_filterMap.mpr ⟨(x.2, k), List.mem_mapIdx.mpr ⟨x.2, hn, by rw [e]⟩, ?_⟩
    simp [h1, h2, h3, ← h4]

/-- The earlier of two places is one of them, and none only where both are. -/
theorem earlier_some {a b : Option (Nat × LayerId × Nat)} {y : Nat × LayerId × Nat} (h : earlier a b = some y) :
    a = some y ∨ b = some y := by
  unfold earlier at h
  split at h
  · exact .inr h
  · exact .inl h
  · split at h <;> simp_all

theorem earlier_none {a b : Option (Nat × LayerId × Nat)} : earlier a b = none ↔ a = none ∧ b = none := by
  unfold earlier
  split
  · simp
  · simp
  · split <;> simp

theorem LayerBuf.earliest_some {b : LayerBuf} {l : LayerId} {v : Option LayerView} {y : Nat × LayerId × Nat}
    (h : b.earliest l v = some y) :
    y.2.1 = l ∧ ∃ w k, v = some w ∧ b.slots[y.2.2]? = some k ∧ k.phase = .filling ∧ k.stopped = false ∧
      k.asked < w.bursts := by
  cases v with
  | none => cases h
  | some v =>
    have key : ∀ (xs : List (Nat × Nat)) (best : Option (Nat × LayerId × Nat)),
        xs.foldl (fun best x => earlier best (some (x.1, l, x.2))) best = some y →
          best = some y ∨ ∃ x ∈ xs, y = (x.1, l, x.2) := by
      intro xs
      induction xs with
      | nil => intro best h; exact .inl h
      | cons a xs ih =>
        intro best h
        rcases ih _ h with h | ⟨x, hx, e⟩
        · rcases earlier_some h with h | h
          · exact .inl h
          · injection h with h; exact .inr ⟨a, by simp, h.symm⟩
        · exact .inr ⟨x, by simp [hx], e⟩
    rcases key _ _ h with h | ⟨x, hx, rfl⟩
    · cases h
    · obtain ⟨k, h1, h2, h3, h4, -⟩ := LayerBuf.mem_wanting.mp hx
      exact ⟨rfl, v, k, rfl, h1, h2, h3, h4⟩

theorem LayerBuf.earliest_none {b : LayerBuf} {l : LayerId} {v : Option LayerView} (h : b.earliest l v = none)
    {w : LayerView} {k : LineSlot} (hv : v = some w) (hk : k ∈ b.slots) (hf : k.phase = .filling) (hs : k.stopped = false) :
    w.bursts ≤ k.asked := by
  subst hv
  have key : ∀ (xs : List (Nat × Nat)) (best : Option (Nat × LayerId × Nat)),
      xs.foldl (fun best x => earlier best (some (x.1, l, x.2))) best = none → xs = [] := by
    intro xs
    induction xs with
    | nil => intros; rfl
    | cons a xs ih =>
      intro best h
      have := ih _ h
      subst this
      have := (earlier_none.mp h).2
      cases this
  have hw := key _ _ h
  by_contra hlt
  obtain ⟨i, hi⟩ := List.mem_iff_getElem?.mp hk
  have : (k.first, i) ∈ b.wanting w := LayerBuf.mem_wanting.mpr ⟨k, hi, hf, hs, by omega, rfl⟩
  rw [hw] at this; cases this

@[simp] theorem Display.setBuf_buf_self (x : Display) (l : LayerId) (b : LayerBuf) : (x.setBuf l b).buf l = b := by
  cases l <;> rfl

theorem Display.setBuf_buf_ne (x : Display) {l m : LayerId} (b : LayerBuf) (h : m ≠ l) :
    (x.setBuf l b).buf m = x.buf m := by
  cases l <;> cases m <;> first | rfl | exact absurd rfl h

/-- What an engine's next request is and leaves: the engine's other fields; of a fetch buffer, all but the burst that one
slot asks for next; and, where it had no request, one of a filling slot that is not stopped, if one has a burst to ask for. -/
theorem Display.choose_spec (x : Display) (view : LayerId → Option LayerView) :
    (x.choose view = x ∧ (x.req = none → ∀ l w k, view l = some w → k ∈ (x.buf l).slots → k.phase = .filling →
        k.stopped = false → w.bursts ≤ k.asked)) ∨
      ∃ l w i k, x.req = none ∧ view l = some w ∧ (x.buf l).slots[i]? = some k ∧ k.phase = .filling ∧ k.stopped = false ∧
        k.asked < w.bursts ∧ x.choose view =
          { x.setBuf l { x.buf l with slots := (x.buf l).slots.set i (k.askNext w) } with
            req := some (scanRequest w l i k) } := by
  unfold Display.choose
  cases hq : x.req with
  | some q => exact .inl ⟨rfl, by simp⟩
  | none =>
    dsimp only
    cases hb : earlier (earlier (x.base.earliest .base (view .base)) (x.ov0.earliest .ov0 (view .ov0)))
      (x.ov1.earliest .ov1 (view .ov1)) with
    | none =>
      refine .inl ⟨rfl, fun _ l w k hv hk hf hs => ?_⟩
      obtain ⟨h12, h3⟩ := earlier_none.mp hb
      obtain ⟨h1, h2⟩ := earlier_none.mp h12
      cases l
      · exact LayerBuf.earliest_none h1 hv hk hf hs
      · exact LayerBuf.earliest_none h2 hv hk hf hs
      · exact LayerBuf.earliest_none h3 hv hk hf hs
    | some y =>
      obtain ⟨n, l, i⟩ := y
      have key : ∃ w k, view l = some w ∧ (x.buf l).slots[i]? = some k ∧ k.phase = .filling ∧ k.stopped = false ∧
          k.asked < w.bursts := by
        rcases earlier_some hb with h | h
        · rcases earlier_some h with h | h
          · obtain ⟨rfl, h⟩ := LayerBuf.earliest_some h; exact h
          · obtain ⟨rfl, h⟩ := LayerBuf.earliest_some h; exact h
        · obtain ⟨rfl, h⟩ := LayerBuf.earliest_some h; exact h
      obtain ⟨w, k, hv, hk, hf, hs, ha⟩ := key
      refine .inr ⟨l, w, i, k, rfl, hv, hk, hf, hs, ha, ?_⟩
      dsimp only
      rw [hv]
      simp only [List.getD_eq_getElem?_getD, hk, Option.getD_some]

/-! ### The slots and the request after an engine has gone on -/

theorem countP_zip_set {α β γ : Type} (g : β → γ) (p : α × β → Bool) (q : α × γ → Bool)
    (hp : ∀ a b, p (a, b) = q (a, g b)) (xs : List α) (ys : List β) (i : Nat) (k k' : β) (hk : ys[i]? = some k)
    (hg : g k' = g k) : (xs.zip (ys.set i k')).countP p = (xs.zip ys).countP p := by
  have key : ∀ zs : List β, (xs.zip zs).countP p = (xs.zip (zs.map g)).countP q := by
    intro zs
    rw [List.zip_map_right, List.countP_map]
    congr 1
    funext y; exact hp y.1 y.2
  rw [key, key]
  congr 2
  apply List.ext_getElem?
  intro j
  simp only [List.getElem?_map, List.getElem?_set]
  split
  · rename_i h; subst h; split
    · simp [hk, hg]
    · rename_i h; rw [List.getElem?_eq_none (by omega)]
  · rfl

/-- R32: asking for a slot's next burst leaves the slots assigned as they are. -/
theorem LayerBuf.Reassigned.ask {b b' : LayerBuf} {view : Option LayerView} {vacant : LineSlot → Bool}
    {left : LineSlot → LineSlot} (h : b.Reassigned b' view vacant left) {i n : Nat} {k : LineSlot}
    (hk : b'.slots[i]? = some k) :
    b.Reassigned { b' with slots := b'.slots.set i { k with asked := n } } view vacant left := by
  obtain ⟨h1, h2, h3, h4⟩ := h
  have hi : i < b'.slots.length := (List.getElem?_eq_some_iff.mp hk).1
  have get : ∀ j, (b'.slots.set i { k with asked := n })[j]? =
      if i = j then some { k with asked := n } else b'.slots[j]? := by
    intro j; rw [List.getElem?_set]; split <;> simp_all
  refine ⟨by simpa using h1, fun j a ha hv => ?_, fun hn => ⟨(h3 hn).1, fun j a ha hv => ?_⟩,
    fun v hv => ⟨?_, fun j a ha hva => ?_⟩⟩
  · obtain ⟨m, hm⟩ := h2 j a ha hv
    rw [get]
    split
    · rename_i e; subst e; rw [hk] at hm; injection hm with hm; subst hm; exact ⟨n, rfl⟩
    · exact ⟨m, hm⟩
  · obtain ⟨k', hk', hf⟩ := (h3 hn).2 j a ha hv
    simp only [get]
    split
    · rename_i e; subst e; rw [hk] at hk'; injection hk' with hk'; subst hk'; exact ⟨_, rfl, hf⟩
    · exact ⟨k', hk', hf⟩
  · have := countP_zip_set (fun k : LineSlot => k.phase)
      (fun y : LineSlot × LineSlot => vacant y.1 && decide (y.2.phase ≠ .free))
      (fun y => vacant y.1 && decide (y.2 ≠ .free)) (fun _ _ => rfl) b.slots b'.slots i k { k with asked := n } hk rfl
    dsimp only
    rw [(h4 v hv).1, this]
  · obtain ⟨k', hk', hf⟩ := (h4 v hv).2 j a ha hva
    simp only [get]
    split
    · rename_i e; subst e; rw [hk] at hk'; injection hk' with hk'; subst hk'; exact ⟨_, rfl, hf⟩
    · exact ⟨k', hk', hf⟩

/-- R32: the slots assigned after each slot has been changed, said of the slots before. -/
theorem LayerBuf.Reassigned.of_map {b b1 b' : LayerBuf} {view : Option LayerView} {vacant : LineSlot → Bool}
    {left f : LineSlot → LineSlot} (hs : b1.slots = b.slots.map f) (hn : b1.nextRow = b.nextRow)
    (hv : ∀ k, ((f k).phase == .free) = vacant k) (hl : ∀ k, vacant k = false → f k = left k)
    (h : b1.Reassigned b' view (fun k => k.phase == .free) id) : b.Reassigned b' view vacant left := by
  obtain ⟨h1, h2, h3, h4⟩ := h
  have at' : ∀ (i : Nat) (k : LineSlot), b.slots[i]? = some k → b1.slots[i]? = some (f k) := by
    intro i k hk; rw [hs, List.getElem?_map, hk]; rfl
  refine ⟨by rw [h1, hs, List.length_map], fun i k hk hvk => ?_,
    fun hw => ⟨by rw [(h3 hw).1, hn], fun i k hk hvk => ?_⟩, fun v hw => ⟨?_, fun i k hk hvk => ?_⟩⟩
  · obtain ⟨n, e⟩ := h2 i _ (at' i k hk) ((hv k).trans hvk)
    exact ⟨n, by rw [← hl k hvk]; exact e⟩
  · exact (h3 hw).2 i _ (at' i k hk) ((hv k).trans hvk)
  · rw [(h4 v hw).1, hn, hs, List.zip_map_left, List.countP_map]
    have : ((fun y : LineSlot × LineSlot => (y.1.phase == .free) && decide (y.2.phase ≠ .free)) ∘ Prod.map f id) =
        fun y => vacant y.1 && decide (y.2.phase ≠ .free) := by funext y; simp [hv]
    exact congrArg (fun g => b.nextRow + _ * (b.slots.zip b'.slots).countP g) this
  · have := (h4 v hw).2 i _ (at' i k hk) ((hv k).trans hvk)
    have c : (b1.slots.take i).countP (fun k => k.phase == .free) = (b.slots.take i).countP vacant := by
      rw [hs, ← List.map_take, List.countP_map]
      congr 1
      funext y; simp [hv]
    rw [hn, c] at this
    exact this

/-- What an engine's fetching on leaves: its other fields, its presented or granted request, each layer's underrun, and
the slots as R32 assigns them, a stopped row's exactly. A request it forms is a live one for a filling slot; it forms none
only where no filling slot has a burst to ask for (R33). -/
theorem Display.refill_spec (x : Display) (view : LayerId → Option LayerView) :
    let y := x.refill view
    y = { x with base := y.base, ov0 := y.ov0, ov1 := y.ov1, req := y.req } ∧
      (∀ l, (y.buf l).under = (x.buf l).under ∧
        (x.buf l).Reassigned (y.buf l) (view l) (fun k => k.phase == .free) id ∧
        ∀ (i : Nat) (k : LineSlot), (x.buf l).slots[i]? = some k → k.phase ≠ .free → k.stopped = true →
          (y.buf l).slots[i]? = some k) ∧
      (∀ q, x.req = some q → y.req = some q) ∧
      (∀ q, y.req = some q → x.req = some q ∨ (x.req = none ∧ q.granted = false ∧ q.live = true ∧ q.counted = true ∧
        ∃ k, (y.buf q.layer).slots[q.slot]? = some k ∧ k.phase = .filling ∧ k.stopped = false)) ∧
      (y.req = none → ∀ l w k, view l = some w → k ∈ (y.buf l).slots → k.phase = .filling → k.stopped = false →
        w.bursts ≤ k.asked) := by
  intro y
  let z : Display :=
    { x with
      base := x.base.refill (view .base), ov0 := x.ov0.refill (view .ov0), ov1 := x.ov1.refill (view .ov1) }
  have hz : ∀ l, z.buf l = (x.buf l).refill (view l) := by intro l; cases l <;> rfl
  have hr : ∀ l, (x.buf l).Reassigned (z.buf l) (view l) (fun k => k.phase == .free) id := by
    intro l; rw [hz]; exact LayerBuf.refill_reassigned _ _
  have hu : ∀ l, (z.buf l).under = (x.buf l).under := by intro l; rw [hz]; exact LayerBuf.refill_under _ _
  have hst : ∀ (l : LayerId) (i : Nat) (k : LineSlot), (x.buf l).slots[i]? = some k → k.phase ≠ .free →
      (z.buf l).slots[i]? = some k := by
    intro l i k hk hf
    rw [hz]
    cases hv : view l with
    | none => exact hk
    | some v =>
      have := assignFree_slot v (x.buf l).slots (x.buf l).nextRow i k hk
      rw [if_neg (fun h => hf h.1)] at this
      exact this
  rcases z.choose_spec view with ⟨e, hno⟩ | ⟨l, w, i, k, hq, hw, hk, hf, hs, ha, e⟩
  · have hy : y = z := e
    rw [hy]
    exact ⟨rfl, fun l => ⟨hu l, hr l, fun i k h1 h2 _ => hst l i k h1 h2⟩, fun q h => h, fun q h => .inl h, hno⟩
  · have hy : y = { z.setBuf l { z.buf l with slots := (z.buf l).slots.set i (k.askNext w) } with
            req := some (scanRequest w l i k) } := e
    have hb : ∀ m, y.buf m =
        if m = l then { z.buf l with slots := (z.buf l).slots.set i (k.askNext w) } else z.buf m := by
      intro m; rw [hy]; cases m <;> cases l <;> rfl
    have hi : i < (z.buf l).slots.length := (List.getElem?_eq_some_iff.mp hk).1
    refine ⟨by rw [hy]; cases l <;> rfl, fun m => ?_, fun q h => ?_, fun q h => .inr ?_, fun h => ?_⟩
    · rw [hb m]
      split
      · rename_i e; subst e
        refine ⟨hu m, (hr m).ask hk, fun j a h1 h2 h3 => ?_⟩
        have hz := hst m j a h1 h2
        dsimp only
        rw [List.getElem?_set_ne, hz]
        rintro rfl
        rw [hk] at hz; injection hz with hz; subst hz; rw [hs] at h3; cases h3
      · exact ⟨hu m, hr m, fun i k h1 h2 _ => hst m i k h1 h2⟩
    · have : z.req = some q := h
      rw [hq] at this; cases this
    · have : scanRequest w l i k = q := by rw [hy] at h; injection h
      subst this
      refine ⟨hq, rfl, rfl, rfl, k.askNext w, ?_, hf, hs⟩
      rw [hb]; simp [scanRequest, hi]
    · rw [hy] at h; cases h

/-! ### An engine of the machine going on fetching -/

theorem State.display_refill_self (s : State) (d : Disp) : (s.refill d).display d = (s.display d).refill (s.layer d) := by
  unfold State.refill
  rw [State.display_congr (State.noteUrgent_disp _)]
  simp [State.refetch]

theorem State.display_refill_ne (s : State) {d e : Disp} (h : e ≠ d) : (s.refill d).display e = s.display e := by
  unfold State.refill
  rw [State.display_congr (State.noteUrgent_disp _)]
  simp [State.refetch, State.display_setDisplay_ne _ _ h]

/-- Dropping a request touches nothing else of a display. -/
theorem Display.dropReq_eq (x : Display) (t q : ScanReq → Bool) : x.dropReq t q = { x with req := (x.dropReq t q).req } := by
  unfold Display.dropReq
  split
  · rfl
  · split <;> rfl

end Sys2Proof.Machine
end

