-- ==== Sys2Proof/Laws/Streams.lean ====
section
/-! SUPPORT. Which prefetches an operation abandons, said once for each (R93): a stream stopped or started anew, and a
ring that the table loses; and how two such operations in a row add up. -/

namespace Sys2Proof.Machine

open Sys2Proof

/-- AUD presents bursts only of a stream whose turn is due (R89). -/
theorem AudState.presents_due {a : AudState} {k : Seat} {b : Burst} (h : a.presents = some (k, b)) : k ∈ a.due := by
  unfold AudState.presents at h
  cases hd : a.due with
  | nil => simp [hd] at h
  | cons x xs =>
    simp only [hd] at h
    split at h
    · cases h
    · split at h
      · cases h
      · injection h with h; injection h with h1 h2; subst h1; simp

/-- Prefetches are abandoned exactly where AUD's turns and ARB's flights say so. -/
theorem AbandonsPrefetches.intro {gone : Seat → Bool} {s t : State}
    (h1 : t.aud = { s.aud with streams := t.aud.streams, due := s.aud.due.filter (fun k => !gone k) })
    (h2 : t.arb = { s.arb with
            flights := s.arb.flights.map (fun f =>
              match f.owner with
              | .audio k => { f with live := f.live && !gone k }
              | _ => f) }) : AbandonsPrefetches gone s t := by
  refine ⟨h1, fun k b hp => ?_, h2⟩
  have := AudState.presents_due hp
  rw [h1] at this
  simpa using (List.mem_filter.mp this).2

/-- What leaves AUD's turns and ARB alone abandons no prefetch. -/
theorem AbandonsPrefetches.none {s t : State} (h1 : t.aud = { s.aud with streams := t.aud.streams })
    (h2 : t.arb = s.arb) :
    AbandonsPrefetches (fun _ => false) s t := by
  refine .intro (by rw [h1]; simp) ?_
  rw [h2]
  have : (fun f : Flight => match f.owner with | .audio _ => { f with live := f.live && !false } | _ => f) = id := by
    funext f; cases f with | mk o l h b => cases o <;> simp
  rw [this]; simp

/-- One after the other, two operations abandon what either does. -/
theorem AbandonsPrefetches.trans {g1 g2 : Seat → Bool} {s u t : State} (a : AbandonsPrefetches g1 s u)
    (b : AbandonsPrefetches g2 u t) : AbandonsPrefetches (fun k => g1 k || g2 k) s t := by
  obtain ⟨a1, -, a3⟩ := a
  obtain ⟨b1, -, b3⟩ := b
  refine .intro ?_ ?_
  · rw [b1, a1]; simp [List.filter_filter, Bool.and_comm]
  · rw [b3, a3]
    simp only [List.map_map]
    congr 1
    refine List.map_congr_left fun f _ => ?_
    cases f with | mk o l h b => cases o <;> simp [Bool.and_assoc]

theorem State.stopStream_abandons (s : State) (k : Seat) : AbandonsPrefetches (fun j => j == k) s (s.stopStream k) := by
  refine .intro ?_ ?_
  · simp [State.stopStream, State.abandonPrefetch, State.kill]; rfl
  · simp only [State.stopStream, State.abandonPrefetch, State.kill, State.setAud_arb, State.setArb_arb, killFlights]
    congr 1
    refine List.map_congr_left fun f _ => ?_
    cases f with | mk o l h b => cases o with
      | audio j => cases j <;> cases k <;> simp
      | _ => simp

theorem State.startStream_abandons (s : State) (k : Seat) (i : Nat) (g : AudioRing) (a b : Nat) :
    AbandonsPrefetches (fun j => j == k) s (s.startStream k i g a b) := by
  refine .intro ?_ ?_
  · simp [State.startStream, State.abandonPrefetch, State.kill]; rfl
  · simp only [State.startStream, State.abandonPrefetch, State.kill, State.setAud_arb, State.setArb_arb, killFlights]
    congr 1
    refine List.map_congr_left fun f _ => ?_
    cases f with | mk o l h b => cases o with
      | audio j => cases j <;> cases k <;> simp
      | _ => simp

/-- R86: a stream whose ring the table has lost abandons its prefetch. -/
theorem State.loseRing_abandons (s : State) (k : Seat) (gone : Nat → Bool) :
    AbandonsPrefetches (fun j => j == k && ((Pair.get s.aud.streams k).ring.any (fun r => gone r.idx))) s
      (s.loseRing k gone) := by
  unfold State.loseRing
  cases (Pair.get s.aud.streams k).ring with
  | none => simp only [Option.any_none, Bool.and_false]; exact .none rfl rfl
  | some r =>
    simp only [Option.any_some]
    split
    · rename_i h; simp only [h, Bool.and_true]; exact s.stopStream_abandons k
    · rename_i h; simp only [h, Bool.and_false]; exact .none rfl rfl

end Sys2Proof.Machine
end

