-- ==== Sys2Proof/Laws/Time.lean ====
section
/-! SUPPORT. What reference ticks make of the machine, said once (`State.advance_ticks`), and how the ticks of a backlight
counter add up. -/

namespace Sys2Proof.Machine

open Sys2Proof

theorem Display.advance_run (x : Display) (t : DispTiming) (n : Nat) (h : x.running = true) :
    x.advance t n = x.ticked t n := by
  simp [Display.advance, Display.ticked, h, DispTiming.lineClocks]

theorem PwmState.advance_started (c : PwmState) (p n : Nat) (h : c.started = true) :
    c.advance p n = c.ticked p n := by
  simp [PwmState.advance, PwmState.ticked, h, PwmState.moveTo, PwmState.position]

/-- All that `n` reference ticks do: the counters move as `TicksPass` says, and nothing else changes. -/
theorem State.advance_ticks (s : State) (n : Nat) : TicksPass n s (s.advance n) := by
  refine ⟨?_, s.advance_tb n, s.advance_boot n, s.advance_aud n, s.advance_cam n, s.advance_link n, s.advance_guide n,
    fun d p hp => ?_, fun d => ?_, fun hp => ?_⟩
  · simp [State.ext_fields]
  · unfold State.display State.pwm
    rw [s.advance_disp, s.advance_bl]
    simp only [State.advanceDisplays, hp]
    rcases d with _ | (_ | _) <;>
      exact ⟨fun h => Display.advance_run _ _ _ h, fun h => PwmState.advance_started _ _ _ h⟩
  · unfold State.display State.pwm
    rw [s.advance_disp, s.advance_bl]
    unfold State.advanceDisplays
    cases s.boot.profile with
    | none => exact ⟨fun _ => rfl, fun _ => rfl⟩
    | some p => rcases d with _ | (_ | _) <;> refine ⟨fun h => ?_, fun h => ?_⟩ <;>
        simp_all [Tri.get, Display.advance, PwmState.advance]
  · rw [s.advance_disp, s.advance_bl]; simp [State.advanceDisplays, hp]

theorem PwmState.ticked_started (c : PwmState) (p n : Nat) : (c.ticked p n).started = c.started := by
  unfold PwmState.ticked; dsimp only; generalize (_ + n) % p = a; by_cases h : a < p / 2 <;> simp [h]

/-- A backlight counter's places go round its period: its ticks add up (R14). -/
theorem PwmState.ticked_add (c : PwmState) (p m n : Nat) : (c.ticked p m).ticked p n = c.ticked p (m + n) := by
  have key : ∀ q, (if ({ c with counter := q, down := false } : PwmState).down = true then p - 1 - q else q) = q := by simp
  rcases Nat.eq_zero_or_pos p with rfl | hp
  · unfold PwmState.ticked; simp
  · set a := (if c.down = true then p - 1 - c.counter else c.counter) with ha
    have hm : (a + m) % p < p := Nat.mod_lt _ hp
    have e : ((a + m) % p + n) % p = (a + (m + n)) % p := by rw [Nat.mod_add_mod, Nat.add_assoc]
    unfold PwmState.ticked
    simp only [← ha]
    by_cases h : (a + m) % p < p / 2
    · simp [h, e]
    · simp only [h, if_false]
      have e2 : p - 1 - (p - 1 - (a + m) % p) = (a + m) % p := by omega
      simp [e2, e]

end Sys2Proof.Machine
end

