-- ==== Sys2Proof/Tests/Slice0.lean ====
section
/-! SUPPORT. The model's own tests. The first part checks WellFormed with terms it must refuse; the second holds the
spec's worked examples, each expected value taken from the table or sentence its name and comment give; the third shows,
for every statement with hypotheses, a concrete state and operands that meet them together. -/

namespace Sys2Proof.Tests

open Sys2Proof Sys2Proof.Machine

/-! ### WellFormed -/

def zeroW : WBeat := strobed zeroBeat

theorem test_wf_request_of_none : Instr.wf (.hostRequest { beatNo := 0, op := .read 0 }) = false := by decide
theorem test_wf_request_of_17 : Instr.wf (.hostRequest { beatNo := 0, op := .write (List.replicate 17 zeroW) }) = false := by
  decide
theorem test_wf_request_of_16 : Instr.wf (.hostRequest { beatNo := 0, op := .read 16 }) = true := by decide
theorem test_wf_piece_of_17 : Instr.wf (.hostPieceComplete (.ok (List.replicate 17 zeroBeat))) = false := by decide
theorem test_wf_read_burst_of_15 : Instr.wf (.loadReadBurstComplete (.ok (List.replicate 15 zeroBeat))) = false := by decide
theorem test_wf_reread_of_2 : Instr.wf (.loadRereadComplete (.ok [zeroBeat, zeroBeat])) = false := by decide
theorem test_wf_scan_burst_of_17 : Instr.wf (.scanBurstComplete .centre (.ok (List.replicate 17 zeroBeat))) = false := by
  decide
theorem test_wf_audio_burst_of_1 : Instr.wf (.audioBurstComplete (.ok [zeroBeat])) = false := by decide
theorem test_wf_profile_too_long (rest : List Byte) (h : rest.length = 16383) : Instr.wf (.profileReadDone rest) = false := by
  simp only [Instr.wf, h]; rfl
theorem test_wf_column_1920 : Instr.wf (.layerUnderrun .centre .base 1920) = false := by decide
theorem test_refused_by_name :
    exec (.loadRereadComplete (.ok [])) State.reset = .refused .illFormed := rfl

/-! ### Worked examples of the spec -/

/-- Table 12, and the sentence after it. -/
theorem test_table12_alpha : combinedAlpha 128 200 = 101 ∧ blendChannel 101 200 40 = 103 ∧ combinedAlpha 255 128 = 128 ∧
    blendChannel 128 255 0 = 128 := by decide

def scroll130 : SceneOverlay :=
  { region := some 0, la := 255, revVisible := false, x := 0, y := 0, scrT := 40, scrS := 400, scrB := 40, scrP := 130 }

/-- Table 13, and the two sentences after it. -/
theorem test_table13_scroll : scrollRow scroll130 480 39 = 39 ∧ scrollRow scroll130 480 40 = 170 ∧
    scrollRow scroll130 480 309 = 439 ∧ scrollRow scroll130 480 310 = 40 ∧ scrollRow scroll130 480 439 = 169 ∧
    scrollRow scroll130 480 440 = 440 ∧ scrollRow { scroll130 with scrP := 530 } 480 40 = 170 ∧
    scrollRow { scroll130 with scrB := 30 } 480 40 = 40 := by decide

/-- R14: P = 24,000 and a duty of 2048 give the threshold 6001. -/
theorem test_r14_threshold : threshold 24000 2048 = 6001 := by decide

def swizzleHN : Swz := { h := true, b := false, r := false, n := true }

/-- Table 18: 0x11223344 from the host is 0xCCBBEEDD in DRAM, and a strobe moves with its byte. -/
theorem test_table18_swizzle :
    swizzleWrite swizzleHN
        ⟨⟨⟨0x44, true⟩, ⟨0x33, false⟩, ⟨0x22, false⟩, ⟨0x11, false⟩⟩, ⟨⟨0x44, true⟩, ⟨0x33, true⟩, ⟨0x22, true⟩, ⟨0x11, true⟩⟩⟩ =
      ⟨⟨⟨0xDD, false⟩, ⟨0xEE, false⟩, ⟨0xBB, true⟩, ⟨0xCC, false⟩⟩, ⟨⟨0xDD, true⟩, ⟨0xEE, true⟩, ⟨0xBB, true⟩, ⟨0xCC, true⟩⟩⟩ ∧
    reverseByte 0x44 = 0x22 := by decide

def film640 (o : Orient) : Film :=
  { base := 0x40000000, size := 0x300000, width := 640, height := 360, swz := ⟨false, false, false, false⟩, orient := o,
    seat := .left, count := 3 }

def path640 (o : Orient) : PathState :=
  { PathState.init with table := .film (film640 o) :: List.replicate 15 .absent }

/-- The write of Table 19: 16 beats at logical offset 12,736 of buffer 0. -/
def write19 : HostReq := { beatNo := BitVec.ofNat 29 ((0x40000000 + 12736) / 8), op := .write (List.replicate 16 zeroW) }

/-- Table 19, MIRROR_X: two pieces, at offsets 10,240 and 15,296, reversed. -/
theorem test_table19_mirror :
    ((path640 .mirrorX).classify write19).map (fun x => (x.burst.addr - 0x40000000, x.burst.beats, x.reversed)) =
      [(10240, 8, true), (15296, 8, true)] := by decide

/-- Table 19, ROTATE_180: one piece, at offset 908,736, reversed. -/
theorem test_table19_rotate :
    ((path640 .rotate180).classify write19).map (fun x => (x.burst.addr - 0x40000000, x.burst.beats, x.reversed)) =
      [(908736, 16, true)] := by decide

/-- Table 23: the slot sizes of the three films. -/
theorem test_table23_slots : (film640 .normal).slotBytes = 925696 ∧
    Film.slotBytes { film640 .normal with width := 1280, height := 720 } = 3690496 ∧
    Film.slotBytes { film640 .normal with width := 1024, height := 576 } = 2363392 := by decide

/-- What presents in Table 21: HOST, CAMERA, SCAN_RL and LOAD all along, and those given. -/
def asks21 (more : List Requester) (q : Requester) : Bool :=
  q == .host || q == .camera || q == .scanRl || q == .load || more.contains q

def grant21 (more : List Requester) (h l : Nat) : Option Requester := grantChoice (asks21 more) (fun q => more.contains q) h l

/-- Table 21, grants 1 to 7. -/
theorem test_table21_grants : grant21 [.scanC] 5 61 = some .scanC ∧ grant21 [.scanC, .audio] 7 63 = some .scanC ∧
    grant21 [.audio] 8 64 = some .host ∧ grant21 [.audio] 0 64 = some .audio ∧ grant21 [] 1 64 = some .load ∧
    grant21 [] 2 0 = some .host := by decide

/-- Table 21, the counts at grants 3, 4, 6 and 7. -/
theorem test_table21_counts : starved 7 8 false true = 8 ∧ starved 64 64 false true = 64 ∧ starved 8 8 true true = 0 ∧
    starved 1 8 false true = 2 ∧ starved 0 64 false true = 1 := by decide

def tagRec (n shows : Nat) : TagRecord := { seqNo := BitVec.ofNat 32 n, sync := none, minShows := shows, hold := false }

/-- The set of Table 25 before blank event 3: frame 1 SHOWN once more than once shown, frames 2 and 3 waiting. -/
def set25 : BufSet :=
  { seat := .left, bufs := [⟨.shown, some (tagRec 1 2)⟩, ⟨.ready, some (tagRec 2 2)⟩, ⟨.ready, some (tagRec 3 2)⟩],
    ready := [1, 2], shows := 0 }

/-- Table 25, blank events 2 and 3. -/
theorem test_table25_selection : (set25.select Stream.init).flipped = false ∧ (set25.select Stream.init).set.shows = 1 ∧
    ({ set25 with shows := 1 }.select Stream.init).set.bufs = [FilmBuf.fresh, FilmBuf.fresh, ⟨.shown, some (tagRec 3 2)⟩] ∧
    ({ set25 with shows := 1 }.select Stream.init).dropped = 1 ∧ ({ set25 with shows := 1 }.select Stream.init).set.shows = 0 ∧
    ({ set25 with shows := 1 }.select Stream.init).set.ready = [] := by decide

/-- Table 25, blank event 7: the queue is empty and the frame repeats. -/
theorem test_table25_repeat :
    ({ set25 with bufs := [⟨.shown, some (tagRec 5 2)⟩, FilmBuf.fresh, FilmBuf.fresh], ready := [], shows := 1 }.select
      Stream.init).repeated = true := by decide

/-- Table 26: a frame with sync block 108 is not eligible at 106 and is at 110, on time. -/
theorem test_table26_sync :
    let st : Nat → Stream := fun n => { Stream.init with phase := .playing, blockSeq := n }
    let b : FilmBuf := ⟨.ready, some { tagRec 0 1 with sync := some 108 }⟩
    eligible (st 106) b = false ∧ eligible (st 110) b = true ∧ isLate (st 110) b = false ∧ isLate (st 111) b = true := by
  decide

/-- Table 30. -/
theorem test_table30_samples : cabinSample 20000 200 64 30000 = 32767 ∧ cabinSample (-20000) 200 64 (-30000) = -32768 ∧
    cabinSample 20000 200 256 0 = 15625 ∧ headSample 12000 128 3000 = 9000 ∧ headSample 12000 128 0 = 6000 := by decide

/-- R97: −1,000,000 / 256 goes to −3907. -/
theorem test_r97_rounds_down : (-1000000 : Int) / 256 = -3907 := by decide

def kWorked : List Int := (List.range 17).map (fun (i : Nat) => 700 * ((i : Int) - 8))

/-- 7.6: the angle 2500 gives 1795, 7800 gives 5600, −9000 gives −5600. -/
theorem test_worked_curvature : curvature kWorked 2500 = 1795 ∧ curvature kWorked 7800 = 5600 ∧
    curvature kWorked (clampAngle (-9000)) = -5600 := by decide

def guideWorked : GuideProfile :=
  { k := kWorked, w := 1800, yb := 1000, smax := 2000, lineWidth := 3, markerHeight := 2, l1 := 750, l2 := 1500, l3 := 2000,
    a1 := 700, a2 := 640, a3 := 0, b1 := 0, b2 := 200, b3 := 500000, c1 := 0, c2 := 1, c3 := 0, colour1 := 0, colour2 := 0,
    colour3 := 0, colourStatic := 0 }

/-- Table 38, the rows s = 0, 750, 1000 and 2000. -/
theorem test_table38_points : edgePoints guideWorked 1795 0 = (some ⟨10, 700⟩, some ⟨1270, 700⟩) ∧
    edgePoints guideWorked 1795 750 = (some ⟨292, 486⟩, some ⟨1012, 486⟩) ∧
    edgePoints guideWorked 1795 1000 = (some ⟨344, 450⟩, some ⟨974, 450⟩) ∧
    edgePoints guideWorked 1795 2000 = (some ⟨480, 367⟩, some ⟨900, 367⟩) := by decide

/-- Table 40: row 486 after every insertion of the build. -/
theorem test_table40_row :
    (([⟨290, 290, 1⟩, ⟨291, 291, 1⟩, ⟨292, 292, 1⟩, ⟨292, 292, 2⟩, ⟨293, 293, 2⟩, ⟨294, 294, 2⟩, ⟨1013, 1013, 1⟩,
        ⟨1012, 1012, 1⟩, ⟨1012, 1012, 2⟩, ⟨1011, 1011, 2⟩, ⟨292, 1012, 1⟩] : List Span).foldl SpanRow.insert
          SpanRow.empty).spans = [⟨290, 1013, 1⟩, ⟨292, 294, 2⟩, ⟨1011, 1012, 2⟩] := by decide

/-- R136: a seventh span that merges with none is dropped and marks the row. -/
theorem test_r136_overfull :
    (([⟨0, 0, 1⟩, ⟨2, 2, 1⟩, ⟨4, 4, 1⟩, ⟨6, 6, 1⟩, ⟨8, 8, 1⟩, ⟨10, 10, 1⟩, ⟨12, 12, 1⟩] : List Span).foldl SpanRow.insert
      SpanRow.empty) = { spans := [⟨0, 0, 1⟩, ⟨2, 2, 1⟩, ⟨4, 4, 1⟩, ⟨6, 6, 1⟩, ⟨8, 8, 1⟩, ⟨10, 10, 1⟩], overfull := true } := by
  decide

/-- R149: the phase increments of 1000, 100 and 8000 Hz. -/
theorem test_r149_increments : phaseStep 1000 = 349525 ∧ phaseStep 100 = 34953 ∧ phaseStep 8000 = 2796203 := by decide

def step1000 : ChimeStep := { tone := 1000, duration := 100, level := 200, attack := 5, release := 0 }

/-- Table 50: the samples of frames 0, 1, 24, 120 and 240, with their envelopes. -/
theorem test_table50_samples : toneSample step1000 0 (envelope step1000 0) = 0 ∧
    toneSample step1000 349525 (envelope step1000 1) = -92 ∧ toneSample step1000 8388600 (envelope step1000 24) = 2499 ∧
    toneSample step1000 8388568 (envelope step1000 120) = 12799 ∧
    toneSample step1000 16777136 (envelope step1000 240) = -25600 := by decide

/-- R158: the last frame of a fade from 256 has the envelope 1, from 239 the envelope 0. -/
theorem test_r158_fade : fadeEnvelope 256 239 = 1 ∧ fadeEnvelope 239 239 = 0 ∧ fadeEnvelope 256 0 = 256 := by decide

/-- R181: 5400 and 6600 pass, 5399 and 6601 fail. -/
theorem test_r181_bounds : countOk 5400 = true ∧ countOk 6600 = true ∧ countOk 5399 = false ∧ countOk 6601 = false := by
  decide

/-- R180: the strap values 0 and 7 place the control block at the top of the first and the last 512 MB. -/
theorem test_r180_control_block : controlBase 0 = 0x1FFFF000 ∧ controlBase 7 = 0xFFFFF000 := by decide

/-- 00_scope 1.6: the rounding goes to the nearest integer, halves away from zero. -/
theorem test_rounding : roundDiv 7 2 = 4 ∧ roundDiv (-7) 2 = -4 ∧ roundDiv 385000 975 = 395 ∧
    roundDiv 1795000000 33554432 = 53 := by
  decide

/-- Table 58: an acknowledge of LOAD_DONE takes it from every set and drops IRQ. -/
theorem test_table58_acknowledge :
    let l : LoadState :=
      LoadState.acknowledge { LoadState.init with causes := 5, delivered := 1, mask := 0x3FF, irq := true } 1
    l.causes = 4 ∧ l.delivered = 0 ∧ l.irq = false := by decide

/-! ### A small machine -/

/-- A timing in range: 64 × 16, with a backlight period of 256 ticks. -/
def timing0 : DispTiming :=
  { enable := 1, wa := 64, ha := 16, hb := 16, vb := 2, d := 2, background := 0, duty := 1000, period := 256 }

def cam0 : CameraProfile :=
  { width := 64, height := 16, base := 0x40000000, cx := 0, cy := 0, px := 0, py := 0, pw := 32, ph := 8,
    unavailable := 0x00ABCDEF }

def rev0 : ReverseProfile :=
  { debounce := 20, engage := 1000, freeze := 300, release := 2000, duty := 3000, reduce := 1, chime := 9, depth := 2 }

def toneStep : ChimeStep := { tone := 1000, duration := 10, level := 200, attack := 0, release := 0 }

def pat (count repeats priority headphones : Nat) : Pattern :=
  { count := count, repeats := repeats, priority := priority, headphones := headphones,
    steps := List.replicate count toneStep }

/-- The patterns of Table 52, at 3, 5, 9, 12 and 14, of two steps each. -/
def pats52 : List Pattern :=
  [Pattern.none, Pattern.none, Pattern.none, pat 2 0 2 0, Pattern.none, pat 2 3 4 0, Pattern.none, Pattern.none,
   Pattern.none, pat 2 1 6 0, Pattern.none, Pattern.none, pat 2 1 1 1, Pattern.none, pat 2 1 7 1, Pattern.none]

/-- Conditions 1, 4 and 6 map to the patterns of Table 53. -/
def map53 : List Nat := [0xFF, 3, 0xFF, 0xFF, 5, 0xFF, 5] ++ List.replicate 25 0xFF

def prof0 : Profile :=
  { disp := ⟨timing0, timing0, { timing0 with enable := 0 }⟩, cam := cam0, rev := rev0, steerMs := 100, condMs := 500,
    guide := guideWorked, condMap := map53, patterns := pats52 }

def disp0 : Display := { Display.init with running := true, line := 16, blanked := true }

def pwm0 : PwmState := { PwmState.init with started := true, base := 1000, preload := 1000, enabled := true }

/-- A machine in RUNNING: the centre and REAR_L are RUNNING, everything else stands as it started. -/
def live : State :=
  { State.reset with
    boot := { BootState.init with startup := .running, profState := .good, asked := true, profile := some prof0 }
    tb := { running := true, sub := 0 }
    disp := ⟨disp0, disp0, Display.init⟩
    centre := { CentreState.init with calm := 0 }
    aud := { AudState.init with clock := true }
    cam := { CamState.init with phase := .noSignal }
    rvc := { RvcState.start with debounce := none }
    link := { LinkState.init with started := true }
    chime := { ChimeState.init with started := true }
    load := { LoadState.init with begun := true }
    bl := ⟨pwm0, pwm0, PwmState.init⟩ }

/-- A granted burst of an owner, handed over. -/
def flight (o : Owner) : Flight := { owner := o, live := true, handed := true, burst := ⟨false, 0, 16, []⟩ }

/-- The machine with one granted burst. -/
def due (o : Owner) (s : State) : State := { s with arb := { s.arb with flights := [flight o] } }

/-- The state a command leaves. -/
def after (c : Instr) (s : State) : State :=
  match exec c s with
  | .next t => t
  | .fault _ => s
  | .refused _ => s

/-! ### One step each, from the spec's sequences -/

def chime53 : ChimeState := { ChimeState.init with started := true }

def req53 (c : ChimeState) (src : Source) (p : Nat) : ChimeState := (c.request pats52 2 src p).1

/-- Table 53, the first three events: 3 plays, 12 waits, 5 preempts 3 in its step 1. -/
theorem test_table53_preemption :
    let c2 := req53 (req53 chime53 (.cond 1) 3) (.slot 0) 12
    let c3 := req53 { c2 with step := 1 } (.cond 4) 5
    c2.phase = .playing ∧ c2.playing.map (·.pattern) = some 3 ∧ c2.waiting.map (·.pattern) = [12] ∧
      c3.phase = .switching ∧ c3.playing.map (·.pattern) = some 5 ∧
      c3.stack.map (fun e => (e.pattern, e.resume)) = [(3, some { step := 1, passes := none })] := by decide

/-- Table 53, slot 1 PLAY 14 during the fade: the stack is full and 3 is lost. -/
theorem test_table53_lost :
    let e : Nat → Nat → List Source → Option Resume → ChimeEntry := fun p q xs r => ⟨p, q, xs, r, 0⟩
    let c : ChimeState :=
      { chime53 with
        phase := .switching, playing := some (e 9 6 [.reverse] none),
        stack := [e 3 2 [.cond 1] (some ⟨1, none⟩), e 5 4 [.cond 4, .cond 6] (some ⟨0, some 2⟩)],
        waiting := [e 12 1 [.slot 0] none] }
    let c' := req53 c (.slot 1) 14
    c'.phase = .switching ∧ c'.playing.map (·.pattern) = some 14 ∧
      c'.stack.map (fun x => (x.pattern, x.resume)) = [(5, some ⟨0, some 2⟩), (9, some ⟨0, some 1⟩)] ∧
      c'.results = [.blank, .blank, .blank, .blank] := by decide

/-- Table 35: the frame-valid rise with no EMPTY slot picks the oldest COMPLETE one, and the centre blank event makes the
newest COMPLETE slot SHOWING and frees those ahead of it. -/
theorem test_table35_slots :
    let c : CamState :=
      { CamState.init with
        phase := .receiving, slots := [.complete, .complete, .complete, .complete], arrivals := [0, 1, 2, 3], period := some 0 }
    c.newFrame.slots = [.writing, .complete, .complete, .complete] ∧ c.newFrame.arrivals = [1, 2, 3] ∧
      (c.newFrame.blank .rear true).1.slots = [.writing, .empty, .empty, .showing] ∧
      (c.newFrame.blank .rear true).1.arrivals = [3] := by decide

/-- Table 6: the frame with four urgent lines is pressed; REAR_L goes REDUCED while the window is pressed, and returns at
120 calm frames. -/
theorem test_table6_modes :
    let w : Nat → Nat → State := fun u calm => { live with centre := { live.centre with urgentLines := u, calm := calm } }
    (w 4 120).quality false = true ∧ ((w 4 120).centre.closeFrame true).calm = 0 ∧ (w 0 0).quality false = false ∧
      (w 0 119).quality true = true ∧ (w 0 120).quality true = false := by decide

def ring29 : RingRecord :=
  { RingRecord.fresh 0 { base := 0, size := 4096, n := 8 } 0 2 with
    blocks := [.empty, .playing, .empty, .empty, .empty, .empty, .empty, .empty], awaited := none, playing := some 1 }

/-- Table 29: block 1 has finished, block 2 is EMPTY: UNDERRUN with the sequence at 2. -/
theorem test_table29_underrun :
    let x := Stream.boundary { Stream.init with phase := .playing, blockSeq := 1, ring := some ring29 }
    x.1.phase = .underrun ∧ x.1.blockSeq = 2 ∧ x.1.underruns = 1 ∧ x.1.ring.bind (·.awaited) = some 2 ∧ x.2 = true := by decide

/-- Seven bytes of a steering frame with counter 9 and angle 2600 valid (Table 45). -/
def steer9 : List Byte := [0x5A, 1, 9, 0x28, 0x0A, 1, 0]

/-- Table 46: after counter 7, a steering frame with counter 9 and angle 2600 is accepted and counts a gap. The check byte
is 0xFF minus the sum 0x3D. -/
theorem test_table46_steering :
    let s : State :=
      { live with
        link := { live.link with
                  rx := .inByte, held := steer9, good := 1, steering := { last := some 7, stale := false, timer := some 50 } } }
    let t := after (.linkByteTaken 0xC2) s
    t.link.angle = 2600 ∧ t.link.valid = true ∧ t.link.good = 2 ∧ t.link.gaps = 1 ∧
      t.link.steering = { last := some 9, stale := false, timer := some 100 } := by decide

/-- Table 46: a damaged payload byte is found by the check. -/
theorem test_table46_damaged :
    (after (.linkByteTaken 0xC3) { live with link := { live.link with rx := .inByte, held := steer9 } }).link.checkErrors =
      1 := by decide

/-- R38: the first byte beyond address 0xFFFFFFFF gives ERROR at once. -/
theorem test_r38_beyond_top :
    let t := after (.hostRequest { beatNo := BitVec.ofNat 29 (2 ^ 29 - 1), op := .write [zeroW, zeroW] }) live
    t.path.queue = [] ∧ t.path.sent = [{ read := false, ok := false, data := [] }] := by decide

/-- R99: a pixel of red 0x12, green 0x34, blue 0x56 is stored as 0xFF123456. -/
theorem test_r99_pixel : cameraWord 0x123456 = 0xFF123456 := by decide

/-- R16: while reversing the centre duty is at least the reverse duty. -/
theorem test_r16_reverse_duty :
    State.dutyInEffect { live with rvc := { live.rvc with phase := .showing } } .centre = 3000 ∧
      live.dutyInEffect .centre = 1000 := by decide

/-! ### Witnesses: every statement's hypotheses are met -/

/-- A machine with something in every part the invariants speak of, and TB_TICK waiting. -/
def busy : State :=
  { live with
    path := { live.path with dropped := 65535 }
    arb := { hostCount := 3, loadCount := 0, flights := [flight .report] }
    sets := none :: none :: some set25 :: List.replicate 13 none
    cam := { CamState.init with
             phase := .receiving, slots := [.complete, .showing, .writing, .empty], arrivals := [1, 0],
             writing := some { slot := 2, lines := 1, col := 3, lineOpen := true, passed := false, outstanding := 0 } }
    rvc := { live.rvc with phase := .engaging, taken := true, engage := some 10 }
    guide := { GuideState.init with
               front := { SpanTable.empty with
                          rows := { spans := [⟨0, 3, 1⟩, ⟨2, 5, 2⟩], overfull := false } ::
                            List.replicate 15 SpanRow.empty } }
    link := { live.link with held := [0x5A, 1], gap := some 5 }
    chime := { live.chime with
               phase := .playing, playing := some ⟨5, 4, [.cond 4], none, 1⟩,
               stack := [⟨3, 2, [.cond 1], some ⟨1, none⟩, 0⟩], waiting := [⟨12, 1, [.slot 0], none, 2⟩], nextArrival := 3 }
    load := { live.load with
              causes := 1, delivered := 1, mask := 1, irq := true, slot := some (.reportBurst 1),
              report := some { page := [], granted := 1, back := 0, err := false, carried := 1 } }
    pending := [.tbTick] }

theorem busy_steps : ∃ t, step busy = .next t := ⟨_, rfl⟩

theorem set25_sound : set25.Sound := by
  refine ⟨?_, ?_, by decide, ?_⟩
  · intro i j hi hj
    have hi' : i < 3 := hi
    have hj' : j < 3 := hj
    interval_cases i <;> interval_cases j <;> decide
  · intro i
    rcases lt_or_ge i 3 with h | h
    · interval_cases i <;> decide
    · constructor
      · intro hm
        have : i = 1 ∨ i = 2 := by simpa [set25] using hm
        omega
      · intro hm
        have : i < 3 := hm.1
        omega
  · intro i hi
    have hi' : i < 3 := hi
    interval_cases i <;> decide

theorem wit_StepKeepsSets : SetsSound busy ∧ ∃ t, step busy = .next t := by
  refine ⟨?_, busy_steps⟩
  intro i b h
  rcases lt_or_ge i 16 with hi | hi
  · interval_cases i <;> first
      | (have hn : (none : Option BufSet) = some b := h; cases hn)
      | (have hb : some set25 = some b := h; cases hb; exact set25_sound)
  · have : busy.setAt i = none := by
      show (busy.sets[i]?).join = none
      rw [List.getElem?_eq_none (by exact hi)]; rfl
    rw [this] at h; cases h

theorem slot_beyond {c : CamState} {k : Nat} (h : c.slots.length ≤ k) : c.slot k = .empty :=
  List.getD_eq_default _ _ h

theorem busy_camera : CameraSound busy := by
  have hb : ∀ k, 4 ≤ k → busy.cam.slot k = .empty := fun k h => slot_beyond h
  refine ⟨rfl, ?_, ?_, ?_, by decide⟩
  · intro j k hj hk
    rcases lt_or_ge j 4 with h | h
    · rcases lt_or_ge k 4 with h' | h'
      · interval_cases j <;> interval_cases k <;> first | rfl | exact absurd hj (by decide) | exact absurd hk (by decide)
      · rw [hb k h'] at hk; cases hk
    · rw [hb j h] at hj; cases hj
  · intro k
    rcases lt_or_ge k 4 with h | h
    · interval_cases k <;> decide
    · rw [hb k h]
      constructor
      · intro hx; cases hx
      · intro hx
        have h2 : (2 : Nat) = k := by simpa [busy] using hx
        omega
  · intro k
    rcases lt_or_ge k 4 with h | h
    · interval_cases k <;> decide
    · rw [hb k h]
      constructor
      · intro hx
        have : k = 1 ∨ k = 0 := by simpa [busy] using hx
        omega
      · rintro (hx | hx) <;> cases hx

theorem wit_StepKeepsCamera : CameraSound busy ∧ ∃ t, step busy = .next t := ⟨busy_camera, busy_steps⟩

/-- `busy` with the camera region of its profile, a burst of the frame in slot 2 granted and one waiting, and a burst of
the report granted. -/
def placed : State :=
  { busy with
    path := { busy.path with cam := some { base := 0x40000000, slotBytes := 4096 } }
    arb := { busy.arb with
             flights := [{ flight .report with burst := ⟨true, 0x1FFFF800, 16, []⟩ },
               { flight (.camera 32) with burst := ⟨true, 0x40002000, 16, []⟩ }] }
    boot := { busy.boot with cbBase := 0x1FFFF000 }
    cam := { busy.cam with bursts := [{ addr := 0x40002080, npix := 32 }] } }

theorem placed_writes : WritesPlaced placed := by
  refine ⟨?_, fun _ => rfl, ?_, ?_, ?_⟩
  · intro c h
    have hc : ({ base := 0x40000000, slotBytes := 4096 } : CamRegion) = c := Option.some.inj h
    subst hc
    exact ⟨prof0, rfl, by decide⟩
  · intro w h
    have hw : ({ slot := 2, lines := 1, col := 3, lineOpen := true, passed := false, outstanding := 0 } : Writing) = w :=
      Option.some.inj h
    subst hw
    exact ⟨prof0, _, rfl, rfl, by decide, by decide⟩
  · intro b hb
    obtain rfl : b = { addr := 0x40002080, npix := 32 } := by simpa [placed] using hb
    exact ⟨_, rfl, by decide, by decide⟩
  · intro f hf
    have hf' : f = { flight .report with burst := ⟨true, 0x1FFFF800, 16, []⟩ } ∨
        f = { flight (.camera 32) with burst := ⟨true, 0x40002000, 16, []⟩ } := by simpa [placed] using hf
    rcases hf' with rfl | rfl
    · exact ⟨fun n h => (by cases h), fun _ => by unfold State.InStatusPage Burst.Inside; decide, fun _ h => absurd rfl h⟩
    · exact ⟨fun n _ => ⟨rfl, _, rfl, by unfold Burst.Inside; decide⟩, fun h => (by cases h), fun _ _ h => absurd rfl (h 32)⟩

/-- R59: what CAMERA and LOAD present lies where the statement says, and their premises hold of `placed`. -/
theorem wit_StepKeepsCamera_writes :
    (WritesPlaced placed ∧ CameraSound placed ∧ SlotSound placed ∧ BeforeRunning placed ∧ HeldInReset placed) ∧
      (∃ t, step placed = .next t) ∧ (placed.presents .camera).map (·.addr) = some 0x40002080 ∧
      (placed.presents .load).map (fun b => (b.addr, b.write)) = some (0x1FFFF880, true) := by
  refine ⟨⟨placed_writes, busy_camera, ⟨⟨?_, ?_⟩, ?_⟩, fun h => absurd rfl h, fun h => absurd h (by decide)⟩, ⟨_, rfl⟩,
    by decide, by decide⟩
  · intro i h
    have h1 : (1 : Nat) = i := by simpa [placed, busy] using h
    subst h1
    exact ⟨by decide, _, rfl, rfl⟩
  · intro i h; exact absurd h (by simp [placed, busy])
  · show 1 ≤ 8 ∧ 0 + placed.reportFlights = 1 ∧ 0 < 8
    decide

theorem wit_StepKeepsHeldInReset :
    HeldInReset { State.reset with pending := [.pornRelease 3] } ∧
      ∃ t, step { State.reset with pending := [.pornRelease 3] } = .next t := ⟨fun _ => rfl, _, rfl⟩

theorem wit_StepKeepsLoad : (IrqFormed busy ∧ SlotSound busy) ∧ ∃ t, step busy = .next t := by
  refine ⟨⟨by unfold IrqFormed; decide, ⟨?_, ?_⟩, ?_⟩, busy_steps⟩
  · intro i h
    have h1 : (1 : Nat) = i := by simpa [busy] using h
    subst h1
    exact ⟨by decide, _, rfl, rfl⟩
  · intro i h; exact absurd h (by simp [busy])
  · show 1 ≤ 8 ∧ 0 + busy.reportFlights = 1 ∧ 0 < 8
    decide

theorem wit_StepKeepsCounters : CountersHold busy ∧ ∃ t, step busy = .next t := by
  refine ⟨?_, busy_steps⟩
  show ∀ n ∈ busy.counters, n ≤ 65535
  decide

theorem wit_StepKeepsBounds : (BoundsHold busy ∧ RvcTimersSound busy ∧ LinkSound busy) ∧ ∃ t, step busy = .next t := by
  refine ⟨⟨by unfold BoundsHold; decide, by unfold RvcTimersSound; decide, by decide, ?_, by decide⟩, busy_steps⟩
  intro b h
  have : (0x5A : Byte) = b := by simpa [busy] using h
  exact this.symm

theorem wit_StepKeepsSpans : (SpansSound busy ∧ BeforeRunning busy) ∧ ∃ t, step busy = .next t := by
  refine ⟨⟨⟨?_, ?_, fun h => absurd h (by decide), ?_⟩, fun h => absurd rfl h⟩, busy_steps⟩
  · simp only [SpanTable.Sound, SpanRow.Sound]; decide
  · simp only [SpanTable.Sound, SpanRow.Sound]; decide
  · intro p h
    have hp : prof0 = p := Option.some.inj h
    subst hp
    simp only [SpanTable.Within]; decide

theorem wit_StepKeepsStarts_lights : BacklightSound busy ∧ ∃ t, step busy = .next t :=
  ⟨by rintro (_ | _ | _) <;> decide, busy_steps⟩

theorem wit_StepKeepsStarts : (LinesSound busy ∧ BeforeRunning busy) ∧ ∃ t, step busy = .next t := by
  refine ⟨⟨?_, fun h => absurd rfl h⟩, busy_steps⟩
  rintro (_ | _ | _) h
  · exact ⟨rfl, timing0, rfl, by decide, by decide⟩
  · exact ⟨rfl, timing0, rfl, by decide, by decide⟩
  · cases h

/-- Before RUNNING: the premise of BeforeRunning is met too. -/
theorem wit_StepKeepsStarts_before :
    (LinesSound State.reset ∧ BeforeRunning State.reset) ∧ ∃ t, step State.reset = .next t := by
  refine ⟨⟨?_, ?_⟩, _, rfl⟩
  · rintro (_ | _ | _) h <;> cases h
  · intro _
    refine ⟨rfl, rfl, ?_, rfl, rfl, rfl, rfl, rfl, rfl, rfl, rfl⟩
    rintro (_ | _ | _) <;> exact ⟨rfl, rfl⟩

theorem busy_chime : ChimeSound busy := by
  unfold ChimeSound ChimeState.Sound
  decide

theorem wit_StepKeepsChimes : ChimeSound busy ∧ ∃ t, step busy = .next t := ⟨busy_chime, busy_steps⟩

theorem wit_StepKeepsChimes_ranked :
    (ChimeSound busy ∧ ChimeRanked busy ∧ ProfileSound busy ∧ BeforeRunning busy) ∧ ∃ t, step busy = .next t := by
  have hp : busy.boot.profile = some prof0 := rfl
  refine ⟨⟨busy_chime, ⟨⟨by decide, ?_, by decide, ?_⟩, by decide, fun h => (by rw [hp] at h; cases h), ?_⟩,
    ⟨by decide, by decide, ?_⟩, fun h => absurd rfl h⟩, busy_steps⟩
  · simp [busy, ChimeState.entries]
  · intro e he
    have h : (⟨5, 4, [.cond 4], none, 1⟩ : ChimeEntry) = e := Option.some.inj he
    subst h; decide
  · intro p h e he
    rw [hp] at h; cases h
    simp only [busy, ChimeState.entries, Option.toList, List.cons_append, List.nil_append, List.mem_cons,
      List.not_mem_nil, or_false] at he
    rcases he with rfl | rfl | rfl <;> simp [prof0, map53]
  · intro p h
    rw [hp] at h; cases h; decide

theorem wit_IdleStepIsOneTick : live.pending = [] ∧ live.tb.running = true ∧ live.disp.c.running = true ∧
    live.boot.profile = some prof0 ∧ (live.pwm .centre).started = true ∧ (live.pwm (.rear .right)).started = false ∧
    State.reset.pending = [] ∧ State.reset.boot.profile = none := by decide

/-- The counters of a machine in RUNNING stand within their bounds, also where one stands at its limit. -/
theorem wit_IdleStepIsOneTick_bounds :
    TickBoundsHold { live with boot := { live.boot with clkCount := 8191 }, cam := { live.cam with period := some 25165800 } } := by
  refine ⟨by decide, by decide, by decide, ?_, ?_, ?_⟩
  · rintro _ ⟨⟩; decide
  · rintro _ ⟨⟩
  · rintro d _ ⟨⟩; revert d; rintro (_ | _ | _) <;> decide

/-- R1, R14: five ticks after four are nine; a line clock and a PWM counter that turns among them. -/
theorem wit_IdleStepIsOneTick_adds :
    let s : State := { live with bl := { live.bl with c := { live.bl.c with counter := 125 } } }
    (s.advance 4).advance 5 = s.advance 9 ∧ (s.advance 9).disp.c.lineClk = 72 ∧
      ((s.advance 2).pwm .centre).counter = 127 ∧ ((s.advance 9).pwm .centre).counter = 121 ∧
      ((s.advance 9).pwm .centre).down = true ∧ s.advance 0 = s := by decide

theorem wit_EveryCommandRuns :
    Instr.wf .tbTick = true ∧ Instr.wf (.hostRequest { beatNo := 0, op := .read 0 }) = false := by decide

/-- REVIN is at reverse and the debounce timer runs in OFF. -/
def reverseDue : State :=
  { live with pins := { Pins.rest with revin := true }, rvc := { live.rvc with debounce := some 0 } }

theorem wit_RvcStateChangesOnlyAt :
    ∃ t, exec .debounceExpiry reverseDue = .next t ∧ t.rvc.phase ≠ reverseDue.rvc.phase := ⟨_, rfl, by decide⟩

def sceneOff : Scene :=
  let o : SceneOverlay :=
    { region := none, la := 0, revVisible := false, x := 0, y := 0, scrT := 0, scrS := 0, scrB := 0, scrP := 0 }
  { enable := false, mark := .blank, duty := 7, background := 0, base := none, x := 0, y := 0, ov0 := o, ov1 := o }

/-- A scene waits in the centre, reverse is engaged. -/
def sceneDue : State :=
  { live with
    disp := { live.disp with c := { disp0 with staged := some sceneOff } }, rvc := { live.rvc with phase := .engaging } }

theorem wit_DisplayContentChangesOnlyAt :
    ∃ t, exec .centreBlankEvent sceneDue = .next t ∧ (t.display .centre).content ≠ (sceneDue.display .centre).content ∧
      t.centre.view ≠ sceneDue.centre.view := ⟨_, rfl, by decide, by decide⟩

theorem wit_DisplayContentChangesOnlyAt_frame :
    ∃ t, exec .centreActiveEvent live = .next t ∧ (t.display .centre).frameNo ≠ (live.display .centre).frameNo :=
  ⟨_, rfl, by decide⟩

/-- The film of 640 × 360 in table entry 0, with the control block of strap 0. -/
def tabled : State := { live with path := path640 .normal, boot := { live.boot with cbBase := 0x1FFFF000 } }

theorem wit_TableChangesOnlyAt : ∃ t, exec .hostReset tabled = .next t ∧ t.path.table ≠ tabled.path.table :=
  ⟨_, rfl, by decide⟩

theorem entry640 (o : Orient) (i : Nat) : entryAt (path640 o).table i = if i = 0 then .film (film640 o) else .absent := by
  rcases i with _ | i
  · rfl
  · rcases lt_or_ge i 15 with h | h
    · interval_cases i <;> rfl
    · exact List.getD_eq_default _ _ (by simpa [path640] using h)

/-- R44, R169: a film alone, away from the control block and from a camera region above it. -/
theorem apart640 (o : Orient) (cam : Option CamRegion) (h : ∀ c, cam = some c → 0x40300000 ≤ c.base) :
    TableApart (path640 o).table 0x1FFFF000 cam := by
  have away : ∀ a, (Region.film (film640 o)).holds a = true → 0x40000000 ≤ a ∧ a < 0x40300000 := fun a hx =>
    (of_decide_eq_true hx : 0x40000000 ≤ a ∧ a < 0x40000000 + 0x300000)
  refine ⟨fun i => ?_, fun i j a hi hj => ?_, fun i a hi => ?_⟩
  · rw [entry640]
    split
    · cases o <;> (unfold Region.Fits; decide)
    · trivial
  · rw [entry640] at hi hj
    split at hi
    · split at hj
      · omega
      · cases hj
    · cases hi
  · rw [entry640] at hi
    split at hi
    · have := away a hi
      refine ⟨by omega, fun c hc => decide_eq_false ?_⟩
      have := h c hc
      omega
    · cases hi

theorem wit_TableChangesOnlyAt_apart : (TableSound tabled ∧ HeldInReset tabled) ∧ ∃ t, step tabled = .next t :=
  ⟨⟨apart640 .normal none (fun _ h => (by cases h)), fun h => absurd h (by decide)⟩, _, rfl⟩

theorem wit_ResetPinRows : State.reset.boot.startup = .reset := rfl

/-- A measurement in progress: 5000 ticks counted. -/
def measuring : State := { State.reset with boot := { BootState.init with startup := .clockCheck, clkCount := 5000 } }

theorem wit_ClockCheckEndJudges : measuring.boot.startup = .clockCheck ∧ measuring.boot.asked = false ∧
    (after (.clockCheckEnd 400) measuring).flashSelected = true ∧
    (after (.clockCheckEnd 400) measuring).boot.refCount = 5400 ∧ (after (.clockCheckEnd 399) measuring).boot.refCount = 5399 ∧
    (after (.clockCheckEnd 400) measuring).boot.startup = .profileRead ∧
    (after (.clockCheckEnd 399) measuring).boot.startup = .clockCheck := by decide

/-- R166: a generation taken before LOAD begins work begins a load at that moment, and none begins one where none was. -/
theorem wit_ClockCheckEndJudges_load :
    let s : State := { measuring with load := { LoadState.init with latestGen := 5 } }
    (s.load.phase = .idle ∧ s.load.latestGen ≠ s.load.loaded ∧ s.load.latestGen ≠ s.load.refused) ∧
      s.load.slot = none ∧ s.load.report = none ∧ (after (.clockCheckEnd 400) s).load.loadGen = 5 ∧
      (after (.clockCheckEnd 400) s).load.slot = some (.readBurst 0) ∧
      ¬(measuring.load.latestGen ≠ measuring.load.loaded) ∧
      (after (.clockCheckEnd 400) measuring).load.phase = .idle ∧
      (after (.clockCheckEnd 400) measuring).rvc.taken = false := by decide

/-- The elapsed ticks pass before the end of the measurement: a counter that the row leaves has moved. -/
theorem wit_ClockCheckEndJudges_ticks :
    let s : State := { measuring with link := { measuring.link with gap := some 7 } }
    (after (.clockCheckEnd 400) s).link.gap = some 407 ∧ (after (.clockCheckEnd 399) s).link.gap = some 406 ∧
      (after (.clockCheckEnd 3191) s).boot.refCount = 8191 ∧ (after (.clockCheckEnd 9999) s).boot.refCount = 8191 ∧
      (after (.clockCheckEnd 1600) s).boot.startup = .profileRead ∧
      (after (.clockCheckEnd 1601) s).boot.startup = .clockCheck := by decide

def reading : State := { State.reset with boot := { BootState.init with startup := .profileRead } }

theorem wit_ProfileJudged_length : reading.boot.startup = .profileRead ∧ reading.boot.imageLen = none ∧
    (after (.profileLengthRead 64 0) reading).boot.imageLen = some 64 ∧
    (after (.profileLengthRead 62 0) reading).boot.startup = .profileFault ∧
    (after (.profileLengthRead 65 0) reading).boot.profState = .badLength := by decide

/-- R182: the select line is low while BOOT reads, and high once it has the image or has refused it. -/
theorem wit_ProfileJudged_flash : reading.flashSelected = true ∧
    (after (.profileLengthRead 64 0) reading).flashSelected = true ∧
    (after (.profileLengthRead 62 0) reading).flashSelected = false ∧ live.boot.startup ≠ .profileRead := by decide

/-- R182: 0x03 goes out most significant bit first, and a byte read so comes back. -/
theorem test_r182_flash_bits : flashBits 0x03 = [false, false, false, false, false, false, true, true] ∧
    flashByte (flashBits 0xA5) = 0xA5 := by decide

/-- Two bytes, little-endian. -/
def w2 (n : Nat) : List Byte := bytesLE 2 n

/-- A profile of 0x740 bytes (Table 68), the least length R183 lets pass, with the centre driven at 64 × 16, a 64 × 16
camera at 0x40000000 and no step in any pattern. `sum` makes the 16-bit words add up to a multiple of 65536. -/
def image0 (sum : Nat) : List Byte :=
  w2 1856 ++ w2 sum ++ List.replicate 12 0 ++
    (w2 1 ++ w2 64 ++ w2 16 ++ w2 16 ++ w2 2 ++ w2 2 ++ List.replicate 4 0 ++ w2 1000 ++ w2 256 ++ List.replicate 12 0) ++
    List.replicate 64 0 ++
    (w2 64 ++ w2 16 ++ bytesLE 4 0x40000000 ++ w2 0 ++ w2 0 ++ w2 0 ++ w2 0 ++ w2 32 ++ w2 8 ++ List.replicate 4 0 ++
      w2 20 ++ w2 1000 ++ w2 300 ++ w2 2000 ++ w2 3000 ++ [1, 9, 2, 0] ++ List.replicate 2 0 ++ w2 100 ++ w2 500) ++
    List.replicate 38 0 ++ (w2 1800 ++ w2 1000 ++ w2 2000 ++ [3, 2] ++ w2 750 ++ w2 1500 ++ w2 2000) ++
    List.replicate 1648 0

/-- The image with its sum right. -/
def imageGood : List Byte := image0 27027

def readingOn (sum : Nat) : State :=
  { State.reset with
    boot := { BootState.init with
              startup := .profileRead, image := (image0 sum).take 2, imageLen := some 1856, strap := 0 } }

set_option maxRecDepth 100000 in
theorem imageGood_passes : imageSum imageGood % 65536 = 0 ∧ imageGood.length = 0x740 ∧
    (readProfile imageGood).ok 0x1FFFF000 = true := by decide

set_option maxRecDepth 100000 in
/-- R183: with its sum mended, an image two bytes short of 0x740 does not pass. -/
theorem test_r183_short : imageSum ((image0 27027).take 0x73E) % 65536 = 0 ∧
    imageOk ((image0 27027).take 0x73E) 0x1FFFF000 = false ∧ imageOk imageGood 0x1FFFF000 = true := by decide

set_option maxRecDepth 100000 in
theorem wit_ProfileJudged_image : ((image0 27027).drop 2).length ≤ 16382 ∧ (readingOn 27027).boot.startup = .profileRead ∧
    (readingOn 27027).boot.asked = false ∧ (readingOn 27027).boot.imageLen = some (((image0 27027).drop 2).length + 2) ∧
    (readingOn 27027).boot.image ++ (image0 27027).drop 2 = imageGood ∧ imageSum (image0 27026) % 65536 ≠ 0 := by decide

set_option maxRecDepth 100000 in
/-- Table 68, R183: the fields of the image, and values just out of range. -/
theorem wit_ProfileJudged_fields :
    let p := readProfile imageGood
    p.disp.c = timing0 ∧ p.cam = { cam0 with unavailable := 0 } ∧ p.rev = rev0 ∧ p.steerMs = 100 ∧ p.condMs = 500 ∧
      p.guide.w = 1800 ∧ p.guide.smax = 2000 ∧ p.guide.l3 = 2000 ∧ p.guide.k.length = 17 ∧ p.condMap.length = 32 ∧
      p.patterns.length = 16 ∧ p.ok 0x1FFFF000 = true ∧ p.ok 0x40001000 = false ∧
      ({ p with steerMs := 49 } : Profile).ok 0x1FFFF000 = false ∧
      ({ p with cam := { p.cam with width := 66 } } : Profile).ok 0x1FFFF000 = false ∧
      ({ p with rev := { rev0 with depth := 3 } } : Profile).ok 0x1FFFF000 = false ∧
      ({ p with guide := { p.guide with l3 := 2001 } } : Profile).ok 0x1FFFF000 = false := by decide

def defining : State :=
  { State.reset with
    boot := { BootState.init with
              startup := .profileRead, image := imageGood, imageLen := some 1856, profState := .good, asked := true } }

set_option maxRecDepth 100000 in
theorem wit_CameraRegionDefined : defining.mayDefine = true ∧
    (readProfile defining.boot.image).disp.c.drives .centre = true ∧
    (readProfile defining.boot.image).disp.l.drives (.rear .left) = false := by decide

/-- Before RUNNING, with a film buffer over the camera region presented on REAR_L and a ring beside each stream: table
entry 1 keeps its place, entry 2 meets the region. -/
def definingOver : State :=
  let g : AudioRing := { base := 0x50000000, size := 8192, n := 8 }
  let g' : AudioRing := { base := 0x40001000, size := 8192, n := 8 }
  let st : RingRecord → Stream := fun r => { Stream.init with phase := .priming, ring := some r }
  { defining with
    pins := { Pins.rest with fault := ⟨true, false, false⟩ }
    path := { PathState.init with
              table := .film (film640 .normal) :: .audio g :: .audio g' :: List.replicate 13 .absent }
    rear := ⟨{ RearState.init with presented := some 0 }, RearState.init⟩
    aud := { AudState.init with streams := ⟨st (RingRecord.fresh 1 g 0 1), st (RingRecord.fresh 2 g' 0 1)⟩ } }

set_option maxRecDepth 100000 in
theorem wit_CameraRegionDefined_over : definingOver.mayDefine = true ∧ Tri.get definingOver.pins.fault .centre = true ∧
    Tri.get defining.pins.fault .centre = false ∧ (definingOver.rearOf .left).presented = some 0 ∧
    (definingOver.rearOf .right).presented = none ∧
    (let t := after .cameraRegionDefine definingOver
     t.path.table.take 3 = [.absent, .audio { base := 0x50000000, size := 8192, n := 8 }, .absent] ∧
       (t.rearOf .left).presented = none ∧ (t.display (.rear .left)).withdraw = true ∧
       t.aud.streams.l = definingOver.aud.streams.l ∧ t.aud.streams.r.ring = none ∧ (t.pwm .centre).latch = true ∧
       t.centre.calm = 0) := by decide

/-- Table 4 at the ends of its ranges, and one beyond each; an enable of 2; a duty and a period out of range. -/
theorem wit_CameraRegionDefined_drives :
    let t : DispTiming := timing0
    let on : Disp → DispTiming → Bool := fun d x => x.drives d
    on .centre t = true ∧ on .centre { t with enable := 0 } = false ∧ on .centre { t with enable := 2 } = false ∧
      on .centre { t with wa := 63 } = false ∧ on .centre { t with wa := 1920, ha := 720 } = true ∧
      on .centre { t with wa := 1921 } = false ∧ on .centre { t with ha := 721 } = false ∧
      on (.rear .left) { t with wa := 1280, ha := 800 } = true ∧ on (.rear .right) { t with wa := 1281 } = false ∧
      on (.rear .right) { t with ha := 801 } = false ∧ on .centre { t with ha := 15 } = false ∧
      on .centre { t with hb := 15 } = false ∧ on .centre { t with hb := 4095, vb := 255, d := 32, duty := 4095 } = true ∧
      on .centre { t with hb := 4096 } = false ∧ on .centre { t with vb := 1 } = false ∧
      on .centre { t with vb := 256 } = false ∧ on .centre { t with d := 1 } = false ∧ on .centre { t with d := 33 } = false ∧
      on .centre { t with duty := 4096 } = false ∧ on .centre { t with period := 254 } = false ∧
      on .centre { t with period := 65534 } = true ∧ on .centre { t with period := 65536 } = false ∧
      on .centre { t with period := 257 } = false := by decide

set_option maxRecDepth 100000 in
/-- R86, R93: the stream whose ring the definition removes gives up its turn, and its granted burst will be discarded; the
other stream keeps both. -/
theorem wit_CameraRegionDefined_prefetch :
    let s : State :=
      { definingOver with
        aud := { definingOver.aud with due := [.right, .left] }
        arb := { definingOver.arb with flights := [flight (.audio .right), flight (.audio .left), flight .report] } }
    let t := after .cameraRegionDefine s
    s.mayDefine = true ∧ t.aud.due = [.left] ∧ t.arb.flights.map (·.live) = [false, true, true] := by decide

/-- R44: the wait goes on while a host burst is in flight or a request is queued. -/
theorem wit_CameraRegionDefined_waits :
    (due .host defining).mayDefine = false ∧ (due .report defining).mayDefine = true ∧
      ({ defining with boot := { defining.boot with asked := false } } : State).mayDefine = false ∧
      live.mayDefine = false := by decide

theorem wit_HostResetEmpties : live.pins.hrstnLow = false ∧ live.boot.startup ≠ .reset ∧
    live.timing .centre = some timing0 ∧ (live.pwm .centre).started = true := by decide

theorem wit_TimebaseTickCounts : live.tb.running = true := rfl

def readReq (beat n : Nat) : HostReq := { beatNo := BitVec.ofNat 29 beat, op := .read n }

theorem wit_HostRequestAccepted : (readReq 0 4).wf = true ∧ live.accepts = true ∧ reqBeyondTop (readReq 0 4) = false ∧
    reqBeyondTop (readReq (2 ^ 29 - 1) 2) = true ∧ reqBeyondTop (readReq (2 ^ 29 - 1) 1) = false ∧ live.path.queue = [] := by
  decide

/-- R38, R44: acceptance is withheld with 8 entries queued, while HRSTN or PORN is low, and while the region is awaited. -/
theorem wit_HostRequestAccepted_withheld :
    let queued : Nat → State := fun n =>
      { live with path := { live.path with queue := List.replicate n { req := readReq 0 1, pieces := [] } } }
    (queued 7).accepts = true ∧ (queued 8).accepts = false ∧ State.reset.accepts = false ∧ defining.accepts = false ∧
      ({ live with pins := { Pins.rest with hrstnLow := true } } : State).accepts = false ∧
      after (.hostRequest (readReq 0 1)) (queued 8) = queued 8 := by decide

theorem wit_PiecesCoverRequest : write19.wf = true ∧ reqBeyondTop write19 = false ∧
    ((path640 .mirrorX).classify write19).map (fun x => (x.first, x.zone)) =
      [(0, .filmPixel 0 0), (8, .filmPixel 0 0)] := by decide

def pathCam : PathState := { PathState.init with cam := some { base := 0x40000000, slotBytes := 4096 } }

/-- Two beats across the start of the camera region: the first piece reaches memory, the second is dropped. -/
def acrossCam : HostReq := { beatNo := BitVec.ofNat 29 (0x40000000 / 8 - 1), op := .write [zeroW, zeroW] }

theorem wit_HostWritesMissCameraRegion :
    (pathCam.classify acrossCam).map (fun x => (x.drop, x.zone)) = [(false, .plain), (true, .camera)] ∧
      ∀ x ∈ pathCam.classify acrossCam, x.burst.write = true := by decide

/-- A film written with the camera region above it: its pieces are in the pixel area and reach memory. -/
theorem wit_HostWritesMissCameraRegion_film :
    let c : CamRegion := { base := 0x50000000, slotBytes := 4096 }
    let p : PathState := { path640 .mirrorX with cam := some c }
    p.cam = some c ∧ c.base % 8 = 0 ∧ c.slotBytes % 8 = 0 ∧ TableApart p.table 0x1FFFF000 p.cam ∧
      (p.classify write19).map (fun x => (x.zone, x.drop)) = [(.filmPixel 0 0, false), (.filmPixel 0 0, false)] := by
  refine ⟨rfl, by decide, by decide, apart640 .mirrorX _ ?_, by decide⟩
  intro c hc
  obtain rfl := Option.some.inj hc
  decide

/-- The cut of R43 where the zone changes. -/
theorem wit_PiecesCoverRequest_zone : acrossCam.wf = true ∧ reqBeyondTop acrossCam = false ∧
    (pathCam.classify acrossCam).map (fun x => (x.first, x.zone)) = [(0, .plain), (1, .camera)] := by decide

/-- A film region with a remainder, an overlay and an audio region, and a camera region above them. -/
def pathZones : PathState :=
  { pathCam with
    cam := some { base := 0x50000000, slotBytes := 4096 }
    table :=
      [.film { film640 .normal with size := 3 * 925696 + 4096 },
       .overlay { base := 0x41000000, size := 8192, width := 64, height := 16, swz := swizzleHN },
       .audio { base := 0x42000000, size := 12288, n := 8 }] }

/-- Table 16: the zones at both sides of each of their edges. -/
theorem wit_PiecesCoverRequest_zones :
    [0x40000000, 0x40000000 + 921599, 0x40000000 + 921600, 0x40000000 + 925695, 0x40000000 + 925696,
      0x40000000 + 2777087, 0x40000000 + 2777088, 0x40000000 + 2781183, 0x40000000 + 2781184].map pathZones.zoneAt =
      [.filmPixel 0 0, .filmPixel 0 0, .filmTag 0 0, .filmTag 0 0, .filmPixel 0 1, .filmTag 0 2, .filmRest 0,
        .filmRest 0, .plain] ∧
    [0x41000000, 0x41000FFF, 0x41001000, 0x41001FFF, 0x41002000, 0x42000000, 0x42001FFF, 0x42002000, 0x42003000].map
      pathZones.zoneAt =
      [.overlayPixel 1, .overlayPixel 1, .overlayRest 1, .overlayRest 1, .plain, .audioRing 2, .audioRing 2, .audioRest 2,
        .plain] ∧
    [0x4FFFFFFF, 0x50000000, 0x50003FFF, 0x50004000].map pathZones.zoneAt = [.plain, .camera, .camera, .plain] := by
  decide

theorem wit_PixelAreaMapsInvert : 12736 < (film640 .mirrorX).width * 4 * (film640 .mirrorX).height ∧
    physicalOffset (film640 .mirrorX) 12736 = 10300 := by decide

def overlay64 : Overlay := { base := 0x40000000, size := 4096, width := 64, height := 16, swz := swizzleHN }

theorem wit_PixelAreaMapsInvert_pieces :
    ((path640 .mirrorX).classify write19).head?.map (fun x => (x.zone, x.reversed)) = some (.filmPixel 0 0, true) ∧
      (({ path640 .normal with table := .overlay overlay64 :: List.replicate 15 .absent } : PathState).classify
        (readReq (0x40000000 / 8) 2)).map (fun x => (x.zone, x.reversed)) = [(.overlayPixel 0, false)] := by decide

/-- R45: outside every pixel area nothing is swizzled, the tag record of a swizzled film among it. -/
theorem wit_PixelAreaMapsInvert_plain :
    let tag : HostReq := { beatNo := BitVec.ofNat 29 ((0x40000000 + 921600) / 8), op := .read 2 }
    let p : PathState :=
      { path640 .mirrorX with
        table := .film { film640 .mirrorX with swz := swizzleHN } :: List.replicate 15 .absent }
    (p.classify (readReq 0 1)).map (fun x => (x.zone, x.reversed, pieceSwz x.zone x.desc)) =
        [(.plain, false, ⟨false, false, false, false⟩)] ∧
      (p.classify tag).map (fun x => (x.reversed, pieceSwz x.zone x.desc)) = [(false, ⟨false, false, false, false⟩)] ∧
      (p.classify write19).map (fun x => pieceSwz x.zone x.desc) = [swizzleHN, swizzleHN] := by decide

def entryOf (p : PathState) (q : HostReq) (st : PieceStatus) : HostEntry :=
  { req := q, pieces := (p.classify q).map (fun x => { x with status := st }) }

def dropping : State :=
  { live with
    path := { pathCam with
              queue := [entryOf pathCam { acrossCam with beatNo := BitVec.ofNat 29 (0x40000000 / 8) } .unissued] } }

/-- R38, R40: a request beyond the top of the address space stands behind one that waits, and leaves after it. -/
theorem wit_HostRequestAccepted_waits :
    let s : State := { live with path := { pathCam with queue := [entryOf pathCam (readReq 0 1) .issued] } }
    let t := after (.hostRequest (readReq (2 ^ 29 - 1) 2)) s
    s.accepts = true ∧ s.path.queue.head?.map (·.complete) = some false ∧
      t.path.queue.map (·.pieces.length) = [1, 0] ∧ t.path.sent = [] ∧
      (after (.hostPieceComplete (.ok [zeroBeat])) (due .host t)).path.sent.map (·.ok) = [true, false] ∧
      (after (.hostPieceComplete (.ok [zeroBeat])) (due .host t)).path.queue = [] := by decide

theorem wit_HostPieceRows_drop : ∃ x, dropping.path.turn = some x ∧ x.drop = true := ⟨_, rfl, by decide⟩

def completing : State := due .host { live with path := { pathCam with queue := [entryOf pathCam (readReq 0 1) .issued] } }

theorem wit_HostPieceRows_complete : ∃ f e x, completing.dueFlight = some f ∧ f.owner = .host ∧ f.live = true ∧
    firstPiece Piece.isIssued completing.path.queue = some (e, x) ∧ Reply.wfBurst (.ok [zeroBeat]) = true ∧
    Reply.wf (if x.burst.write = true then 0 else x.burst.beats) (.ok [zeroBeat]) = true :=
  ⟨_, _, _, rfl, rfl, rfl, rfl, by decide, by decide⟩

/-- A write of buffer 0's tag record of a FILM region, with every strobe, with none, or with one byte's. -/
def tagWrite (strobes : Nat) : HostReq :=
  let lane : Nat → Lane := fun i => ⟨BitVec.ofNat 8 i, decide (i < strobes)⟩
  let beat : Nat → WBeat := fun i =>
    ⟨⟨lane i, lane (i + 1), lane (i + 2), lane (i + 3)⟩, ⟨lane (i + 4), lane (i + 5), lane (i + 6), lane (i + 7)⟩⟩
  { beatNo := BitVec.ofNat 29 ((0x40000000 + 921600) / 8), op := .write [beat 0, beat 8] }

def pathRing : PathState :=
  { PathState.init with
    table := .audio { base := 0x40000000, size := 8192, n := 8 } :: List.replicate 15 .absent }

/-- The last beat of block 1 of the ring. -/
def ringWrite : HostReq := { beatNo := BitVec.ofNat 29 ((0x40000000 + 2040) / 8), op := .write [strobed zeroBeat] }

def noticesOf1 (p : PathState) (q : HostReq) : List Notice :=
  (p.classify q).flatMap (fun x => p.noticesOf 0x1FFFF000 q x (.ok []))

theorem wit_HostPieceRows_notices :
    noticesOf1 (path640 .normal) (tagWrite 16) = [.filmTag 0 0 ((List.range 16).map (BitVec.ofNat 8))] ∧
      noticesOf1 (path640 .normal) (tagWrite 15) = [.partialWrite] ∧ noticesOf1 (path640 .normal) (tagWrite 0) = [] ∧
      noticesOf1 (path640 .mirrorX) write19 = [.filmPixel 0 0, .filmPixel 0 0] ∧
      noticesOf1 pathRing ringWrite = [.audioBlock 0 1 true] := by decide

/-- A write piece completes, with a notice, and with the burst discarded. -/
def completingWrite (live : Bool) : State :=
  let s : State := { Tests.live with path := { path640 .normal with queue := [entryOf (path640 .normal) (tagWrite 16) .issued] } }
  { s with
    arb := { s.arb with flights := [{ flight .host with live := live }] },
    sets := some (BufSet.fresh (film640 .normal)) :: List.replicate 15 none }

theorem wit_HostPieceRows_write : (completingWrite false).dueFlight.any (fun f => !f.live && f.owner == .host) = true ∧
    Reply.wf 0 (.ok []) = true ∧
    ((after (.hostPieceComplete (.ok [])) (completingWrite true)).setAt 0).map (fun b => (b.ready, (b.buf 0).phase)) =
      some ([0], .ready) ∧
    (after (.hostPieceComplete .error) (completingWrite true)).sets = (completingWrite true).sets ∧
    (after (.hostPieceComplete (.ok [])) (completingWrite true)).path.sent = [{ read := false, ok := true, data := [] }] := by
  decide

theorem wit_HostPieceRows_notify :
    ((live.notify [.partialWrite, .partialWrite]).path.partialWatch, live.path.partialWatch) = (2, 0) := by decide

theorem wit_WatchedWordsAct : (Beat.toList zeroW).all (·.strobe) = true ∧
    (Beat.toList { zeroW with lo := ⟨⟨0, true⟩, ⟨0, false⟩, ⟨0, false⟩, ⟨0, false⟩⟩ }).any (·.strobe) = true ∧
    (Beat.toList { zeroW with lo := ⟨⟨0, true⟩, ⟨0, false⟩, ⟨0, false⟩, ⟨0, false⟩⟩ }).all (·.strobe) = false ∧
    live.load.begun = true ∧ live.load.phase = .idle ∧ (5 : Word) ≠ live.load.loaded ∧ (5 : Word) ≠ live.load.refused ∧
    busy.load.report ≠ none := by decide

/-- The chime clauses: no entry of the pattern and CHIME idle; an entry of it; a lesser one playing, with the stack full
or not; a greater one playing, with the pending list full or not. -/
theorem wit_WatchedWordsAct_chime :
    let wait : Nat → ChimeEntry := fun k => ⟨20 + k, 1, [.cond k], none, k⟩
    let on : List ChimeEntry → List ChimeEntry → State := fun stack waiting =>
      { live with chime := { live.chime with
                             phase := .playing, playing := some ⟨5, 4, [.cond 4], none, 9⟩, stack := stack,
                             waiting := waiting, nextArrival := 10 } }
    let low : ChimeEntry := ⟨3, 2, [.slot 1], some ⟨1, none⟩, 0⟩
    let lower : ChimeEntry := ⟨12, 1, [.slot 0], some ⟨0, some 1⟩, 0⟩
    live.path.shadows.getD 0 0 ≠ (1 : BitVec 16) ∧ live.chime.started = true ∧ (patternAt live.patterns 9).count ≠ 0 ∧
      (patternAt live.patterns 4).count = 0 ∧ live.stackDepth = 2 ∧
      ((live.chimeRequest (.slot 0) 9).chime.phase = .playing) ∧
      ((on [] []).chimeRequest (.slot 0) 5).chime.playing.map (·.sources) = some [.cond 4, .slot 0] ∧
      ((on [] []).chimeRequest (.slot 0) 9).chime.stack.map (·.pattern) = [5] ∧
      ((on [lower, low] []).chimeRequest .reverse 9).chime.stack.map (·.pattern) = [3, 5] ∧
      ((on [lower, low] []).chimeRequest .reverse 9).chime.results = [.lost, .blank, .blank, .blank] ∧
      ((on [] [wait 0]).chimeRequest (.slot 0) 3).chime.waiting.map (·.pattern) = [3, 20] ∧
      ((on [] ((List.range 8).map wait)).chimeRequest (.slot 2) 3).chime.results = [.blank, .blank, .refused, .blank] ∧
      ((on [] ((List.range 8).map wait)).chimeRequest .reverse 3).load = live.load ∧
      ((on [] []).chimeCancel (.cond 4)).chime.phase = .switching ∧
      ((on [] []).chimeCancel (.slot 3)).chime.phase = .playing ∧
      ((on [low] []).notice (.chimeWrite 1 7 2 3)).chime.results = [.blank, .cancelled, .blank, .blank] ∧
      (on [low] []).notice (.chimeWrite 1 0 2 3) = on [low] [] ∧
      ((on [low] []).notice (.chimeWrite 1 7 3 3)).chime.results = [.blank, .refused, .blank, .blank] := by decide

theorem wit_GrantFollowsOrder :
    grant21 [.scanC] 0 0 = some .scanC ∧ grant21 [.camera] 0 0 = some .camera ∧ grant21 [.scanRl] 0 0 = some .scanRl ∧
      grant21 [.scanRr] 0 0 = some .scanRr ∧ grant21 [.audio] 0 0 = some .audio ∧ grant21 [] 8 0 = some .host ∧
      grant21 [] 0 64 = some .load ∧ grant21 [] 7 63 = some .host := by decide

/-- HOST presents a read, and LOAD presents the first burst of a load. -/
def presenting : State :=
  { live with
    path := { pathCam with queue := [entryOf pathCam (readReq 0 1) .unissued] }
    load := { live.load with phase := .loading, slot := some (.readBurst 0) } }

theorem wit_ArbRows_grant : presenting.portFree = true ∧ presenting.asks .host = true ∧ presenting.asks .load = true := by
  decide

/-- R39, R100, R178: what a grant takes from HOST, CAMERA and LOAD. -/
theorem wit_ArbRows_takes :
    let cam : State :=
      { live with
        cam := { live.cam with
                 buf := List.replicate 64 0,
                 bursts := [{ addr := 0x40000000, npix := 32 }, { addr := 0x40000080, npix := 32 }] } }
    let load : LoadReq → Nat → Nat → Option Nat → Option LoadReq := fun q n back rep =>
      (after .arbGrant
        { live with
          load := { live.load with
                    phase := .loading, slot := some q, granted := n, back := back,
                    report := rep.map
                      (fun g => { page := [], granted := g, back := 0, err := false, carried := 0 }) } }).load.slot
    (after .arbGrant presenting).path.queue.map (fun e => e.pieces.map (·.status)) = [[.issued]] ∧
      (after .arbGrant presenting).arb.flights.map (·.owner) = [.host] ∧
      (after .arbGrant cam).cam.bursts = [{ addr := 0x40000080, npix := 32 }] ∧
      (after .arbGrant cam).arb.flights.map (·.owner) = [.camera 32] ∧
      load (.readBurst 3) 3 1 none = some (.readBurst 4) ∧ load (.readBurst 9) 9 8 none = none ∧
      load (.readBurst 3) 3 1 (some 0) = some (.reportBurst 0) ∧ load (.reportBurst 2) 4 1 (some 2) = some (.reportBurst 3) ∧
      load (.reportBurst 7) 4 1 (some 7) = some (.readBurst 4) ∧ load (.reportBurst 7) 10 10 (some 7) = some .reread ∧
      load .reread 10 10 none = none := by decide

def handing (o : Owner) : State :=
  { live with arb := { live.arb with flights := [{ flight o with handed := false }] } }

theorem wit_ArbRows_handover :
    (handing (.camera 32)).arb.flights.find? (fun g => !g.handed) = some { flight (.camera 32) with handed := false } ∧
      (handing .host).arb.flights.find? (fun g => !g.handed) = some { flight .host with handed := false } := by decide

/-- Two bursts of 32 pixels wait, the first still being handed over: the second presents the pixels behind it (R100). -/
def handingCamera : State :=
  { handing (.camera 32) with
    cam := { live.cam with
             buf := List.replicate 32 0xFF000001 ++ List.replicate 32 0xFF000002,
             bursts := [{ addr := 0x40000080, npix := 32 }] } }

theorem wit_ArbRows_camera : handingCamera.cam.bursts = [{ addr := 0x40000080, npix := 32 }] ∧
    handingCamera.arb.handing = 32 ∧
    (handingCamera.presents .camera).map (fun b => (b.addr, b.beats, b.data.head?.map (fun x => x.lo.b0.byte))) =
      some (0x40000080, 16, some 2) ∧
    (after .burstHandoverDone handingCamera).arb.handing = 0 ∧
    (after .burstHandoverDone handingCamera).cam.buf = List.replicate 32 0xFF000002 := by decide

/-- A load whose tenth burst is due, or whose first of two. -/
def loading (granted back : Nat) : State :=
  due .loadRead { live with load := { live.load with phase := .loading, loadGen := 5, granted := granted, back := back } }

theorem wit_LoadReadsCompleted_burst : ∃ f, (loading 10 9).dueFlight = some f ∧ f.owner = .loadRead ∧ f.live = true ∧
    (loading 10 9).load.stopping = false ∧ (loading 10 9).load.phase = .loading ∧ (loading 10 9).load.slot = none ∧
    (loading 10 9).load.report = none ∧ (loading 2 0).load.back + 1 ≠ (loading 2 0).load.granted ∧
    (List.replicate 16 zeroBeat).length = 16 := ⟨_, rfl, rfl, rfl, by decide⟩

/-- R168: completions while the pass is stopping; what an error withdraws; a discarded burst. -/
theorem wit_LoadReadsCompleted_stopping :
    let ok : Reply := .ok (List.replicate 16 zeroBeat)
    let stop : Nat → Nat → State := fun granted back =>
      { loading granted back with load := { (loading granted back).load with stopping := true, restarts := 1 } }
    let slotted : LoadReq → State := fun q => { loading 2 0 with load := { (loading 2 0).load with slot := some q } }
    let dead : State := { loading 2 0 with arb := { live.arb with flights := [{ flight .loadRead with live := false }] } }
    let t := after (.loadReadBurstComplete ok) (stop 4 3)
    let u := after (.loadReadBurstComplete .error) (stop 4 2)
    t.load.phase = .loading ∧ t.load.restarts = 2 ∧ t.load.granted = 0 ∧ t.load.slot = some (.readBurst 0) ∧
      t.load.stopping = false ∧ u.load = { (stop 4 2).load with back := 3 } ∧
      (after (.loadReadBurstComplete .error) (slotted (.readBurst 2))).load.slot = none ∧
      (after (.loadReadBurstComplete .error) (slotted (.reportBurst 2))).load.slot = some (.reportBurst 2) ∧
      (after (.loadReadBurstComplete .error) dead).load = dead.load ∧
      (after (.loadReadBurstComplete .error) dead).arb.flights = [] := by decide

def rereading : State := due .loadReread { live with load := { live.load with phase := .loading, loadGen := 5 } }

theorem wit_LoadReadsCompleted_reread : ∃ f, rereading.dueFlight = some f ∧ f.owner = .loadReread ∧ f.live = true ∧
    (0 : Byte) ++ (0 : Byte) ++ (0 : Byte) ++ (5 : Byte) = rereading.load.loadGen ∧ (0 : Byte) = rereading.load.loadScope :=
  ⟨_, rfl, rfl, rfl, by decide⟩

/-- A staged copy of zeros but for the format version 1 and the scope byte: every region NONE, every region field of the
scenes 0xFF. -/
def staged0 (version scope : Nat) : List RBeat :=
  let ff : List Byte := [0xFF, 0, 0, 0, 0, 0, 0, 0, 0, 0, 0, 0, 0, 0, 0, 0]
  let z : List Byte := List.replicate 16 0
  let scene : List Byte := [0, 0, 0, 0, 0, 0, 0, 0, 0xFF, 0, 0, 0, 0, 0, 0, 0] ++ ff ++ ff ++ (List.replicate 5 z).flatten
  beatsOfBytes
    ([BitVec.ofNat 8 version, 0, 0, 0, 0, 0, 0, 0, 5, 0, 0, 0, BitVec.ofNat 8 scope, 0, 0, 0] ++ (List.replicate 47 z).flatten ++
      scene ++ scene ++ scene ++ (List.replicate 8 z).flatten)

def checkingOn (version scope : Nat) : State :=
  { live with
    load := { live.load with
              phase := .checking, latestGen := 5, loadGen := 5, loadScope := BitVec.ofNat 8 scope,
              staged := staged0 version scope } }

def verdictOf (s : State) : Option Failure :=
  checkLoad (beatsByte s.load.staged) s.load.loadScope s.path.table s.boot.cbBase s.path.cam

theorem wit_LoadCheckDecides : (checkingOn 1 1).load.phase = .checking ∧ verdictOf (checkingOn 1 0) = none ∧
    verdictOf (checkingOn 1 1) = none ∧ verdictOf (checkingOn 2 0) = some (.badVersion, 0xFF) ∧
    verdictOf (checkingOn 1 2) = some (.badVersion, 0xFF) ∧ checkingOn 1 1 ≠ checkingOn 1 0 := by decide

/-- A staged copy as bytes: that of an accepted load, with some bytes replaced. -/
def stagedWith (xs : List (Nat × Nat)) (i : Nat) : Nat :=
  match xs.find? (fun x => x.1 == i) with
  | some x => x.2
  | none => beatsByte (staged0 1 0) i

/-- A FILM descriptor 0 at 0x40000000 of 64 × 1 with 2 buffers in 8192 bytes. -/
def filmFields : List (Nat × Nat) :=
  [(0x100, 1), (0x103, 1), (0x107, 0x40), (0x109, 0x20), (0x10C, 64), (0x10E, 1), (0x110, 2)]

/-- Each check of Table 56 and R170 fails on one byte, with the index Table 56 gives. -/
theorem wit_LoadCheckDecides_fails :
    let v : List (Nat × Nat) → Option Failure := fun xs => checkLoad (stagedWith xs) 0 [] 0x1FFFF000 none
    v filmFields = none ∧ v [(0x120, 4)] = some (.regionKind, 1) ∧ v ((0x103, 0) :: filmFields) = some (.regionKind, 0) ∧
      v ((0x10C, 63) :: filmFields) = some (.regionGeometry, 0) ∧
      v ((0x105, 0xF0) :: (0x106, 0xFF) :: (0x107, 0x1F) :: filmFields) = some (.regionOverlap, 0) ∧
      v [(0x300, 2)] = some (.sceneReference, 0) ∧ v [(0x388, 0)] = some (.sceneReference, 1) ∧
      v [(0x410, 16)] = some (.sceneReference, 2) ∧ v ((0x408, 0) :: filmFields) = some (.sceneReference, 2) ∧
      v ((0x388, 0) :: filmFields) = none ∧ v [(0x480, 1)] = some (.audioReference, 0) ∧
      v [(0x495, 2)] = some (.audioReference, 1) ∧ v [(0x4A0, 3)] = some (.audioReference, 2) := by decide

/-- A ring descriptor 0 at 0x40000000 with 8 blocks, and both streams on it. -/
theorem wit_LoadCheckDecides_ring :
    let ring : List (Nat × Nat) := [(0x100, 3), (0x107, 0x40), (0x109, 0x20), (0x112, 8), (0x480, 1), (0x483, 1)]
    let v : List (Nat × Nat) → Option Failure := fun xs => checkLoad (stagedWith xs) 0 [] 0x1FFFF000 none
    v ring = none ∧ v ((0x482, 8) :: ring) = some (.audioReference, 0) ∧
      v ((0x490, 1) :: (0x493, 1) :: ring) = some (.audioReference, 1) := by decide

/-- A FULL load over a film set on show, and over a stream that plays: both end, as the copy names neither. -/
def checkingOver (s : State) : State :=
  { checkingOn 1 s.load.loadScope.toNat with
    path := path640 .normal, sets := some (BufSet.fresh (film640 .normal)) :: List.replicate 15 none,
    rear := ⟨{ RearState.init with presented := some 0 }, RearState.init⟩, aud := s.aud }

theorem wit_LoadCheckDecides_accepts :
    let s := checkingOver live
    let s' : State :=
      { s with aud := { s.aud with streams := ⟨{ Stream.init with phase := .playing, ring := some ring29 }, Stream.init⟩ } }
    verdictOf s' = none ∧ s'.load.loadScope = 0 ∧ (s'.rearOf .left).presented = some 0 ∧
      entryAt s'.path.table 0 = .film (film640 .normal) ∧
      (let t := after .loadCheck s'
       t.setAt 0 = none ∧ (t.rearOf .left).presented = none ∧ (t.display (.rear .left)).withdraw = true ∧
         t.aud.streams.l.phase = .stopped ∧ t.aud.streams.l.ring = none ∧ t.aud.streams.r = Stream.init ∧
         t.path.table = List.replicate 16 .absent ∧ t.load.loaded = 5) := by decide

set_option maxRecDepth 100000 in
/-- R85, R93: the stream that the load stops abandons its prefetch; the stopped one that it leaves stopped does not. -/
theorem wit_LoadCheckDecides_prefetch :
    let s := checkingOver live
    let s' : State :=
      { s with
        aud := { s.aud with
                 streams := ⟨{ Stream.init with phase := .playing, ring := some ring29 }, Stream.init⟩, due := [.left, .right] }
        arb := { s.arb with flights := [flight (.audio .left), flight (.audio .right), flight .host] } }
    let t := after .loadCheck s'
    t.aud.due = [.right] ∧ t.arb.flights.map (·.live) = [false, true, true] ∧ t.load.causes = 0x001#10 ∧
      t.load.staged = [] := by decide

/-- A FULL load that starts stream 0 on the ring and leaves stream 1 stopped. -/
def checkingRing : State :=
  let ring : List (Nat × Nat) := [(0x100, 3), (0x107, 0x40), (0x109, 0x20), (0x112, 8), (0x480, 1), (0x482, 3), (0x483, 2)]
  let bytes : List Byte := (List.range 0x500).map (fun i => BitVec.ofNat 8 (stagedWith ring i))
  { checkingOn 1 0 with load := { (checkingOn 1 0).load with staged := beatsOfBytes bytes } }

set_option maxRecDepth 100000 in
theorem wit_LoadCheckDecides_starts : verdictOf checkingRing = none ∧
    (let t := after .loadCheck checkingRing
     t.aud.streams.l = { Stream.init with
                         phase := .priming, ring := some (RingRecord.fresh 0 { base := 0x40000000, size := 8192, n := 8 } 3 2) } ∧
       t.aud.streams.r = Stream.init) := by decide

/-- R172: after a verdict a later generation begins a load at once; one already refused does not. -/
theorem wit_LoadCheckDecides_retest :
    let later : State → Word → Word → State := fun s gen refused =>
      { s with load := { s.load with latestGen := gen, latestScope := 1, refused := refused } }
    let t := after .loadCheck (later (checkingOn 1 0) 7 0)
    let u := after .loadCheck (later (checkingOn 2 0) 7 0)
    let w := after .loadCheck (later (checkingOn 1 0) 7 7)
    t.load.phase = .loading ∧ t.load.loaded = 5 ∧ t.load.loadGen = 7 ∧ t.load.loadScope = 1 ∧
      t.load.slot = some (.readBurst 0) ∧ u.load.phase = .loading ∧ u.load.refused = 5 ∧ u.load.loadGen = 7 ∧
      w.load.phase = .idle ∧ w.load.loadGen = 5 ∧ (checkingOn 1 0).load.latestGen = 5 := by decide

/-- Tables 62 and 64: the readers on a film, an overlay and a ring descriptor. -/
theorem wit_LoadCheckDecides_readers :
    let rd := stagedWith ((0x102, 3) :: (0x101, 6) :: filmFields ++
      [(0x120, 2), (0x12C, 64), (0x12E, 1), (0x140, 3), (0x152, 8), (0x4A0, 2), (0x4A1, 1), (0x4A3, 1)])
    entryAt (readTable rd) 0 = .film { base := 0x40000000, size := 8192, width := 64, height := 1,
                                       swz := ⟨false, true, true, false⟩, orient := .rotate180, seat := .left,
                                       count := 2 } ∧
      entryAt (readTable rd) 1 = .overlay { base := 0, size := 0, width := 64, height := 1,
                                            swz := ⟨false, false, false, false⟩ } ∧
      entryAt (readTable rd) 2 = .audio { base := 0, size := 0, n := 8 } ∧ entryAt (readTable rd) 3 = .absent ∧
      (readAudio rd).route = .stream .right ∧ (readAudio rd).mute = true ∧ (readAudio rd).vc = 256 := by decide

/-- Tables 60 and 63: the readers on a scene of each display and on the mask. -/
theorem wit_LoadCheckDecides_scenes :
    let rd := stagedWith
      [(0x018, 5), (0x019, 0xFF), (0x300, 1), (0x301, 2), (0x303, 8), (0x304, 0x44), (0x306, 0x22), (0x308, 3), (0x30A, 7),
       (0x30D, 1), (0x310, 4), (0x311, 200), (0x312, 1), (0x314, 9), (0x317, 2), (0x318, 40), (0x31A, 100), (0x31C, 30),
       (0x31E, 6), (0x320, 5), (0x32E, 8), (0x381, 1), (0x400, 1), (0x420, 11)]
    let none' : SceneOverlay :=
      { region := none, la := 0, revVisible := false, x := 0, y := 0, scrT := 0, scrS := 0, scrB := 0, scrP := 0 }
    readScene rd .centre =
        { enable := true, mark := .flip, duty := 2048, background := 0x00220044, base := some 3, x := 7, y := 256,
          ov0 := { region := some 4, la := 200, revVisible := true, x := 9, y := 512, scrT := 40, scrS := 100, scrB := 30,
                   scrP := 6 },
          ov1 := { none' with region := some 5, scrP := 8 } } ∧
      readScene rd (.rear .left) =
        { enable := false, mark := .blank, duty := 0, background := 0, base := none, x := 0, y := 0, ov0 := none',
          ov1 := none' } ∧
      (readScene rd (.rear .right)).enable = true ∧ (readScene rd (.rear .right)).mark = .off ∧
      (readScene rd (.rear .right)).ov1.region = some 11 ∧ readMask rd = 0x305 := by decide

/-- R17: a load accepted clears a latch whose fault input is inactive, and leaves one whose input is still active. -/
theorem wit_LoadCheckDecides_latches :
    let s : Bool → State := fun fault =>
      { checkingOn 1 1 with
        pins := { Pins.rest with fault := ⟨fault, false, false⟩ }
        bl := { live.bl with c := { pwm0 with latch := true, enabled := false } } }
    (after .loadCheck (s true)).bl.c = { pwm0 with latch := true, enabled := false } ∧
      (after .loadCheck (s false)).bl.c = pwm0 ∧ (after .loadCheck (s true)).load.outcome = .accepted := by decide

def preRunning : State := { live with disp := { live.disp with c := Display.init } }

theorem wit_ReportRows_tick : preRunning.disp.c.running = false ∧ preRunning.load.begun = true ∧
    preRunning.load.report = none ∧ preRunning.load.slot = none ∧ busy.load.report ≠ none := by decide

/-- R177: the first report is due with the 16th tick from LOAD's start, the next 16 ticks later; at the start none is. -/
theorem wit_ReportRows_sixteenth :
    let at' : Nat → State := fun n => { preRunning with load := { preRunning.load with tick16 := n } }
    let ticks : Nat → State := fun n => after .tbTick (at' n)
    timely .reportTick (at' 0) = false ∧ (ticks 0).load.tick16 = 1 ∧ (ticks 15).load.tick16 = 16 ∧
      timely .reportTick (ticks 14) = false ∧ timely .reportTick (ticks 15) = true ∧
      timely .reportTick (after .reportTick (ticks 15)) = false ∧
      (after .reportTick (ticks 15)).load.tick16 = 0 ∧ (after .reportTick (ticks 15)).load.reportSeq = 1 ∧
      (after .reportTick busy) = busy ∧ (ticks 16).load.tick16 = 1 := by
  refine ⟨by decide, by decide, by decide, by decide, by decide, by decide, by decide, by decide, rfl, by decide⟩

def reporting (back : Nat) : State :=
  due .report
    { live with
      load := { live.load with report := some { page := [], granted := 8, back := back, err := false, carried := 1 } } }

theorem wit_ReportRows_burst : ∃ f r, (reporting 7).dueFlight = some f ∧ f.owner = .report ∧
    (reporting 7).load.report = some r ∧ r.back = 7 ∧ r.err = false := ⟨_, _, rfl, rfl, rfl, rfl, rfl⟩

theorem wit_ReportRows_burst_early : ∃ f r, (reporting 0).dueFlight = some f ∧ f.owner = .report ∧
    (reporting 0).load.report = some r ∧ r.back ≠ 7 := ⟨_, _, rfl, rfl, rfl, by decide⟩

theorem wit_StatusPageLayout : live.chime.results.length = 4 := rfl

theorem wit_CentreBlankEventTaken : sceneDue.timing .centre = some timing0 ∧ sceneDue.disp.c.running = true ∧
    sceneDue.disp.c.staged = some sceneOff ∧ live.disp.c.staged = none ∧ sceneDue.bl.c.started = true ∧ 2 ≤ timing0.vb := by
  decide

/-- The camera of `busy`, with the RVC in a state. -/
def viewing (ph : RvcPhase) (fresh : Bool) (slots : List CamSlot) (arr : List Nat) : State :=
  { live with
    cam := { CamState.init with phase := .receiving, slots := slots, arrivals := arr }
    rvc := { live.rvc with phase := ph, fresh := fresh } }

theorem sound_plain (ph : RvcPhase) (fresh : Bool) :
    CameraSound (viewing ph fresh [.complete, .empty, .empty, .empty] [0]) := by
  have hb : ∀ k, 4 ≤ k → (viewing ph fresh [.complete, .empty, .empty, .empty] [0]).cam.slot k = .empty :=
    fun k h => slot_beyond h
  refine ⟨rfl, ?_, ?_, ?_, by simp [viewing]⟩
  · intro j k hj _
    rcases lt_or_ge j 4 with h | h
    · interval_cases j <;> exact absurd hj (by simp [viewing, CamState.slot])
    · rw [hb j h] at hj; cases hj
  · intro k
    rcases lt_or_ge k 4 with h | h
    · interval_cases k <;> simp [viewing, CamState.slot, CamState.init]
    · rw [hb k h]; simp [viewing, CamState.init]
  · intro k
    rcases lt_or_ge k 4 with h | h
    · interval_cases k <;> simp [viewing, CamState.slot]
    · rw [hb k h]
      simp only [viewing, List.mem_singleton, reduceCtorEq, or_self, iff_false]
      omega

theorem wit_CentreBlankCameraWork :
    let s := viewing .engaging true [.complete, .empty, .empty, .empty] [0]
    s.timing .centre = some timing0 ∧ s.disp.c.running = true ∧ CameraSound s ∧ s.rvc.phase ≠ .off ∧ s.rvc.fresh = true ∧
      s.cam.laterComplete = some 0 ∧ s.load.begun = true :=
  ⟨rfl, rfl, sound_plain _ _, by decide, rfl, by decide, rfl⟩

theorem wit_CentreBlankCameraWork_others :
    CameraSound (viewing .off true [.complete, .empty, .empty, .empty] [0]) ∧
      CameraSound (viewing .lost true [.complete, .empty, .empty, .empty] [0]) ∧
      CameraSound (viewing .engaging false [.complete, .empty, .empty, .empty] [0]) ∧
      CameraSound (viewing .releasing true [.complete, .empty, .empty, .empty] [0]) ∧ CameraSound live ∧
      live.cam.laterComplete = none := by
  refine ⟨sound_plain _ _, sound_plain _ _, sound_plain _ _, sound_plain _ _, ?_, by decide⟩
  have hb : ∀ k, live.cam.slot k = .empty := by
    intro k
    rcases lt_or_ge k 4 with h | h
    · interval_cases k <;> rfl
    · exact slot_beyond h
  refine ⟨rfl, ?_, ?_, ?_, by decide⟩
  · intro j k hj _; rw [hb j] at hj; cases hj
  · intro k; rw [hb k]; simp [live, CamState.init]
  · intro k; rw [hb k]; simp [live, CamState.init]

/-- R177: the report of a blank event carries what its camera work raised; with one in flight it is skipped. -/
theorem wit_CentreBlankCameraWork_report :
    let s := viewing .engaging true [.complete, .empty, .empty, .empty] [0]
    let t := after .centreBlankEvent s
    let u := after .centreBlankEvent { s with load := busy.load }
    t.load.reportSeq = 1 ∧ t.load.causes = 0x004 ∧ t.load.report.map (·.carried) = some 0x004 ∧
      t.load.slot = some (.reportBurst 0) ∧ u.load.skipped = 1 ∧ u.load.report = busy.load.report ∧
      u.load.causes = 0x005 := by decide

/-- R114: the base choice with a SHOWING slot, in each RVC state. -/
theorem wit_CentreBlankCameraWork_base :
    let s : RvcPhase → Bool → Option CamBase := fun ph fresh =>
      (after .centreBlankEvent (viewing ph fresh [.showing, .empty, .empty, .empty] [0])).disp.c.frame.map (·.camBase)
    s .engaging false = some .engagingFill ∧ s .showing true = some (.slot 0) ∧ s .releasing true = some (.slot 0) ∧
      s .releasing false = some .unavailableFill ∧ s .lost false = some .unavailableFill ∧
      (after .centreBlankEvent (viewing .off true [.showing, .empty, .complete, .empty] [0, 2])).cam.slots =
        [.empty, .empty, .complete, .empty] ∧
      (after .centreBlankEvent (viewing .showing true [.showing, .empty, .complete, .empty] [0, 2])).cam.slots =
        [.empty, .empty, .showing, .empty] ∧
      (viewing .showing true [.showing, .empty, .complete, .empty] [2, 0]).cam.laterComplete = none := by decide

theorem wit_ActiveEventsTaken : live.disp.c.running = true ∧ (live.display (.rear .left)).running = true ∧
    ({ live with guide := { live.guide with waiting := true } } : State).guide.build = none ∧
    live.guide.waiting = false ∧
    ({ live with guide := { live.guide with build := some ⟨0, true, false⟩ } } : State).guide.build ≠ none := by decide

theorem wit_RearBlankEventTaken : live.timing (.rear .left) = some timing0 ∧ (live.display (.rear .left)).running = true ∧
    (live.display (.rear .left)).staged = none := by decide

theorem wit_RearBlankEventTaken_scene :
    let s : State := { live with disp := { live.disp with l := { disp0 with staged := some sceneOff } } }
    s.timing (.rear .left) = some timing0 ∧ (s.display (.rear .left)).running = true ∧
      (s.display (.rear .left)).staged = some sceneOff := by decide

/-- REAR_L presents the set of Table 25 as its scene names it, with the frame mark on FLIP, or turns away from it. -/
def presentingFilm (base : Option Nat) : State :=
  let sc : Scene := { sceneOff with enable := true, mark := .flip, base := base }
  { live with
    disp := { live.disp with l := { disp0 with content := .scene, active := some sc, mark := .flip } }
    rear := ⟨{ RearState.init with presented := some 2 }, RearState.init⟩
    sets := none :: none :: some { set25 with shows := 1 } :: List.replicate 13 none }

theorem wit_RearBlankEventTaken_film : (presentingFilm (some 2)).timing (.rear .left) = some timing0 ∧
    ((presentingFilm (some 2)).rearOf .left).presented = some 2 ∧
    (let t := after (.rearBlankEvent .left) (presentingFilm (some 2))
     (t.rearOf .left).presented = some 2 ∧ (t.rearOf .left).dropped = 1 ∧ (t.display (.rear .left)).markHigh = true ∧
       t.shownFilm .left ≠ none) ∧
    (let t := after (.rearBlankEvent .left) (presentingFilm none)
     (t.rearOf .left).presented = none ∧ (t.rearOf .left).dropped = 0 ∧ (t.display (.rear .left)).markHigh = false ∧
       (t.setAt 2).map (fun b => b.bufs.map (·.phase)) = some [.free, .ready, .ready]) ∧
    (let t := after (.rearBlankEvent .left) (presentingFilm (some 3))
     (t.rearOf .left).presented = none) := by decide

set_option maxRecDepth 100000 in
/-- Tables 66 and 67: a page that shows a film, a link and the chimes. -/
theorem wit_StatusPageLayout_fields :
    let s : State :=
      { presentingFilm (some 2) with
        chime := busy.chime, cam := busy.cam, rvc := busy.rvc
        load := { busy.load with reportSeq := 0x01020304, loaded := 5, mask := 0x3FF }
        link := { live.link with
                  good := 258, steering := { last := none, stale := true, timer := none },
                  conditions := { last := some 1, stale := false, timer := some 9 } }
        guide := { live.guide with front := { live.guide.front with angle := -2 } } }
    let rd : Nat → Nat := fun i => (s.statusPage.getD i 0).toNat
    word4 rd 0 = 0x01020304 ∧ word4 rd 0x3FC = 0x01020304 ∧ rd 0x008 = 3 ∧ word4 rd 0x00C = 0x3FF ∧ word4 rd 0x014 = 5 ∧
      [0x040, 0x041, 0x080, 0x081, 0x0C0].map rd = [1, 0, 1, 1, 0] ∧
      [0x08B, 0x08C, 0x08D, 0x08E, 0x08F].map rd = [2, 0, 3, 2, 2] ∧ word4 rd 0x090 = 1 ∧
      [0x0CB, 0x0CC, 0x0CD, 0x0CE, 0x0CF].map rd = [0xFF, 0xFF, 0xFF, 0xFF, 0xFF] ∧ rd 0x100 = 2 ∧ rd 0x101 = 1 ∧
      word2 rd 0x110 = 65534 ∧ word2 rd 0x118 = 258 ∧ rd 0x11E = 1 ∧
      [0x140, 0x141, 0x142, 0x143, 0x144, 0x145, 0x148, 0x149].map rd = [1, 5, 1, 1, 3, 0xFF, 12, 0xFF] := by decide

/-- The set of Table 25 with its SHOWN frame's minimum shows already had. -/
def set25later : BufSet := { set25 with shows := 1 }

theorem wit_FilmBufferRules_select : set25.Sound ∧ set25.shown = some 0 ∧ (set25.buf 0).tag = some (tagRec 1 2) ∧
    min (set25.shows + 1) 255 < (tagRec 1 2).minShows ∧ set25later.Sound ∧ set25later.candidate Stream.init = some 2 ∧
    (tagRec 1 2).minShows ≤ min (set25later.shows + 1) 255 :=
  ⟨set25_sound, by decide, by decide, by decide, set25_sound, by decide, by decide⟩

theorem wit_FilmBufferRules_writes : set25.Sound ∧ 0 < set25.bufs.length ∧ (set25.buf 0).phase = .shown ∧
    (set25.buf 1).phase = .ready ∧ (BufSet.fresh (film640 .normal)).bufs.length = 3 ∧
    ((BufSet.fresh (film640 .normal)).buf 0).phase = .free := ⟨set25_sound, by decide⟩

/-- R72, R80: with no candidate the SHOWN frame is shown again and counted unless it is held; a frame three blocks late is
late; the notices of a film write act on the set named. -/
theorem wit_FilmBufferRules_notices :
    let alone : BufSet :=
      { set25 with bufs := [⟨.shown, some (tagRec 5 2)⟩, FilmBuf.fresh, FilmBuf.fresh], ready := [], shows := 1 }
    let s := presentingFilm none
    alone.shown = some 0 ∧ alone.candidate Stream.init = none ∧ (alone.select Stream.init).repeated = true ∧
      (({ alone with bufs := [⟨.shown, some { tagRec 5 2 with hold := true }⟩] }).select Stream.init).repeated = false ∧
      s.setAt 0 = none ∧ ((s.notice (.filmPixel 2 1)).rearOf .left).reclaimed = 1 ∧
      ((s.notice (.filmPixel 2 0)).rearOf .left).torn = 1 ∧
      ((s.notice (.filmTag 2 1 [7, 0, 0, 0, 0xFF, 0xFF, 0xFF, 0xFF, 9, 1])).setAt 2).map (fun b => (b.ready, (b.buf 1).tag)) =
        some ([2, 1], some { seqNo := 7, sync := none, minShows := 8, hold := true }) := by decide

/-- R72: where nothing is shown and nothing is eligible a selection leaves the set and counts nothing. -/
theorem wit_FilmBufferRules_empty : (BufSet.fresh (film640 .normal)).shown = none ∧
    (BufSet.fresh (film640 .normal)).candidate Stream.init = none ∧
    ((BufSet.fresh (film640 .normal)).select Stream.init).set = BufSet.fresh (film640 .normal) := by decide

theorem wit_LineEndTaken : live.timing .centre = some timing0 ∧ (live.display .centre).running = true ∧
    (live.display .centre).withdraw = false ∧
    ({ disp0 with withdraw := true } : Display).withdraw = true := by decide

def geom0 : Geom := { base := 0, width := 64, height := 16 }

/-- The centre on line 0 of a frame with a host base of 64 × 16, one burst of its row requested and granted. -/
def scanning : State :=
  { live with
    arb := { live.arb with flights := [flight (.scan .centre)] }
    disp := { live.disp with
              c := { disp0 with
                     line := 0,
                     frame := some
                       { content := .scene, scene := some { sceneOff with enable := true, base := some 0 },
                         cap := { base := some geom0, ov0 := none, ov1 := none }, view := .host, film := none,
                         camBase := .engagingFill, showing := false, reduced := false },
                     base := { LayerBuf.empty with
                               slots := [{ LineSlot.empty with phase := .filling, asked := 1 }, LineSlot.empty, LineSlot.empty,
                                         LineSlot.empty], nextRow := 1 },
                     req := some
                       { layer := .base, slot := 0, burst := 0, addr := 0, beats := 16, granted := true, live := true,
                         counted := true } } } }

theorem wit_LayerUnderrunTaken : (5 : Nat) < 1920 ∧ scanning.meetsUnderrun .centre .base 5 = true := by decide

/-- R35: the row is stopped; a request not granted is withdrawn for one of the next row; a granted one stays, and its
data is to be discarded, uncounted, from the end of the row on; the free slots are assigned. -/
theorem wit_LayerUnderrunTaken_stops :
    let asked : Bool → State := fun g =>
      { scanning with
        disp := { scanning.disp with
                  c := { scanning.disp.c with req := scanning.disp.c.req.map (fun q => { q with granted := g }) } } }
    let t : Bool → State := fun g => after (.layerUnderrun .centre .base 5) (asked g)
    let k : LineSlot := { LineSlot.empty with phase := .filling, asked := 1 }
    ((asked false).disp.c.buf .base).slots[0]? = some k ∧ k.last = scanning.disp.c.line ∧
      ((t false).disp.c.buf .base).slots[0]? = some { k with stopped := true } ∧
      (t false).disp.c.req.map (fun q => (q.slot, q.burst, q.granted)) = some (1, 0, false) ∧
      (t true).disp.c.req = (asked true).disp.c.req ∧
      (after (.displayLineEnd .centre) (t true)).disp.c.req.map (fun q => (q.granted, q.live, q.counted)) =
        some (true, false, false) ∧
      ((t true).disp.c.buf .base).slots.map (fun k => (k.phase, k.first)) =
        [(.filling, 0), (.filling, 1), (.filling, 2), (.filling, 3)] ∧ (t true).disp.c.underruns = 1 := by decide

/-- A scene that names overlay 0 of table entry 1, with rows that do not add up, and a base of table entry `base`. -/
def sceneSeen (base : Option Nat) : Scene :=
  { sceneOff with
    enable := true, base := base, ov0 := { scroll130 with region := some 1, x := 0, y := 0 }, background := 0x00112233 }

/-- The centre with such a scene waiting, in the middle of a frame, with a granted burst. -/
def sceneSeenDue : State :=
  { scanning with
    path := { scanning.path with
              table := .film { film640 .normal with width := 64, height := 16 } :: .overlay overlay64 ::
                List.replicate 14 .absent }
    disp := { scanning.disp with
              c := { scanning.disp.c with staged := some (sceneSeen none) }
              l := { scanning.disp.c with staged := some (sceneSeen (some 0)), req := none } } }

/-- R19, R30, R32: what a blank event captures, flags and frees. -/
theorem wit_CentreBlankEventTaken_seen :
    let t := after .centreBlankEvent sceneSeenDue
    sceneSeenDue.timing .centre = some timing0 ∧
      t.disp.c.cap = { base := none, ov0 := some { base := 0x40000000, width := 64, height := 16 }, ov1 := none } ∧
      t.disp.c.fault0 = true ∧ t.disp.c.fault1 = false ∧
      t.disp.c.req.map (fun q => (q.granted, q.live, q.counted)) = some (true, false, true) ∧
      (t.disp.c.buf .base).slots = List.replicate 4 LineSlot.empty ∧
      (t.disp.c.buf .ov0).slots.map (fun k => (k.phase, k.first, k.last, k.src)) =
        [(.filling, 0, 0, 0), (.filling, 1, 1, 1), (.filling, 2, 2, 2), (.filling, 3, 3, 3)] := by decide

theorem wit_RearBlankEventTaken_seen :
    let t := after (.rearBlankEvent .left) sceneSeenDue
    sceneSeenDue.timing (.rear .left) = some timing0 ∧ (sceneSeenDue.display (.rear .left)).running = true ∧
      (t.display (.rear .left)).cap =
        { base := some { base := 0x40000000, width := 64, height := 16 },
          ov0 := some { base := 0x40000000, width := 64, height := 16 }, ov1 := none } ∧
      (t.display (.rear .left)).fault0 = true ∧ (t.display (.rear .left)).fault1 = false ∧
      (t.display (.rear .left)).req.map (fun q => (q.layer, q.granted, q.live)) = some (.ov0, false, true) := by decide

/-- R9: the line that begins is counted once if SCAN_C is urgent on it, up to 4; a line of a rear display begins none. -/
theorem wit_LineEndTaken_urgent :
    let s : Nat → State := fun n => { scanning with centre := { scanning.centre with urgentLines := n, lineUrgent := true } }
    let t := after (.displayLineEnd .centre) (s 1)
    t.urgent .scanC = true ∧ t.centre.urgentLines = 2 ∧ t.centre.lineUrgent = true ∧
      (after (.displayLineEnd .centre) (s 4)).centre.urgentLines = 4 ∧
      (after (.displayLineEnd (.rear .left)) (s 1)).centre = (s 1).centre ∧
      (after (.displayLineEnd .centre) { s 1 with disp := live.disp }).centre = { (s 1).centre with lineUrgent := false } := by
  decide

/-- R35: no underrun begins beyond the layer, twice on a line, or where the data has arrived. -/
theorem wit_LayerUnderrunTaken_meets :
    let under : Nat → State := fun n =>
      { scanning with
        disp := { scanning.disp with c := { scanning.disp.c with base := { scanning.disp.c.base with under := some n } } } }
    let arrived : State := after (.scanBurstComplete .centre (.ok (List.replicate 16 zeroBeat))) scanning
    scanning.meetsUnderrun .centre .base 63 = true ∧ scanning.meetsUnderrun .centre .base 64 = false ∧
      scanning.meetsUnderrun .centre .ov0 5 = false ∧ (under 2).meetsUnderrun .centre .base 5 = false ∧
      arrived.meetsUnderrun .centre .base 31 = false ∧ arrived.meetsUnderrun .centre .base 32 = true := by decide

/-- R36: a burst discarded at a blank event stays counted though its slot's new row was stopped and now retires. -/
theorem wit_LineEndTaken_dead :
    let dead : State :=
      { scanning with
        disp := { scanning.disp with
                  c := { scanning.disp.c with
                         base := { scanning.disp.c.base with
                                   slots := [{ LineSlot.empty with phase := .filling, asked := 1, stopped := true },
                                             LineSlot.empty, LineSlot.empty, LineSlot.empty] }
                         req := scanning.disp.c.req.map (fun q => { q with live := false }) } } }
    let stopped : State :=
      { dead with disp := { dead.disp with c := { dead.disp.c with req := scanning.disp.c.req } } }
    (after (.displayLineEnd .centre) dead).disp.c.req.map (fun q => (q.live, q.counted)) = some (false, true) ∧
      (after (.displayLineEnd .centre) stopped).disp.c.req.map (fun q => (q.live, q.counted)) = some (false, false) := by
  decide

/-- The centre on line 0 of a frame. -/
def showing (view : View) (content : Content) (cb : CamBase) : State :=
  let p : Profile := { prof0 with guide := { guideWorked with colour1 := 0x00000011, colour2 := 0x00000022 } }
  let fr : FrameRecord :=
    { content := content, scene := some (sceneSeen none),
      cap := { base := none, ov0 := some { base := 0x40000000, width := 64, height := 16 }, ov1 := none }, view := view,
      film := none, camBase := cb, showing := true, reduced := false }
  { live with
    boot := { live.boot with profile := some p }
    disp := { live.disp with c := { disp0 with line := 0, blanked := false, frame := some fr } }
    guide := busy.guide }

/-- The same with 16 pixels of overlay 0 arrived, opaque and of a colour each. -/
def showingOver (view : View) (under : Option Nat) : State :=
  let s := showing view .scene .engagingFill
  let beat : RBeat := ⟨⟨0x01, 0x02, 0x03, 0xFF⟩, ⟨0x04, 0x05, 0x06, 0xFF⟩⟩
  let b : LayerBuf :=
    { LayerBuf.empty with
      slots := { LineSlot.empty with phase := .filling, chunks := [(0, List.replicate 16 beat)] } ::
        List.replicate 3 LineSlot.empty,
      under := under }
  { s with disp := { s.disp with c := { s.disp.c with ov0 := b } } }

/-- R21, R24, R26, R27, R31, R35: the pixel shown. -/
theorem wit_LayerUnderrunTaken_pixel :
    let px : State → Nat → Option (BitVec 24) := fun s col => s.outputPixel .centre col
    px (showing .host .scene .engagingFill) 40 = some 0x112233 ∧ px (showing .host .disabled .engagingFill) 40 = some 0 ∧
      px (showing .host .noScene .engagingFill) 40 = some 0 ∧ px (showing .host .scene .engagingFill) 64 = none ∧
      px { showing .host .scene .engagingFill with centre := { live.centre with keepWindow := true } } 31 = some 0 ∧
      px { showing .host .scene .engagingFill with centre := { live.centre with keepWindow := true } } 32 = some 0x112233 ∧
      px (showing .rear .disabled .engagingFill) 40 = some 0 ∧ px (showing .rear .disabled .unavailableFill) 40 = some 0xABCDEF ∧
      px (showing .rear .scene (.slot 1)) 40 = some 0x112233 ∧ px (showing .rear .scene .unavailableFill) 1 = some 0x000011 ∧
      px (showing .rear .scene .unavailableFill) 3 = some 0x000011 ∧
      px (showing .rear .scene .unavailableFill) 4 = some 0x000022 ∧
      px (showingOver .host none) 0 = some 0x030201 ∧ px (showingOver .host none) 31 = some 0x060504 ∧
      px (showingOver .host none) 32 = some 0x112233 ∧ px (showingOver .host (some 8)) 8 = some 0x112233 ∧
      px (showingOver .rear none) 40 = some 0 ∧ px live 0 = none := by decide

/-- R1, R2: the pixel output in OFF, on a blank line, and at columns 63 and 64 of an active line of 64. -/
theorem wit_LayerUnderrunTaken_output :
    let s := showing .host .scene .engagingFill
    (s.display (.rear .right)).running = false ∧ s.pixelOutput (.rear .right) 0 = .atRest 0x000000 false ∧
      State.reset.pixelOutput .centre 5 = .atRest 0x000000 false ∧ live.disp.c.line = timing0.ha ∧
      live.pixelOutput .centre 0 = .noPixel ∧ s.pixelOutput .centre 63 = .pixel 0x112233 ∧
      s.pixelOutput .centre 64 = .noPixel := by decide

/-- R9: the blank event of the entry to RUNNING closes no frame, a later one does. -/
theorem wit_CentreBlankEventTaken_frame : live.disp.c.frame = none ∧ scanning.disp.c.frame ≠ none ∧
    (after .centreBlankEvent live).centre.calm = 0 ∧ (after .centreBlankEvent scanning).centre.calm = 1 := by decide

theorem wit_ScanBurstCompleted : ∃ f q k, scanning.dueFlight = some f ∧ f.owner = .scan .centre ∧
    (scanning.display .centre).req = some q ∧ q.granted = true ∧
    Reply.wfBurst (.ok (List.replicate 16 zeroBeat)) = true ∧ Reply.wf q.beats (.ok (List.replicate 16 zeroBeat)) = true ∧
    q.live = true ∧ (scanning.layer .centre q.layer).isSome = true ∧
    ((scanning.display .centre).buf q.layer).slots[q.slot]? = some k ∧ k.phase = .filling :=
  ⟨_, _, _, rfl, rfl, rfl, rfl, by decide, by decide, rfl, by decide, rfl, rfl⟩

/-- R26: the burst of a filling slot is chosen, at its place in the row. -/
theorem wit_ScanBurstCompleted_chosen :
    let x : Display := { scanning.disp.c with req := none }
    let k : LineSlot := { LineSlot.empty with phase := .filling, asked := 1 }
    let v : LayerView :=
      { base := 0, stride := 256, height := 16, rect := { x0 := 0, y0 := 0, x1 := 64, y1 := 16 }, scroll := none,
        alternate := false, window := none }
    x.req = none ∧ scanning.layer .centre .base = some v ∧ v.bursts = 2 ∧ (x.buf .base).slots[0]? = some k ∧
      (x.choose (scanning.layer .centre)).req =
        some { layer := .base, slot := 0, burst := 1, addr := 128, beats := 16, granted := false, live := true,
               counted := true } ∧
      ({ v with window := some { x0 := 0, y0 := 0, x1 := 40, y1 := 8 } } : LayerView).nextBurst 0 0 = 1 := by decide

/-- A burst granted to the centre's host base, a report in flight, and a chime whose only source is slot 0. -/
def emptying : State :=
  { scanning with
    chime := { scanning.chime with phase := .playing, playing := some ⟨12, 1, [.slot 0], none, 0⟩, nextArrival := 1 }
    load := { scanning.load with
              slot := some (.reportBurst 0),
              report := some { page := [], granted := 0, back := 0, err := false, carried := 0 } } }

theorem wit_HostResetEmpties_held : emptying.pins.hrstnLow = false ∧ emptying.boot.startup ≠ .reset ∧
    (emptying.display .centre).req.any (fun q => q.layer == .base && q.granted) = true ∧
    emptying.disp.c.frame.all (fun fr => fr.view == .host) = true ∧ emptying.load.slot = some (.reportBurst 0) ∧
    (let t := after .hostReset emptying
     t.chime.phase = .switching ∧ t.chime.playing = none ∧ t.load.slot = some (.reportBurst 0) ∧
       t.disp.c.base = LayerBuf.empty ∧
       t.disp.c.req.any (fun q => !q.live && !q.counted) = true) := by decide

/-- R37: in REAR_VIEW the camera base keeps its slots and its request. -/
theorem wit_HostResetEmpties_camera :
    let s : State :=
      { scanning with
        disp := { scanning.disp with
                  c := { scanning.disp.c with
                         frame := scanning.disp.c.frame.map (fun fr => { fr with view := .rear, camBase := .slot 1 }) } } }
    let t := after .hostReset s
    t.disp.c.req = s.disp.c.req ∧ t.disp.c.base.slots[0]? = s.disp.c.base.slots[0]? ∧ t.centre = s.centre ∧
      s.disp.c.frame.any (fun fr => fr.view == .rear) = true := by decide

/-- REAR_L on line 0 of a frame whose film base has 16 columns of that line arrived, 8 of them before an underrun. -/
def filming : State :=
  let beat : RBeat := ⟨⟨0x01, 0x02, 0x03, 0xFF⟩, ⟨0x04, 0x05, 0x06, 0xFF⟩⟩
  let fr : FrameRecord :=
    { content := .scene, scene := some (sceneSeen none), cap := { base := some geom0, ov0 := none, ov1 := none },
      view := .host, film := some 0, camBase := .engagingFill, showing := false, reduced := false }
  let b : LayerBuf :=
    { LayerBuf.empty with
      slots := { LineSlot.empty with phase := .filling, chunks := [(0, List.replicate 8 beat)] } ::
        List.replicate 3 LineSlot.empty,
      under := some 8 }
  { live with
    disp := { live.disp with
              l := { disp0 with line := 0, blanked := false, content := .scene, frame := some fr, base := b } } }

/-- R22: what REAR_L has of the line it has begun shows the film's pixels up to the underrun, and the frame record has no
film once the host is reset; a display with no film has no line to keep, whatever the free value is (log entry 42). -/
theorem wit_HostResetEmpties_line :
    let x := filming.display (.rear .left)
    let begun := x.lineBegun (.rear .left) (filming.layer (.rear .left) .base)
    let bare : State := { filming with disp := { filming.disp with l := { filming.disp.l with frame := none } } }
    filming.boot.profile = some prof0 ∧ x.running = true ∧ x.frame.any (fun fr => fr.film == some 0) = true ∧
      x.line < timing0.ha ∧ x.kept = none ∧
      filming.outputPixel (.rear .left) 7 = some 0x060504 ∧ filming.outputPixel (.rear .left) 8 = some 0x112233 ∧
      begun.map (fun l => (l.x0, l.x1)) = some (0, 8) ∧ begun.bind (·.pixel 7) = some 0xFF060504 ∧
      (after .hostReset filming).disp.l.frame.all (fun fr => fr.film.isNone) = true ∧
      (after .hostReset filming).disp.l.base = LayerBuf.empty ∧
      (after (.displayLineEnd (.rear .left)) (after .hostReset filming)).disp.l.kept = none ∧
      (after .hostReset bare).disp.l.kept = none := by decide

/-- R22: a line kept through a host reset is kept through a second one, shows its pixels, and ends with the line. -/
theorem wit_LineEndTaken_kept :
    let x : Display := { filming.disp.l with
                         frame := filming.disp.l.frame.map FrameRecord.hostReset, base := LayerBuf.empty,
                         kept := filming.disp.l.baseLine
                           { base := 0, stride := 256, height := 16, rect := { x0 := 0, y0 := 0, x1 := 64, y1 := 16 },
                             scroll := none, alternate := false, window := none } }
    let s : State := { filming with disp := { filming.disp with l := x } }
    x.kept.isSome = true ∧ s.outputPixel (.rear .left) 7 = some 0x060504 ∧
      s.outputPixel (.rear .left) 8 = some 0x000000 ∧ x.lineBegun (.rear .left) none = x.kept ∧
      (after (.displayLineEnd (.rear .left)) s).disp.l.kept = none ∧
      (after (.displayLineEnd (.rear .left)) s).outputPixel (.rear .left) 7 = some 0x000000 := by decide

/-- The same burst, errored, or dead after its layer's row had ended (R33, R36). -/
theorem wit_ScanBurstCompleted_discarded :
    let dead : State :=
      { scanning with
        disp := { scanning.disp with
                  c := { scanning.disp.c with
                         req := scanning.disp.c.req.map (fun q => { q with live := false, counted := false }) } } }
    (dead.display .centre).req.any (fun q => q.granted && !q.live) = true ∧
      (after (.scanBurstComplete .centre .error) scanning).path.fetchErrors = 1 ∧
      (after (.scanBurstComplete .centre .error) dead).path.fetchErrors = 0 ∧
      (after (.scanBurstComplete .centre (.ok (List.replicate 16 zeroBeat))) dead).disp.c.base.slots.map (·.chunks) =
        dead.disp.c.base.slots.map (·.chunks) := by decide

/-- The burst's row has ended on its line, or its film base is withdrawn. -/
theorem wit_LineEndTaken_granted :
    let withdrawn : State := { scanning with disp := { scanning.disp with c := { scanning.disp.c with withdraw := true } } }
    let k : LineSlot := { LineSlot.empty with phase := .filling, asked := 1 }
    (scanning.display .centre).running = true ∧ ((scanning.display .centre).buf .base).slots[0]? = some k ∧
      (scanning.display .centre).line < timing0.ha ∧ k.phase ≠ .free ∧ k.last ≤ (scanning.display .centre).line ∧
      k.stopped = false ∧ (withdrawn.display .centre).withdraw = true ∧
      (after (.displayLineEnd .centre) scanning).disp.c.req.any (fun q => !q.live && q.counted) = true ∧
      (after (.displayLineEnd .centre) withdrawn).disp.c.req.any (fun q => !q.live && q.counted) = true := by decide

/-- R32: at the end of line 0 the slot of row 0 goes to the next row needed, and the free ones to those after it; a slot
still to be shown is kept; past the last row a slot stays free; a rear film base withdrawn leaves nothing. -/
theorem wit_LineEndTaken_slots :
    let rows : State → List (SlotPhase × Nat × Nat) := fun s =>
      (after (.displayLineEnd .centre) s).disp.c.base.slots.map (fun k => (k.phase, k.first, k.last))
    let with' : LayerBuf → State := fun b =>
      { scanning with disp := { scanning.disp with c := { scanning.disp.c with base := b } } }
    let b := scanning.disp.c.base
    let kept : LineSlot := { LineSlot.empty with phase := .complete, last := 1, asked := 2, chunks := [(0, [])] }
    let film : State := { scanning with disp := { scanning.disp with l := { scanning.disp.c with withdraw := true } } }
    rows scanning = [(.filling, 1, 1), (.filling, 2, 2), (.filling, 3, 3), (.filling, 4, 4)] ∧
      (after (.displayLineEnd .centre) scanning).disp.c.base.nextRow = 5 ∧
      (after (.displayLineEnd .centre) (with' { b with slots := kept :: b.slots.drop 1 })).disp.c.base.slots[0]? =
        some kept ∧
      (rows (with' { b with nextRow := 15 })).map (·.1) = [.filling, .free, .free, .free] ∧
      (after (.displayLineEnd (.rear .left)) film).disp.l.base = LayerBuf.empty ∧
      (after (.displayLineEnd (.rear .left)) film).disp.l.withdraw = false := by decide

theorem wit_BlendFollowsRule : (128 : Nat) ≤ 255 ∧ channel 0xC8C80000 3 = 200 ∧ combinedAlpha 255 255 = 255 ∧
    combinedAlpha 0 255 = 0 := by decide

theorem wit_BacklightRows : (live.pwm .centre).started = true ∧ (live.pwm (.rear .right)).started = false ∧
    Tri.get live.pins.fault .centre = false := by decide

theorem wit_PwmHighTicks : (256 : Nat) % 2 = 0 ∧ 256 ≤ 256 ∧ threshold 256 2048 = 64 := by decide

/-- R14 to R16: the duty in effect in general. -/
theorem wit_PwmHighTicks_output :
    let s : RvcPhase → Option Nat → State := fun ph h =>
      { live with rvc := { live.rvc with phase := ph }, bl := { live.bl with c := { pwm0 with held := h } } }
    live.boot.profile = some prof0 ∧ (s .showing (some 2000)).dutyInEffect .centre = 3000 ∧
      (s .off (some 2000)).dutyInEffect .centre = 2000 ∧ (s .off none).dutyInEffect .centre = 1000 ∧
      (s .showing none).dutyInEffect (.rear .left) = 1000 ∧ 1000 * (256 / 2) / 4095 = 31 ∧
      (s .off none).pwmOutput .centre = true ∧
      ({ live with bl := { live.bl with c := { pwm0 with counter := 31 } } } : State).pwmOutput .centre = false ∧
      State.reset.boot.profile = none := by decide

theorem wit_AudioFrameRows : live.aud.clock = true ∧ live.mix.route = .silent ∧
    ({ live.mix with route := .stream .left } : MixState).route = .stream .left := by decide

/-- CHIME sounds a frame of a step, and a frame of a fade. -/
theorem wit_AudioFrameRows_chime :
    let s : State := { live with chime := { live.chime with
                                            phase := .playing, playing := some ⟨5, 4, [.cond 4], none, 0⟩, nextArrival := 1 } }
    let f : State := { live with chime := { live.chime with phase := .switching, fade := some ⟨5, 0, 239, 256⟩ } }
    (after .outputFrame s).chime.frame = 1 ∧ (after .outputFrame s).chime.acc = 349525 ∧
      (after .outputFrame s).chime.lastEnv = 256 ∧ (after .outputFrame f).chime.fade = some ⟨5, 0, 240, 256⟩ ∧
      (after .outputFrame live).chime = live.chime := by decide

/-- R94, R150: the samples of a PLAYING stream, and the envelope where attack and release meet. -/
theorem wit_AudioFrameRows_samples :
    let beat : RBeat := ⟨⟨0x01, 0x80, 0x02, 0x00⟩, ⟨0xFF, 0xFF, 0x03, 0x10⟩⟩
    let st : Stream := { Stream.init with phase := .playing, ring := some { ring29 with play := [beat] } }
    let step : Nat → Nat → ChimeStep := fun a r => { step1000 with duration := 10, attack := a, release := r }
    st.samples 0 = ⟨-32767, 2⟩ ∧ st.samples 1 = ⟨-1, 4099⟩ ∧ st.samples 2 = ⟨0, 0⟩ ∧
      ({ st with phase := .underrun } : Stream).samples 0 = ⟨0, 0⟩ ∧ envelope (step 5 4) 120 = 128 ∧
      envelope (step 5 4) 250 = 256 ∧ envelope (step 5 4) 400 = 106 ∧ envelope (step 10 10) 240 = 128 ∧
      envelope (step 10 10) 479 = 0 ∧ toneSample { step1000 with tone := 0 } 8388600 256 = 0 := by decide

/-- Stream 0 PLAYING block 1 of Table 29, or PRIMING on it. -/
def playing29 (blocks : List BlockPhase) (pf : Option Prefetch) : State :=
  { live with
    aud := { live.aud with
             streams := ⟨{ Stream.init with
                           phase := .playing, blockSeq := 1, ring := some { ring29 with blocks := blocks, prefetch := pf } },
                         Stream.init⟩ } }

def fetched (j : Nat) : Prefetch := { block := j, granted := 8, back := 8, err := false, data := [] }

theorem wit_BlockBoundaryTaken_plays :
    let s := playing29 [.empty, .playing, .filled, .empty, .empty, .empty, .empty, .empty] (some (fetched 2))
    s.aud.clock = true ∧ s.aud.streams.l.phase = .playing ∧
      ∃ r, s.aud.streams.l.ring = some r ∧ r.playing = some 1 ∧ 1 < r.blocks.length ∧ r.block 2 = .filled ∧
        r.fetched 2 = true := ⟨rfl, rfl, _, rfl, rfl, by decide, by decide, by decide⟩

theorem wit_BlockBoundaryTaken_underrun :
    let s := playing29 ring29.blocks none
    s.aud.clock = true ∧ s.aud.streams.l.phase = .playing ∧ s.aud.streams.r.ring = none ∧
      ∃ r, s.aud.streams.l.ring = some r ∧ r.playing = some 1 ∧ 1 < r.blocks.length ∧ r.block 2 ≠ .filled :=
  ⟨rfl, rfl, rfl, _, rfl, rfl, by decide, by decide⟩

/-- R83, R91: the block the stream waits for next becomes FILLED and its prefetch is due; a write of the playing block is
late. -/
theorem wit_HostPieceRows_block :
    let t := (playing29 ring29.blocks none).notice (.audioBlock 0 2 true)
    (t.aud.streams.l.ring.map (fun r => (r.block 2, r.prefetch))) = some (.filled, some (Prefetch.fresh 2)) ∧
      t.aud.due = [.left] ∧ t.aud.streams.l.lateWrites = 0 ∧
      ((playing29 ring29.blocks none).notice (.audioBlock 0 1 true)).aud.streams.l.lateWrites = 1 ∧
      (playing29 ring29.blocks none).notice (.audioBlock 1 2 true) = playing29 ring29.blocks none := by decide

def priming29 (pf : Option Prefetch) : RingRecord :=
  { RingRecord.fresh 0 { base := 0, size := 4096, n := 8 } 0 1 with
    blocks := [.filled, .empty, .empty, .empty, .empty, .empty, .empty, .empty], prefetch := pf }

theorem wit_BlockBoundaryTaken_priming : (priming29 none).awaited = some 0 ∧ 0 < (priming29 none).blocks.length ∧
    (priming29 (some (fetched 0))).primed 1 0 = true ∧ (priming29 (some (fetched 0))).fetched 0 = true ∧
    (priming29 none).fetched 0 = false := by decide

/-- R88, R93: the prime count goes round the ring; what was fetched is played, nothing after an error. -/
theorem wit_BlockBoundaryTaken_play :
    let round : BlockPhase → RingRecord := fun b =>
      { ring29 with blocks := [b, .empty, .empty, .empty, .empty, .empty, .empty, .filled] }
    let filled : List BlockPhase := [.empty, .playing, .filled, .empty, .empty, .empty, .empty, .empty]
    let play : Bool → Option (List RBeat) := fun err =>
      ((after .blockBoundary
        (playing29 filled (some { fetched 2 with data := [zeroBeat], err := err }))).aud.streams.l.ring).map (·.play)
    (round .filled).primed 2 7 = true ∧ (round .empty).primed 2 7 = false ∧ (round .empty).primed 1 7 = true ∧
      play false = some [zeroBeat] ∧ play true = some [] := by decide

/-- R91: at a boundary the prefetch of the block after next becomes due, stream 0's first. -/
theorem wit_BlockBoundaryTaken_due :
    let r : RingRecord :=
      { ring29 with
        blocks := [.empty, .playing, .filled, .filled, .empty, .empty, .empty, .empty], prefetch := some (fetched 2) }
    let st : Stream := { Stream.init with phase := .playing, blockSeq := 1, ring := some r }
    let t := after .blockBoundary { live with aud := { live.aud with streams := ⟨st, st⟩ } }
    t.aud.due = [.left, .right] ∧ t.aud.streams.r.ring.bind (·.prefetch) = some (Prefetch.fresh 3) ∧
      t.aud.streams.l.ring.bind (·.prefetch) = some (Prefetch.fresh 3) ∧
      (after .blockBoundary (playing29 [.empty, .playing, .filled, .empty, .empty, .empty, .empty, .empty]
        (some (fetched 2)))).aud.due = [] := by decide

/-- R90: a stream in UNDERRUN on block 2, FILLED and fetched, or EMPTY. -/
def under29 (b : BlockPhase) (pf : Option Prefetch) : State :=
  { live with
    aud := { live.aud with
             streams := ⟨{ Stream.init with
                           phase := .underrun, blockSeq := 2, underruns := 1,
                           ring := some
                             { ring29 with
                               blocks := [.empty, .empty, b, .empty, .empty, .empty, .empty, .empty], playing := none,
                               awaited := some 2, prefetch := pf } }, Stream.init⟩ } }

theorem wit_BlockBoundaryTaken_returns :
    (under29 .filled (some (fetched 2))).aud.streams.l.phase = .underrun ∧
      (let t := after .blockBoundary (under29 .filled (some (fetched 2)))
       t.aud.streams.l.phase = .playing ∧ t.aud.streams.l.blockSeq = 2 ∧ t.aud.streams.l.underruns = 1) ∧
      (let t := after .blockBoundary (under29 .empty none)
       t.aud.streams.l.phase = .underrun ∧ t.aud.streams.l.blockSeq = 2 ∧ t.aud.streams.l.underruns = 1) := by decide

def fetching : State :=
  due (.audio .left) (playing29 [.empty, .playing, .filled, .empty, .empty, .empty, .empty, .empty] (some (Prefetch.fresh 2)))

set_option maxRecDepth 100000 in
/-- R39, R91, R167, R179: what the requesters present, and where. -/
theorem wit_ArbRows_presents :
    let at' : State → Requester → Option (Nat × Nat × Bool) := fun s q =>
      (s.presents q).map (fun b => (b.addr, b.beats, b.write))
    let asking : State :=
      { scanning with
        disp := { scanning.disp with
                  c := { scanning.disp.c with
                         req := scanning.disp.c.req.map (fun q => { q with granted := false }) } } }
    let begun : State := playing29 ring29.blocks (some { Prefetch.fresh 2 with granted := 3 })
    let fetch : State := { begun with aud := { begun.aud with due := [.left] } }
    let load : Option LoadReq → State := fun q =>
      { live with boot := { live.boot with cbBase := 0x1FFFF000 }, load := { live.load with slot := q } }
    let report : State :=
      { load (some (.reportBurst 7)) with
        load := { live.load with
                  slot := some (.reportBurst 7),
                  report := some { page := live.statusPage, granted := 7, back := 0, err := false, carried := 0 } } }
    at' presenting .host = some (0, 1, false) ∧ at' dropping .host = none ∧ at' completing .host = none ∧
      at' scanning .scanC = none ∧ at' asking .scanC = some (0, 16, false) ∧ at' asking .scanRl = none ∧
      at' live .camera = none ∧ at' live .audio = none ∧ at' fetch .audio = some (2048 + 384, 16, false) ∧
      at' live .load = none ∧ at' (load (some (.readBurst 9))) .load = some (0x1FFFF480, 16, false) ∧
      at' (load (some .reread)) .load = some (0x1FFFF008, 1, false) ∧
      at' report .load = some (0x1FFFFB80, 16, true) ∧ live.statusPage.length = 1024 := by decide

/-- R33, R91: what a grant takes from an engine and from the prefetch. -/
theorem wit_ArbRows_takes_reads :
    let asking : State :=
      { scanning with
        arb := live.arb
        disp := { scanning.disp with
                  c := { scanning.disp.c with
                         req := scanning.disp.c.req.map (fun q => { q with granted := false }) } } }
    let fetch : Nat → State := fun n =>
      let s := playing29 ring29.blocks (some { Prefetch.fresh 2 with granted := n })
      { s with aud := { s.aud with due := [.left, .right] } }
    (after .arbGrant asking).disp.c.req = scanning.disp.c.req ∧
      (after .arbGrant asking).arb.flights.map (·.owner) = [.scan .centre] ∧
      (after .arbGrant (fetch 6)).aud.due = [.left, .right] ∧ (after .arbGrant (fetch 7)).aud.due = [.right] ∧
      (after .arbGrant (fetch 6)).arb.flights.map (·.owner) = [.audio .left] ∧
      ((after .arbGrant (fetch 6)).aud.streams.l.ring.bind (·.prefetch)).map (·.granted) = some 7 := by decide

set_option maxRecDepth 100000 in
/-- R34, R60, R92, R100: who is urgent. -/
theorem wit_ArbRows_urgent :
    let cam : Nat → State := fun n => { live with cam := { live.cam with buf := List.replicate n 0 } }
    let aud : Nat → Nat → State := fun phase back =>
      let s := playing29 ring29.blocks (some { Prefetch.fresh 2 with granted := back, back := back })
      { s with aud := { s.aud with phase := phase } }
    (cam 1024).urgent .camera = false ∧ (cam 1025).urgent .camera = true ∧ (aud 209 3).urgent .audio = false ∧
      (aud 210 3).urgent .audio = true ∧ (aud 210 8).urgent .audio = false ∧ live.urgent .scanC = false ∧
      scanning.urgent .scanC = true ∧ scanning.urgent .host = false ∧ scanning.urgent .load = false := by decide

theorem wit_AudioBurstCompleted : ∃ f r p, fetching.dueFlight = some f ∧ f.owner = .audio .left ∧ f.live = true ∧
    (Pair.get fetching.aud.streams .left).ring = some r ∧ r.prefetch = some p ∧ (List.replicate 16 zeroBeat).length = 16 :=
  ⟨_, _, _, rfl, rfl, rfl, rfl, rfl, by decide⟩

theorem wit_AudioBurstCompleted_dead :
    ∃ f, State.dueFlight { live with arb := { live.arb with flights := [{ flight (.audio .left) with live := false }] } } =
        some f ∧ f.owner = .audio .left ∧ f.live = false ∧ Reply.wf 16 .error = true := ⟨_, rfl, rfl, rfl, rfl⟩

theorem wit_ChimeSampleInRange : step1000.level ≤ 255 ∧ (256 : Nat) ≤ 256 ∧ (16777215 : Nat) < 2 ^ 24 := by decide

def sounding (p step : Nat) (passes : Option Nat) (xs : List Source) : State :=
  { live with
    chime := { live.chime with
               phase := .playing, playing := some ⟨p, 4, xs, none, 0⟩, nextArrival := 1, step := step, passes := passes } }

theorem wit_ChimeStepEndTaken : (sounding 5 0 (some 3) [.cond 4]).chime.phase = .playing ∧
    (sounding 5 0 (some 3) []).chime.step + 1 < (patternAt live.patterns 5).count ∧
    (patternAt live.patterns 3).count ≤ (sounding 3 1 none []).chime.step + 1 ∧
    (patternAt live.patterns 5).count ≤ (sounding 5 1 (some 3) []).chime.step + 1 ∧
    (after .chimeStepEnd (sounding 14 1 (some 1) [.slot 1])).chime.results = [.blank, .done, .blank, .blank] ∧
    (after .chimeStepEnd (sounding 14 1 (some 1) [.slot 1])).chime.phase = .idle := by decide

/-- R157: at a finish the stack top resumes, or the waiting head of a higher priority begins. -/
theorem wit_ChimeStepEndTaken_successor :
    let top : ChimeEntry := ⟨3, 2, [.cond 1], some ⟨1, none⟩, 0⟩
    let head : ChimeEntry := ⟨12, 1, [.slot 0], none, 2⟩
    let high : ChimeEntry := ⟨5, 4, [.cond 4], none, 2⟩
    let s : List ChimeEntry → List ChimeEntry → State := fun stack waiting =>
      { sounding 9 1 (some 1) [.reverse] with
        chime := { (sounding 9 1 (some 1) [.reverse]).chime with stack := stack, waiting := waiting, nextArrival := 3 } }
    let t := after .chimeStepEnd (s [top] [head])
    let u := after .chimeStepEnd (s [top] [high])
    head.priority ≤ top.priority ∧ t.chime.playing = some { top with resume := none } ∧ t.chime.step = 1 ∧
      t.chime.stack = [] ∧ t.chime.waiting = [head] ∧ top.priority < high.priority ∧ u.chime.playing = some high ∧
      u.chime.step = 0 ∧ u.chime.passes = some 3 ∧ u.chime.stack = [top] ∧ u.chime.waiting = [] := by decide

/-- CHIME of Table 53 in a fade with no entry to play, the door entry on the stack and the prompt waiting. -/
def fading (stack waiting : List ChimeEntry) (playing : Option ChimeEntry) : State :=
  { live with
    chime := { live.chime with
               phase := .switching, playing := playing, stack := stack, waiting := waiting, nextArrival := 9,
               fade := some ⟨9, 0, 240, 256⟩ } }

theorem wit_SuccessorChosen :
    let top : ChimeEntry := ⟨5, 4, [.cond 4], some ⟨0, some 2⟩, 1⟩
    let head : ChimeEntry := ⟨12, 1, [.slot 0], none, 2⟩
    let high : ChimeEntry := ⟨14, 7, [.slot 1], none, 3⟩
    ChimeSound (fading [top] [head] none) ∧ ChimeSound (fading [top] [high] none) ∧ ChimeSound (fading [] [] none) ∧
      ChimeSound (fading [] [] (some head)) ∧ (fading [top] [head] none).chime.phase = .switching ∧
      head.priority ≤ top.priority ∧ top.priority < high.priority := by
  refine ⟨?_, ?_, ?_, ?_, by decide, by decide, by decide⟩ <;>
    (unfold ChimeSound ChimeState.Sound
     exact ⟨by decide, by decide, by decide, by decide, by decide, by decide, by decide, by decide⟩)

/-- R158: a suspended entry that was chosen before the fade ended resumes at its point, a new one at step 0. -/
theorem wit_SuccessorChosen_playing :
    let e : Option Resume → ChimeEntry := fun r => ⟨5, 4, [.cond 4], r, 1⟩
    ChimeSound (fading [] [] (some (e (some ⟨1, some 2⟩)))) ∧
      (let t := after .fadeEnd (fading [] [] (some (e (some ⟨1, some 2⟩))))
       t.chime.step = 1 ∧ t.chime.passes = some 2) ∧
      (let t := after .fadeEnd (fading [] [] (some (e none)))
       t.chime.step = 0 ∧ t.chime.passes = some 3) := by
  refine ⟨?_, by decide⟩
  unfold ChimeSound ChimeState.Sound
  refine ⟨by decide, by decide, by decide, by decide, by decide, by decide, by decide, by decide⟩

theorem wit_CameraSignalRows : live.cam.phase ≠ .idle ∧ live.cam.phase = .noSignal ∧ live.cam.writing = none ∧
    live.cam.slots.findIdx? (· == .empty) = some 0 ∧ busy.cam.phase = .receiving ∧ busy.cam.writing ≠ none ∧
    ({ busy.cam with period := some 5 } : CamState).period = some 5 := by decide

/-- R104: with no EMPTY slot the oldest COMPLETE one is picked; with none COMPLETE either the frame is skipped. -/
theorem wit_CameraSignalRows_pick :
    let s : List CamSlot → List Nat → State := fun slots arr =>
      { live with cam := { live.cam with phase := .receiving, slots := slots, arrivals := arr } }
    let t := after (.cameraFrameStart 0) (s [.complete, .showing, .complete, .complete] [1, 3, 0, 2])
    let u := after (.cameraFrameStart 0) (s [.showing, .showing, .showing, .showing] [0, 1, 2, 3])
    t.cam.slots = [.complete, .showing, .complete, .writing] ∧ t.cam.arrivals = [1, 0, 2] ∧
      t.cam.writing.map (·.slot) = some 3 ∧ u.cam.writing = none ∧ u.cam.slots = [.showing, .showing, .showing, .showing] ∧
      u.cam.received = 1 := by decide

/-- The elapsed ticks pass before the frame start: the period is measured to it, and a counter that the row leaves has
moved; before CAM has started the port is ignored, and the ticks pass all the same. -/
theorem wit_CameraSignalRows_ticks :
    let s : State := { live with cam := { live.cam with phase := .receiving, period := some 24000 } }
    let off : State := { live with cam := { live.cam with phase := .idle } }
    (after (.cameraFrameStart 48) s).cam.reported = 1002 ∧ (after (.cameraFrameStart 48) s).tb.sub = 48 ∧
      (after (.cameraFrameStart 48) s).cam.received = 1 ∧ (after (.cameraFrameStart 48) off).tb.sub = 48 ∧
      (after (.cameraFrameStart 48) off).cam = off.cam := by decide

def writing0 : Writing := { slot := 0, lines := 1, col := 31, lineOpen := true, passed := false, outstanding := 0 }

def storing (w : Writing) : State :=
  { live with cam := { live.cam with phase := .receiving, slots := [.writing, .empty, .empty, .empty], writing := some w } }

theorem wit_CameraPixelRows : (storing writing0).cam.writing = some writing0 ∧ (storing writing0).camProfile = some cam0 ∧
    writing0.lineOpen = true ∧ writing0.col < cam0.width ∧ (storing writing0).cam.buf.length < 2048 ∧
    writing0.lines < cam0.height ∧ (writing0.col + 1) % 32 = 0 ∧ cam0.width ≤ ({ writing0 with col := 64 } : Writing).col := by
  decide

theorem wit_CameraFrameCompletes :
    let w : Writing := { writing0 with lineOpen := false, lines := 16, col := 64 }
    (storing w).cam.writing = some w ∧ (storing w).camProfile = some cam0 ∧ w.passed = false ∧ cam0.height ≤ w.lines ∧
      w.outstanding = 0 ∧ ({ w with outstanding := 1 } : Writing).outstanding ≠ 0 ∧ writing0.lines < cam0.height := by decide

/-- R101, R102: a rejection discards pixels and bursts, the granted ones too, whose errors are then not counted. -/
theorem wit_CameraPixelRows_rejects :
    let s := due (.camera 32) (storing writing0)
    let t := after .cameraLineEnd s
    let u := after .cameraFrameEnd s
    let v := after .cameraLineStart (storing { writing0 with lineOpen := false, lines := 16 })
    t.cam.slots = [.empty, .empty, .empty, .empty] ∧ t.cam.rejected = 1 ∧ t.cam.writing = none ∧
      t.arb.flights.map (·.live) = [false] ∧ u = t ∧ v.cam.rejected = 1 ∧
      (after (.cameraBurstComplete true) t).path.fetchErrors = 0 ∧
      (after (.cameraBurstComplete true) t).arb.flights = [] ∧
      (after (.cameraBurstComplete true) s).path.fetchErrors = 1 ∧
      (after (.cameraBurstComplete true) s).cam.rejected = 1 := by decide

theorem wit_CameraFrameCompletes_burst :
    let w : Writing := { writing0 with lineOpen := false, passed := true, outstanding := 1 }
    ∃ f, (due (.camera 32) (storing w)).dueFlight = some f ∧ f.owner = .camera 32 ∧ f.live = true ∧
      (due (.camera 32) (storing w)).cam.writing = some w ∧ w.passed = true ∧ w.outstanding = 1 :=
  ⟨_, rfl, rfl, rfl, rfl, rfl, rfl⟩

theorem wit_ReverseRows_input : reverseDue.rvc.started = true ∧ reverseDue.debounceTime ≠ 0 ∧
    reverseDue.rvc.debounce.isSome = true ∧ reverseDue.pins.revin = true ∧ reverseDue.rvc.taken = false ∧
    reverseDue.rvc.phase = .off ∧ reverseDue.releaseTime ≠ 0 := by decide

/-- R108: before RVC has started only the level changes. -/
theorem wit_ReverseRows_before :
    let s : State := { live with rvc := { live.rvc with started := false } }
    s.rvc.started = false ∧ (after .revinChange s).pins.revin = true ∧ (after .revinChange s).rvc = s.rvc := by decide

theorem wit_ReverseRows_release :
    let s : State := { live with rvc := { live.rvc with phase := .showing, taken := true, debounce := some 0 } }
    let r : State := { reverseDue with rvc := { reverseDue.rvc with phase := .releasing } }
    s.rvc.started = true ∧ s.rvc.debounce.isSome = true ∧ s.pins.revin = false ∧ s.rvc.taken = true ∧
      s.rvc.phase = .showing ∧ s.releaseTime ≠ 0 ∧ r.rvc.debounce.isSome = true ∧ r.pins.revin = true ∧
      r.rvc.taken = false ∧ r.rvc.phase = .releasing := by decide

/-- R111, R113: reverse goes off in ENGAGING and in LOST; R108: with a debounce time of 0 a change is taken at once. -/
theorem wit_ReverseRows_off :
    let s : RvcPhase → State := fun ph =>
      { live with rvc := { live.rvc with phase := ph, taken := true, debounce := some 0, engage := some 7 } }
    let p0 : Profile := { prof0 with rev := { rev0 with debounce := 0 } }
    let z : State := { live with boot := { live.boot with profile := some p0 } }
    (s .engaging).rvc.debounce.isSome = true ∧ (s .engaging).pins.revin = false ∧ (s .engaging).releaseTime ≠ 0 ∧
      (after .debounceExpiry (s .engaging)).rvc.phase = .releasing ∧
      (after .debounceExpiry (s .engaging)).rvc.engage = none ∧
      (after .debounceExpiry (s .lost)).rvc.phase = .releasing ∧
      (after .debounceExpiry (s .lost)).rvc.release = some 2000 ∧ z.debounceTime = 0 ∧ z.rvc.started = true ∧
      (after .revinChange z).rvc.phase = .engaging ∧ (after .revinChange z).rvc.debounce = none := by decide

/-- The release time 0, and the chime that leaving OFF asks for. -/
theorem wit_ReverseRows_chime :
    let p0 : Profile := { prof0 with rev := { rev0 with release := 0 } }
    let s : State :=
      { live with
        boot := { live.boot with profile := some p0 }
        rvc := { live.rvc with phase := .showing, taken := true, debounce := some 0 } }
    s.releaseTime = 0 ∧ (after .debounceExpiry s).rvc.phase = .off ∧ reverseDue.chime.started = true ∧
      (patternAt reverseDue.patterns prof0.rev.chime).count ≠ 0 ∧
      (after .debounceExpiry reverseDue).chime.playing.map (·.pattern) = some 9 ∧
      State.reset.boot.profile = none := by decide

theorem wit_ReverseRows_timers :
    let s : RvcPhase → State := fun ph =>
      { live with rvc := { live.rvc with phase := ph, engage := some 0, freeze := some 0, release := some 0 } }
    (s .engaging).rvc.engage.isSome = true ∧ (s .engaging).rvc.phase = .engaging ∧ (s .showing).rvc.freeze.isSome = true ∧
      (s .showing).rvc.phase = .showing ∧ (s .releasing).rvc.release.isSome = true ∧ (s .releasing).rvc.phase = .releasing ∧
      (s .releasing).bl.c.started = true := by decide

/-- R108: the times before the profile, and with it. -/
theorem wit_ReverseRows_times : State.reset.boot.profile = none ∧ State.reset.engageTime = 1000 ∧
    live.boot.profile = some prof0 ∧ live.releaseTime = 2000 := by decide

/-- The model in the middle of a byte. -/
def inByte (held : List Byte) : State := { live with link := { live.link with rx := .inByte, held := held } }

/-- R139, Table 44: a line that stays low too briefly is a disturbance; 0x28 comes least significant bit first; a low stop
bit is an error. -/
theorem test_table44_samples :
    let bits : Nat → Bool := fun tick => [false, false, false, false, true, false, true, false, false, true].getD (tick / 96) true
    let byte : Nat → Option Byte := fun cut =>
      match fallRows (fun n => bits n && decide (n < cut)) with
      | [_, .linkByteTaken b] => some b
      | _ => none
    fallRows (fun n => decide (40 < n)) = [] ∧ byte 960 = some 0x28 ∧ byte 900 = none ∧
      (fallRows (fun n => bits n && decide (n < 900))).length = 2 := by decide

theorem wit_LinkRows_byte : (inByte []).link.rx = .inByte ∧ live.link.rx ≠ .inByte ∧ (inByte [0x5A]).link.held ≠ [] ∧
    (after .linkStartBit live).link.rx = .inByte ∧ after (.linkByteTaken 0x5A) live = live := by decide

theorem wit_LinkRows : live.link.started = true ∧ live.link.held = [] ∧ busy.link.held ≠ [] ∧ busy.link.started = true ∧
    busy.link.gap.isSome = true ∧
    ({ live.link with steering := ⟨some 7, false, some 0⟩ } : LinkState).steering.timer.isSome = true ∧
    ({ live.link with conditions := ⟨some 7, false, some 0⟩ } : LinkState).conditions.timer.isSome = true ∧
    live.link.conds = 0 := by decide

theorem wit_LinkByteRows : (inByte []).link.started = true ∧ (inByte []).link.rx = .inByte ∧
    (inByte []).link.held = [] ∧ ([0x5A, 1] : List Byte).length = 2 ∧
    16 ≤ BitVec.toNat (0x10 : Byte) ∧ steer9 = [0x5A, 1, 9, 0x28, 0x0A, 1, 0] ∧
    (0xFF : Byte) - (1 + 9 + 0x28 + 0x0A + 1 + 0) = 0xC2 ∧ (0xFF : Byte) - (2 + 3 + 0x21 + 0 + 0 + 0) = 0xD9 ∧
    live.link.steering.last ≠ some 9 ∧ live.link.conditions.last ≠ some 3 ∧
    ({ live.link with steering := ⟨some 9, false, some 0⟩ } : LinkState).steering.last = some 9 := by decide

/-- R140: a kind, a counter and a payload byte join an open frame. -/
theorem wit_LinkByteRows_joins :
    let t : List Byte → Byte → LinkState := fun held b => (after (.linkByteTaken b) (inByte held)).link
    (t [0x5A] 2).held = [0x5A, 2] ∧ (t [0x5A] 2).gap = some 0 ∧ (t [0x5A, 1] 15).held = [0x5A, 1, 15] ∧
      (t [0x5A, 1, 15] 0x5A).held = [0x5A, 1, 15, 0x5A] ∧ (t (steer9.take 6) 0).held = steer9 ∧
      (t (steer9.take 6) 0).rx = .watching ∧ (t [0x5A, 1] 16).held = [] ∧ (t [0x5A] 3).checkErrors = 1 := by decide

/-- R148: a conditions frame that raises condition 4 sounds its pattern; condition 2 maps to none. -/
theorem wit_LinkByteRows_conditions :
    let t := after (.linkByteTaken 0xEA) (inByte [0x5A, 2, 3, 0x10, 0, 0, 0])
    (0xFF : Byte) - (2 + 3 + 0x10 + 0 + 0 + 0) = 0xEA ∧ t.link.conds = 0x10 ∧ t.chime.playing.map (·.pattern) = some 5 ∧
      prof0.condMap.getD 4 0xFF = 5 ∧ prof0.condMap.getD 2 0xFF = 0xFF ∧ live.conditionRise 2 = live := by decide

/-- R146: an accepted frame starts the timer of its kind with the profile's timeout of that kind. -/
theorem wit_LinkByteRows_timeouts :
    live.boot.profile = some prof0 ∧ live.linkTimeout .steering = 100 ∧ live.linkTimeout .conditions = 500 ∧
      (after (.linkByteTaken 0xC2) (inByte steer9)).link.steering.timer = some 100 ∧
      (after (.linkByteTaken 0xEA) (inByte [0x5A, 2, 3, 0x10, 0, 0, 0])).link.conditions.timer = some 500 := by decide

/-- R143: a conditions frame with the last counter again is ignored; one out of turn counts a gap, and 0 follows 15. -/
theorem wit_LinkByteRows_counters :
    let s : Nat → List Byte → State := fun last held =>
      { inByte held with
        link := { (inByte held).link with conditions := { last := some last, stale := false, timer := some 9 } } }
    let t : Nat → LinkState := fun last => (after (.linkByteTaken 0xEA) (s last [0x5A, 2, 3, 0x10, 0, 0, 0])).link
    t 3 = { live.link with conditions := { last := some 3, stale := false, timer := some 9 } } ∧ (t 2).gaps = 0 ∧
      (t 1).gaps = 1 ∧ (t 2).good = 1 ∧ (t 2).rx = .watching ∧
      (after (.linkByteTaken 0xED) (s 15 [0x5A, 2, 0, 0x10, 0, 0, 0])).link.gaps = 0 := by decide

theorem wit_GuideBuildCompleted :
    let s : State := { live with guide := { live.guide with build := some ⟨2500, true, false⟩ } }
    s.guide.build = some ⟨2500, true, false⟩ ∧ s.boot.profile = some prof0 := by decide

/-- R130 to R132, R135, R136: the pixels of a segment, and an insertion with 6 spans kept, and with 5. -/
theorem wit_GuideBuildCompleted_row :
    let at' : Nat → Span := fun i => ⟨2 * i, 2 * i, 1⟩
    let row : Nat → SpanRow := fun n => { spans := (List.range n).map at', overfull := false }
    let seg : ImgPoint → ImgPoint → List (Int × Int × Int) := fun a b =>
      (segment 3 64 16 a b 1).map (fun x => (x.row, x.s, x.e))
    (row 6).Sound ∧ (row 5).Sound ∧ ((row 6).insert ⟨12, 12, 1⟩).overfull = true ∧
      ((row 6).insert ⟨12, 12, 1⟩).spans = (row 6).spans ∧
      ((row 5).insert ⟨12, 12, 1⟩).spans = (row 5).spans ++ [⟨12, 12, 1⟩] ∧ ((row 6).insert ⟨3, 3, 1⟩).spans.length = 5 ∧
      ((row 6).insert ⟨3, 3, 1⟩).spans.head? = some ⟨0, 0, 1⟩ ∧
      seg ⟨5, 5⟩ ⟨5, 5⟩ = [(4, 4, 6), (5, 4, 6), (6, 4, 6)] ∧ seg ⟨5, 14⟩ ⟨6, 17⟩ = [(14, 4, 6), (15, 4, 6)] ∧
      seg ⟨62, 3⟩ ⟨65, 4⟩ = [(2, 62, 62), (3, 62, 62), (4, 62, 62), (2, 63, 63), (3, 63, 63), (4, 63, 63)] ∧
      edgePoints guideWorked 1795 750 = (some ⟨292, 486⟩, some ⟨1012, 486⟩) ∧
      (candidates guideWorked cam0 ⟨2500, true, true⟩).all (fun x => x.band == 4) = true := by
  refine ⟨?_, ?_, ?_⟩
  · unfold SpanRow.Sound; decide
  · unfold SpanRow.Sound; decide
  · decide

theorem wit_CurvatureInterpolates :
    let n : Snapshot := ⟨2500, true, false⟩
    n.stale = false ∧ n.valid = true ∧ clampAngle n.angle = 2500 ∧ clampAngle 7800 = 975 * 16 - 7800 := by decide

end Sys2Proof.Tests
end

section
/-! Time, the active events and the backlight rows: O2, O38, O45, O46. -/

namespace Sys2Proof.Machine

open Sys2Proof

/-! ### Reference ticks add up (log entries 1, 4) -/

/-- A counter held at its limit counts `m` and then `n` ticks as `m + n`. -/
theorem min_add_min (c m n limit : Nat) : min (min (c + m) limit + n) limit = min (c + (m + n)) limit := by omega

theorem Display.ticked_add (x : Display) (t : DispTiming) (m n : Nat) :
    (x.ticked t m).ticked t n = x.ticked t (m + n) := by
  unfold Display.ticked
  simp only [Nat.mul_add, min_add_min]

/-- What passes as `m` ticks and then `n` is what passes as `m + n`. -/
theorem TicksPass.trans {m n : Nat} {s u v : State} (hm : TicksPass m s u) (hn : TicksPass n u v) :
    TicksPass (m + n) s v := by
  obtain ⟨frame, tb, boot, aud, cam, link, guide, run, rest, noProfile⟩ := hm
  obtain ⟨frame', tb', boot', aud', cam', link', guide', run', rest', noProfile'⟩ := hn
  have hprofile : u.boot.profile = s.boot.profile := by rw [boot]; split <;> rfl
  refine ⟨by rw [frame', frame], ?_, ?_, ?_, ?_, ?_, ?_, fun d p hp => ?_, fun d => ?_, fun hp => ?_⟩
  · rw [tb', tb]; split <;> simp only [*, min_add_min]
  · rw [boot', boot]; split <;> simp only [*, min_add_min]
  · rw [aud', aud]; split <;> simp only [*, min_add_min]
  · rw [cam', cam]; simp [Function.comp_def, min_add_min]
  · rw [link', link]; simp [Function.comp_def, min_add_min]
  · rw [guide', guide]
    split <;> simp only [*, Nat.mul_add, Nat.add_assoc]
  · obtain ⟨hd, hc⟩ := run d p hp
    obtain ⟨hd', hc'⟩ := run' d p (hprofile.trans hp)
    refine ⟨fun h => ?_, fun h => ?_⟩
    · rw [hd' (by rw [hd h]; exact h), hd h, Display.ticked_add]
    · rw [hc' (by rw [hc h, PwmState.ticked_started]; exact h), hc h, PwmState.ticked_add]
  · obtain ⟨hd, hc⟩ := rest d
    obtain ⟨hd', hc'⟩ := rest' d
    refine ⟨fun h => ?_, fun h => ?_⟩
    · rw [hd' (by rw [hd h]; exact h), hd h]
    · rw [hc' (by rw [hc h]; exact h), hc h]
  · obtain ⟨hd, hb⟩ := noProfile hp
    obtain ⟨hd', hb'⟩ := noProfile' (hprofile.trans hp)
    exact ⟨hd'.trans hd, hb'.trans hb⟩

/-- R14: a backlight counter within its period stands still when no tick passes. -/
theorem PwmState.ticked_zero (c : PwmState) {period : Nat} (h : c.counter < period / 2) : c.ticked period 0 = c := by
  obtain ⟨started, counter, down, base, preload, held, enabled, latch⟩ := c
  unfold PwmState.ticked
  dsimp only at h ⊢
  cases down with
  | false =>
    have hplace : counter % period = counter := Nat.mod_eq_of_lt (by omega)
    simp [hplace, h]
  | true =>
    have hplace : (period - 1 - counter) % period = period - 1 - counter := Nat.mod_eq_of_lt (by omega)
    have hback : period - 1 - (period - 1 - counter) = counter := by omega
    have hnot : ¬ period - 1 - counter < period / 2 := by omega
    simp [hplace, hback, hnot]

/-- A count that may be stopped, within its limit, stands still when no tick passes. -/
theorem Option.map_min_zero {o : Option Nat} {limit : Nat} (h : ∀ n, o = some n → n ≤ limit) :
    o.map (fun c => min (c + 0) limit) = o := by
  cases o with
  | none => rfl
  | some c => simp [Nat.min_eq_left (h c rfl)]

/-- No ticks leave a machine whose counters stand within their bounds. -/
theorem TicksPass.zero {s : State} (h : TickBoundsHold s) : TicksPass 0 s s := by
  obtain ⟨tb, boot, aud, cam, link, run⟩ := h
  refine ⟨rfl, by simp [tb], by simp [boot], by simp [aud], ?_, ?_, by simp, fun d p hp => ?_, fun d => by simp,
    fun _ => ⟨rfl, rfl⟩⟩
  · rw [Option.map_min_zero cam]
  · rw [Option.map_min_zero link]
  · obtain ⟨hd, hc⟩ := run d p hp
    exact ⟨fun h => by simp [Display.ticked, Nat.min_eq_left (hd h)], fun h => (PwmState.ticked_zero _ (hc h)).symm⟩

/-- Settles O2: an idle step is one tick, and ticks add up. -/
theorem idleStepIsOneTick : Obligations.IdleStepIsOneTick := by
  refine ⟨fun s hs => ⟨s.advance 1, ?_, s.advance_ticks 1⟩, fun m n s u v => TicksPass.trans, fun s => TicksPass.zero⟩
  unfold step
  rw [hs]

/-! ### The active events (R3, R9, R12, R125) -/

/-- R9: taking note of the urgency counts the line as `CountsUrgentLine` says. -/
theorem State.noteUrgent_counts (s : State) : CountsUrgentLine s.centre s.noteUrgent := by
  unfold CountsUrgentLine
  have hu : s.noteUrgent.urgent .scanC = s.scanUrgent .centre := by
    simp [State.urgent, State.scanUrgent, State.timing, State.display, State.layer]
  rw [hu]
  unfold State.noteUrgent
  cases s.scanUrgent .centre <;> cases s.centre.lineUrgent <;> simp

/-- R125: GUIDE at a centre active event. -/
theorem GuideState.active_spec (g : GuideState) (p : Option Profile) :
    (g.build = none → g.waiting = true → g.active p = { g with front := g.back, back := g.front, waiting := false }) ∧
      (g.build = none → g.waiting = false → g.active p = g) ∧
      (g.build ≠ none →
        (g.active p).build = none ∧ (g.active p).front = g.front ∧ (g.active p).waiting = g.waiting ∧
          (g.active p).overruns = min (g.overruns + 1) 65535) := by
  unfold GuideState.active
  cases hb : g.build with
  | none => exact ⟨fun _ hw => by simp [hw], fun _ hw => by simp [hw], fun h => absurd rfl h⟩
  | some n => exact ⟨fun h => (by cases h), fun h => (by cases h), fun _ => ⟨rfl, rfl, rfl, rfl⟩⟩

/-- Settles O38. -/
theorem activeEventsTaken : Obligations.ActiveEventsTaken := by
  refine ⟨fun s hrun => ?_, fun k s hrun => ?_⟩
  · let x := s.disp.c.atLine 0 false
    let s1 := s.setDisplay .centre { x with frameNo := x.frameNo + 1, markHigh := false }
    let s2 := s1.setGuide (s1.guide.active s1.boot.profile)
    have hexec : exec .centreActiveEvent s = .next s2.noteUrgent := by
      simp only [exec, execCentreActiveEvent, hrun, if_true]; rfl
    refine ⟨s2.noteUrgent, hexec, execCentreActiveEvent_frame hexec, ?_, s2.noteUrgent_counts, ?_⟩
    · rw [State.noteUrgent_disp]; rfl
    · rw [State.noteUrgent_guide]; exact GuideState.active_spec s.guide s.boot.profile
  · let x := (s.display (.rear k)).atLine 0 false
    let t := s.setDisplay (.rear k) { x with frameNo := x.frameNo + 1, markHigh := false }
    have hexec : exec (.rearActiveEvent k) s = .next t := by
      simp only [exec, execRearActiveEvent, hrun, if_true]; rfl
    exact ⟨t, hexec, execRearActiveEvent_frame k hexec, State.display_setDisplay_self _ _ _,
      fun d hd => State.display_setDisplay_ne _ _ hd⟩

/-! ### The backlight (R14 to R18) -/

/-- Settles O45. -/
theorem backlightRows : Obligations.BacklightRows := by
  intro d s
  refine ⟨fun hstart => ?_, fun hlow hstart => ?_, fun hlow hstart => ?_, rfl⟩
  · let t := s.setPwm d { s.pwm d with base := (s.pwm d).preload, held := none, counter := 0, down := true }
    have hexec : exec (.pwmPeriodEnd d) s = .next t := if_pos hstart
    exact ⟨t, hexec, rfl, State.pwm_setPwm_self _ _ _, fun e he => State.pwm_setPwm_ne _ _ he⟩
  · let s1 := s.setPins { s.pins with fault := Tri.set s.pins.fault d true }
    let t := (s1.setPwm d { s.pwm d with latch := true, enabled := false }).raise .backlightFault
    have hexec : exec (.backlightFault d) s = .next t :=
      (if_neg (by simp [hlow])).trans (if_pos hstart)
    have hcut : t.pwm d = { s.pwm d with latch := true, enabled := false } := Tri.get_set_self _ _ _
    refine ⟨t, hexec, rfl, hcut, fun e he => Tri.get_set_ne _ _ he, rfl, Tri.get_set_self _ _ _, ?_⟩
    unfold State.pwmOutput
    rw [hcut]
    cases t.timing d <;> rfl
  · exact (if_neg (by simp [hlow])).trans (if_neg (by simp [hstart]))

theorem length_filter_range_lt (m n : Nat) :
    ((List.range m).filter (fun i => decide (i < n))).length = min m n := by
  induction m with
  | zero => simp
  | succ m ih =>
    rw [List.range_succ, List.filter_append, List.length_append, ih]
    by_cases h : m < n <;> simp [h] <;> omega

theorem length_filter_range_ge (m n : Nat) :
    ((List.range m).filter (fun i => decide (n ≤ i))).length = m - n := by
  induction m with
  | zero => simp
  | succ m ih =>
    rw [List.range_succ, List.filter_append, List.length_append, ih]
    by_cases h : n ≤ m <;> simp [h] <;> omega

theorem PwmState.moveTo_counter (c : PwmState) (period pos : Nat) :
    (c.moveTo period pos).counter = if pos < period / 2 then pos else period - 1 - pos := by
  unfold PwmState.moveTo; split <;> rfl

/-- R14: over an even period the counter is below `n` on `n` places of its way up and on `n` of its way down. -/
theorem PwmState.moveTo_below (c : PwmState) {period n : Nat} (heven : period % 2 = 0) (hn : n ≤ period / 2) :
    ((List.range period).filter (fun pos => decide ((c.moveTo period pos).counter < n))).length = 2 * n := by
  obtain ⟨half, rfl⟩ : ∃ half, period = half + half := ⟨period / 2, by omega⟩
  have hhalf : (half + half) / 2 = half := by omega
  rw [hhalf] at hn
  have up : (List.range half).filter (fun pos => decide ((c.moveTo (half + half) pos).counter < n)) =
      (List.range half).filter (fun pos => decide (pos < n)) := by
    refine List.filter_congr fun pos hpos => ?_
    rw [c.moveTo_counter, hhalf, if_pos (List.mem_range.mp hpos)]
  have down : (List.range half).filter
        ((fun pos => decide ((c.moveTo (half + half) pos).counter < n)) ∘ (fun i => half + i)) =
      (List.range half).filter (fun i => decide (half - n ≤ i)) := by
    refine List.filter_congr fun i hi => ?_
    have := List.mem_range.mp hi
    rw [Function.comp_apply, c.moveTo_counter, hhalf, if_neg (by omega)]
    exact decide_eq_decide.mpr (by omega)
  rw [List.range_add, List.filter_append, List.filter_map, List.length_append, List.length_map, up, down,
    length_filter_range_lt, length_filter_range_ge]
  omega

/-- Settles O46. -/
theorem pwmHighTicks : Obligations.PwmHighTicks := by
  refine ⟨fun c period duty heven hperiod hduty => ⟨?_, rfl, ?_, ?_⟩, fun s d p hp => ⟨?_, ?_, ?_, ?_, ?_⟩,
    fun s d hp => ?_⟩
  · refine c.moveTo_below heven ?_
    unfold threshold
    exact Nat.div_le_of_le_mul (Nat.mul_le_mul_right _ hduty)
  · unfold threshold; omega
  · unfold threshold; simp
  · simp only [State.pwmOutput, State.timing, hp, Bool.and_eq_true]
    exact and_congr_right fun _ => decide_eq_true_iff
  · rintro k rfl; rfl
  · rintro rfl h; simp [State.dutyInEffect, State.reversing, State.reverseDuty, h, hp]
  · rintro x rfl h hx; simp [State.dutyInEffect, State.reversing, h, hx]
  · rintro rfl h hx; simp [State.dutyInEffect, State.reversing, h, hx]
  · simp [State.pwmOutput, State.timing, hp]

end Sys2Proof.Machine
end

section
/-! One step: the two ways a step goes, and the fields of the state that each command can change, as one function of the
command (`State.framed`). A proof over all commands reads off `exec_frame` what a command leaves as it is. -/

namespace Sys2Proof.Machine

open Sys2Proof

/-! ### The two ways a step goes -/

/-- What holds of a machine whatever commands wait, is left by a reference tick and by each command, every step keeps. -/
theorem step_keeps {P : State → Prop} (hqueue : ∀ s l, P s → P (s.setPending l)) (htick : ∀ s, P s → P (s.advance 1))
    (hexec : ∀ c s t, P s → exec c s = .next t → P t) {s t : State} (hs : P s) (h : step s = .next t) : P t := by
  unfold step at h
  split at h
  · injection h with h
    exact h ▸ htick s hs
  · exact hexec _ _ _ (hqueue s _ hs) h

/-! ### What a command can change -/

/-- The state `s` with the fields that a command can change taken from `t`; power-on reset changes them all but the pins
and the queue. -/
def State.framed (s : State) (c : Instr) (t : State) : State :=
  match c with
  | .powerOnReset => t
  | .pornRelease _ => { s with boot := t.boot }
  | .hostReset =>
    { s with
      pins := t.pins, path := t.path, arb := t.arb, disp := t.disp, rear := t.rear, sets := t.sets,
      aud := t.aud, mix := t.mix, chime := t.chime, load := t.load, bl := t.bl }
  | .hostResetRelease => { s with pins := t.pins }
  | .clockCheckEnd _ =>
    { s with
      boot := t.boot, tb := t.tb, disp := t.disp, aud := t.aud, cam := t.cam, rvc := t.rvc, guide := t.guide,
      link := t.link, load := t.load, bl := t.bl }
  | .profileLengthRead _ _ => { s with boot := t.boot, load := t.load }
  | .profileReadDone _ => { s with boot := t.boot, load := t.load }
  | .cameraRegionDefine =>
    { s with
      boot := t.boot, path := t.path, arb := t.arb, disp := t.disp, centre := t.centre, rear := t.rear,
      sets := t.sets, aud := t.aud, cam := t.cam, link := t.link, chime := t.chime, load := t.load, bl := t.bl }
  | .tbTick => { s with tb := t.tb, rvc := t.rvc, link := t.link, load := t.load }
  | .hostRequest _ => { s with path := t.path }
  | .arbGrant => { s with path := t.path, arb := t.arb, disp := t.disp, aud := t.aud, cam := t.cam, load := t.load }
  | .burstHandoverDone => { s with arb := t.arb, cam := t.cam }
  | .hostPieceDrop => { s with path := t.path, load := t.load }
  | .hostPieceComplete _ =>
    { s with
      path := t.path, arb := t.arb, rear := t.rear, sets := t.sets, aud := t.aud, chime := t.chime,
      load := t.load }
  | .loadReadBurstComplete _ => { s with path := t.path, arb := t.arb, load := t.load }
  | .loadRereadComplete _ => { s with path := t.path, arb := t.arb, load := t.load }
  | .loadCheck =>
    { s with
      path := t.path, arb := t.arb, disp := t.disp, rear := t.rear, sets := t.sets, aud := t.aud, mix := t.mix,
      load := t.load, bl := t.bl }
  | .reportTick => { s with load := t.load }
  | .reportBurstComplete _ => { s with path := t.path, arb := t.arb, load := t.load }
  | .centreBlankEvent =>
    { s with
      disp := t.disp, centre := t.centre, cam := t.cam, rvc := t.rvc, guide := t.guide, load := t.load,
      bl := t.bl }
  | .centreActiveEvent => { s with disp := t.disp, centre := t.centre, guide := t.guide }
  | .guideBuildComplete => { s with guide := t.guide }
  | .rearBlankEvent _ => { s with disp := t.disp, centre := t.centre, rear := t.rear, sets := t.sets, bl := t.bl }
  | .rearActiveEvent _ => { s with disp := t.disp }
  | .displayLineEnd _ => { s with disp := t.disp, centre := t.centre }
  | .layerUnderrun _ _ _ => { s with disp := t.disp, centre := t.centre }
  | .scanBurstComplete _ _ => { s with path := t.path, arb := t.arb, disp := t.disp, centre := t.centre }
  | .pwmPeriodEnd _ => { s with bl := t.bl }
  | .backlightFault _ => { s with pins := t.pins, load := t.load, bl := t.bl }
  | .outputFrame => { s with aud := t.aud, mix := t.mix, chime := t.chime }
  | .duckStep => { s with mix := t.mix }
  | .blockBoundary => { s with aud := t.aud, load := t.load }
  | .audioBurstComplete _ => { s with path := t.path, arb := t.arb, aud := t.aud }
  | .chimeStepEnd => { s with chime := t.chime, load := t.load }
  | .fadeEnd => { s with chime := t.chime }
  | .cameraFrameStart _ =>
    { s with
      boot := t.boot, tb := t.tb, disp := t.disp, aud := t.aud, cam := t.cam, guide := t.guide, link := t.link,
      bl := t.bl }
  | .cameraLineStart => { s with arb := t.arb, cam := t.cam }
  | .cameraPixel _ => { s with arb := t.arb, cam := t.cam }
  | .cameraLineEnd => { s with arb := t.arb, cam := t.cam }
  | .cameraFrameEnd => { s with arb := t.arb, cam := t.cam, rvc := t.rvc }
  | .cameraBurstComplete _ => { s with path := t.path, arb := t.arb, cam := t.cam, rvc := t.rvc }
  | .cameraLoss => { s with cam := t.cam }
  | .revinChange =>
    { s with pins := t.pins, centre := t.centre, rvc := t.rvc, chime := t.chime, load := t.load, bl := t.bl }
  | .debounceExpiry => { s with centre := t.centre, rvc := t.rvc, chime := t.chime, load := t.load, bl := t.bl }
  | .engageTimerExpiry => { s with rvc := t.rvc, load := t.load }
  | .freezeTimerExpiry => { s with rvc := t.rvc, load := t.load }
  | .releaseTimerExpiry => { s with rvc := t.rvc, chime := t.chime, load := t.load, bl := t.bl }
  | .linkByteTaken _ => { s with link := t.link, chime := t.chime, load := t.load }
  | .linkStopBitError => { s with link := t.link }
  | .gapTimerExpiry => { s with link := t.link }
  | .freshnessTimerExpiry _ => { s with link := t.link, chime := t.chime, load := t.load }
  | .linkStartBit => { s with link := t.link }
  | .faultInputRelease _ => { s with pins := t.pins }

/-- A command changes only the fields of its frame. -/
theorem exec_frame {c : Instr} {s t : State} (h : exec c s = .next t) : t = s.framed c t := by
  cases c with
  | powerOnReset => rfl
  | pornRelease x => exact execPornRelease_frame x h
  | hostReset => exact execHostReset_frame h
  | hostResetRelease => exact execHostResetRelease_frame h
  | clockCheckEnd x => exact execClockCheckEnd_frame x h
  | profileLengthRead x y => exact execProfileLengthRead_frame x y h
  | profileReadDone x => exact execProfileReadDone_frame x h
  | cameraRegionDefine => exact execCameraRegionDefine_frame h
  | tbTick => exact execTbTick_frame h
  | hostRequest x => exact execHostRequest_frame x h
  | arbGrant => exact execArbGrant_frame h
  | burstHandoverDone => exact execBurstHandoverDone_frame h
  | hostPieceDrop => exact execHostPieceDrop_frame h
  | hostPieceComplete x => exact execHostPieceComplete_frame x h
  | loadReadBurstComplete x => exact execLoadReadBurstComplete_frame x h
  | loadRereadComplete x => exact execLoadRereadComplete_frame x h
  | loadCheck => exact execLoadCheck_frame h
  | reportTick => exact execReportTick_frame h
  | reportBurstComplete x => exact execReportBurstComplete_frame x h
  | centreBlankEvent => exact execCentreBlankEvent_frame h
  | centreActiveEvent => exact execCentreActiveEvent_frame h
  | guideBuildComplete => exact execGuideBuildComplete_frame h
  | rearBlankEvent x => exact execRearBlankEvent_frame x h
  | rearActiveEvent x => exact execRearActiveEvent_frame x h
  | displayLineEnd x => exact execDisplayLineEnd_frame x h
  | layerUnderrun x y z => exact execLayerUnderrun_frame x y z h
  | scanBurstComplete x y => exact execScanBurstComplete_frame x y h
  | pwmPeriodEnd x => exact execPwmPeriodEnd_frame x h
  | backlightFault x => exact execBacklightFault_frame x h
  | outputFrame => exact execOutputFrame_frame h
  | duckStep => exact execDuckStep_frame h
  | blockBoundary => exact execBlockBoundary_frame h
  | audioBurstComplete x => exact execAudioBurstComplete_frame x h
  | chimeStepEnd => exact execChimeStepEnd_frame h
  | fadeEnd => exact execFadeEnd_frame h
  | cameraFrameStart x => exact execCameraFrameStart_frame x h
  | cameraLineStart => exact execCameraLineStart_frame h
  | cameraPixel x => exact execCameraPixel_frame x h
  | cameraLineEnd => exact execCameraLineEnd_frame h
  | cameraFrameEnd => exact execCameraFrameEnd_frame h
  | cameraBurstComplete x => exact execCameraBurstComplete_frame x h
  | cameraLoss => exact execCameraLoss_frame h
  | revinChange => exact execRevinChange_frame h
  | debounceExpiry => exact execDebounceExpiry_frame h
  | engageTimerExpiry => exact execEngageTimerExpiry_frame h
  | freezeTimerExpiry => exact execFreezeTimerExpiry_frame h
  | releaseTimerExpiry => exact execReleaseTimerExpiry_frame h
  | linkByteTaken x => exact execLinkByteTaken_frame x h
  | linkStopBitError => exact execLinkStopBitError_frame h
  | gapTimerExpiry => exact execGapTimerExpiry_frame h
  | freshnessTimerExpiry x => exact execFreshnessTimerExpiry_frame x h
  | linkStartBit => exact execLinkStartBit_frame h
  | faultInputRelease x => exact execFaultInputRelease_frame x h

end Sys2Proof.Machine
end

section
/-! The face of a display: whether it runs, its line, its content, its active scene and its frame number. Fetching, time
and what other blocks do leave it; the few rows that move it are said one by one. O16. -/

namespace Sys2Proof.Machine

open Sys2Proof

/-! ### The face of a display and what leaves it -/

/-- What R1 to R5 say of a display: whether it runs, its line, content, active scene and frame number. -/
structure Face where
  running : Bool
  line : Nat
  content : Content
  active : Option Scene
  frameNo : BitVec 32

/-- The face of a display. -/
def Display.face (x : Display) : Face := ⟨x.running, x.line, x.content, x.active, x.frameNo⟩

/-- The face of a display of the state. -/
def State.face (s : State) (d : Disp) : Face := (s.display d).face

@[simp] theorem Display.advance_face (x : Display) (tm : DispTiming) (n : Nat) : (x.advance tm n).face = x.face := by
  unfold Display.advance; split <;> rfl

@[simp] theorem Display.setBuf_face (x : Display) (l : LayerId) (b : LayerBuf) : (x.setBuf l b).face = x.face := by
  cases l <;> rfl

@[simp] theorem Display.dropReq_face (x : Display) (p quiet : ScanReq → Bool) : (x.dropReq p quiet).face = x.face := by
  rw [Display.dropReq_eq]; rfl

@[simp] theorem Display.freeLayer_face (x : Display) (l : LayerId) (quiet : Bool) : (x.freeLayer l quiet).face = x.face :=
  (Display.setBuf_face _ _ _).trans (Display.dropReq_face _ _ _)

@[simp] theorem Display.freeAll_face (x : Display) : x.freeAll.face = x.face := by simp [Display.freeAll]

@[simp] theorem Display.retire_face (x : Display) (line : Nat) : (x.retire line).face = x.face :=
  Display.dropReq_face _ _ _

@[simp] theorem Display.endWithdrawn_face (x : Display) : x.endWithdrawn.face = x.face := by
  unfold Display.endWithdrawn
  split
  · exact x.freeLayer_face .base false
  · rfl

@[simp] theorem Display.grantReq_face (x : Display) : x.grantReq.face = x.face := rfl

@[simp] theorem Display.take_face (x : Display) (v : Option LayerView) (q : ScanReq) (data : List RBeat) :
    (x.take v q data).face = x.face := by
  cases v with
  | none => rfl
  | some v => exact Display.setBuf_face _ _ _

@[simp] theorem Display.refill_face (x : Display) (view : LayerId → Option LayerView) : (x.refill view).face = x.face := by
  rw [(x.refill_spec view).1]; rfl

@[simp] theorem Display.latch_face (x : Display) (fr : FrameRecord) : (x.latch fr).face = x.face := x.freeAll_face

@[simp] theorem Display.markBlank_face (x : Display) (flip : Bool) : (x.markBlank flip).face = x.face := rfl

/-- R1: at the end of a line a display goes on to the next, and after the last to line 0. -/
theorem Display.endLine_face (x : Display) (tm : DispTiming) :
    (x.endLine tm).face = { x.face with line := if x.line + 1 < tm.ha + tm.vb then x.line + 1 else 0 } := by
  have keep : ((if x.line < tm.ha then x.retire x.line else x).endWithdrawn).face = x.face := by
    split <;> simp
  unfold Display.endLine
  dsimp only
  rw [← keep]
  rfl

/-- R5: a host reset leaves a display its timing and its frame number, and no scene. -/
theorem Display.hostReset_face (x : Display) (d : Disp) (v : Option LayerView) :
    (x.hostReset d v).face = { x.face with content := .noScene, active := none } := by
  have keep : (((if x.baseIsHost d then x.freeLayer .base true else x).freeLayer .ov0 true).freeLayer .ov1 true).face =
      x.face := by
    split <;> simp
  unfold Display.hostReset
  dsimp only
  rw [← keep]
  rfl

/-! ### In the machine -/

theorem State.face_congr {s t : State} (h : t.disp = s.disp) (d : Disp) : t.face d = s.face d :=
  congrArg Display.face (State.display_congr h d)

@[simp] theorem State.setDisplay_face_self (s : State) (d : Disp) (x : Display) : (s.setDisplay d x).face d = x.face :=
  congrArg Display.face (s.display_setDisplay_self d x)

theorem State.setDisplay_face_ne (s : State) {d e : Disp} (x : Display) (h : e ≠ d) :
    (s.setDisplay d x).face e = s.face e :=
  congrArg Display.face (s.display_setDisplay_ne x h)

/-- A display replaced by one of the same face leaves every face. -/
theorem State.setDisplay_face (s : State) {d : Disp} {x : Display} (h : x.face = s.face d) (e : Disp) :
    (s.setDisplay d x).face e = s.face e := by
  by_cases he : e = d
  · subst he; simpa using h
  · exact s.setDisplay_face_ne x he

@[simp] theorem State.advance_face (s : State) (n : Nat) (d : Disp) : (s.advance n).face d = s.face d := by
  refine (State.face_congr (s.advance_disp n) d).trans ?_
  unfold State.advanceDisplays
  cases s.boot.profile with
  | none => rfl
  | some p => rcases d with _ | (_ | _) <;> exact Display.advance_face _ _ _

@[simp] theorem State.noteUrgent_face (s : State) (d : Disp) : s.noteUrgent.face d = s.face d :=
  State.face_congr s.noteUrgent_disp d

@[simp] theorem State.refetch_face (s : State) (d e : Disp) : (s.refetch d).face e = s.face e :=
  s.setDisplay_face (Display.refill_face _ _) e

@[simp] theorem State.refill_face (s : State) (d e : Disp) : (s.refill d).face e = s.face e := by simp [State.refill]

@[simp] theorem State.preloadDuty_face (s : State) (d : Disp) (n : Nat) (e : Disp) :
    (s.preloadDuty d n).face e = s.face e := State.face_congr (s.preloadDuty_disp d n) e

@[simp] theorem State.withdrawReset_face (s : State) (old new : List Region) (k : Seat) (d : Disp) :
    (s.withdrawReset old new k).face d = s.face d := by
  unfold State.withdrawReset
  split
  · rfl
  · split
    · dsimp only
      refine (State.setDisplay_face _ ?_ d).trans rfl
      rfl
    · rfl

@[simp] theorem State.tableChanged_face (s : State) (old new : List Region) (d : Disp) :
    (s.tableChanged old new).face d = s.face d := by
  simp only [State.tableChanged, State.withdrawReset_face]; rfl

@[simp] theorem State.stageScenes_face (s : State) (rd : Nat → Nat) (d : Disp) : (s.stageScenes rd).face d = s.face d := by
  rcases d with _ | (_ | _) <;> rfl

@[simp] theorem State.swapTable_face (s : State) (table : List Region) (d : Disp) :
    (s.swapTable table).face d = s.face d := State.tableChanged_face _ _ _ _

@[simp] theorem State.acceptLoad_face (s : State) (d : Disp) : s.acceptLoad.face d = s.face d := by
  have h : s.acceptLoad.disp =
      ((if isFull s.load.loadScope then s.swapTable (readTable (beatsByte s.load.staged)) else s).stageScenes
        (beatsByte s.load.staged)).disp := by simp [State.acceptLoad]
  refine (State.face_congr h d).trans ?_
  split <;> simp

@[simp] theorem State.endChecking_face (s : State) (d : Disp) : s.endChecking.face d = s.face d := by
  unfold State.endChecking
  dsimp only
  split
  · exact (State.face_congr (s := s.acceptLoad) rfl d).trans (s.acceptLoad_face d)
  · rfl

@[simp] theorem State.grant_face (s : State) (q : Requester) (b : Burst) (d : Disp) : (s.grant q b).face d = s.face d := by
  refine (State.face_congr (t := s.grant q b) (s := s.takeGrant q) rfl d).trans ?_
  unfold State.takeGrant
  cases q with
  | scanC => refine s.setDisplay_face ?_ d; rfl
  | scanRl => refine s.setDisplay_face ?_ d; rfl
  | scanRr => refine s.setDisplay_face ?_ d; rfl
  | audio => dsimp only; split <;> rfl
  | host => rfl
  | camera => rfl
  | load => rfl

@[simp] theorem State.scanBack_face (s : State) (d : Disp) (q : ScanReq) (r : Reply) (e : Disp) :
    (s.scanBack d q r).face e = s.face e := by
  have back : ({ s.display d with req := none } : Display).face = s.face d := rfl
  unfold State.scanBack
  cases r with
  | error =>
    dsimp only
    split
    · exact (State.face_congr (State.countFetchError_disp _) e).trans (s.setDisplay_face back e)
    · exact s.setDisplay_face back e
  | ok data =>
    refine s.setDisplay_face ?_ e
    split
    · exact (Display.take_face _ _ _ _).trans back
    · exact back

@[simp] theorem State.defineCamera_face (s : State) (c : CamRegion) (d : Disp) : (s.defineCamera c).face d = s.face d := by
  refine (State.face_congr (t := s.defineCamera c) (s := (s.setPath { s.path with
    table := cleanTable s.path.table c, cam := some c }).tableChanged s.path.table (cleanTable s.path.table c))
    (by simp [State.defineCamera]) d).trans ?_
  simp only [State.tableChanged_face]; rfl

/-- R2: a display that the profile drives starts at its first blank line. -/
theorem State.startDisplay_face (s : State) (d : Disp) (tm : DispTiming) (e : Disp) :
    (s.startDisplay d tm).face e =
      if e = d ∧ tm.drives d = true then { s.face d with running := true, line := tm.ha } else s.face e := by
  unfold State.startDisplay
  by_cases hd : tm.drives d = true
  · have h : ∀ x : State, (x.startPwm d tm).face e = x.face e := fun x => State.face_congr (x.startPwm_disp d tm) e
    have hc : ∀ (x : State) (c : CentreState), (x.setCentre c).face e = x.face e := fun x c => rfl
    simp only [hd, if_true, and_true, h]
    by_cases he : e = d
    · subst he; split <;> simp [hc] <;> rfl
    · rw [if_neg he]; split <;> simp [hc, State.setDisplay_face_ne _ _ he]
  · simp [hd]

/-- R185: BOOT enters RUNNING with profile `p` and the displays it drives start; the other blocks follow. -/
def State.startDisplays (s : State) (p : Profile) : State :=
  (((s.setBoot { s.boot with startup := .running, profile := some p }).startDisplay .centre p.disp.c).startDisplay
    (.rear .left) p.disp.l).startDisplay (.rear .right) p.disp.r

theorem State.startProfileBlocks_eq (s : State) (p : Profile) :
    s.startProfileBlocks p =
      (((s.startDisplays p).setCam { (s.startDisplays p).cam with phase := .noSignal, reported := 0, period := none }).setLink
        { (s.startDisplays p).link with started := true }).setChime { (s.startDisplays p).chime with started := true } := by
  unfold State.startProfileBlocks State.startDisplays
  rfl

/-- R185: the displays at the entry to RUNNING. -/
theorem State.startProfileBlocks_face (s : State) (p : Profile) (d : Disp) :
    (s.startProfileBlocks p).face d =
      if (Tri.get p.disp d).drives d = true then { s.face d with running := true, line := (Tri.get p.disp d).ha }
      else s.face d := by
  have h : (s.startProfileBlocks p).disp = (s.startDisplays p).disp := by
    rw [State.startProfileBlocks_eq, State.setChime_disp, State.setLink_disp, State.setCam_disp]
  have hb : ∀ x e, (s.setBoot x).face e = s.face e := fun _ _ => rfl
  rw [State.face_congr h d]
  simp only [State.startDisplays, State.startDisplay_face, hb]
  rcases d with _ | (_ | _) <;> simp [Tri.get] <;> congr

/-! ### The rows -/

/-- The rows that can move the face of a display: the resets, the entry to RUNNING and its own timing. -/
def movesFace : Instr → Disp → Bool
  | .powerOnReset, _ => true
  | .hostReset, _ => true
  | .cameraRegionDefine, _ => true
  | .centreBlankEvent, d => d == .centre
  | .centreActiveEvent, d => d == .centre
  | .rearBlankEvent k, d => d == .rear k
  | .rearActiveEvent k, d => d == .rear k
  | .displayLineEnd d, e => e == d
  | _, _ => false

theorem execClockCheckEnd_face {s t : State} (e : Nat) (h : execClockCheckEnd e s = .next t) (d : Disp) :
    t.face d = s.face d := by
  unfold execClockCheckEnd at h
  dsimp only at h
  split at h
  · split at h <;> (injection h with h; rw [← h])
    · refine (State.face_congr (State.startReferenceBlocks_disp _) d).trans ?_
      exact (State.face_congr (State.setBoot_disp _ _) d).trans (s.advance_face e d)
    · exact (State.face_congr (State.setBoot_disp _ _) d).trans (s.advance_face e d)
  · injection h with h; rw [h]

theorem execArbGrant_face {s t : State} (h : execArbGrant s = .next t) (d : Disp) : t.face d = s.face d := by
  unfold execArbGrant at h
  split at h
  · split at h
    · split at h <;> (injection h with h; rw [← h])
      exact s.grant_face _ _ d
    · injection h with h; rw [h]
  · injection h with h; rw [h]

theorem execLoadCheck_face {s t : State} (h : execLoadCheck s = .next t) (d : Disp) : t.face d = s.face d := by
  unfold execLoadCheck at h
  split at h <;> (injection h with h; rw [← h])
  exact s.endChecking_face d

theorem execCameraFrameStart_face {s t : State} (e : Nat) (h : execCameraFrameStart e s = .next t) (d : Disp) :
    t.face d = s.face d := by
  unfold execCameraFrameStart at h
  dsimp only at h
  split at h <;> (injection h with h; rw [← h])
  · exact s.advance_face e d
  · exact (State.face_congr (State.setCam_disp _ _) d).trans (s.advance_face e d)

/-- R35: a display whose layer `l` underruns from column `col` on: the row's requests stop, the one not granted is
withdrawn, and the line is counted once. -/
def Display.underrun (x : Display) (l : LayerId) (col : Nat) : Display :=
  let y := (x.setBuf l { (x.buf l).stop x.line with under := some col }).dropReq
    (fun q => q.layer == l && !q.granted && ((x.buf l).slots.getD q.slot LineSlot.empty).shows x.line) (fun _ => false)
  { y with underruns := if x.lineCounted then x.underruns else satInc x.underruns, lineCounted := true }

theorem Display.underrun_face (x : Display) (l : LayerId) (col : Nat) : (x.underrun l col).face = x.face :=
  (Display.dropReq_face _ _ _).trans (Display.setBuf_face _ _ _)

/-- R9: an underrun of the centre marks the pressure record. -/
def State.markUnderrun (s : State) (d : Disp) : State :=
  if d = .centre then s.setCentre { s.centre with underrunFlag := true } else s

@[simp] theorem State.markUnderrun_disp (s : State) (d : Disp) : (s.markUnderrun d).disp = s.disp := by
  unfold State.markUnderrun; split <;> rfl

/-- R35: the underrun where the scan meets one. -/
theorem execLayerUnderrun_eq {s : State} {d : Disp} {l : LayerId} {col : Nat} (hcol : col < 1920)
    (hm : s.meetsUnderrun d l col = true) :
    execLayerUnderrun d l col s =
      .next (((s.setDisplay d ((s.display d).underrun l col)).markUnderrun d).refill d) := by
  unfold execLayerUnderrun
  rw [if_pos hcol, if_pos hm]
  rfl

theorem execLayerUnderrun_none {s : State} {d : Disp} {l : LayerId} {col : Nat} (hcol : col < 1920)
    (hm : s.meetsUnderrun d l col = false) : execLayerUnderrun d l col s = .next s := by
  unfold execLayerUnderrun
  rw [if_pos hcol, if_neg (by simp [hm])]

theorem execLayerUnderrun_face {s t : State} {e : Disp} {l : LayerId} {col : Nat}
    (h : execLayerUnderrun e l col s = .next t) (d : Disp) : t.face d = s.face d := by
  by_cases hcol : col < 1920
  · cases hm : s.meetsUnderrun e l col with
    | false => rw [execLayerUnderrun_none hcol hm] at h; injection h with h; rw [h]
    | true =>
      rw [execLayerUnderrun_eq hcol hm] at h
      injection h with h
      rw [← h, State.refill_face, State.face_congr (State.markUnderrun_disp _ _)]
      exact s.setDisplay_face (Display.underrun_face _ _ _) d
  · rw [execLayerUnderrun, if_neg hcol] at h; cases h

theorem execScanBurstComplete_face {s t : State} {e : Disp} {r : Reply} (h : execScanBurstComplete e r s = .next t)
    (d : Disp) : t.face d = s.face d := by
  unfold execScanBurstComplete at h
  split at h
  · split at h
    · split at h <;> (injection h with h; rw [← h])
      rw [State.refill_face, State.scanBack_face]
      exact State.face_congr s.popFlight_disp d
    · injection h with h; rw [h]
  · cases h

/-- R1: a line end moves its own display on by one line. -/
theorem execDisplayLineEnd_face {s t : State} {e : Disp} (h : execDisplayLineEnd e s = .next t) (d : Disp) :
    t.face d = s.face d ∨
      (d = e ∧ ∃ tm, s.timing d = some tm ∧ (s.display d).running = true ∧
        t.face d = { s.face d with
          line := if (s.display d).line + 1 < tm.ha + tm.vb then (s.display d).line + 1 else 0 }) := by
  unfold execDisplayLineEnd at h
  dsimp only at h
  split at h
  · rename_i tm htm
    split at h <;> (injection h with h; subst h)
    · rename_i hrun
      have hset : ∀ u : State, u.disp = (s.setDisplay e ((s.display e).endLine tm)).disp →
          (u.refill e).face d = (s.setDisplay e ((s.display e).endLine tm)).face d :=
        fun u hu => (u.refill_face e d).trans (State.face_congr hu d)
      rw [hset _ (by split <;> rfl)]
      by_cases hde : d = e
      · subst hde
        exact .inr ⟨rfl, tm, htm, hrun, (s.setDisplay_face_self d _).trans ((s.display d).endLine_face tm)⟩
      · exact .inl (s.setDisplay_face_ne _ hde)
    · exact .inl rfl
  · injection h with h; rw [h]; exact .inl rfl

theorem execDisplayLineEnd_face_ne {s t : State} {d e : Disp} (h : execDisplayLineEnd e s = .next t) (hne : d ≠ e) :
    t.face d = s.face d :=
  (execDisplayLineEnd_face h d).resolve_right fun ⟨he, _⟩ => hne he

/-- R3: an active event counts its display's frame from line 0. -/
theorem execCentreActiveEvent_face {s t : State} (h : execCentreActiveEvent s = .next t) (d : Disp) :
    t.face d = s.face d ∨
      (d = .centre ∧ (s.display d).running = true ∧
        t.face d = { s.face d with line := 0, frameNo := (s.display d).frameNo + 1 }) := by
  unfold execCentreActiveEvent at h
  dsimp only at h
  split at h <;> (injection h with h; rw [← h])
  · rename_i hrun
    rw [State.noteUrgent_face, State.face_congr (State.setGuide_disp _ _)]
    by_cases hd : d = .centre
    · subst hd; exact .inr ⟨rfl, hrun, s.setDisplay_face_self _ _⟩
    · exact .inl (s.setDisplay_face_ne _ hd)
  · exact .inl rfl

theorem execCentreActiveEvent_face_ne {s t : State} {d : Disp} (h : execCentreActiveEvent s = .next t)
    (hne : d ≠ .centre) : t.face d = s.face d :=
  (execCentreActiveEvent_face h d).resolve_right fun ⟨he, _⟩ => hne he

theorem execRearActiveEvent_face {s t : State} (k : Seat) (h : execRearActiveEvent k s = .next t) (d : Disp) :
    t.face d = s.face d ∨
      (d = .rear k ∧ (s.display d).running = true ∧
        t.face d = { s.face d with line := 0, frameNo := (s.display d).frameNo + 1 }) := by
  unfold execRearActiveEvent at h
  dsimp only at h
  split at h <;> (injection h with h; rw [← h])
  · rename_i hrun
    by_cases hd : d = .rear k
    · subst hd; exact .inr ⟨rfl, hrun, s.setDisplay_face_self _ _⟩
    · exact .inl (s.setDisplay_face_ne _ hd)
  · exact .inl rfl

theorem execRearActiveEvent_face_ne {s t : State} {d : Disp} (k : Seat) (h : execRearActiveEvent k s = .next t)
    (hne : d ≠ .rear k) : t.face d = s.face d :=
  (execRearActiveEvent_face k h d).resolve_right fun ⟨he, _⟩ => hne he

/-- R4: adopting a scene moves no timing. -/
theorem State.adoptStaged_face (s : State) (d e : Disp) :
    ∃ c a, (s.adoptStaged d).face e = { s.face e with content := c, active := a } ∧
      (e ≠ d → (s.adoptStaged d).face e = s.face e) := by
  unfold State.adoptStaged
  split
  · exact ⟨_, _, rfl, fun _ => rfl⟩
  · rw [State.preloadDuty_face]
    by_cases he : e = d
    · subst he; exact ⟨_, _, s.setDisplay_face_self _ _, fun h => absurd rfl h⟩
    · rw [s.setDisplay_face_ne _ he]; exact ⟨_, _, rfl, fun _ => rfl⟩

@[simp] theorem State.latchFrame_face (s : State) (d : Disp) (fr : FrameRecord) (flip : Bool) (e : Disp) :
    (s.latchFrame d fr flip).face e = s.face e := by
  refine (State.refill_face _ d e).trans (s.setDisplay_face ?_ e)
  simp only [Display.markBlank_face, Display.latch_face]; rfl

/-- R3, R4: a blank event brings its display to its first blank line, with the scene it adopts. -/
theorem State.blankLine_face (s : State) (d : Disp) (line : Nat) (e : Disp) :
    ∃ c a, ((s.setDisplay d ((s.display d).atLine line true)).adoptStaged d).face e =
        (if e = d then { s.face e with line := line, content := c, active := a } else s.face e) := by
  obtain ⟨c, a, h, hne⟩ := State.adoptStaged_face (s.setDisplay d ((s.display d).atLine line true)) d e
  refine ⟨c, a, ?_⟩
  by_cases he : e = d
  · subst he; rw [h, if_pos rfl, State.setDisplay_face_self]; rfl
  · rw [hne he, if_neg he, s.setDisplay_face_ne _ he]

theorem execCentreBlankEvent_face {s t : State} (h : execCentreBlankEvent s = .next t) (d : Disp) :
    t.face d = s.face d ∨
      (d = .centre ∧ ∃ tm c a, s.timing d = some tm ∧ (s.display d).running = true ∧
        t.face d = { s.face d with line := tm.ha, content := c, active := a }) := by
  unfold execCentreBlankEvent at h
  dsimp only at h
  split at h
  · rename_i tm htm
    split at h <;> (injection h with h; rw [← h])
    · rename_i hrun
      rw [State.face_congr (State.reportDue_disp _), State.face_congr (State.setGuide_disp _ _), State.latchFrame_face,
        State.face_congr (State.setCentre_disp _ _), State.face_congr (State.cameraWork_disp _),
        State.face_congr (State.setView_disp _)]
      obtain ⟨c, a, hf⟩ := s.blankLine_face .centre tm.ha d
      rw [show s.disp.c = s.display .centre from rfl, hf]
      split
      · rename_i hd; subst hd; exact .inr ⟨rfl, tm, c, a, htm, hrun, rfl⟩
      · exact .inl rfl
    · exact .inl rfl
  · injection h with h; rw [h]; exact .inl rfl

theorem execCentreBlankEvent_face_ne {s t : State} {d : Disp} (h : execCentreBlankEvent s = .next t) (hne : d ≠ .centre) :
    t.face d = s.face d :=
  (execCentreBlankEvent_face h d).resolve_right fun ⟨he, _⟩ => hne he

theorem execRearBlankEvent_face {s t : State} (k : Seat) (h : execRearBlankEvent k s = .next t) (d : Disp) :
    t.face d = s.face d ∨
      (d = .rear k ∧ ∃ tm c a, s.timing d = some tm ∧ (s.display d).running = true ∧
        t.face d = { s.face d with line := tm.ha, content := c, active := a }) := by
  unfold execRearBlankEvent at h
  dsimp only at h
  split at h
  · rename_i tm htm
    split at h <;> (injection h with h; rw [← h])
    · rename_i hrun
      rw [State.latchFrame_face, State.face_congr (State.selectFilm_disp _ _), State.face_congr (State.decideQuality_disp _ _)]
      obtain ⟨c, a, hf⟩ := s.blankLine_face (.rear k) tm.ha d
      rw [hf]
      split
      · rename_i hd; subst hd; exact .inr ⟨rfl, tm, c, a, htm, hrun, rfl⟩
      · exact .inl rfl
    · exact .inl rfl
  · injection h with h; rw [h]; exact .inl rfl

theorem execRearBlankEvent_face_ne {s t : State} {d : Disp} (k : Seat) (h : execRearBlankEvent k s = .next t)
    (hne : d ≠ .rear k) : t.face d = s.face d :=
  (execRearBlankEvent_face k h d).resolve_right fun ⟨he, _⟩ => hne he

/-- R185: the entry to RUNNING starts the displays that the profile drives, at their first blank line. -/
theorem execCameraRegionDefine_face {s t : State} (h : execCameraRegionDefine s = .next t) (d : Disp) :
    t = s ∨ (let tm := Tri.get (readProfile s.boot.image).disp d
      t.face d = if tm.drives d = true then { s.face d with running := true, line := tm.ha } else s.face d) := by
  unfold execCameraRegionDefine at h
  dsimp only at h
  split at h <;> (injection h with h; rw [← h])
  · exact .inr (by rw [State.startProfileBlocks_face, State.defineCamera_face])
  · exact .inl rfl

theorem execHostReset_face {s t : State} (h : execHostReset s = .next t) (d : Disp) :
    t.face d = s.face d ∨ t.face d = { s.face d with content := .noScene, active := none } := by
  unfold execHostReset at h
  dsimp only at h
  split at h
  · injection h with h; rw [h]; exact .inl rfl
  · split at h <;> (injection h with h; rw [← h])
    · exact .inl rfl
    · refine .inr ?_
      simp only [State.applyHostReset, State.refetch_face]
      have hduty : ∀ (u : State) (e : Disp), (u.resetDuty e).face d = u.face d :=
        fun u e => State.face_congr (u.resetDuty_disp e) d
      simp only [hduty]
      rcases d with _ | (_ | _) <;> exact Display.hostReset_face _ _ _

/-- A row that does not move the face of a display leaves it. -/
theorem exec_face {c : Instr} {s t : State} {d : Disp} (h : exec c s = .next t) (hc : movesFace c d = false) :
    t.face d = s.face d := by
  have kept : ∀ u : State, t = u → u.disp = s.disp → t.face d = s.face d :=
    fun u hu hd => State.face_congr (hu ▸ hd) d
  cases c with
  | powerOnReset => cases hc
  | hostReset => cases hc
  | cameraRegionDefine => cases hc
  | clockCheckEnd e => exact execClockCheckEnd_face e h d
  | arbGrant => exact execArbGrant_face h d
  | loadCheck => exact execLoadCheck_face h d
  | centreBlankEvent => exact execCentreBlankEvent_face_ne h (by simpa [movesFace] using hc)
  | centreActiveEvent => exact execCentreActiveEvent_face_ne h (by simpa [movesFace] using hc)
  | rearBlankEvent k => exact execRearBlankEvent_face_ne k h (by simpa [movesFace] using hc)
  | rearActiveEvent k => exact execRearActiveEvent_face_ne k h (by simpa [movesFace] using hc)
  | displayLineEnd e => exact execDisplayLineEnd_face_ne h (by simpa [movesFace] using hc)
  | layerUnderrun e l col => exact execLayerUnderrun_face h d
  | scanBurstComplete e r => exact execScanBurstComplete_face h d
  | cameraFrameStart e => exact execCameraFrameStart_face e h d
  | _ => exact kept _ (exec_frame h) rfl

/-! ### The view -/

@[simp] theorem State.noteUrgent_view (s : State) : s.noteUrgent.centre.view = s.centre.view := by
  unfold State.noteUrgent; split <;> rfl

@[simp] theorem State.refill_view (s : State) (d : Disp) : (s.refill d).centre.view = s.centre.view := by
  simp [State.refill]

@[simp] theorem State.keepWindow_view (s : State) : s.keepWindow.centre.view = s.centre.view := by
  unfold State.keepWindow; split <;> rfl

@[simp] theorem State.leaveOff_view (s : State) : s.leaveOff.centre.view = s.centre.view := by
  simp [State.leaveOff]

@[simp] theorem State.takeLevel_view (s : State) : s.takeLevel.centre.view = s.centre.view := by
  unfold State.takeLevel State.reverseOn
  split
  · rfl
  · dsimp only
    split
    · split <;> simp
    · simp

@[simp] theorem State.startDisplay_view (s : State) (d : Disp) (tm : DispTiming) :
    (s.startDisplay d tm).centre.view = s.centre.view := by
  unfold State.startDisplay
  split
  · rw [State.startPwm_centre]; dsimp only; split <;> rfl
  · rfl

theorem execRearBlankEvent_view {s t : State} (k : Seat) (h : execRearBlankEvent k s = .next t) :
    t.centre.view = s.centre.view := by
  unfold execRearBlankEvent at h
  split at h
  · split at h <;> (injection h with h; rw [← h])
    simp [State.latchFrame]
  · injection h with h; rw [h]

/-- R7: the view is set at a centre blank event and at power-on reset alone. -/
theorem exec_view {c : Instr} {s t : State} (h : exec c s = .next t) (hblank : c ≠ .centreBlankEvent)
    (hreset : c ≠ .powerOnReset) : t.centre.view = s.centre.view := by
  cases c with
  | powerOnReset => exact absurd rfl hreset
  | centreBlankEvent => exact absurd rfl hblank
  | cameraRegionDefine =>
    simp only [exec, execCameraRegionDefine] at h
    split at h <;> (injection h with h; rw [← h])
    simp [State.startProfileBlocks]
  | centreActiveEvent =>
    simp only [exec, execCentreActiveEvent] at h
    split at h <;> (injection h with h; rw [← h])
    simp
  | rearBlankEvent k => exact execRearBlankEvent_view k h
  | displayLineEnd d =>
    simp only [exec, execDisplayLineEnd] at h
    split at h
    · split at h <;> (injection h with h; rw [← h])
      rw [State.refill_view]; split <;> rfl
    · injection h with h; rw [h]
  | layerUnderrun d l col =>
    simp only [exec] at h
    by_cases hcol : col < 1920
    · cases hm : s.meetsUnderrun d l col with
      | false => rw [execLayerUnderrun_none hcol hm] at h; injection h with h; rw [h]
      | true =>
        rw [execLayerUnderrun_eq hcol hm] at h
        injection h with h
        rw [← h, State.refill_view]; unfold State.markUnderrun; split <;> rfl
    · rw [execLayerUnderrun, if_neg hcol] at h; cases h
  | scanBurstComplete d r =>
    simp only [exec, execScanBurstComplete] at h
    split at h
    · split at h
      · split at h <;> (injection h with h; rw [← h])
        simp
      · injection h with h; rw [h]
    · cases h
  | revinChange =>
    simp only [exec, execRevinChange] at h
    split at h
    · split at h <;> (injection h with h; rw [← h])
      · exact State.takeLevel_view _
      · rfl
    · injection h with h; rw [← h]; rfl
  | debounceExpiry =>
    simp only [exec, execDebounceExpiry] at h
    split at h <;> (injection h with h; rw [← h])
    exact s.takeLevel_view
  | _ => exact congrArg (·.centre.view) (exec_frame h)

/-! ### Where the face and the view change (R3, R4, R5, R7) -/

/-- R4, R5: content and active scene change at the display's own blank event and at a reset alone. -/
theorem exec_content {c : Instr} {s t : State} {d : Disp} (h : exec c s = .next t)
    (hblank : c ≠ blankEventOf d) (hhost : c ≠ .hostReset) (hreset : c ≠ .powerOnReset) :
    (t.face d).content = (s.face d).content ∧ (t.face d).active = (s.face d).active := by
  have same : t.face d = s.face d → (t.face d).content = (s.face d).content ∧ (t.face d).active = (s.face d).active :=
    fun e => by rw [e]; exact ⟨rfl, rfl⟩
  cases c with
  | powerOnReset => exact absurd rfl hreset
  | hostReset => exact absurd rfl hhost
  | cameraRegionDefine =>
    rcases execCameraRegionDefine_face h d with e | e
    · rw [e]; exact ⟨rfl, rfl⟩
    · rw [e]; split <;> exact ⟨rfl, rfl⟩
  | centreBlankEvent =>
    exact same (execCentreBlankEvent_face_ne h fun hd => hblank (hd ▸ rfl))
  | rearBlankEvent k =>
    exact same (execRearBlankEvent_face_ne k h fun hd => hblank (hd ▸ rfl))
  | centreActiveEvent =>
    rcases execCentreActiveEvent_face h d with e | ⟨-, -, e⟩ <;> rw [e] <;> exact ⟨rfl, rfl⟩
  | rearActiveEvent k =>
    rcases execRearActiveEvent_face k h d with e | ⟨-, -, e⟩ <;> rw [e] <;> exact ⟨rfl, rfl⟩
  | displayLineEnd e =>
    rcases execDisplayLineEnd_face h d with e | ⟨-, _, -, -, e⟩ <;> rw [e] <;> exact ⟨rfl, rfl⟩
  | _ => exact same (exec_face h rfl)

/-- R3: the frame number changes at the display's own active event and at power-on reset alone. -/
theorem exec_frameNo {c : Instr} {s t : State} {d : Disp} (h : exec c s = .next t)
    (hactive : c ≠ activeEventOf d) (hreset : c ≠ .powerOnReset) : (t.face d).frameNo = (s.face d).frameNo := by
  cases c with
  | powerOnReset => exact absurd rfl hreset
  | hostReset => rcases execHostReset_face h d with e | e <;> rw [e]
  | cameraRegionDefine =>
    rcases execCameraRegionDefine_face h d with e | e
    · rw [e]
    · rw [e]; split <;> rfl
  | centreBlankEvent => rcases execCentreBlankEvent_face h d with e | ⟨-, _, _, _, -, -, e⟩ <;> rw [e]
  | rearBlankEvent k => rcases execRearBlankEvent_face k h d with e | ⟨-, _, _, _, -, -, e⟩ <;> rw [e]
  | centreActiveEvent =>
    rw [execCentreActiveEvent_face_ne (d := d) h fun hd => hactive (hd ▸ rfl)]
  | rearActiveEvent k =>
    rw [execRearActiveEvent_face_ne (d := d) k h fun hd => hactive (hd ▸ rfl)]
  | displayLineEnd e => rcases execDisplayLineEnd_face h d with e | ⟨-, _, -, -, e⟩ <;> rw [e]
  | _ => rw [exec_face h rfl]

/-- Settles O16. -/
theorem displayContentChangesOnlyAt : Obligations.DisplayContentChangesOnlyAt := by
  intro c s t h
  refine ⟨fun d hd => ?_, fun d hd => ?_, fun hv => ?_⟩
  · by_contra hc
    push Not at hc
    obtain ⟨hblank, hhost, hreset⟩ := hc
    obtain ⟨hcontent, hactive⟩ := exec_content h hblank hhost hreset
    exact hd.elim (fun e => e hcontent) (fun e => e hactive)
  · by_contra hc
    push Not at hc
    exact hd (exec_frameNo h hc.1 hc.2)
  · by_contra hc
    push Not at hc
    exact hv (exec_view h hc.1 hc.2)

end Sys2Proof.Machine
end

section
/-! What starts only at the entry to RUNNING (R1, R2, R185, R186), and the output enable of a backlight channel (R17,
R18). O13. -/

namespace Sys2Proof.Machine

open Sys2Proof

/-! ### Backlight channels -/

/-- Whether a channel has started, whether its output is enabled, and its fault latch (R17, R18). -/
structure PwmGuard where
  started : Bool
  enabled : Bool
  latch : Bool

def PwmState.guard (c : PwmState) : PwmGuard := ⟨c.started, c.enabled, c.latch⟩

/-- The guard of a channel of the state. -/
def State.guard (s : State) (d : Disp) : PwmGuard := (s.pwm d).guard

/-- R17, R18 of one channel: it is enabled exactly while it is started and not latched; one not started is not latched. -/
def PwmGuard.Sound (g : PwmGuard) : Prop :=
  g.enabled = (g.started && !g.latch) ∧ (g.started = false → g.latch = false)

theorem backlightSound_iff {s : State} : BacklightSound s ↔ ∀ d, (s.guard d).Sound := Iff.rfl

theorem State.guard_congr {s t : State} (h : t.bl = s.bl) (d : Disp) : t.guard d = s.guard d :=
  congrArg PwmState.guard (State.pwm_congr h d)

@[simp] theorem State.setPwm_guard_self (s : State) (d : Disp) (c : PwmState) : (s.setPwm d c).guard d = c.guard :=
  congrArg PwmState.guard (s.pwm_setPwm_self d c)

theorem State.setPwm_guard_ne (s : State) {d e : Disp} (c : PwmState) (h : e ≠ d) :
    (s.setPwm d c).guard e = s.guard e :=
  congrArg PwmState.guard (s.pwm_setPwm_ne c h)

/-- A channel replaced by one of the same guard leaves every guard. -/
theorem State.setPwm_guard (s : State) {d : Disp} {c : PwmState} (h : c.guard = s.guard d) (e : Disp) :
    (s.setPwm d c).guard e = s.guard e := by
  by_cases he : e = d
  · subst he; simpa using h
  · exact s.setPwm_guard_ne c he

@[simp] theorem PwmState.advance_guard (c : PwmState) (period n : Nat) : (c.advance period n).guard = c.guard := by
  unfold PwmState.advance PwmState.moveTo
  split
  · split <;> rfl
  · rfl

@[simp] theorem State.advance_guard (s : State) (n : Nat) (d : Disp) : (s.advance n).guard d = s.guard d := by
  refine (State.guard_congr (s.advance_bl n) d).trans ?_
  unfold State.advanceDisplays
  cases s.boot.profile with
  | none => rfl
  | some p => rcases d with _ | (_ | _) <;> exact PwmState.advance_guard _ _ _

@[simp] theorem State.preloadDuty_guard (s : State) (d : Disp) (n : Nat) (e : Disp) :
    (s.preloadDuty d n).guard e = s.guard e := by
  unfold State.preloadDuty
  split
  · refine s.setPwm_guard ?_ e; rfl
  · rfl

@[simp] theorem State.resetDuty_guard (s : State) (d e : Disp) : (s.resetDuty d).guard e = s.guard e := by
  unfold State.resetDuty
  split
  · exact s.preloadDuty_guard d _ e
  · rfl

@[simp] theorem State.holdCentre_guard (s : State) (e : Disp) : s.holdCentre.guard e = s.guard e := by
  unfold State.holdCentre
  split
  · refine s.setPwm_guard ?_ e; rfl
  · rfl

@[simp] theorem State.dropHeld_guard (s : State) (e : Disp) : s.dropHeld.guard e = s.guard e := by
  refine s.setPwm_guard ?_ e; rfl

@[simp] theorem State.adoptStaged_guard (s : State) (d e : Disp) : (s.adoptStaged d).guard e = s.guard e := by
  unfold State.adoptStaged
  split
  · rfl
  · exact State.preloadDuty_guard _ _ _ _

@[simp] theorem State.leaveOff_guard (s : State) (e : Disp) : s.leaveOff.guard e = s.guard e := by
  unfold State.leaveOff
  rw [State.guard_congr (State.reverseChime_bl _), State.guard_congr (State.keepWindow_bl _), State.dropHeld_guard,
    State.guard_congr (State.rvcEnter_bl _ _)]

@[simp] theorem State.enterOff_guard (s : State) (e : Disp) : s.enterOff.guard e = s.guard e := by
  unfold State.enterOff
  dsimp only
  rw [State.guard_congr (State.chimeCancel_bl _ _), State.guard_congr (State.rvcEnter_bl _ _), State.holdCentre_guard]

@[simp] theorem State.beginRelease_guard (s : State) (e : Disp) : s.beginRelease.guard e = s.guard e := by
  unfold State.beginRelease
  split
  · exact s.enterOff_guard e
  · exact State.guard_congr (State.rvcEnter_bl _ _) e

@[simp] theorem State.reverseOn_guard (s : State) (e : Disp) : s.reverseOn.guard e = s.guard e := by
  unfold State.reverseOn
  cases s.rvc.phase with
  | off => exact s.leaveOff_guard e
  | releasing => exact State.guard_congr (State.rvcEnter_bl _ _) e
  | engaging => rfl
  | showing => rfl
  | lost => rfl

@[simp] theorem State.reverseOff_guard (s : State) (e : Disp) : s.reverseOff.guard e = s.guard e := by
  unfold State.reverseOff
  cases s.rvc.phase with
  | off => rfl
  | releasing => rfl
  | engaging => exact s.beginRelease_guard e
  | showing => exact s.beginRelease_guard e
  | lost => exact s.beginRelease_guard e

@[simp] theorem State.takeLevel_guard (s : State) (e : Disp) : s.takeLevel.guard e = s.guard e := by
  unfold State.takeLevel
  split
  · rfl
  · dsimp only
    split
    · exact State.reverseOn_guard _ e
    · exact State.reverseOff_guard _ e

/-- R17: an accepted load clears the latch of a started channel whose fault input is inactive. -/
theorem State.clearLatch_guard (s : State) (d e : Disp) :
    (s.clearLatch d).guard e =
      if e = d ∧ (s.pwm d).started = true ∧ Tri.get s.pins.fault d = false then ⟨true, true, false⟩ else s.guard e := by
  unfold State.clearLatch
  by_cases hc : (s.pwm d).started = true ∧ Tri.get s.pins.fault d = false
  · rw [if_pos (by simpa using hc)]
    by_cases he : e = d
    · subst he
      rw [if_pos ⟨rfl, hc⟩, State.setPwm_guard_self]
      simp only [PwmState.guard, hc.1]
    · rw [if_neg (fun h => he h.1), State.setPwm_guard_ne _ _ he]
  · rw [if_neg (by simpa using hc), if_neg (fun h => hc h.2)]

theorem State.clearLatch_started (s : State) (d e : Disp) : ((s.clearLatch d).guard e).started = (s.guard e).started := by
  rw [State.clearLatch_guard]
  split
  · rename_i h; rw [h.1]; exact h.2.1.symm
  · rfl

theorem State.clearLatches_started (s : State) (e : Disp) : (s.clearLatches.guard e).started = (s.guard e).started := by
  simp only [State.clearLatches, State.clearLatch_started]

theorem State.clearLatch_sound {s : State} (h : BacklightSound s) (d : Disp) : BacklightSound (s.clearLatch d) := by
  refine backlightSound_iff.mpr fun e => ?_
  rw [State.clearLatch_guard]
  split
  · exact ⟨rfl, fun h => by cases h⟩
  · exact h e

theorem State.clearLatches_sound {s : State} (h : BacklightSound s) : BacklightSound s.clearLatches :=
  State.clearLatch_sound (State.clearLatch_sound (State.clearLatch_sound h _) _) _

/-- R18: a channel starts enabled unless its fault input is active already. -/
theorem State.startPwm_guard (s : State) (d : Disp) (tm : DispTiming) (e : Disp) :
    (s.startPwm d tm).guard e =
      if e = d then ⟨true, !Tri.get s.pins.fault d, Tri.get s.pins.fault d⟩ else s.guard e := by
  have h : ∀ u : State, (if Tri.get s.pins.fault d then u.raise .backlightFault else u).guard e = u.guard e := by
    intro u; split <;> rfl
  unfold State.startPwm
  dsimp only
  rw [h]
  by_cases he : e = d
  · subst he; rw [if_pos rfl, State.setPwm_guard_self]; rfl
  · rw [if_neg he, State.setPwm_guard_ne _ _ he]

theorem State.startDisplay_sound {s : State} (h : BacklightSound s) (d : Disp) (tm : DispTiming) :
    BacklightSound (s.startDisplay d tm) := by
  refine backlightSound_iff.mpr fun e => ?_
  unfold State.startDisplay
  split
  · rw [State.startPwm_guard]
    split
    · exact ⟨by simp, fun h => by cases h⟩
    · dsimp only
      split <;> exact h e
  · exact h e

/-! ### What the rows do to the backlight channels -/

/-- Two states with the same guards are sound together. -/
theorem BacklightSound.of_guard {s t : State} (h : BacklightSound s) (e : ∀ d, t.guard d = s.guard d) :
    BacklightSound t := backlightSound_iff.mpr fun d => e d ▸ h d

/-- R171: what an accepted load hands to PATH, PRES, the displays, AUD, MIX and BL, before LOAD itself takes note. -/
def State.handOver (s : State) : State :=
  let rd := beatsByte s.load.staged
  (((if isFull s.load.loadScope then s.swapTable (readTable rd) else s).stageScenes rd).applyAudio
    (readAudio rd)).clearLatches

theorem State.acceptLoad_eq (s : State) :
    s.acceptLoad = (s.handOver.setLoad (LoadState.formIrq
      { s.handOver.load with
        mask := readMask (beatsByte s.load.staged), loaded := s.handOver.load.loadGen, outcome := .accepted,
        code := .nothing, badIndex := 0xFF })).raise .loadDone := by
  simp only [State.acceptLoad, State.handOver]

theorem State.setLoad_setLoad (s : State) (x y : LoadState) : (s.setLoad x).setLoad y = s.setLoad y := rfl

theorem State.raise_eq (s : State) (c : Cause) :
    s.raise c = s.setLoad { s.load with causes := withCause s.load.causes c } := rfl

/-- R169 to R172: the end of a check changes LOAD, and, where every check passes, what an accepted load hands over. -/
theorem State.endChecking_cases (s : State) :
    ∃ l, s.endChecking = s.handOver.setLoad l ∨ s.endChecking = s.setLoad l := by
  unfold State.endChecking
  dsimp only
  split
  · rw [State.acceptLoad_eq, State.raise_eq, State.setLoad_setLoad, State.setLoad_setLoad]; exact ⟨_, .inl rfl⟩
  · rw [State.refuseLoad, State.raise_eq, State.setLoad_setLoad, State.setLoad_setLoad]; exact ⟨_, .inr rfl⟩

theorem State.handOver_bl (s : State) : ∃ u : State, u.bl = s.bl ∧ u.pins = s.pins ∧ s.handOver = u.clearLatches := by
  refine ⟨_, ?_, ?_, rfl⟩
  · rw [State.applyAudio_bl, State.stageScenes_bl]; split <;> simp
  · rw [State.applyAudio_pins, State.stageScenes_pins]; split <;> simp

theorem execLoadCheck_guard {s t : State} (h : execLoadCheck s = .next t) :
    (∀ d, (t.guard d).started = (s.guard d).started) ∧ (BacklightSound s → BacklightSound t) := by
  unfold execLoadCheck at h
  split at h <;> (injection h with h; rw [← h])
  · obtain ⟨l, e | e⟩ := s.endChecking_cases
    · obtain ⟨u, hbl, -, hu⟩ := s.handOver_bl
      have same : ∀ d, u.guard d = s.guard d := State.guard_congr hbl
      rw [e, hu]
      exact ⟨fun d => (State.clearLatches_started u d).trans (by rw [same d]),
        fun hs => State.clearLatches_sound (hs.of_guard same)⟩
    · rw [e]; exact ⟨fun _ => rfl, fun hs => hs⟩
  · exact ⟨fun _ => rfl, fun hs => hs⟩

/-- R17: a fault input that becomes active latches a started channel and cuts its output. -/
theorem execBacklightFault_guard {s t : State} {d : Disp} (h : execBacklightFault d s = .next t) (e : Disp) :
    t.guard e = s.guard e ∨ ((s.guard e).started = true ∧ t.guard e = ⟨true, false, true⟩) := by
  unfold execBacklightFault at h
  dsimp only at h
  split at h
  · injection h with h; rw [h]; exact .inl rfl
  · split at h <;> (injection h with h; rw [← h])
    · rename_i hstart
      rw [State.guard_congr (State.raise_bl _ _)]
      by_cases he : e = d
      · subst he
        refine .inr ⟨hstart, (State.setPwm_guard_self _ _ _).trans ?_⟩
        simp only [PwmState.guard, hstart]
      · exact .inl (State.setPwm_guard_ne _ _ he)
    · exact .inl rfl

theorem execCameraRegionDefine_sound {s t : State} (h : execCameraRegionDefine s = .next t) (hs : BacklightSound s) :
    BacklightSound t := by
  unfold execCameraRegionDefine at h
  dsimp only at h
  split at h <;> (injection h with h; rw [← h])
  · have hboot : ∀ (u : State) (x : BootState), BacklightSound u → BacklightSound (u.setBoot x) := fun _ _ h => h
    rw [State.startProfileBlocks_eq]
    refine BacklightSound.of_guard (s := State.startDisplays _ _) ?_ fun d => State.guard_congr (by
      rw [State.setChime_bl, State.setLink_bl, State.setCam_bl]) d
    exact State.startDisplay_sound (State.startDisplay_sound (State.startDisplay_sound (hboot _ _
      (hs.of_guard (State.guard_congr (State.defineCamera_bl _ _)))) _ _) _ _) _ _
  · exact hs

theorem execHostReset_guard {s t : State} (h : execHostReset s = .next t) (d : Disp) : t.guard d = s.guard d := by
  unfold execHostReset at h
  dsimp only at h
  split at h
  · injection h with h; rw [h]
  · split at h <;> (injection h with h; rw [← h])
    · rfl
    · have hfetch : ∀ (u : State) (e : Disp), (u.refetch e).guard d = u.guard d :=
        fun u e => State.guard_congr (u.refetch_bl e) d
      simp only [State.applyHostReset, hfetch, State.resetDuty_guard]
      rfl

theorem execCentreBlankEvent_guard {s t : State} (h : execCentreBlankEvent s = .next t) (d : Disp) :
    t.guard d = s.guard d := by
  unfold execCentreBlankEvent at h
  dsimp only at h
  split at h
  · split at h <;> (injection h with h; rw [← h])
    rw [State.guard_congr (State.reportDue_bl _), State.guard_congr (State.setGuide_bl _ _),
      State.guard_congr (State.latchFrame_bl _ _ _ _), State.guard_congr (State.setCentre_bl _ _),
      State.guard_congr (State.cameraWork_bl _), State.guard_congr (State.setView_bl _), State.adoptStaged_guard]
    rfl
  · injection h with h; rw [h]

theorem execRearBlankEvent_guard {s t : State} (k : Seat) (h : execRearBlankEvent k s = .next t) (d : Disp) :
    t.guard d = s.guard d := by
  unfold execRearBlankEvent at h
  dsimp only at h
  split at h
  · split at h <;> (injection h with h; rw [← h])
    rw [State.guard_congr (State.latchFrame_bl _ _ _ _), State.guard_congr (State.selectFilm_bl _ _),
      State.guard_congr (State.decideQuality_bl _ _), State.adoptStaged_guard]
    rfl
  · injection h with h; rw [h]

theorem execClockCheckEnd_guard {s t : State} (e : Nat) (h : execClockCheckEnd e s = .next t) (d : Disp) :
    t.guard d = s.guard d := by
  unfold execClockCheckEnd at h
  dsimp only at h
  split at h
  · split at h <;> (injection h with h; rw [← h])
    · rw [State.guard_congr (State.startReferenceBlocks_bl _), State.guard_congr (State.setBoot_bl _ _), s.advance_guard]
    · rw [State.guard_congr (State.setBoot_bl _ _), s.advance_guard]
  · injection h with h; rw [h]

theorem execCameraFrameStart_guard {s t : State} (e : Nat) (h : execCameraFrameStart e s = .next t) (d : Disp) :
    t.guard d = s.guard d := by
  unfold execCameraFrameStart at h
  dsimp only at h
  split at h <;> (injection h with h; rw [← h])
  · exact s.advance_guard e d
  · exact (State.guard_congr (State.setCam_bl _ _) d).trans (s.advance_guard e d)

theorem execPwmPeriodEnd_guard {s t : State} {d : Disp} (h : execPwmPeriodEnd d s = .next t) (e : Disp) :
    t.guard e = s.guard e := by
  unfold execPwmPeriodEnd at h
  dsimp only at h
  split at h <;> (injection h with h; rw [← h])
  refine s.setPwm_guard ?_ e; rfl

theorem execRevinChange_guard {s t : State} (h : execRevinChange s = .next t) (d : Disp) : t.guard d = s.guard d := by
  unfold execRevinChange at h
  dsimp only at h
  split at h
  · split at h <;> (injection h with h; rw [← h])
    · exact (State.takeLevel_guard _ d).trans rfl
    · rfl
  · injection h with h; rw [← h]; rfl

theorem execDebounceExpiry_guard {s t : State} (h : execDebounceExpiry s = .next t) (d : Disp) :
    t.guard d = s.guard d := by
  unfold execDebounceExpiry at h
  split at h <;> (injection h with h; rw [← h])
  exact s.takeLevel_guard d

theorem execReleaseTimerExpiry_guard {s t : State} (h : execReleaseTimerExpiry s = .next t) (d : Disp) :
    t.guard d = s.guard d := by
  unfold execReleaseTimerExpiry at h
  split at h
  · split at h <;> (injection h with h; rw [← h])
    · exact s.enterOff_guard d
    · rfl
  · injection h with h; rw [h]

/-- The rows that can move a channel's guard: power-on reset, its start, its fault and an accepted load. -/
theorem exec_guard {c : Instr} {s t : State} (h : exec c s = .next t) (hreset : c ≠ .powerOnReset)
    (hdefine : c ≠ .cameraRegionDefine) (hload : c ≠ .loadCheck) (hfault : ∀ e, c ≠ .backlightFault e) (d : Disp) :
    t.guard d = s.guard d := by
  have kept : ∀ u : State, t = u → u.bl = s.bl → t.guard d = s.guard d :=
    fun u hu hd => State.guard_congr (hu ▸ hd) d
  cases c with
  | powerOnReset => exact absurd rfl hreset
  | cameraRegionDefine => exact absurd rfl hdefine
  | loadCheck => exact absurd rfl hload
  | backlightFault e => exact absurd rfl (hfault e)
  | hostReset => exact execHostReset_guard h d
  | clockCheckEnd e => exact execClockCheckEnd_guard e h d
  | centreBlankEvent => exact execCentreBlankEvent_guard h d
  | rearBlankEvent k => exact execRearBlankEvent_guard k h d
  | pwmPeriodEnd e => exact execPwmPeriodEnd_guard h d
  | cameraFrameStart e => exact execCameraFrameStart_guard e h d
  | revinChange => exact execRevinChange_guard h d
  | debounceExpiry => exact execDebounceExpiry_guard h d
  | releaseTimerExpiry => exact execReleaseTimerExpiry_guard h d
  | _ => exact kept _ (exec_frame h) rfl

/-- R17, R18: every row keeps the output enables. -/
theorem exec_backlightSound {c : Instr} {s t : State} (hs : BacklightSound s) (h : exec c s = .next t) :
    BacklightSound t := by
  cases c with
  | powerOnReset =>
    injection h with h
    rw [← h]
    intro d
    rcases d with _ | (_ | _) <;> exact ⟨rfl, fun _ => rfl⟩
  | cameraRegionDefine => exact execCameraRegionDefine_sound h hs
  | loadCheck => exact (execLoadCheck_guard h).2 hs
  | backlightFault e =>
    refine backlightSound_iff.mpr fun d => ?_
    rcases execBacklightFault_guard h d with e | ⟨-, e⟩ <;> rw [e]
    · exact hs d
    · exact ⟨rfl, fun h => by cases h⟩
  | _ => exact hs.of_guard (exec_guard h nofun nofun nofun nofun)

/-- No row but the entry to RUNNING starts a channel. -/
theorem exec_started {c : Instr} {s t : State} (h : exec c s = .next t) (hreset : c ≠ .powerOnReset)
    (hdefine : c ≠ .cameraRegionDefine) (d : Disp) : (t.guard d).started = (s.guard d).started := by
  cases c with
  | powerOnReset => exact absurd rfl hreset
  | cameraRegionDefine => exact absurd rfl hdefine
  | loadCheck => exact (execLoadCheck_guard h).1 d
  | backlightFault e => rcases execBacklightFault_guard h d with e | ⟨hs, e⟩ <;> rw [e]; exact hs.symm
  | _ => rw [exec_guard h nofun nofun nofun nofun]

end Sys2Proof.Machine
end

section
/-! Before the entry to RUNNING (R185, R186): what the rows leave of BOOT, PATH, CAM, GUIDE, LINK and CHIME. O13. -/

namespace Sys2Proof.Machine

open Sys2Proof

/-! ### BOOT -/

/-- R180 to R185: the profile is handed over at the entry to RUNNING alone. -/
theorem exec_profile {c : Instr} {s t : State} (h : exec c s = .next t) (hreset : c ≠ .powerOnReset)
    (hdefine : c ≠ .cameraRegionDefine) : t.boot.profile = s.boot.profile := by
  have hadv : ∀ n, (s.advance n).boot.profile = s.boot.profile := by
    intro n; rw [s.advance_boot]; split <;> rfl
  cases c with
  | powerOnReset => exact absurd rfl hreset
  | cameraRegionDefine => exact absurd rfl hdefine
  | pornRelease b =>
    simp only [exec, execPornRelease] at h
    split at h <;> (injection h with h; rw [← h])
    rfl
  | clockCheckEnd e =>
    simp only [exec, execClockCheckEnd] at h
    split at h
    · split at h <;> (injection h with h; rw [← h])
      · rw [State.startReferenceBlocks_boot]; exact hadv e
      · exact hadv e
    · injection h with h; rw [h]
  | profileLengthRead a b =>
    simp only [exec, execProfileLengthRead] at h
    split at h
    · split at h <;> (injection h with h; rw [← h]) <;> rfl
    · injection h with h; rw [h]
  | profileReadDone rest =>
    simp only [exec, execProfileReadDone] at h
    split at h
    · split at h
      · split at h <;> (injection h with h; rw [← h]) <;> rfl
      · injection h with h; rw [h]
    · cases h
  | cameraFrameStart e =>
    simp only [exec, execCameraFrameStart] at h
    split at h <;> (injection h with h; rw [← h])
    · exact hadv e
    · exact hadv e
  | _ => exact congrArg (·.boot.profile) (exec_frame h)

theorem State.mayDefine_startup {s : State} (h : s.mayDefine = true) : s.boot.startup = .profileRead := by
  simp only [State.mayDefine, Bool.and_eq_true, beq_iff_eq] at h
  exact h.1.1.2

/-- In RUNNING no row but power-on reset changes BOOT. -/
theorem exec_boot_running {c : Instr} {s t : State} (h : exec c s = .next t) (hreset : c ≠ .powerOnReset)
    (hrun : s.boot.startup = .running) : t.boot = s.boot := by
  cases c with
  | powerOnReset => exact absurd rfl hreset
  | cameraRegionDefine =>
    have hmay : s.mayDefine = false := by
      cases hm : s.mayDefine with
      | false => rfl
      | true => rw [State.mayDefine_startup hm] at hrun; cases hrun
    simp only [exec, execCameraRegionDefine, hmay] at h
    injection h with h; rw [h]
  | pornRelease b =>
    simp only [exec, execPornRelease, hrun] at h
    injection h with h; rw [h]
  | clockCheckEnd e =>
    simp only [exec, execClockCheckEnd, hrun] at h
    injection h with h; rw [h]
  | profileLengthRead a b =>
    simp only [exec, execProfileLengthRead, hrun] at h
    rw [if_neg (by simp)] at h
    injection h with h; rw [h]
  | profileReadDone rest =>
    simp only [exec, execProfileReadDone, hrun] at h
    split at h
    · rw [if_neg (by simp)] at h; injection h with h; rw [h]
    · cases h
  | cameraFrameStart e =>
    have hadv : (s.advance e).boot = s.boot := by rw [s.advance_boot, if_neg (by simp [hrun])]
    simp only [exec, execCameraFrameStart] at h
    split at h <;> (injection h with h; rw [← h])
    · exact hadv
    · exact hadv
  | _ => exact congrArg (·.boot) (exec_frame h)

/-- The entry to RUNNING where it happens: BOOT hands over the profile it has read (R185). -/
theorem execCameraRegionDefine_boot {s t : State} (h : execCameraRegionDefine s = .next t) :
    t = s ∨ (s.boot.startup = .profileRead ∧
      t.boot = { s.boot with startup := .running, profile := some (readProfile s.boot.image) }) := by
  unfold execCameraRegionDefine at h
  dsimp only at h
  split at h <;> (injection h with h; rw [← h])
  · rename_i hmay
    refine .inr ⟨State.mayDefine_startup hmay, ?_⟩
    rw [State.startProfileBlocks_eq, State.setChime_boot, State.setLink_boot, State.setCam_boot]
    simp [State.startDisplays]
  · exact .inl rfl

/-! ### PATH -/

theorem mapFirstPiece_length (p : Piece → Bool) (f : Piece → Piece) (q : List HostEntry) :
    (mapFirstPiece p f q).length = q.length := by
  induction q with
  | nil => rfl
  | cons e es ih => unfold mapFirstPiece; split <;> simp [ih]

theorem drainQueue_length_le (q : List HostEntry) : (drainQueue q).2.length ≤ q.length := by
  obtain ⟨done, e, -⟩ := drainQueue_spec q
  have := congrArg List.length e
  rw [List.length_append] at this
  omega

/-- What a notice leaves of PATH: all but the shadows and the count of incomplete writes. -/
theorem State.notice_path (s : State) (n : Notice) :
    (s.notice n).path.cam = s.path.cam ∧ (s.notice n).path.queue = s.path.queue := by
  cases n with
  | chimeWrite j seqNo action pattern =>
    simp only [State.notice, State.chimeWrite]
    split
    · exact ⟨rfl, rfl⟩
    · dsimp only [State.takeChime]
      split <;> exact ⟨rfl, rfl⟩
  | filmPixel i b => simp [State.notice]
  | filmTag i b bytes => simp [State.notice]
  | generation gen scope => exact ⟨rfl, rfl⟩
  | acknowledge w => exact ⟨rfl, rfl⟩
  | audioBlock i j e => exact ⟨rfl, rfl⟩
  | partialWrite => exact ⟨rfl, rfl⟩

theorem State.notify_path (s : State) (ns : List Notice) :
    (s.notify ns).path.cam = s.path.cam ∧ (s.notify ns).path.queue = s.path.queue :=
  ⟨foldl_keeps State.notice (·.path.cam) (fun s n => (s.notice_path n).1) ns s,
    foldl_keeps State.notice (·.path.queue) (fun s n => (s.notice_path n).2) ns s⟩

theorem State.handOver_path (s : State) :
    s.handOver.path = { s.path with table := s.handOver.path.table } := by
  simp only [State.handOver, State.clearLatches_path, State.applyAudio_path, State.stageScenes_path]
  split
  · simp [State.swapTable]
  · rfl

/-- The camera region stays, and the queue keeps within R38's eight entries, at every row but the definition of the
region (R44) and power-on reset. -/
theorem exec_path {c : Instr} {s t : State} (h : exec c s = .next t) (hreset : c ≠ .powerOnReset)
    (hdefine : c ≠ .cameraRegionDefine) :
    t.path.cam = s.path.cam ∧ (s.path.queue.length ≤ 8 → t.path.queue.length ≤ 8) := by
  have same : t.path.cam = s.path.cam ∧ t.path.queue = s.path.queue →
      t.path.cam = s.path.cam ∧ (s.path.queue.length ≤ 8 → t.path.queue.length ≤ 8) :=
    fun ⟨hc, hq⟩ => ⟨hc, fun hl => hq ▸ hl⟩
  cases c with
  | powerOnReset => exact absurd rfl hreset
  | cameraRegionDefine => exact absurd rfl hdefine
  | hostReset =>
    simp only [exec, execHostReset] at h
    split at h
    · injection h with h; rw [h]; exact ⟨rfl, id⟩
    · split at h <;> (injection h with h; rw [← h])
      · exact ⟨rfl, id⟩
      · have e : ∀ u : State, u.applyHostReset.path = u.path.hostReset := by intro u; simp [State.applyHostReset]
        rw [e]; exact ⟨rfl, fun _ => Nat.zero_le _⟩
  | hostRequest q =>
    simp only [exec, execHostRequest] at h
    split at h
    · split at h <;> (injection h with h; rw [← h])
      · rename_i hacc
        refine ⟨rfl, fun _ => ?_⟩
        simp only [State.accepts, Bool.and_eq_true] at hacc
        have := drainQueue_length_le (s.path.queue ++ [{ req := q, pieces := s.path.classify q }])
        simp only [List.length_append, List.length_cons, List.length_nil] at this
        obtain ⟨⟨-, hfree⟩, -⟩ := hacc
        exact Nat.le_trans this (of_decide_eq_true hfree)
      · exact ⟨rfl, id⟩
    · cases h
  | arbGrant =>
    simp only [exec, execArbGrant] at h
    split at h
    · split at h
      · split at h <;> (injection h with h; rw [← h])
        · rename_i q _ _ b _
          have hq : (s.takeGrant q).path.cam = s.path.cam ∧
              (s.takeGrant q).path.queue.length = s.path.queue.length := by
            cases q with
            | host => exact ⟨rfl, mapFirstPiece_length _ _ _⟩
            | audio => simp only [State.takeGrant]; split <;> exact ⟨rfl, rfl⟩
            | scanC => exact ⟨rfl, rfl⟩
            | camera => exact ⟨rfl, rfl⟩
            | scanRl => exact ⟨rfl, rfl⟩
            | scanRr => exact ⟨rfl, rfl⟩
            | load => exact ⟨rfl, rfl⟩
          exact ⟨hq.1, fun hl => hq.2 ▸ hl⟩
        · exact ⟨rfl, id⟩
      · injection h with h; rw [h]; exact ⟨rfl, id⟩
    · injection h with h; rw [h]; exact ⟨rfl, id⟩
  | hostPieceDrop =>
    simp only [exec, execHostPieceDrop] at h
    split at h
    · split at h <;> (injection h with h; rw [← h])
      · refine ⟨rfl, fun hl => Nat.le_trans (drainQueue_length_le _) ?_⟩
        rw [mapFirstPiece_length]; exact hl
      · exact ⟨rfl, id⟩
    · injection h with h; rw [h]; exact ⟨rfl, id⟩
  | hostPieceComplete r =>
    simp only [exec, execHostPieceComplete] at h
    (repeat' split at h) <;> first | (injection h with h; rw [← h]) | cases h
    · rw [(State.notify_path _ _).1, (State.notify_path _ _).2]
      refine ⟨rfl, fun hl => Nat.le_trans (drainQueue_length_le _) ?_⟩
      rw [mapFirstPiece_length]; exact hl
    all_goals exact ⟨rfl, id⟩
  | loadCheck =>
    refine same ?_
    simp only [exec, execLoadCheck] at h
    split at h <;> (injection h with h; rw [← h])
    · obtain ⟨l, e | e⟩ := s.endChecking_cases <;> rw [e]
      · rw [State.setLoad_path, State.handOver_path]; exact ⟨rfl, rfl⟩
      · exact ⟨rfl, rfl⟩
    · exact ⟨rfl, rfl⟩
  | loadReadBurstComplete r =>
    refine same ?_
    simp only [exec, execLoadReadBurstComplete] at h
    (repeat' split at h) <;> first | (injection h with h; rw [← h]; exact ⟨rfl, rfl⟩) | cases h
  | loadRereadComplete r =>
    refine same ?_
    simp only [exec, execLoadRereadComplete] at h
    (repeat' split at h) <;> first | (injection h with h; rw [← h]; exact ⟨rfl, rfl⟩) | cases h
  | reportBurstComplete err =>
    refine same ?_
    simp only [exec, execReportBurstComplete] at h
    (repeat' split at h) <;> (injection h with h; rw [← h]; exact ⟨rfl, rfl⟩)
  | scanBurstComplete d r =>
    refine same ?_
    have hback : ∀ (u : State) (q : ScanReq), (u.scanBack d q r).path.cam = u.path.cam ∧
        (u.scanBack d q r).path.queue = u.path.queue := by
      intro u q
      unfold State.scanBack
      cases r with
      | ok data => exact ⟨rfl, rfl⟩
      | error => dsimp only; split <;> exact ⟨rfl, rfl⟩
    simp only [exec, execScanBurstComplete] at h
    (repeat' split at h) <;> first | (injection h with h; rw [← h]) | cases h
    · rw [State.refill_path]; exact hback _ _
    all_goals exact ⟨rfl, rfl⟩
  | audioBurstComplete r =>
    refine same ?_
    simp only [exec, execAudioBurstComplete] at h
    (repeat' split at h) <;> first | (injection h with h; rw [← h]; exact ⟨rfl, rfl⟩) | cases h
  | cameraBurstComplete err =>
    refine same ?_
    simp only [exec, execCameraBurstComplete] at h
    (repeat' split at h) <;> (injection h with h; rw [← h]; exact ⟨rfl, rfl⟩)
  | _ => exact same ⟨congrArg (·.path.cam) (exec_frame h), congrArg (·.path.queue) (exec_frame h)⟩

end Sys2Proof.Machine
end

section
/-! CHIME, CAM, GUIDE and LINK before the entry to RUNNING (R99, R119, R138, R151), and the invariant of R1, R2, R185 and
R186 together. O13. -/

namespace Sys2Proof.Machine

open Sys2Proof

/-! ### CHIME before it has started -/

/-- CHIME has not started and holds nothing. -/
def ChimeState.Silent (c : ChimeState) : Prop :=
  c.started = false ∧ c.phase = .idle ∧ c.playing = none ∧ c.stack = [] ∧ c.waiting = []

/-- A silent CHIME has nothing to cancel. -/
theorem ChimeState.Silent.cancel {c : ChimeState} (h : c.Silent) (src : Source) : c.cancel src = c := by
  obtain ⟨started, phase, playing, stack, waiting, _, _, _, _, _, _, _, _⟩ := c
  obtain ⟨-, -, rfl, rfl, rfl⟩ := h
  rfl

/-- The command of a CHIME that has not started is refused (R154). -/
theorem ChimeState.Silent.command {c : ChimeState} (h : c.Silent) (pats : List Pattern) (depth j action pat : Nat) :
    (c.command pats depth j action pat).1.Silent := by
  unfold ChimeState.command
  rw [h.1]
  exact h

theorem ChimeState.Silent.hostReset {c : ChimeState} (h : c.Silent) : c.hostReset.Silent := by
  unfold ChimeState.hostReset
  rw [h.cancel, h.cancel, h.cancel, h.cancel]
  exact h

theorem ChimeState.Silent.advance {c : ChimeState} (h : c.Silent) (pats : List Pattern) : c.advance pats = c := by
  unfold ChimeState.advance; rw [h.2.1]

theorem ChimeState.Silent.stepEnd {c : ChimeState} (h : c.Silent) (pats : List Pattern) : c.stepEnd pats = (c, false) := by
  unfold ChimeState.stepEnd; rw [h.2.1]

theorem ChimeState.Silent.fadeOver {c : ChimeState} (h : c.Silent) (pats : List Pattern) : c.fadeOver pats = c := by
  unfold ChimeState.fadeOver; rw [h.2.1]

theorem State.takeChime_chime (s : State) (x : ChimeState × Bool) : (s.takeChime x).chime = x.1 := by
  unfold State.takeChime; dsimp only; split <;> rfl

theorem State.chimeCancel_silent {s : State} (h : s.chime.Silent) (src : Source) : (s.chimeCancel src).chime.Silent := by
  show (s.chime.cancel src).Silent
  rw [h.cancel]; exact h

/-- No row of the upstream port wakes a CHIME that has not started. -/
theorem State.notice_silent {s : State} (h : s.chime.Silent) (n : Notice) : (s.notice n).chime.Silent := by
  cases n with
  | chimeWrite j seqNo action pattern =>
    simp only [State.notice, State.chimeWrite]
    split
    · exact h
    · rw [State.takeChime_chime]
      exact ChimeState.Silent.command (c := s.chime) h _ _ _ _ _
  | generation gen scope => exact h
  | acknowledge w => exact h
  | filmPixel i b => simpa [State.notice] using h
  | filmTag i b bytes => simpa [State.notice] using h
  | audioBlock i j e => exact h
  | partialWrite => exact h

theorem State.notify_silent (ns : List Notice) : ∀ s : State, s.chime.Silent → (s.notify ns).chime.Silent := by
  induction ns with
  | nil => exact fun _ h => h
  | cons n ns ih => exact fun s h => ih _ (State.notice_silent h n)

theorem State.conditionFall_foldl_silent (ks : List Nat) :
    ∀ s : State, s.chime.Silent → (ks.foldl State.conditionFall s).chime.Silent := by
  induction ks with
  | nil => exact fun _ h => h
  | cons k ks ih => exact fun s h => ih _ (State.chimeCancel_silent h _)

/-- Without a profile no condition asks for a chime (R152). -/
theorem State.conditionRise_foldl (ks : List Nat) :
    ∀ s : State, s.boot.profile = none → ks.foldl State.conditionRise s = s := by
  induction ks with
  | nil => exact fun _ _ => rfl
  | cons k ks ih =>
    intro s h
    have : s.conditionRise k = s := by unfold State.conditionRise; rw [h]
    rw [List.foldl_cons, this]; exact ih s h

theorem State.handConditions_silent {s : State} (h : s.chime.Silent) (hp : s.boot.profile = none) (old new : BitVec 32) :
    (s.handConditions old new).chime.Silent := by
  unfold State.handConditions
  rw [State.conditionRise_foldl _ s hp]
  exact State.conditionFall_foldl_silent _ s h

theorem State.enterOff_silent {s : State} (h : s.chime.Silent) : s.enterOff.chime.Silent := by
  refine State.chimeCancel_silent ?_ _
  rw [State.rvcEnter_chime, State.holdCentre_chime]
  exact h

theorem State.leaveOff_silent {s : State} (h : s.chime.Silent) (hp : s.boot.profile = none) : s.leaveOff.chime.Silent := by
  unfold State.leaveOff State.reverseChime
  simp only [State.keepWindow_boot, State.dropHeld_boot, State.rvcEnter_boot, hp, State.keepWindow_chime,
    State.dropHeld_chime, State.rvcEnter_chime]
  exact h

theorem State.beginRelease_silent {s : State} (h : s.chime.Silent) : s.beginRelease.chime.Silent := by
  unfold State.beginRelease
  split
  · exact State.enterOff_silent h
  · rw [State.rvcEnter_chime]; exact h

theorem State.takeLevel_silent {s : State} (h : s.chime.Silent) (hp : s.boot.profile = none) :
    s.takeLevel.chime.Silent := by
  unfold State.takeLevel
  split
  · exact h
  · dsimp only
    split
    · unfold State.reverseOn
      split
      · exact State.leaveOff_silent h hp
      · rw [State.rvcEnter_chime]; exact h
      all_goals exact h
    · unfold State.reverseOff
      split
      · exact h
      · exact h
      all_goals exact State.beginRelease_silent h

/-- R148, R151: no row but the entry to RUNNING wakes CHIME. -/
theorem exec_silent {c : Instr} {s t : State} (h : exec c s = .next t) (hreset : c ≠ .powerOnReset)
    (hdefine : c ≠ .cameraRegionDefine) (hp : s.boot.profile = none) (hlink : s.link.started = false)
    (hs : s.chime.Silent) : t.chime.Silent := by
  have same : t.chime = s.chime → t.chime.Silent := fun e => e ▸ hs
  cases c with
  | powerOnReset => exact absurd rfl hreset
  | cameraRegionDefine => exact absurd rfl hdefine
  | hostReset =>
    simp only [exec, execHostReset] at h
    split at h
    · injection h with h; rw [← h]; exact hs
    · split at h <;> (injection h with h; rw [← h])
      · exact hs
      · have e : ∀ u : State, u.applyHostReset.chime = u.chime.hostReset := by intro u; simp [State.applyHostReset]
        rw [e]; exact ChimeState.Silent.hostReset hs
  | hostPieceComplete r =>
    simp only [exec, execHostPieceComplete] at h
    (repeat' split at h) <;> first | (injection h with h; rw [← h]) | cases h
    · exact State.notify_silent _ _ hs
    all_goals exact hs
  | outputFrame =>
    simp only [exec, execOutputFrame] at h
    split at h <;> (injection h with h; rw [← h])
    · show (s.chime.advance _).Silent
      rw [hs.advance]; exact hs
    · exact hs
  | chimeStepEnd =>
    simp only [exec, execChimeStepEnd] at h
    injection h with h
    rw [← h, State.takeChime_chime, hs.stepEnd]; exact hs
  | fadeEnd =>
    simp only [exec, execFadeEnd] at h
    injection h with h
    rw [← h]
    show (s.chime.fadeOver _).Silent
    rw [hs.fadeOver]; exact hs
  | revinChange =>
    simp only [exec, execRevinChange] at h
    split at h
    · split at h <;> (injection h with h; rw [← h])
      · exact State.takeLevel_silent hs hp
      · exact hs
    · injection h with h; rw [← h]; exact hs
  | debounceExpiry =>
    simp only [exec, execDebounceExpiry] at h
    split at h <;> (injection h with h; rw [← h])
    · exact State.takeLevel_silent hs hp
    · exact hs
  | releaseTimerExpiry =>
    simp only [exec, execReleaseTimerExpiry] at h
    split at h
    · split at h <;> (injection h with h; rw [← h])
      · exact State.enterOff_silent hs
      · exact hs
    · injection h with h; rw [← h]; exact hs
  | linkByteTaken b =>
    simp only [exec, execLinkByteTaken, LinkState.inByte, hlink] at h
    injection h with h; rw [← h]; exact hs
  | freshnessTimerExpiry k =>
    simp only [exec, execFreshnessTimerExpiry] at h
    split at h
    · injection h with h; rw [← h]; exact hs
    · cases k <;> (injection h with h; rw [← h])
      · exact hs
      · rw [State.raise_chime]; refine State.handConditions_silent ?_ ?_ _ _ <;> assumption
  | _ => exact same (congrArg (·.chime) (exec_frame h))

/-! ### CAM before it has started -/

theorem CamState.showSlot_phase (c : CamState) (j : Nat) : (c.showSlot j).phase = c.phase := by
  have key : ∀ (ks : List Nat) (x : CamState), (ks.foldl (fun (x : CamState) k => x.setSlot k .empty) x).phase = x.phase := by
    intro ks
    induction ks with
    | nil => exact fun _ => rfl
    | cons k ks ih => exact fun x => ih _
  exact key _ c

theorem CamState.blank_phase (c : CamState) (view : View) (fresh : Bool) : (c.blank view fresh).1.phase = c.phase := by
  unfold CamState.blank
  cases view with
  | host =>
    show c.hideSlot.phase = c.phase
    unfold CamState.hideSlot; split <;> rfl
  | rear =>
    dsimp only
    split
    · split
      · exact c.showSlot_phase _
      · rfl
    · rfl

theorem State.cameraWork_camPhase (s : State) : s.cameraWork.cam.phase = s.cam.phase := by
  unfold State.cameraWork
  dsimp only
  rw [State.blankTransition_cam]
  exact CamState.blank_phase _ _ _

theorem State.checkFrame_camPhase (s : State) (p : CameraProfile) (w : Writing) :
    (s.checkFrame p w).cam.phase = s.cam.phase := by
  unfold State.checkFrame
  split
  · rfl
  · split <;> rfl

/-- R99, R103: an idle CAM stays idle at every row but the entry to RUNNING. -/
theorem exec_camIdle {c : Instr} {s t : State} (h : exec c s = .next t) (hreset : c ≠ .powerOnReset)
    (hdefine : c ≠ .cameraRegionDefine) (hs : s.cam.phase = .idle) : t.cam.phase = .idle := by
  have hadv : ∀ n, (s.advance n).cam.phase = .idle := by intro n; rw [s.advance_cam]; exact hs
  cases c with
  | powerOnReset => exact absurd rfl hreset
  | cameraRegionDefine => exact absurd rfl hdefine
  | clockCheckEnd e =>
    simp only [exec, execClockCheckEnd] at h
    split at h
    · split at h <;> (injection h with h; rw [← h])
      · rw [State.startReferenceBlocks_cam]; exact hadv e
      · exact hadv e
    · injection h with h; rw [← h]; exact hs
  | arbGrant =>
    simp only [exec, execArbGrant] at h
    split at h
    · split at h
      · split at h <;> (injection h with h; rw [← h])
        · rename_i q _ _ b _
          show (s.takeGrant q).cam.phase = .idle
          cases q with
          | audio => simp only [State.takeGrant]; split <;> exact hs
          | host => exact hs
          | scanC => exact hs
          | camera => exact hs
          | scanRl => exact hs
          | scanRr => exact hs
          | load => exact hs
        · exact hs
      · injection h with h; rw [← h]; exact hs
    · injection h with h; rw [← h]; exact hs
  | burstHandoverDone =>
    simp only [exec, execBurstHandoverDone] at h
    split at h <;> (injection h with h; rw [← h]; exact hs)
  | centreBlankEvent =>
    simp only [exec, execCentreBlankEvent] at h
    split at h
    · split at h <;> (injection h with h; rw [← h])
      · rw [State.reportDue_cam, State.setGuide_cam, State.latchFrame_cam, State.setCentre_cam, State.cameraWork_camPhase,
          State.setView_cam, State.adoptStaged_cam]
        exact hs
      · exact hs
    · injection h with h; rw [← h]; exact hs
  | cameraFrameStart e =>
    simp only [exec, execCameraFrameStart, hadv, if_true] at h
    injection h with h; rw [← h]; exact hadv e
  | cameraLineStart =>
    simp only [exec, execCameraLineStart] at h
    (repeat' split at h) <;> (injection h with h; rw [← h]; exact hs)
  | cameraPixel rgb =>
    have hpix : ∀ p w, (s.takePixel p w rgb).cam.phase = s.cam.phase := by
      intro p w; unfold State.takePixel; split <;> rfl
    simp only [exec, execCameraPixel] at h
    split at h
    · split at h <;> (injection h with h; rw [← h])
      · rw [hpix]; exact hs
      · exact hs
    · injection h with h; rw [← h]; exact hs
  | cameraLineEnd =>
    have hend : ∀ p w, (s.endCameraLine p w).cam.phase = s.cam.phase := by
      intro p w; unfold State.endCameraLine; split <;> rfl
    simp only [exec, execCameraLineEnd] at h
    split at h
    · split at h <;> (injection h with h; rw [← h])
      · rw [hend]; exact hs
      · exact hs
    · injection h with h; rw [← h]; exact hs
  | cameraFrameEnd =>
    simp only [exec, execCameraFrameEnd] at h
    (repeat' split at h) <;> (injection h with h; rw [← h])
    · exact hs
    · exact hs
    · rw [State.checkFrame_camPhase]; exact hs
    · exact hs
  | cameraBurstComplete err =>
    simp only [exec, execCameraBurstComplete] at h
    (repeat' split at h) <;> (injection h with h; rw [← h]; exact hs)
  | cameraLoss =>
    simp only [exec, execCameraLoss, hs] at h
    injection h with h; rw [← h]; exact hs
  | _ => exact (congrArg (·.cam.phase) (exec_frame h)).trans hs

/-! ### GUIDE and LINK -/

/-- R121: no build begins while the centre does not run. -/
theorem exec_noBuild {c : Instr} {s t : State} (h : exec c s = .next t) (hrun : s.disp.c.running = false)
    (hs : s.guide.build = none) : t.guide.build = none := by
  have hadv : ∀ n, (s.advance n).guide.build = none := by
    intro n; rw [s.advance_guide]; split <;> exact hs
  cases c with
  | powerOnReset => injection h with h; rw [← h]; rfl
  | clockCheckEnd e =>
    simp only [exec, execClockCheckEnd] at h
    split at h
    · split at h <;> (injection h with h; rw [← h])
      · rw [State.startReferenceBlocks_guide]; exact hadv e
      · exact hadv e
    · injection h with h; rw [← h]; exact hs
  | cameraFrameStart e =>
    simp only [exec, execCameraFrameStart] at h
    split at h <;> (injection h with h; rw [← h]; exact hadv e)
  | centreBlankEvent =>
    simp only [exec, execCentreBlankEvent, hrun] at h
    split at h <;> (injection h with h; rw [← h]; exact hs)
  | centreActiveEvent =>
    simp only [exec, execCentreActiveEvent, hrun] at h
    injection h with h; rw [← h]; exact hs
  | guideBuildComplete =>
    simp only [exec, execGuideBuildComplete, GuideState.completed, hs] at h
    injection h with h; rw [← h]; exact hs
  | _ => exact (congrArg (·.guide.build) (exec_frame h)).trans hs

/-- R143 to R145: a complete frame leaves the assembler and the receiver. -/
theorem State.completeFrame_link (s : State) (bytes : List Byte) :
    (s.completeFrame bytes).link.started = s.link.started ∧ (s.completeFrame bytes).link.held = s.link.held ∧
      (s.completeFrame bytes).link.gap = s.link.gap := by
  unfold State.completeFrame
  generalize (if bytes.getD 1 0 = 1 then LinkKind.steering else .conditions) = k
  dsimp only
  split
  · exact ⟨rfl, rfl, rfl⟩
  · cases k with
    | steering => exact ⟨rfl, rfl, rfl⟩
    | conditions => dsimp only; rw [State.handConditions_link]; exact ⟨rfl, rfl, rfl⟩

theorem State.takeByte_linkStarted (s : State) (b : Byte) : (s.takeByte b).link.started = s.link.started := by
  unfold State.takeByte
  dsimp only
  split
  · split <;> rfl
  · split
    · rfl
    · split
      · split
        · rw [(State.completeFrame_link _ _).1]; rfl
        · rfl
      · rfl

/-- R138: LINK starts at the entry to RUNNING alone. -/
theorem exec_linkStarted {c : Instr} {s t : State} (h : exec c s = .next t) (hreset : c ≠ .powerOnReset)
    (hdefine : c ≠ .cameraRegionDefine) : t.link.started = s.link.started := by
  have hadv : ∀ n, (s.advance n).link.started = s.link.started := by intro n; rw [s.advance_link]
  cases c with
  | powerOnReset => exact absurd rfl hreset
  | cameraRegionDefine => exact absurd rfl hdefine
  | clockCheckEnd e =>
    simp only [exec, execClockCheckEnd] at h
    split at h
    · split at h <;> (injection h with h; rw [← h])
      · rw [State.startReferenceBlocks_link]; exact hadv e
      · exact hadv e
    · injection h with h; rw [← h]
  | cameraFrameStart e =>
    simp only [exec, execCameraFrameStart] at h
    split at h <;> (injection h with h; rw [← h]; exact hadv e)
  | tbTick =>
    simp only [exec, execTbTick] at h
    split at h <;> (injection h with h; rw [← h])
    split <;> rfl
  | linkByteTaken b =>
    simp only [exec, execLinkByteTaken] at h
    split at h <;> (injection h with h; rw [← h])
    rw [State.takeByte_linkStarted]; rfl
  | linkStopBitError =>
    simp only [exec, execLinkStopBitError] at h
    split at h <;> (injection h with h; rw [← h])
    show (if s.link.held.isEmpty then s.link else s.link.discard).started = s.link.started
    split <;> rfl
  | gapTimerExpiry =>
    simp only [exec, execGapTimerExpiry] at h
    split at h <;> (injection h with h; rw [← h]); rfl
  | freshnessTimerExpiry k =>
    simp only [exec, execFreshnessTimerExpiry] at h
    split at h
    · injection h with h; rw [← h]
    · cases k <;> (injection h with h; rw [← h])
      · rfl
      · rw [State.raise_link, State.handConditions_link]; rfl
  | linkStartBit =>
    simp only [exec, execLinkStartBit] at h
    split at h <;> (injection h with h; rw [← h]); rfl
  | _ => exact congrArg (·.link.started) (exec_frame h)

/-! ### The invariant of R1, R2, R185 and R186 -/

/-- No row but the entry to RUNNING starts a display. -/
theorem exec_running {c : Instr} {s t : State} (h : exec c s = .next t) (hreset : c ≠ .powerOnReset)
    (hdefine : c ≠ .cameraRegionDefine) (d : Disp) : (t.face d).running = (s.face d).running := by
  cases c with
  | powerOnReset => exact absurd rfl hreset
  | cameraRegionDefine => exact absurd rfl hdefine
  | hostReset => rcases execHostReset_face h d with e | e <;> rw [e]
  | centreBlankEvent => rcases execCentreBlankEvent_face h d with e | ⟨-, _, _, _, -, -, e⟩ <;> rw [e]
  | rearBlankEvent k => rcases execRearBlankEvent_face k h d with e | ⟨-, _, _, _, -, -, e⟩ <;> rw [e]
  | centreActiveEvent => rcases execCentreActiveEvent_face h d with e | ⟨-, -, e⟩ <;> rw [e]
  | rearActiveEvent k => rcases execRearActiveEvent_face k h d with e | ⟨-, -, e⟩ <;> rw [e]
  | displayLineEnd e => rcases execDisplayLineEnd_face h d with e | ⟨-, _, -, -, e⟩ <;> rw [e]
  | _ => rw [exec_face h rfl]

/-- A timing in range has at least two blank lines (Table 4). -/
theorem DispTiming.drives_blank {tm : DispTiming} {d : Disp} (h : tm.drives d = true) : 2 ≤ tm.vb := by
  simp only [DispTiming.drives, DispTiming.inRange, Bool.and_eq_true, decide_eq_true_eq] at h
  omega

/-- R1: the line of a running display, after a row, is a line of its frame still. -/
theorem exec_line {c : Instr} {s t : State} {d : Disp} {tm : DispTiming} (h : exec c s = .next t)
    (hreset : c ≠ .powerOnReset) (hdefine : c ≠ .cameraRegionDefine) (htm : s.timing d = some tm)
    (hdrives : tm.drives d = true) (hline : (s.face d).line < tm.ha + tm.vb) : (t.face d).line < tm.ha + tm.vb := by
  have hvb := DispTiming.drives_blank hdrives
  cases c with
  | powerOnReset => exact absurd rfl hreset
  | cameraRegionDefine => exact absurd rfl hdefine
  | hostReset => rcases execHostReset_face h d with e | e <;> rw [e] <;> exact hline
  | centreBlankEvent =>
    rcases execCentreBlankEvent_face h d with e | ⟨-, tm', _, _, htm', -, e⟩ <;> rw [e]
    · exact hline
    · rw [htm] at htm'; injection htm' with htm'; subst htm'; dsimp only; omega
  | rearBlankEvent k =>
    rcases execRearBlankEvent_face k h d with e | ⟨-, tm', _, _, htm', -, e⟩ <;> rw [e]
    · exact hline
    · rw [htm] at htm'; injection htm' with htm'; subst htm'; dsimp only; omega
  | centreActiveEvent =>
    rcases execCentreActiveEvent_face h d with e | ⟨-, -, e⟩ <;> rw [e]
    · exact hline
    · dsimp only; omega
  | rearActiveEvent k =>
    rcases execRearActiveEvent_face k h d with e | ⟨-, -, e⟩ <;> rw [e]
    · exact hline
    · dsimp only; omega
  | displayLineEnd e =>
    rcases execDisplayLineEnd_face h d with e | ⟨-, tm', htm', -, e⟩ <;> rw [e]
    · exact hline
    · rw [htm] at htm'; injection htm' with htm'; subst htm'; dsimp only; split <;> omega
  | _ => rw [exec_face h rfl]; exact hline

/-- What `BeforeRunning` says of a machine whose BOOT has not entered RUNNING: no block of the profile's has started. -/
def Dormant (s : State) : Prop :=
  s.boot.profile = none ∧ s.path.cam = none ∧ (∀ d, (s.face d).running = false ∧ (s.guard d).started = false) ∧
    s.cam.phase = .idle ∧ s.guide.build = none ∧ s.link.started = false ∧ s.chime.Silent

theorem beforeRunning_iff {s : State} : BeforeRunning s ↔ (s.boot.startup ≠ .running → Dormant s) := Iff.rfl

/-- A dormant machine stays so at every row but the entry to RUNNING. -/
theorem exec_dormant {c : Instr} {s t : State} (h : exec c s = .next t) (hreset : c ≠ .powerOnReset)
    (hdefine : c ≠ .cameraRegionDefine) (hs : Dormant s) : Dormant t := by
  obtain ⟨hprofile, hcam, hdisp, hphase, hbuild, hlink, hchime⟩ := hs
  refine ⟨(exec_profile h hreset hdefine).trans hprofile, (exec_path h hreset hdefine).1.trans hcam, fun d => ⟨?_, ?_⟩,
    exec_camIdle h hreset hdefine hphase, exec_noBuild h (hdisp .centre).1 hbuild,
    (exec_linkStarted h hreset hdefine).trans hlink, exec_silent h hreset hdefine hprofile hlink hchime⟩
  · rw [exec_running h hreset hdefine]; exact (hdisp d).1
  · rw [exec_started h hreset hdefine]; exact (hdisp d).2

theorem State.powerOn_dormant (pins : Pins) (l : List Instr) : Dormant (State.powerOn pins l) := by
  refine ⟨rfl, rfl, fun d => ?_, rfl, rfl, rfl, rfl, rfl, rfl, rfl, rfl⟩
  rcases d with _ | (_ | _) <;> exact ⟨rfl, rfl⟩

theorem exec_beforeRunning {c : Instr} {s t : State} (hs : BeforeRunning s) (h : exec c s = .next t) :
    BeforeRunning t := by
  refine beforeRunning_iff.mpr fun ht => ?_
  by_cases hreset : c = .powerOnReset
  · subst hreset
    injection h with h
    exact h ▸ State.powerOn_dormant _ _
  · by_cases hdefine : c = .cameraRegionDefine
    · subst hdefine
      rcases execCameraRegionDefine_boot h with e | ⟨-, e⟩
      · exact e ▸ hs (e ▸ ht)
      · exact absurd (by rw [e]) ht
    · refine exec_dormant h hreset hdefine (hs fun hrun => ht ?_)
      rw [exec_boot_running h hreset hrun]; exact hrun

/-- R1, R2: at the entry to RUNNING the displays that run are those the profile drives, at their first blank line. -/
theorem execCameraRegionDefine_lines {s t : State} (hs : LinesSound s) (h : execCameraRegionDefine s = .next t) :
    LinesSound t := by
  intro d hrun
  rcases execCameraRegionDefine_face h d with e | e
  · exact e ▸ hs d (e ▸ hrun)
  · rcases execCameraRegionDefine_boot h with e' | ⟨hstartup, hboot⟩
    · exact e' ▸ hs d (e' ▸ hrun)
    · refine ⟨by rw [hboot], Tri.get (readProfile s.boot.image).disp d, by rw [State.timing, hboot], ?_⟩
      dsimp only at e
      by_cases hdrives : (Tri.get (readProfile s.boot.image).disp d).drives d = true
      · have hvb := DispTiming.drives_blank hdrives
        rw [if_pos hdrives] at e
        have hline : (t.display d).line = _ := congrArg Face.line e
        exact ⟨hdrives, by rw [hline]; dsimp only; omega⟩
      · rw [if_neg hdrives] at e
        have hwas : (s.display d).running = true := (congrArg Face.running e).symm.trans hrun
        rw [(hs d hwas).1] at hstartup
        cases hstartup

theorem exec_lines {c : Instr} {s t : State} (hs : LinesSound s) (h : exec c s = .next t) : LinesSound t := by
  by_cases hreset : c = .powerOnReset
  · subst hreset
    injection h with h
    subst h
    intro d hrun
    have := ((State.powerOn_dormant s.pins s.pending).2.2.1 d).1
    exact absurd (this.symm.trans hrun) (by simp)
  · by_cases hdefine : c = .cameraRegionDefine
    · subst hdefine; exact execCameraRegionDefine_lines hs h
    · intro d hrun
      obtain ⟨hstartup, tm, htm, hdrives, hline⟩ := hs d ((exec_running h hreset hdefine d).symm.trans hrun)
      have hboot := exec_boot_running h hreset hstartup
      exact ⟨by rw [hboot]; exact hstartup, tm, (State.timing_congr hboot d).trans htm, hdrives,
        exec_line h hreset hdefine htm hdrives hline⟩

/-- A reference tick starts nothing and moves no line. -/
theorem State.advance_dormant {s : State} (hs : Dormant s) (n : Nat) : Dormant (s.advance n) := by
  obtain ⟨hprofile, hcam, hdisp, hphase, hbuild, hlink, hchime⟩ := hs
  refine ⟨?_, by rw [State.advance_path]; exact hcam, fun d => by rw [s.advance_face, s.advance_guard]; exact hdisp d,
    by rw [s.advance_cam]; exact hphase, ?_, by rw [s.advance_link]; exact hlink,
    by rw [State.advance_chime]; exact hchime⟩
  · rw [s.advance_boot]; split <;> exact hprofile
  · rw [s.advance_guide]; split <;> exact hbuild

theorem State.advance_startup (s : State) (n : Nat) : (s.advance n).boot.startup = s.boot.startup := by
  rw [s.advance_boot]; split <;> rfl

theorem State.advance_lines {s : State} (hs : LinesSound s) (n : Nat) : LinesSound (s.advance n) := by
  intro d hrun
  have hface := s.advance_face n d
  obtain ⟨hstartup, tm, htm, hdrives, hline⟩ := hs d ((congrArg Face.running hface).symm.trans hrun)
  have hboot : (s.advance n).boot = s.boot := by rw [s.advance_boot, if_neg (by simp [hstartup])]
  refine ⟨by rw [hboot]; exact hstartup, tm, (State.timing_congr hboot d).trans htm, hdrives, ?_⟩
  exact (congrArg Face.line hface).trans_lt hline

/-- Settles O13. -/
theorem stepKeepsStarts : Obligations.StepKeepsStarts := by
  refine ⟨fun s t hs => step_keeps (P := fun s => LinesSound s ∧ BeforeRunning s) (fun _ _ h => h) ?_ ?_ hs,
    fun s t hs => step_keeps (P := BacklightSound) (fun _ _ h => h) ?_ (fun _ _ _ => exec_backlightSound) hs⟩
  · exact fun s ⟨hlines, hbefore⟩ => ⟨s.advance_lines hlines 1,
      fun ht => State.advance_dormant (hbefore (s.advance_startup 1 ▸ ht)) 1⟩
  · exact fun c s t ⟨hlines, hbefore⟩ h => ⟨exec_lines hlines h, exec_beforeRunning hbefore h⟩
  · exact fun s h => h.of_guard (s.advance_guard 1)

end Sys2Proof.Machine
end

section
/-! The bounded counts, timers and lists (R9, R38, R62, R96, R109, R111, R113, R140, R141, R177, R181). O9. -/

namespace Sys2Proof.Machine

open Sys2Proof

/-! ### LOAD's count of timebase ticks (R177) -/

@[simp] theorem LoadState.present_tick16 (l : LoadState) : l.present.tick16 = l.tick16 := by
  unfold LoadState.present
  split
  · rfl
  · dsimp only
    split
    · split <;> rfl
    · rfl

@[simp] theorem LoadState.read_tick16 (l : LoadState) (gen : Word) (scope : Byte) :
    (l.read gen scope).tick16 = l.tick16 := LoadState.present_tick16 _

@[simp] theorem LoadState.restart_tick16 (l : LoadState) (gen : Word) (scope : Byte) :
    (l.restart gen scope).tick16 = l.tick16 := LoadState.read_tick16 _ _ _

@[simp] theorem LoadState.test_tick16 (l : LoadState) : l.test.tick16 = l.tick16 := by
  unfold LoadState.test; split <;> simp

@[simp] theorem LoadState.passOver_tick16 (l : LoadState) : l.passOver.tick16 = l.tick16 := by
  unfold LoadState.passOver; split <;> simp

@[simp] theorem LoadState.burstBack_tick16 (l : LoadState) (r : Reply) : (l.burstBack r).tick16 = l.tick16 := by
  unfold LoadState.burstBack
  rw [LoadState.passOver_tick16]
  split
  · rfl
  · cases r <;> rfl

@[simp] theorem LoadState.rereadBack_tick16 (l : LoadState) (r : Reply) : (l.rereadBack r).tick16 = l.tick16 := by
  unfold LoadState.rereadBack
  cases r with
  | error => exact LoadState.restart_tick16 _ _ _
  | ok data => dsimp only; split <;> simp

@[simp] theorem LoadState.finish_tick16 (l : LoadState) : l.finish.tick16 = l.tick16 := LoadState.test_tick16 _

@[simp] theorem LoadState.granted1_tick16 (l : LoadState) : l.granted1.tick16 = l.tick16 := by
  unfold LoadState.granted1
  rw [LoadState.present_tick16]
  split <;> rfl

@[simp] theorem LoadState.reportBack_tick16 (l : LoadState) (r : Report) (err : Bool) :
    (l.reportBack r err).tick16 = l.tick16 := by
  unfold LoadState.reportBack; dsimp only; split <;> rfl

@[simp] theorem State.raise_tick16 (s : State) (c : Cause) : (s.raise c).load.tick16 = s.load.tick16 := rfl

@[simp] theorem State.reportDue_tick16 (s : State) : s.reportDue.load.tick16 = s.load.tick16 := by
  unfold State.reportDue
  split
  · split
    · rfl
    · exact LoadState.present_tick16 _
  · rfl

@[simp] theorem State.rvcEnter_tick16 (s : State) (r : RvcState) : (s.rvcEnter r).load.tick16 = s.load.tick16 := by
  unfold State.rvcEnter; dsimp only; split <;> rfl

@[simp] theorem State.takeChime_tick16 (s : State) (x : ChimeState × Bool) :
    (s.takeChime x).load.tick16 = s.load.tick16 := by
  unfold State.takeChime; dsimp only; split <;> rfl

@[simp] theorem State.chimeRequest_tick16 (s : State) (src : Source) (pat : Nat) :
    (s.chimeRequest src pat).load.tick16 = s.load.tick16 := s.takeChime_tick16 _

@[simp] theorem State.conditionRise_tick16 (s : State) (k : Nat) : (s.conditionRise k).load.tick16 = s.load.tick16 := by
  unfold State.conditionRise
  split
  · split <;> simp
  · rfl

@[simp] theorem State.handConditions_tick16 (s : State) (old new : BitVec 32) :
    (s.handConditions old new).load.tick16 = s.load.tick16 :=
  (foldl_keeps State.conditionFall (·.load.tick16) (fun _ _ => rfl) _ _).trans
    (foldl_keeps State.conditionRise (·.load.tick16) State.conditionRise_tick16 _ _)

@[simp] theorem State.completeFrame_tick16 (s : State) (bytes : List Byte) :
    (s.completeFrame bytes).load.tick16 = s.load.tick16 := by
  unfold State.completeFrame
  generalize (if bytes.getD 1 0 = 1 then LinkKind.steering else .conditions) = k
  dsimp only
  split
  · rfl
  · cases k with
    | steering => rfl
    | conditions => exact State.handConditions_tick16 _ _ _

@[simp] theorem State.takeByte_tick16 (s : State) (b : Byte) : (s.takeByte b).load.tick16 = s.load.tick16 := by
  unfold State.takeByte
  dsimp only
  split
  · split <;> rfl
  · split
    · rfl
    · split
      · split
        · exact State.completeFrame_tick16 _ _
        · rfl
      · rfl

@[simp] theorem State.reverseChime_tick16 (s : State) : s.reverseChime.load.tick16 = s.load.tick16 := by
  unfold State.reverseChime
  split
  · split <;> simp
  · rfl

@[simp] theorem State.leaveOff_tick16 (s : State) : s.leaveOff.load.tick16 = s.load.tick16 := by
  unfold State.leaveOff
  rw [State.reverseChime_tick16, State.keepWindow_load, State.dropHeld_load, State.rvcEnter_tick16]

@[simp] theorem State.enterOff_tick16 (s : State) : s.enterOff.load.tick16 = s.load.tick16 := by
  unfold State.enterOff
  dsimp only
  rw [State.chimeCancel_load, State.rvcEnter_tick16, State.holdCentre_load]

@[simp] theorem State.beginRelease_tick16 (s : State) : s.beginRelease.load.tick16 = s.load.tick16 := by
  unfold State.beginRelease; split <;> simp

@[simp] theorem State.takeLevel_tick16 (s : State) : s.takeLevel.load.tick16 = s.load.tick16 := by
  unfold State.takeLevel
  split
  · rfl
  · dsimp only
    split
    · unfold State.reverseOn; split <;> simp
    · unfold State.reverseOff; split <;> simp

@[simp] theorem State.blankTransition_tick16 (s : State) (made shown : Bool) :
    (s.blankTransition made shown).load.tick16 = s.load.tick16 := by
  unfold State.blankTransition
  split
  · split <;> simp
  · split <;> simp
  all_goals rfl

@[simp] theorem State.startPwm_tick16 (s : State) (d : Disp) (tm : DispTiming) :
    (s.startPwm d tm).load.tick16 = s.load.tick16 := by
  unfold State.startPwm; dsimp only; split <;> rfl

@[simp] theorem State.startDisplay_tick16 (s : State) (d : Disp) (tm : DispTiming) :
    (s.startDisplay d tm).load.tick16 = s.load.tick16 := by
  unfold State.startDisplay
  split
  · rw [State.startPwm_tick16]; dsimp only; split <;> rfl
  · rfl

@[simp] theorem State.noteUnderrun_tick16 (s : State) (b : Bool) : (s.noteUnderrun b).load.tick16 = s.load.tick16 := by
  unfold State.noteUnderrun; split <;> rfl

theorem State.notice_tick16 (s : State) (n : Notice) : (s.notice n).load.tick16 = s.load.tick16 := by
  cases n with
  | chimeWrite j seqNo action pattern =>
    simp only [State.notice, State.chimeWrite]
    split
    · rfl
    · exact State.takeChime_tick16 _ _
  | generation gen scope => exact LoadState.test_tick16 _
  | acknowledge w => rfl
  | filmPixel i b => simp [State.notice]
  | filmTag i b bytes => simp [State.notice]
  | audioBlock i j e => rfl
  | partialWrite => rfl

@[simp] theorem State.notify_tick16 (s : State) (ns : List Notice) : (s.notify ns).load.tick16 = s.load.tick16 :=
  foldl_keeps State.notice (·.load.tick16) State.notice_tick16 ns s

theorem State.endChecking_tick16 (s : State) : s.endChecking.load.tick16 = s.load.tick16 := by
  unfold State.endChecking
  dsimp only
  refine (LoadState.finish_tick16 _).trans ?_
  split
  · rw [State.acceptLoad_eq]
    show s.handOver.load.tick16 = s.load.tick16
    rw [State.handOver, State.clearLatches_load, State.applyAudio_load, State.stageScenes_load]
    split <;> simp
  · rfl

/-- R177: every row keeps LOAD's count of timebase ticks at 16 at most. -/
theorem exec_tick16 {c : Instr} {s t : State} (h : exec c s = .next t) (hs : s.load.tick16 ≤ 16) :
    t.load.tick16 ≤ 16 := by
  have same : t.load.tick16 = s.load.tick16 → t.load.tick16 ≤ 16 := fun e => e ▸ hs
  cases c with
  | powerOnReset => injection h with h; rw [← h]; exact Nat.zero_le _
  | hostReset =>
    refine same ?_
    simp only [exec, execHostReset] at h
    split at h
    · injection h with h; rw [h]
    · split at h <;> (injection h with h; rw [← h])
      · rfl
      · have e : ∀ u : State, u.applyHostReset.load = u.load.hostReset := by intro u; simp [State.applyHostReset]
        rw [e]; exact LoadState.present_tick16 _
  | clockCheckEnd e =>
    simp only [exec, execClockCheckEnd] at h
    split at h
    · split at h <;> (injection h with h; rw [← h])
      · exact (LoadState.test_tick16 _).trans_le (Nat.zero_le _)
      · rw [State.setBoot_load, State.advance_load]; exact hs
    · injection h with h; rw [← h]; exact hs
  | profileLengthRead a b =>
    simp only [exec, execProfileLengthRead] at h
    (repeat' split at h) <;> (injection h with h; rw [← h]; exact hs)
  | profileReadDone rest =>
    simp only [exec, execProfileReadDone] at h
    (repeat' split at h) <;> first | (injection h with h; rw [← h]; exact hs) | cases h
  | cameraRegionDefine =>
    refine same ?_
    simp only [exec, execCameraRegionDefine] at h
    split at h <;> (injection h with h; rw [← h])
    rw [State.startProfileBlocks_eq, State.setChime_load, State.setLink_load, State.setCam_load, State.startDisplays,
      State.startDisplay_tick16, State.startDisplay_tick16, State.startDisplay_tick16, State.setBoot_load,
      State.defineCamera_load]
  | tbTick =>
    simp only [exec, execTbTick] at h
    split at h <;> (injection h with h; rw [← h])
    · split
      · show s.load.tick16 % 16 + 1 ≤ 16
        omega
      · exact hs
    · exact hs
  | arbGrant =>
    refine same ?_
    simp only [exec, execArbGrant] at h
    split at h
    · split at h
      · split at h <;> (injection h with h; rw [← h])
        rename_i q _ _ b _
        show (s.takeGrant q).load.tick16 = s.load.tick16
        cases q with
        | audio => simp only [State.takeGrant]; split <;> rfl
        | load => exact LoadState.granted1_tick16 _
        | host => rfl
        | scanC => rfl
        | camera => rfl
        | scanRl => rfl
        | scanRr => rfl
      · injection h with h; rw [h]
    · injection h with h; rw [h]
  | hostPieceDrop =>
    simp only [exec, execHostPieceDrop] at h
    (repeat' split at h) <;> (injection h with h; rw [← h]; exact hs)
  | hostPieceComplete r =>
    refine same ?_
    simp only [exec, execHostPieceComplete] at h
    (repeat' split at h) <;> first | (injection h with h; rw [← h]) | cases h
    · exact State.notify_tick16 _ _
    all_goals rfl
  | loadReadBurstComplete r =>
    have hback : ∀ u : State, (u.setLoad (u.load.burstBack r)).load.tick16 = u.load.tick16 :=
      fun u => LoadState.burstBack_tick16 _ _
    refine same ?_
    simp only [exec, execLoadReadBurstComplete] at h
    (repeat' split at h) <;> first | (injection h with h; rw [← h]) | cases h
    · exact hback _
    · exact hback _
    all_goals rfl
  | loadRereadComplete r =>
    have hback : ∀ u : State, (u.setLoad (u.load.rereadBack r)).load.tick16 = u.load.tick16 :=
      fun u => LoadState.rereadBack_tick16 _ _
    refine same ?_
    simp only [exec, execLoadRereadComplete] at h
    (repeat' split at h) <;> first | (injection h with h; rw [← h]) | cases h
    · exact hback _
    · exact hback _
    all_goals rfl
  | loadCheck =>
    refine same ?_
    simp only [exec, execLoadCheck] at h
    split at h <;> (injection h with h; rw [← h])
    exact s.endChecking_tick16
  | reportTick =>
    simp only [exec, execReportTick] at h
    split at h <;> (injection h with h; rw [← h])
    · rw [State.reportDue_tick16]
      show s.load.tick16 % 16 ≤ 16
      omega
    · exact hs
  | reportBurstComplete err =>
    refine same ?_
    simp only [exec, execReportBurstComplete] at h
    (repeat' split at h) <;> (injection h with h; rw [← h])
    · exact LoadState.reportBack_tick16 _ _ _
    · exact LoadState.reportBack_tick16 _ _ _
  | centreBlankEvent =>
    refine same ?_
    simp only [exec, execCentreBlankEvent] at h
    split at h
    · split at h <;> (injection h with h; rw [← h])
      rw [State.reportDue_tick16, State.setGuide_load, State.latchFrame_load, State.setCentre_load, State.cameraWork,
        State.blankTransition_tick16, State.setCam_load, State.setView_load, State.adoptStaged_load]
      rfl
    · injection h with h; rw [h]
  | backlightFault d =>
    simp only [exec, execBacklightFault] at h
    (repeat' split at h) <;> (injection h with h; rw [← h]; exact hs)
  | blockBoundary =>
    refine same ?_
    simp only [exec, execBlockBoundary] at h
    split at h <;> (injection h with h; rw [← h])
    rw [State.noteUnderrun_tick16, State.noteUnderrun_tick16]
    rfl
  | chimeStepEnd => injection h with h; rw [← h]; exact (s.takeChime_tick16 _).trans_le hs
  | revinChange =>
    refine same ?_
    simp only [exec, execRevinChange] at h
    split at h
    · split at h <;> (injection h with h; rw [← h])
      · exact State.takeLevel_tick16 _
      · rfl
    · injection h with h; rw [← h]; rfl
  | debounceExpiry =>
    refine same ?_
    simp only [exec, execDebounceExpiry] at h
    split at h <;> (injection h with h; rw [← h])
    exact s.takeLevel_tick16
  | engageTimerExpiry =>
    refine same ?_
    simp only [exec, execEngageTimerExpiry] at h
    split at h
    · split at h <;> (injection h with h; rw [← h])
      · exact State.rvcEnter_tick16 _ _
      · rfl
    · injection h with h; rw [h]
  | freezeTimerExpiry =>
    refine same ?_
    simp only [exec, execFreezeTimerExpiry] at h
    split at h
    · split at h <;> (injection h with h; rw [← h])
      · exact State.rvcEnter_tick16 _ _
      · rfl
    · injection h with h; rw [h]
  | releaseTimerExpiry =>
    refine same ?_
    simp only [exec, execReleaseTimerExpiry] at h
    split at h
    · split at h <;> (injection h with h; rw [← h])
      · exact s.enterOff_tick16
      · rfl
    · injection h with h; rw [h]
  | linkByteTaken b =>
    refine same ?_
    simp only [exec, execLinkByteTaken] at h
    split at h <;> (injection h with h; rw [← h])
    exact State.takeByte_tick16 _ _
  | freshnessTimerExpiry k =>
    refine same ?_
    simp only [exec, execFreshnessTimerExpiry] at h
    split at h
    · injection h with h; rw [h]
    · cases k <;> (injection h with h; rw [← h])
      · rfl
      · exact (State.raise_tick16 _ _).trans (State.handConditions_tick16 _ _ _)
  | _ => exact same (congrArg (·.load.tick16) (exec_frame h))

/-! ### The starvation counts (R62) -/

/-- The two starvation counts. -/
def State.starvation (s : State) : Nat × Nat := (s.arb.hostCount, s.arb.loadCount)

theorem State.starvation_congr {s t : State} (h : t.arb = s.arb) : t.starvation = s.starvation := by
  unfold State.starvation; rw [h]

theorem State.applyStream_starvation (s : State) (k : Seat) (x : StreamRecord) :
    (s.applyStream k x).starvation = s.starvation := by
  unfold State.applyStream
  dsimp only
  (repeat' split) <;> rfl

theorem State.loseRing_starvation (s : State) (k : Seat) (gone : Nat → Bool) :
    (s.loseRing k gone).starvation = s.starvation := by
  unfold State.loseRing
  split
  · rfl
  · split <;> rfl

theorem State.handOver_starvation (s : State) : s.handOver.starvation = s.starvation := by
  unfold State.handOver
  dsimp only
  rw [State.starvation_congr (State.clearLatches_arb _)]
  have e : ∀ (u : State) (x : AudioRecord), (u.applyAudio x).starvation = u.starvation := by
    intro u x
    refine (State.starvation_congr (t := u.applyAudio x) (s := (u.applyStream .left x.streams.l).applyStream .right
      x.streams.r) rfl).trans ?_
    rw [State.applyStream_starvation, State.applyStream_starvation]
  rw [e, State.starvation_congr (State.stageScenes_arb _ _)]
  split
  · exact State.starvation_congr (State.swapTable_arb _ _)
  · rfl

theorem State.checkFrame_starvation (s : State) (p : CameraProfile) (w : Writing) :
    (s.checkFrame p w).starvation = s.starvation := by
  unfold State.checkFrame
  split
  · rfl
  · split <;> rfl

/-- R62: a grant counts up to the limits, and nothing else raises a starvation count. -/
theorem exec_starvation {c : Instr} {s t : State} (h : exec c s = .next t)
    (hs : s.arb.hostCount ≤ 8 ∧ s.arb.loadCount ≤ 64) : t.arb.hostCount ≤ 8 ∧ t.arb.loadCount ≤ 64 := by
  have same : t.starvation = s.starvation → t.arb.hostCount ≤ 8 ∧ t.arb.loadCount ≤ 64 := by
    intro e
    obtain ⟨e1, e2⟩ := Prod.mk.inj e
    exact e1 ▸ e2 ▸ hs
  cases c with
  | powerOnReset => injection h with h; rw [← h]; exact ⟨Nat.zero_le _, Nat.zero_le _⟩
  | hostReset =>
    simp only [exec, execHostReset] at h
    split at h
    · injection h with h; rw [← h]; exact hs
    · split at h <;> (injection h with h; rw [← h])
      · exact hs
      · have e : ∀ u : State, u.applyHostReset.arb = u.arb.hostReset := by intro u; simp [State.applyHostReset]
        rw [e]; exact ⟨Nat.zero_le _, Nat.zero_le _⟩
  | cameraRegionDefine =>
    refine same ?_
    simp only [exec, execCameraRegionDefine] at h
    split at h <;> (injection h with h; rw [← h])
    refine (State.starvation_congr (State.startProfileBlocks_arb _ _)).trans ?_
    unfold State.defineCamera
    dsimp only
    rw [State.loseRing_starvation, State.loseRing_starvation]
    exact State.starvation_congr (State.tableChanged_arb _ _ _)
  | arbGrant =>
    simp only [exec, execArbGrant] at h
    split at h
    · split at h
      · split at h <;> (injection h with h; rw [← h])
        · exact ⟨starved_le _ _ _ _, starved_le _ _ _ _⟩
        · exact hs
      · injection h with h; rw [← h]; exact hs
    · injection h with h; rw [← h]; exact hs
  | burstHandoverDone =>
    refine same ?_
    simp only [exec, execBurstHandoverDone] at h
    split at h <;> (injection h with h; subst h; rfl)
  | hostPieceComplete r =>
    refine same ?_
    simp only [exec, execHostPieceComplete] at h
    (repeat' split at h) <;> first | (injection h with h; rw [← h]) | cases h
    · rw [State.starvation_congr (State.notify_arb _ _)]; rfl
    all_goals rfl
  | loadReadBurstComplete r =>
    refine same ?_
    simp only [exec, execLoadReadBurstComplete] at h
    (repeat' split at h) <;> first | (injection h with h; subst h; rfl) | cases h
  | loadRereadComplete r =>
    refine same ?_
    simp only [exec, execLoadRereadComplete] at h
    (repeat' split at h) <;> first | (injection h with h; subst h; rfl) | cases h
  | loadCheck =>
    refine same ?_
    simp only [exec, execLoadCheck] at h
    split at h <;> (injection h with h; rw [← h])
    obtain ⟨l, e | e⟩ := s.endChecking_cases <;> rw [e]
    · exact s.handOver_starvation
    · rfl
  | reportBurstComplete err =>
    refine same ?_
    simp only [exec, execReportBurstComplete] at h
    (repeat' split at h) <;> (injection h with h; subst h; rfl)
  | scanBurstComplete d r =>
    refine same ?_
    simp only [exec, execScanBurstComplete] at h
    (repeat' split at h) <;> first | (injection h with h; rw [← h]) | cases h
    rw [State.starvation_congr (State.refill_arb _ _), State.starvation_congr (State.scanBack_arb _ _ _ _)]; rfl
  | audioBurstComplete r =>
    refine same ?_
    simp only [exec, execAudioBurstComplete] at h
    (repeat' split at h) <;> first | (injection h with h; subst h; rfl) | cases h
  | cameraLineStart =>
    refine same ?_
    simp only [exec, execCameraLineStart] at h
    (repeat' split at h) <;> (injection h with h; subst h; rfl)
  | cameraPixel rgb =>
    have e : ∀ p w, (s.takePixel p w rgb).starvation = s.starvation := by
      intro p w; unfold State.takePixel; split <;> rfl
    refine same ?_
    simp only [exec, execCameraPixel] at h
    split at h
    · split at h <;> (injection h with h; rw [← h])
      exact e _ _
    · injection h with h; rw [h]
  | cameraLineEnd =>
    have e : ∀ p w, (s.endCameraLine p w).starvation = s.starvation := by
      intro p w; unfold State.endCameraLine; split <;> rfl
    refine same ?_
    simp only [exec, execCameraLineEnd] at h
    split at h
    · split at h <;> (injection h with h; rw [← h])
      exact e _ _
    · injection h with h; rw [h]
  | cameraFrameEnd =>
    refine same ?_
    simp only [exec, execCameraFrameEnd] at h
    (repeat' split at h) <;> (injection h with h; rw [← h])
    · rfl
    · exact State.checkFrame_starvation _ _ _
  | cameraBurstComplete err =>
    refine same ?_
    simp only [exec, execCameraBurstComplete] at h
    (repeat' split at h) <;> (injection h with h; subst h; rfl)
  | _ => exact same (State.starvation_congr (congrArg (·.arb) (exec_frame h)))

/-! ### The pressure record (R9) -/

/-- R9: the count of urgent lines and the calm count stay within their limits. -/
def CentreState.Bounded (c : CentreState) : Prop := c.urgentLines ≤ 4 ∧ c.calm ≤ 120

theorem State.noteUrgent_bounded {s : State} (h : s.centre.Bounded) : s.noteUrgent.centre.Bounded := by
  unfold State.noteUrgent
  split
  · exact ⟨Nat.min_le_right _ _, h.2⟩
  · exact h

theorem State.refill_bounded {s : State} (h : s.centre.Bounded) (d : Disp) : (s.refill d).centre.Bounded := by
  refine State.noteUrgent_bounded ?_
  rw [State.refetch_centre]; exact h

theorem CentreState.closeFrame_bounded {c : CentreState} (h : c.Bounded) (ends : Bool) : (c.closeFrame ends).Bounded := by
  refine ⟨Nat.zero_le _, ?_⟩
  unfold CentreState.closeFrame
  dsimp only
  split
  · split
    · exact Nat.zero_le _
    · exact Nat.min_le_right _ _
  · exact h.2

theorem State.startDisplay_bounded {s : State} (h : s.centre.Bounded) (d : Disp) (tm : DispTiming) :
    (s.startDisplay d tm).centre.Bounded := by
  unfold State.startDisplay
  split
  · rw [State.startPwm_centre]
    dsimp only
    split
    · exact ⟨h.1, Nat.zero_le _⟩
    · exact h
  · exact h

theorem State.takeLevel_bounded {s : State} (h : s.centre.Bounded) : s.takeLevel.centre.Bounded := by
  have leave : ∀ u : State, u.centre = s.centre → u.leaveOff.centre.Bounded := by
    intro u hu
    unfold State.leaveOff
    rw [State.reverseChime_centre]
    unfold State.keepWindow
    split
    · show u.centre.Bounded
      rw [hu]; exact h
    · rw [State.dropHeld_centre, State.rvcEnter_centre, hu]; exact h
  unfold State.takeLevel
  split
  · exact h
  · dsimp only
    split
    · unfold State.reverseOn
      split
      · exact leave _ rfl
      · rw [State.rvcEnter_centre]; exact h
      all_goals exact h
    · rw [State.reverseOff_centre]; exact h

theorem exec_bounded {c : Instr} {s t : State} (h : exec c s = .next t) (hs : s.centre.Bounded) : t.centre.Bounded := by
  cases c with
  | powerOnReset => injection h with h; rw [← h]; exact ⟨Nat.zero_le _, Nat.le_refl _⟩
  | cameraRegionDefine =>
    simp only [exec, execCameraRegionDefine] at h
    split at h <;> (injection h with h; rw [← h])
    · rw [State.startProfileBlocks_eq, State.setChime_centre, State.setLink_centre, State.setCam_centre]
      refine State.startDisplay_bounded (State.startDisplay_bounded (State.startDisplay_bounded ?_ _ _) _ _) _ _
      rw [State.setBoot_centre, State.defineCamera_centre]; exact hs
    · exact hs
  | centreBlankEvent =>
    simp only [exec, execCentreBlankEvent] at h
    split at h
    · split at h <;> (injection h with h; rw [← h])
      · rw [State.reportDue_centre, State.setGuide_centre]
        refine State.refill_bounded (CentreState.closeFrame_bounded ?_ _) _
        rw [State.cameraWork_centre]
        have view : ∀ u : State, u.centre.Bounded → u.setView.centre.Bounded := fun _ h => h
        refine view _ ?_
        rw [State.adoptStaged_centre]
        exact hs
      · exact hs
    · injection h with h; rw [← h]; exact hs
  | centreActiveEvent =>
    simp only [exec, execCentreActiveEvent] at h
    split at h <;> (injection h with h; rw [← h])
    · exact State.noteUrgent_bounded hs
    · exact hs
  | rearBlankEvent k =>
    simp only [exec, execRearBlankEvent] at h
    split at h
    · split at h <;> (injection h with h; rw [← h])
      · refine State.refill_bounded ?_ _
        rw [State.setDisplay_centre, State.selectFilm_centre, State.decideQuality_centre, State.adoptStaged_centre]
        exact hs
      · exact hs
    · injection h with h; rw [← h]; exact hs
  | displayLineEnd d =>
    simp only [exec, execDisplayLineEnd] at h
    split at h
    · split at h <;> (injection h with h; rw [← h])
      · refine State.refill_bounded ?_ _
        split <;> exact hs
      · exact hs
    · injection h with h; rw [← h]; exact hs
  | layerUnderrun d l col =>
    simp only [exec] at h
    by_cases hcol : col < 1920
    · cases hm : s.meetsUnderrun d l col with
      | false => rw [execLayerUnderrun_none hcol hm] at h; injection h with h; rw [← h]; exact hs
      | true =>
        rw [execLayerUnderrun_eq hcol hm] at h
        injection h with h
        rw [← h]
        refine State.refill_bounded ?_ _
        unfold State.markUnderrun; split <;> exact hs
    · rw [execLayerUnderrun, if_neg hcol] at h; cases h
  | scanBurstComplete d r =>
    simp only [exec, execScanBurstComplete] at h
    (repeat' split at h) <;> first | (injection h with h; rw [← h]) | cases h
    · refine State.refill_bounded ?_ _
      rw [State.scanBack_centre]; exact hs
    all_goals exact hs
  | revinChange =>
    simp only [exec, execRevinChange] at h
    split at h
    · split at h <;> (injection h with h; rw [← h])
      · exact State.takeLevel_bounded hs
      · exact hs
    · injection h with h; rw [← h]; exact hs
  | debounceExpiry =>
    simp only [exec, execDebounceExpiry] at h
    split at h <;> (injection h with h; rw [← h])
    · exact State.takeLevel_bounded hs
    · exact hs
  | _ => rw [congrArg (·.centre) (exec_frame h)]; exact hs

/-! ### The duck gain (R96) and the reference count (R181) -/

theorem State.duckTarget_le (s : State) : s.duckTarget ≤ 256 := by
  unfold State.duckTarget; dsimp only; (repeat' split) <;> omega

/-- R96: the gain stays between 0 and 256. -/
theorem exec_gain {c : Instr} {s t : State} (h : exec c s = .next t) (hs : s.mix.gain ≤ 256) : t.mix.gain ≤ 256 := by
  cases c with
  | powerOnReset => injection h with h; rw [← h]; exact Nat.le_refl _
  | hostReset =>
    simp only [exec, execHostReset] at h
    split at h
    · injection h with h; rw [← h]; exact hs
    · split at h <;> (injection h with h; rw [← h])
      · exact hs
      · have e : ∀ u : State, u.applyHostReset.mix = u.mix.hostReset := by intro u; simp [State.applyHostReset]
        rw [e]; exact hs
  | loadCheck =>
    simp only [exec, execLoadCheck] at h
    split at h <;> (injection h with h; rw [← h])
    · obtain ⟨l, e | e⟩ := s.endChecking_cases <;> rw [e]
      · have e : s.handOver.mix.gain = s.mix.gain := by
          rw [State.handOver, State.clearLatches_mix]
          refine (congrArg MixState.gain ((State.applyStream_mix _ _ _).trans (State.applyStream_mix _ _ _))).trans ?_
          rw [State.stageScenes_mix]
          split
          · rw [State.swapTable_mix]
          · rfl
        exact e.trans_le hs
      · exact hs
    · exact hs
  | outputFrame =>
    simp only [exec, execOutputFrame] at h
    split at h <;> (injection h with h; rw [← h]; exact hs)
  | duckStep =>
    have htarget := s.duckTarget_le
    simp only [exec, execDuckStep] at h
    split at h <;> (injection h with h; rw [← h])
    · show Machine.duckStep s.mix.gain s.duckTarget ≤ 256
      unfold Machine.duckStep
      split
      · omega
      · split <;> omega
    · exact hs
  | _ => rw [congrArg (·.mix) (exec_frame h)]; exact hs

theorem State.advance_clkCount {s : State} (hs : s.boot.clkCount ≤ 8191) (n : Nat) :
    (s.advance n).boot.clkCount ≤ 8191 := by
  rw [s.advance_boot]
  split
  · exact Nat.min_le_right _ _
  · exact hs

/-- R181: the running reference count saturates at 8191. -/
theorem exec_clkCount {c : Instr} {s t : State} (h : exec c s = .next t) (hs : s.boot.clkCount ≤ 8191) :
    t.boot.clkCount ≤ 8191 := by
  cases c with
  | powerOnReset => injection h with h; rw [← h]; exact Nat.zero_le _
  | cameraRegionDefine =>
    rcases execCameraRegionDefine_boot h with e | ⟨-, e⟩ <;> rw [e] <;> exact hs
  | pornRelease b =>
    simp only [exec, execPornRelease] at h
    split at h <;> (injection h with h; rw [← h])
    · exact Nat.zero_le _
    · exact hs
  | clockCheckEnd e =>
    simp only [exec, execClockCheckEnd] at h
    split at h
    · split at h <;> (injection h with h; rw [← h])
      · rw [State.startReferenceBlocks_boot]; exact Nat.zero_le _
      · exact Nat.zero_le _
    · injection h with h; rw [← h]; exact hs
  | profileLengthRead a b =>
    simp only [exec, execProfileLengthRead] at h
    (repeat' split at h) <;> (injection h with h; rw [← h]; exact hs)
  | profileReadDone rest =>
    simp only [exec, execProfileReadDone] at h
    (repeat' split at h) <;> first | (injection h with h; rw [← h]; exact hs) | cases h
  | cameraFrameStart e =>
    simp only [exec, execCameraFrameStart] at h
    split at h <;> (injection h with h; rw [← h]; exact State.advance_clkCount hs e)
  | _ => rw [congrArg (·.boot) (exec_frame h)]; exact hs

/-! ### The RVC timers (R109, R111, R113) -/

/-- The engage timer runs only in ENGAGING, the release timer only in RELEASING. -/
def RvcState.Timed (r : RvcState) : Prop :=
  (r.engage.isSome = true → r.phase = .engaging) ∧ (r.release.isSome = true → r.phase = .releasing)

theorem RvcState.Timed.of_stopped {r : RvcState} (h1 : r.engage = none) (h2 : r.release = none) : r.Timed := by
  unfold RvcState.Timed; rw [h1, h2]; exact ⟨nofun, nofun⟩

/-- Out of RELEASING the release timer is stopped. -/
theorem RvcState.Timed.release_none {r : RvcState} (h : r.Timed) (hp : r.phase ≠ .releasing) : r.release = none := by
  cases hr : r.release with
  | none => rfl
  | some n => exact absurd (h.2 (by rw [hr]; rfl)) hp

/-- Out of ENGAGING the engage timer is stopped. -/
theorem RvcState.Timed.engage_none {r : RvcState} (h : r.Timed) (hp : r.phase ≠ .engaging) : r.engage = none := by
  cases hr : r.engage with
  | none => rfl
  | some n => exact absurd (h.1 (by rw [hr]; rfl)) hp

@[simp] theorem State.rvcEnter_rvc (s : State) (r : RvcState) : (s.rvcEnter r).rvc = r := by
  unfold State.rvcEnter; dsimp only; split <;> rfl

theorem State.leaveOff_rvc (s : State) :
    s.leaveOff.rvc = { s.rvc with phase := .engaging, engage := some s.engageTime } := by
  unfold State.leaveOff
  rw [State.reverseChime_rvc, State.keepWindow_rvc, State.dropHeld_rvc, State.rvcEnter_rvc]

theorem State.enterOff_rvc (s : State) : s.enterOff.rvc = { s.rvc with phase := .off, engage := none, release := none } := by
  unfold State.enterOff
  dsimp only
  rw [State.chimeCancel_rvc, State.rvcEnter_rvc, State.holdCentre_rvc]

theorem State.beginRelease_timed (s : State) : s.beginRelease.rvc.Timed := by
  unfold State.beginRelease
  split
  · rw [State.enterOff_rvc]; exact .of_stopped rfl rfl
  · rw [State.rvcEnter_rvc]; exact ⟨nofun, fun _ => rfl⟩

theorem State.reverseOn_timed {s : State} (h : s.rvc.Timed) : s.reverseOn.rvc.Timed := by
  unfold State.reverseOn
  split
  · rename_i hp
    rw [State.leaveOff_rvc]
    have := h.release_none (by rw [hp]; simp)
    exact ⟨fun _ => rfl, fun hr => by simp [this] at hr⟩
  · rename_i hp
    rw [State.rvcEnter_rvc]
    exact .of_stopped (h.engage_none (by rw [hp]; simp)) rfl
  all_goals exact h

theorem State.reverseOff_timed {s : State} (h : s.rvc.Timed) : s.reverseOff.rvc.Timed := by
  unfold State.reverseOff
  split
  · exact h
  · exact h
  all_goals exact s.beginRelease_timed

theorem State.takeLevel_timed {s : State} (h : s.rvc.Timed) : s.takeLevel.rvc.Timed := by
  unfold State.takeLevel
  split
  · exact h
  · dsimp only
    split
    · exact State.reverseOn_timed h
    · exact State.reverseOff_timed h

theorem State.blankTransition_timed {s : State} (h : s.rvc.Timed) (made shown : Bool) :
    (s.blankTransition made shown).rvc.Timed := by
  unfold State.blankTransition
  split
  · rename_i hp
    split
    · rw [State.rvcEnter_rvc]; exact .of_stopped rfl (h.release_none (by rw [hp]; simp))
    · exact h
  · rename_i hp
    split
    · rw [State.rvcEnter_rvc]
      exact .of_stopped (h.engage_none (by rw [hp]; simp)) (h.release_none (by rw [hp]; simp))
    · exact h
  all_goals exact h

theorem RvcState.Timed.tick {r : RvcState} (h : r.Timed) : r.tick.Timed := by
  have same : ∀ o : Option Nat, (timerTick o).isSome = o.isSome := fun o => Option.isSome_map
  exact ⟨fun e => h.1 ((same _).symm.trans e), fun e => h.2 ((same _).symm.trans e)⟩

theorem exec_timed {c : Instr} {s t : State} (h : exec c s = .next t) (hs : s.rvc.Timed) : t.rvc.Timed := by
  cases c with
  | powerOnReset => injection h with h; rw [← h]; exact .of_stopped rfl rfl
  | clockCheckEnd e =>
    simp only [exec, execClockCheckEnd] at h
    split at h
    · split at h <;> (injection h with h; rw [← h])
      · exact .of_stopped rfl rfl
      · rw [State.setBoot_rvc, State.advance_rvc]; exact hs
    · injection h with h; rw [← h]; exact hs
  | tbTick =>
    simp only [exec, execTbTick] at h
    split at h <;> (injection h with h; rw [← h])
    · split <;> exact hs.tick
    · exact hs
  | centreBlankEvent =>
    simp only [exec, execCentreBlankEvent] at h
    split at h
    · split at h <;> (injection h with h; rw [← h])
      · rw [State.reportDue_rvc, State.setGuide_rvc, State.latchFrame_rvc, State.setCentre_rvc]
        refine State.blankTransition_timed ?_ _ _
        rw [State.setCam_rvc, State.setView_rvc, State.adoptStaged_rvc]; exact hs
      · exact hs
    · injection h with h; rw [← h]; exact hs
  | cameraFrameEnd =>
    have e : ∀ p w, (s.checkFrame p w).rvc.Timed := by
      intro p w
      unfold State.checkFrame
      split
      · exact hs
      · split <;> exact hs
    simp only [exec, execCameraFrameEnd] at h
    (repeat' split at h) <;> (injection h with h; rw [← h])
    · exact hs
    · exact hs
    · exact e _ _
    · exact hs
  | cameraBurstComplete err =>
    simp only [exec, execCameraBurstComplete] at h
    (repeat' split at h) <;> (injection h with h; rw [← h]; exact hs)
  | revinChange =>
    simp only [exec, execRevinChange] at h
    split at h
    · split at h <;> (injection h with h; rw [← h])
      · exact State.takeLevel_timed hs
      · exact hs
    · injection h with h; rw [← h]; exact hs
  | debounceExpiry =>
    simp only [exec, execDebounceExpiry] at h
    split at h <;> (injection h with h; rw [← h])
    · exact State.takeLevel_timed hs
    · exact hs
  | engageTimerExpiry =>
    simp only [exec, execEngageTimerExpiry] at h
    split at h
    · split at h <;> (injection h with h; rw [← h])
      · rename_i hp
        rw [State.rvcEnter_rvc]; exact .of_stopped rfl (hs.release_none (by rw [hp]; simp))
      · exact ⟨fun h => (by cases h), hs.2⟩
    · injection h with h; rw [← h]; exact hs
  | freezeTimerExpiry =>
    simp only [exec, execFreezeTimerExpiry] at h
    split at h
    · split at h <;> (injection h with h; rw [← h])
      · rename_i hp
        rw [State.rvcEnter_rvc]
        exact .of_stopped (hs.engage_none (by rw [hp]; simp)) (hs.release_none (by rw [hp]; simp))
      · exact hs
    · injection h with h; rw [← h]; exact hs
  | releaseTimerExpiry =>
    simp only [exec, execReleaseTimerExpiry] at h
    split at h
    · split at h <;> (injection h with h; rw [← h])
      · rw [State.enterOff_rvc]; exact .of_stopped rfl rfl
      · exact ⟨hs.1, fun h => by cases h⟩
    · injection h with h; rw [← h]; exact hs
  | _ => rw [congrArg (·.rvc) (exec_frame h)]; exact hs

/-! ### The assembler (R140, R141) -/

/-- The assembler holds at most 7 bytes from the start marker on; the gap timer runs only while it holds some. -/
def LinkState.Assembles (l : LinkState) : Prop :=
  l.held.length ≤ 7 ∧ (∀ b, l.held.head? = some b → b = 0x5A) ∧ (l.gap.isSome = true → l.held ≠ [])

/-- An assembler without bytes, its gap timer stopped. -/
theorem LinkState.Assembles.empty {l : LinkState} (h1 : l.held = []) (h2 : l.gap = none) : l.Assembles := by
  unfold LinkState.Assembles
  rw [h1, h2]
  exact ⟨Nat.zero_le _, fun _ h => (by cases h), fun h => (by cases h)⟩

/-- What does not touch the bytes and at most stops the gap timer leaves the assembler sound. -/
theorem LinkState.Assembles.of_held {l m : LinkState} (h : l.Assembles) (h1 : m.held = l.held)
    (h2 : m.gap.isSome = true → l.gap.isSome = true) : m.Assembles := by
  unfold LinkState.Assembles
  rw [h1]
  exact ⟨h.1, h.2.1, fun hm => h.2.2 (h2 hm)⟩

/-- R140: a byte begins a frame, joins it, completes it or discards it. -/
theorem State.takeByte_assembles {s : State} (h : s.link.Assembles) (b : Byte) : (s.takeByte b).link.Assembles := by
  obtain ⟨hlen, hhead, hgap⟩ := h
  unfold State.takeByte
  dsimp only
  split
  · split
    · rename_i hb
      refine ⟨by simp, fun c hc => ?_, fun _ => by simp⟩
      injection hc with hc
      rw [← hc, hb]; rfl
    · exact ⟨hlen, hhead, hgap⟩
  · rename_i hne
    split
    · exact .empty rfl rfl
    · split
      · split
        · obtain ⟨-, hheld, hgap'⟩ := State.completeFrame_link
            (s.setLink { s.link with held := [], gap := none }) (s.link.held ++ [b])
          exact .empty hheld hgap'
        · exact .empty rfl rfl
      · refine ⟨?_, fun c hc => ?_, fun _ => by simp⟩
        · show (s.link.held ++ [b]).length ≤ 7
          rw [List.length_append]
          simp only [List.length_cons, List.length_nil]
          omega
        · refine hhead c ?_
          cases hl : s.link.held with
          | nil => simp [hl] at hne
          | cons x xs => simpa [hl] using hc

theorem State.advance_assembles {s : State} (h : s.link.Assembles) (n : Nat) : (s.advance n).link.Assembles := by
  rw [s.advance_link]
  exact h.of_held rfl fun hg => by simpa using hg

theorem exec_assembles {c : Instr} {s t : State} (h : exec c s = .next t) (hs : s.link.Assembles) :
    t.link.Assembles := by
  cases c with
  | powerOnReset => injection h with h; rw [← h]; exact .empty rfl rfl
  | clockCheckEnd e =>
    simp only [exec, execClockCheckEnd] at h
    split at h
    · split at h <;> (injection h with h; rw [← h])
      · rw [State.startReferenceBlocks_link]; exact State.advance_assembles hs e
      · exact State.advance_assembles hs e
    · injection h with h; rw [← h]; exact hs
  | cameraRegionDefine =>
    simp only [exec, execCameraRegionDefine] at h
    split at h <;> (injection h with h; rw [← h])
    · rw [State.startProfileBlocks_eq, State.setChime_link, State.setLink_link]
      refine LinkState.Assembles.of_held (l := s.link) hs ?_ ?_ <;> simp [State.startDisplays]
    · exact hs
  | tbTick =>
    simp only [exec, execTbTick] at h
    split at h <;> (injection h with h; rw [← h])
    · split <;> exact hs.of_held rfl id
    · exact hs
  | cameraFrameStart e =>
    simp only [exec, execCameraFrameStart] at h
    split at h <;> (injection h with h; rw [← h]; exact State.advance_assembles hs e)
  | linkByteTaken b =>
    simp only [exec, execLinkByteTaken] at h
    split at h <;> (injection h with h; rw [← h])
    · exact State.takeByte_assembles (s := s.setLink { s.link with rx := .watching }) (hs.of_held rfl id) b
    · exact hs
  | linkStopBitError =>
    simp only [exec, execLinkStopBitError] at h
    split at h <;> (injection h with h; rw [← h])
    · split
      · exact hs.of_held rfl id
      · exact .empty rfl rfl
    · exact hs
  | gapTimerExpiry =>
    simp only [exec, execGapTimerExpiry] at h
    split at h <;> (injection h with h; rw [← h])
    · exact .empty rfl rfl
    · exact hs
  | freshnessTimerExpiry k =>
    simp only [exec, execFreshnessTimerExpiry] at h
    split at h
    · injection h with h; rw [← h]; exact hs
    · cases k <;> (injection h with h; rw [← h])
      · exact hs.of_held rfl id
      · rw [State.raise_link, State.handConditions_link]; exact hs.of_held rfl id
  | linkStartBit =>
    simp only [exec, execLinkStartBit] at h
    split at h <;> (injection h with h; rw [← h])
    · exact hs.of_held rfl fun h => by cases h
    · exact hs
  | _ => rw [congrArg (·.link) (exec_frame h)]; exact hs

/-! ### All bounds together -/

/-- R38: the queue keeps within its eight entries at every row. -/
theorem exec_queue {c : Instr} {s t : State} (h : exec c s = .next t) (hs : s.path.queue.length ≤ 8) :
    t.path.queue.length ≤ 8 := by
  by_cases hreset : c = .powerOnReset
  · subst hreset; injection h with h; rw [← h]; exact Nat.zero_le _
  · by_cases hdefine : c = .cameraRegionDefine
    · subst hdefine
      simp only [exec, execCameraRegionDefine] at h
      split at h <;> (injection h with h; rw [← h])
      · rw [State.startProfileBlocks_path]
        have e : ∀ x, (s.defineCamera x).path.queue = s.path.queue := by intro x; simp [State.defineCamera]
        rw [e]; exact hs
      · exact hs
    · exact (exec_path h hreset hdefine).2 hs

theorem exec_bounds {c : Instr} {s t : State} (h : exec c s = .next t) (hs : BoundsHold s) : BoundsHold t := by
  obtain ⟨hhost, hload, hlines, hcalm, hgain, hqueue, hclk, htick⟩ := hs
  obtain ⟨hhost', hload'⟩ := exec_starvation h ⟨hhost, hload⟩
  obtain ⟨hlines', hcalm'⟩ := exec_bounded h ⟨hlines, hcalm⟩
  exact ⟨hhost', hload', hlines', hcalm', exec_gain h hgain, exec_queue h hqueue, exec_clkCount h hclk,
    exec_tick16 h htick⟩

theorem State.advance_bounds {s : State} (hs : BoundsHold s) (n : Nat) : BoundsHold (s.advance n) := by
  obtain ⟨hhost, hload, hlines, hcalm, hgain, hqueue, hclk, htick⟩ := hs
  have hclk' := State.advance_clkCount hclk n
  unfold BoundsHold
  rw [State.advance_arb, State.advance_centre, State.advance_mix, State.advance_path, State.advance_load]
  exact ⟨hhost, hload, hlines, hcalm, hgain, hqueue, hclk', htick⟩

/-- Settles O9. -/
theorem stepKeepsBounds : Obligations.StepKeepsBounds := by
  intro s t hs
  refine step_keeps (P := fun s => BoundsHold s ∧ RvcTimersSound s ∧ LinkSound s) (fun _ _ h => h) ?_ ?_ hs
  · rintro s ⟨hbounds, htimers, hlink⟩
    refine ⟨State.advance_bounds hbounds 1, ?_, State.advance_assembles hlink 1⟩
    unfold RvcTimersSound
    rw [State.advance_rvc]; exact htimers
  · exact fun c s t ⟨hbounds, htimers, hlink⟩ h => ⟨exec_bounds h hbounds, exec_timed h htimers, exec_assembles h hlink⟩

end Sys2Proof.Machine
end

section
/-! PROOFS. The scan-out engines: what retiring, dropping a request and freeing a layer make of the buffers and of the
request, what an engine of the machine going on fetching leaves, and the end of a display line (R9, R22, R32, R35, R36). -/

namespace Sys2Proof.Machine

open Sys2Proof

/-! ### A dropped request -/

@[simp] theorem Display.dropReq_buf (x : Display) (t quiet : ScanReq → Bool) (l : LayerId) :
    (x.dropReq t quiet).buf l = x.buf l := by
  rw [Display.dropReq_eq]; cases l <;> rfl

/-- A granted request is marked, one only presented is withdrawn (R35). -/
theorem Display.dropReq_req_pos {x : Display} {t quiet : ScanReq → Bool} {q : ScanReq} (hq : x.req = some q)
    (ht : t q = true) :
    (x.dropReq t quiet).req =
      if q.granted = true then some { q with live := false, counted := q.counted && !quiet q } else none := by
  simp [Display.dropReq, hq, ht]

theorem Display.dropReq_req_neg {x : Display} {t quiet : ScanReq → Bool} {q : ScanReq} (hq : x.req = some q)
    (ht : t q = false) : (x.dropReq t quiet).req = some q := by
  simp [Display.dropReq, hq, ht]

theorem Display.dropReq_req_none {x : Display} {t quiet : ScanReq → Bool} (hq : x.req = none) :
    (x.dropReq t quiet).req = none := by
  simp [Display.dropReq, hq]

/-! ### A freed layer, retired rows -/

theorem Display.freeLayer_buf_self (x : Display) (l : LayerId) (quiet : Bool) :
    (x.freeLayer l quiet).buf l = LayerBuf.empty := Display.setBuf_buf_self _ _ _

theorem Display.freeLayer_buf_ne (x : Display) {l m : LayerId} (quiet : Bool) (h : m ≠ l) :
    (x.freeLayer l quiet).buf m = x.buf m := by
  rw [Display.freeLayer, Display.setBuf_buf_ne _ _ h, Display.dropReq_buf]

@[simp] theorem Display.setBuf_req (x : Display) (l : LayerId) (b : LayerBuf) : (x.setBuf l b).req = x.req := by
  cases l <;> rfl

@[simp] theorem Display.freeLayer_req (x : Display) (l : LayerId) (quiet : Bool) :
    (x.freeLayer l quiet).req = (x.dropReq (fun q => q.layer == l) (fun _ => quiet)).req := Display.setBuf_req _ _ _

/-- A display whose finished rows are retired in the three layers, before its request is looked at (R32). -/
def Display.retireBufs (x : Display) (line : Nat) : Display :=
  { x with base := x.base.retire line, ov0 := x.ov0.retire line, ov1 := x.ov1.retire line }

theorem Display.retire_def (x : Display) (line : Nat) :
    x.retire line =
      (x.retireBufs line).dropReq (x.retireBufs line).reqRetired (fun q => q.live && x.reqStopped q) := rfl

theorem Display.retireBufs_buf (x : Display) (line : Nat) (l : LayerId) :
    (x.retireBufs line).buf l = (x.buf l).retire line := by cases l <;> rfl

@[simp] theorem Display.retire_buf (x : Display) (line : Nat) (l : LayerId) :
    (x.retire line).buf l = (x.buf l).retire line := by
  rw [Display.retire_def, Display.dropReq_buf, Display.retireBufs_buf]

theorem LayerBuf.retire_slot {b : LayerBuf} {i line : Nat} {k : LineSlot} (hk : b.slots[i]? = some k) :
    (b.retire line).slots[i]? = some (if k.phase ≠ .free ∧ k.last ≤ line then LineSlot.empty else k) := by
  simp [LayerBuf.retire, hk]

/-- Whether the row of a request retires, for a slot that holds one. -/
theorem Display.retireBufs_reqRetired {x : Display} {line : Nat} {q : ScanReq} {k : LineSlot}
    (hk : (x.buf q.layer).slots[q.slot]? = some k) (hf : k.phase ≠ .free) :
    (x.retireBufs line).reqRetired q = decide (k.last ≤ line) := by
  rw [Display.reqRetired, Display.retireBufs_buf, List.getD_eq_getElem?_getD, LayerBuf.retire_slot hk]
  by_cases h : k.last ≤ line <;> simp [h, hf, LineSlot.empty]

theorem Display.reqStopped_of {x : Display} {q : ScanReq} {k : LineSlot} (hk : (x.buf q.layer).slots[q.slot]? = some k) :
    x.reqStopped q = k.stopped := by
  simp [Display.reqStopped, hk]

/-- R32, R36: the request of a row that retires is dropped, and an error on it counted unless an underrun had stopped
the row; that of another is left. -/
theorem Display.retire_req_retired {x : Display} {line : Nat} {q : ScanReq} {k : LineSlot} (hq : x.req = some q)
    (hg : q.granted = true) (hk : (x.buf q.layer).slots[q.slot]? = some k) (hf : k.phase ≠ .free) (hl : k.last ≤ line) :
    (x.retire line).req = some { q with live := false, counted := q.counted && !(q.live && k.stopped) } := by
  have ht : (x.retireBufs line).reqRetired q = true := by rw [Display.retireBufs_reqRetired hk hf]; exact decide_eq_true hl
  rw [Display.retire_def, Display.dropReq_req_pos (x := x.retireBufs line) hq ht, if_pos hg, Display.reqStopped_of hk]

theorem Display.retire_req_kept {x : Display} {line : Nat} {q : ScanReq} {k : LineSlot} (hq : x.req = some q)
    (hk : (x.buf q.layer).slots[q.slot]? = some k) (hf : k.phase ≠ .free) (hl : line < k.last) :
    (x.retire line).req = some q := by
  refine Display.dropReq_req_neg hq ?_
  exact (Display.retireBufs_reqRetired hk hf).trans (decide_eq_false (Nat.not_le.mpr hl))

/-- A request on a row that no underrun has stopped: retiring at most marks its data as not wanted (R36). -/
theorem Display.retire_req_unstopped {x : Display} {line : Nat} {q : ScanReq} {k : LineSlot} (hq : x.req = some q)
    (hg : q.granted = true) (hk : (x.buf q.layer).slots[q.slot]? = some k) (hs : k.stopped = false) :
    ∃ live, (x.retire line).req = some { q with live := live } := by
  cases ht : (x.retireBufs line).reqRetired q with
  | false => exact ⟨q.live, Display.dropReq_req_neg hq ht⟩
  | true =>
    refine ⟨false, (Display.dropReq_req_pos (x := x.retireBufs line) hq ht).trans ?_⟩
    simp [hg, Display.reqStopped_of hk, hs]

/-! ### A line's end -/

theorem Display.endWithdrawn_of {x : Display} (h : x.withdraw = false) : x.endWithdrawn = x := by
  simp [Display.endWithdrawn, h]

theorem Display.endWithdrawn_pos {x : Display} (h : x.withdraw = true) :
    x.endWithdrawn =
      { x.freeLayer .base false with
        frame := x.frame.map (fun fr => { fr with film := none }), withdraw := false } := by
  rw [Display.endWithdrawn, if_pos h]

theorem Display.endWithdrawn_buf_base {x : Display} (h : x.withdraw = true) : x.endWithdrawn.buf .base = LayerBuf.empty := by
  rw [Display.endWithdrawn_pos h]; rfl

theorem Display.endWithdrawn_buf {x : Display} {l : LayerId} (h : ¬(x.withdraw = true ∧ l = .base)) :
    x.endWithdrawn.buf l = x.buf l := by
  cases hw : x.withdraw with
  | false => rw [Display.endWithdrawn_of hw]
  | true =>
    have hl : l ≠ .base := fun hl => h ⟨hw, hl⟩
    rw [Display.endWithdrawn_pos hw]
    have := x.freeLayer_buf_ne false hl
    cases l <;> exact this

/-- R22: the request of another layer, or of a base that is not withdrawn, stays at the line's end. -/
theorem Display.endWithdrawn_req_kept {x : Display} {q : ScanReq} (hq : x.req = some q)
    (h : ¬(x.withdraw = true ∧ q.layer = .base)) : x.endWithdrawn.req = some q := by
  cases hw : x.withdraw with
  | false => rw [Display.endWithdrawn_of hw]; exact hq
  | true =>
    rw [Display.endWithdrawn_pos hw]
    refine (Display.freeLayer_req _ _ _).trans (Display.dropReq_req_neg hq ?_)
    simpa using fun hl => h ⟨hw, hl⟩

/-- R22: the granted burst of a base withdrawn will be discarded, and an error on it is counted as it was. -/
theorem Display.endWithdrawn_req_dropped {x : Display} {q : ScanReq} (hq : x.req = some q) (hg : q.granted = true)
    (hw : x.withdraw = true) (hl : q.layer = .base) : x.endWithdrawn.req = some { q with live := false } := by
  rw [Display.endWithdrawn_pos hw]
  refine (Display.freeLayer_req _ _ _).trans ((Display.dropReq_req_pos hq (by simp [hl])).trans ?_)
  simp [hg]

/-- A request whose data will not be wanted anyhow is left as it is where its layer is withdrawn. -/
theorem Display.endWithdrawn_req_dead {x : Display} {q : ScanReq} (hq : x.req = some q) (hg : q.granted = true)
    (hd : q.live = false) : x.endWithdrawn.req = some q := by
  by_cases h : x.withdraw = true ∧ q.layer = .base
  · rw [Display.endWithdrawn_req_dropped hq hg h.1 h.2]; cases q; cases hd; rfl
  · exact Display.endWithdrawn_req_kept hq h

/-- The fields that retiring rows leaves. -/
theorem Display.retire_eq (x : Display) (line : Nat) :
    x.retire line =
      { x with base := (x.retire line).base, ov0 := (x.retire line).ov0, ov1 := (x.retire line).ov1,
               req := (x.retire line).req } := by
  rw [Display.retire, Display.dropReq_eq]

theorem Display.freeLayer_eq (x : Display) (l : LayerId) (quiet : Bool) :
    x.freeLayer l quiet =
      { x with base := (x.freeLayer l quiet).base, ov0 := (x.freeLayer l quiet).ov0, ov1 := (x.freeLayer l quiet).ov1,
               req := (x.freeLayer l quiet).req } := by
  rw [Display.freeLayer, Display.dropReq_eq]; cases l <;> rfl

theorem Display.endWithdrawn_eq (x : Display) :
    x.endWithdrawn =
      { x with base := x.endWithdrawn.base, ov0 := x.endWithdrawn.ov0, ov1 := x.endWithdrawn.ov1,
               req := x.endWithdrawn.req, withdraw := false,
               frame := if x.withdraw = true then x.frame.map (fun fr => { fr with film := none }) else x.frame } := by
  cases hw : x.withdraw with
  | false => rw [Display.endWithdrawn_of hw]; cases x; cases hw; rfl
  | true => rw [Display.endWithdrawn_pos hw, Display.freeLayer_eq, if_pos rfl]

/-- A display whose line's rows have been retired, if it is an active line. -/
def Display.retireLine (x : Display) (t : DispTiming) : Display := if x.line < t.ha then x.retire x.line else x

theorem Display.retireLine_eq (x : Display) (t : DispTiming) :
    x.retireLine t =
      { x with base := (x.retireLine t).base, ov0 := (x.retireLine t).ov0, ov1 := (x.retireLine t).ov1,
               req := (x.retireLine t).req } := by
  unfold Display.retireLine; split
  · exact x.retire_eq _
  · rfl

theorem Display.retireLine_buf (x : Display) (t : DispTiming) (l : LayerId) :
    (x.retireLine t).buf l = if x.line < t.ha then (x.buf l).retire x.line else x.buf l := by
  unfold Display.retireLine; split <;> simp

theorem Display.retireLine_withdraw (x : Display) (t : DispTiming) : (x.retireLine t).withdraw = x.withdraw := by
  rw [Display.retireLine_eq]

theorem Display.endLine_eq (x : Display) (t : DispTiming) :
    x.endLine t =
      { (x.retireLine t).endWithdrawn with
        line := if x.line + 1 < t.ha + t.vb then x.line + 1 else 0, lineClk := 0, lineCounted := false, kept := none } :=
  rfl

theorem Display.endLine_req (x : Display) (t : DispTiming) : (x.endLine t).req = (x.retireLine t).endWithdrawn.req := rfl

/-- R1, R22: what a line's end leaves of a display but its buffers and its request. -/
theorem Display.endLine_fields (x : Display) (t : DispTiming) :
    x.endLine t =
      { x with
        line := if x.line + 1 < t.ha + t.vb then x.line + 1 else 0, lineClk := 0,
        lineCounted := false, withdraw := false, kept := none,
        frame := if x.withdraw = true then x.frame.map (fun fr => { fr with film := none }) else x.frame,
        base := (x.endLine t).base, ov0 := (x.endLine t).ov0, ov1 := (x.endLine t).ov1, req := (x.endLine t).req } := by
  rw [Display.endLine_eq, Display.endWithdrawn_eq, Display.retireLine_eq]

theorem Display.endLine_buf {x : Display} (t : DispTiming) {l : LayerId} (h : ¬(x.withdraw = true ∧ l = .base)) :
    (x.endLine t).buf l = if x.line < t.ha then (x.buf l).retire x.line else x.buf l := by
  rw [← x.retireLine_buf t l, ← Display.endWithdrawn_buf (x := x.retireLine t) (by rwa [x.retireLine_withdraw])]
  cases l <;> rfl

theorem Display.endLine_buf_base {x : Display} (t : DispTiming) (h : x.withdraw = true) :
    (x.endLine t).buf .base = LayerBuf.empty :=
  Display.endWithdrawn_buf_base (x := x.retireLine t) (by rwa [x.retireLine_withdraw])

/-! ### An engine of the machine going on fetching -/

theorem Display.refill_frame (x : Display) (view : LayerId → Option LayerView) : (x.refill view).frame = x.frame := by
  rw [(x.refill_spec view).1]

theorem State.layer_congr {s t : State} {d : Disp} (hb : t.boot = s.boot) (hf : (t.display d).frame = (s.display d).frame)
    (l : LayerId) : t.layer d l = s.layer d l := by
  unfold State.layer; rw [hb, hf]

theorem State.refill_layer (s : State) (d : Disp) (l : LayerId) : (s.refill d).layer d l = s.layer d l :=
  State.layer_congr (s.refill_boot d) (by rw [s.display_refill_self, Display.refill_frame]) l

/-- R9: the urgency is noted after the engine has gone on fetching. -/
theorem State.refill_counts (s : State) (d : Disp) : CountsUrgentLine s.centre (s.refill d) :=
  (s.refetch d).noteUrgent_counts

theorem State.refill_frame (s : State) (d : Disp) :
    s.refill d = { s with disp := (s.refill d).disp, centre := (s.refill d).centre } := by
  rw [State.ext_fields]; simp

/-! ### DISPLAY_LINE_END -/

/-- R9: the end of a centre line begins a new line period of the pressure record. -/
def State.beginPeriod (s : State) (d : Disp) : State :=
  if d = .centre then s.setCentre { s.centre with lineUrgent := false } else s

theorem State.beginPeriod_eq (s : State) (d : Disp) : s.beginPeriod d = { s with centre := (s.beginPeriod d).centre } := by
  unfold State.beginPeriod; split <;> rfl

theorem State.beginPeriod_centre (s : State) (d : Disp) :
    (s.beginPeriod d).centre = if d = .centre then { s.centre with lineUrgent := false } else s.centre := by
  unfold State.beginPeriod; split <;> rfl

/-- The state in which the engine goes on fetching at a line's end. -/
def State.lineEnded (s : State) (d : Disp) (tm : DispTiming) : State :=
  (s.setDisplay d ((s.display d).endLine tm)).beginPeriod d

theorem execDisplayLineEnd_eq {d : Disp} {s : State} {tm : DispTiming} (ht : s.timing d = some tm)
    (hr : (s.display d).running = true) : execDisplayLineEnd d s = .next ((s.lineEnded d tm).refill d) := by
  unfold execDisplayLineEnd
  rw [ht]
  exact if_pos hr

theorem State.lineEnded_eq (s : State) (d : Disp) (tm : DispTiming) :
    s.lineEnded d tm = { s with disp := Tri.set s.disp d ((s.display d).endLine tm), centre := (s.lineEnded d tm).centre } :=
  (State.beginPeriod_eq _ _).trans rfl

theorem State.lineEnded_centre (s : State) (d : Disp) (tm : DispTiming) :
    (s.lineEnded d tm).centre = if d = .centre then { s.centre with lineUrgent := false } else s.centre :=
  State.beginPeriod_centre _ _

theorem State.lineEnded_self (s : State) (d : Disp) (tm : DispTiming) :
    (s.lineEnded d tm).display d = (s.display d).endLine tm := by
  rw [State.lineEnded_eq]; exact Tri.get_set_self _ _ _

theorem State.lineEnded_ne (s : State) {d e : Disp} (tm : DispTiming) (h : e ≠ d) :
    (s.lineEnded d tm).display e = s.display e := by
  rw [State.lineEnded_eq]; exact Tri.get_set_ne _ _ h

/-- R32: the free slots and those of rows shown for the last time are reassigned at a line's end. -/
theorem LayerBuf.retire_reassigned {b b' : LayerBuf} {view : Option LayerView} {active : Prop} [Decidable active] {line : Nat}
    (h : (if active then b.retire line else b).Reassigned b' view (fun k => k.phase == .free) id) :
    b.Reassigned b' view (fun k => k.phase == .free || (decide active && decide (k.last ≤ line))) id := by
  by_cases ha : active
  · rw [if_pos ha] at h
    refine LayerBuf.Reassigned.of_map (b1 := b.retire line) rfl rfl (fun k => ?_) (fun k hk => ?_) h
    · by_cases hf : k.phase = .free <;> by_cases hl : k.last ≤ line <;> simp [hf, hl, ha, LineSlot.empty]
    · simp only [ha, decide_true, Bool.true_and, Bool.or_eq_false_iff] at hk
      simp [hk.2]
  · rw [if_neg ha] at h
    simpa [ha] using h

/-- R32, R36: of the request of a row that retires at the end of its line. -/
theorem Display.endLine_req_retired {x : Display} {tm : DispTiming} {q : ScanReq} {k : LineSlot} (hq : x.req = some q)
    (hg : q.granted = true) (hk : (x.buf q.layer).slots[q.slot]? = some k) (hline : x.line < tm.ha) (hf : k.phase ≠ .free)
    (hl : k.last ≤ x.line) :
    (x.endLine tm).req = some { q with live := false, counted := q.counted && !(q.live && k.stopped) } := by
  rw [Display.endLine_req]
  refine Display.endWithdrawn_req_dead (q := { q with live := false, counted := q.counted && !(q.live && k.stopped) })
    ?_ hg rfl
  rw [Display.retireLine, if_pos hline]
  exact Display.retire_req_retired hq hg hk hf hl

/-- R22, R36: of the request of a film base withdrawn. -/
theorem Display.endLine_req_withdrawn {x : Display} {tm : DispTiming} {q : ScanReq} {k : LineSlot} (hq : x.req = some q)
    (hg : q.granted = true) (hk : (x.buf q.layer).slots[q.slot]? = some k) (hw : x.withdraw = true) (hb : q.layer = .base)
    (hs : k.stopped = false) : (x.endLine tm).req = some { q with live := false } := by
  rw [Display.endLine_req]
  have hr : ∃ live, (x.retireLine tm).req = some { q with live := live } := by
    unfold Display.retireLine; split
    · exact Display.retire_req_unstopped hq hg hk hs
    · exact ⟨q.live, hq⟩
  obtain ⟨live, hr⟩ := hr
  exact Display.endWithdrawn_req_dropped (q := { q with live := live }) hr hg (by rwa [x.retireLine_withdraw]) hb

/-- R32: a request for a row that is still to be shown is left. -/
theorem Display.endLine_req_kept {x : Display} {tm : DispTiming} {q : ScanReq} {k : LineSlot} (hq : x.req = some q)
    (hk : (x.buf q.layer).slots[q.slot]? = some k) (hf : k.phase ≠ .free) (hl : x.line < tm.ha → x.line < k.last)
    (hw : ¬(x.withdraw = true ∧ q.layer = .base)) : (x.endLine tm).req = some q := by
  rw [Display.endLine_req]
  refine Display.endWithdrawn_req_kept ?_ (by rwa [x.retireLine_withdraw])
  unfold Display.retireLine; split
  · rename_i h; exact Display.retire_req_kept hq hk hf (hl h)
  · exact hq

/-- R22: a rear display whose film base is withdrawn fetches no base in the frame it goes on with. -/
theorem layerOf_rear_noFilm (p : Profile) (k : Seat) (fr : FrameRecord) :
    layerOf p (.rear k) { fr with film := none } .base = none := by
  simp only [layerOf, filmView]
  split <;> simp_all

theorem State.lineEnded_noBase {s : State} {d : Disp} (tm : DispTiming) (hw : (s.display d).withdraw = true)
    (hd : d ≠ .centre) : (s.lineEnded d tm).layer d .base = none := by
  have hf : ((s.lineEnded d tm).display d).frame = (s.display d).frame.map (fun fr => { fr with film := none }) := by
    rw [State.lineEnded_self, Display.endLine_fields, if_pos hw]
  unfold State.layer
  rw [hf]
  cases d with
  | centre => exact absurd rfl hd
  | rear k =>
    cases (s.lineEnded (.rear k) tm).boot.profile <;> cases (s.display (.rear k)).frame <;>
      simp [layerOf_rear_noFilm]

/-- A base freed and not fetched stays free while the engine goes on. -/
theorem Display.refill_base_empty {x : Display} {view : LayerId → Option LayerView} (hb : x.buf .base = LayerBuf.empty)
    (hv : view .base = none) : (x.refill view).buf .base = LayerBuf.empty := by
  have hb' : x.base = LayerBuf.empty := hb
  let z : Display :=
    { x with base := x.base.refill (view .base), ov0 := x.ov0.refill (view .ov0), ov1 := x.ov1.refill (view .ov1) }
  have hz : z.buf .base = LayerBuf.empty := by
    show x.base.refill (view .base) = _
    rw [hv, hb']; rfl
  rcases z.choose_spec view with ⟨e, -⟩ | ⟨l, w, i, k, -, hw, -, -, -, -, e⟩
  · exact (congrArg (·.buf .base) e).trans hz
  · have hl : (.base : LayerId) ≠ l := by rintro rfl; rw [hv] at hw; cases hw
    refine (congrArg (·.buf .base) e).trans ?_
    exact (z.setBuf_buf_ne _ hl).trans hz

/-- Settles O41: the line's end acts on the display alone, and the engine's going on fetching keeps the request there is
and gives the slots that are free then to the rows needed next. -/
theorem lineEndTaken : Obligations.LineEndTaken := by
  intro d s tm ht hr
  have spec := ((s.display d).endLine tm).refill_spec ((s.lineEnded d tm).layer d)
  have hself : ((s.lineEnded d tm).refill d).display d =
      ((s.display d).endLine tm).refill ((s.lineEnded d tm).layer d) := by
    rw [State.display_refill_self, State.lineEnded_self]
  rw [← hself] at spec
  obtain ⟨hfields, hbufs, hreq, -, -⟩ := spec
  refine ⟨(s.lineEnded d tm).refill d, execDisplayLineEnd_eq ht hr, ?_, fun e he => ?_, ?_, ?_, ?_,
    fun q k hq hg hk => ⟨fun hline hf hl => hreq _ (Display.endLine_req_retired hq hg hk hline hf hl),
      fun hw hb hs => hreq _ (Display.endLine_req_withdrawn hq hg hk hw hb hs)⟩,
    fun q k hq hk hf hl hw => hreq _ (Display.endLine_req_kept hq hk hf hl hw), fun l hl => ?_, fun hw hd => ?_⟩
  · rw [State.refill_frame, State.lineEnded_eq]
  · rw [State.display_refill_ne _ he, State.lineEnded_ne _ _ he]
  · rw [← State.lineEnded_centre s d tm]; exact State.refill_counts _ _
  · rw [hfields, Display.endLine_fields]
  · rw [hfields, Display.endLine_fields]
  · obtain ⟨hunder, hslots, -⟩ := hbufs l
    rw [Display.endLine_buf tm hl] at hunder hslots
    refine ⟨hunder.trans (by split <;> rfl), ?_⟩
    rw [State.refill_layer]
    exact LayerBuf.retire_reassigned hslots
  · rw [hself]
    exact Display.refill_base_empty (Display.endLine_buf_base tm hw) (State.lineEnded_noBase tm hw hd)

end Sys2Proof.Machine
end

section
/-! PROOFS. An underrun of a layer: what it stops, withdraws and counts (R9, R32, R33, R35). -/

namespace Sys2Proof.Machine

open Sys2Proof

/-! ### The display where a layer underruns -/

theorem LineSlot.shows_iff {k : LineSlot} {y : Nat} :
    k.shows y = true ↔ k.phase ≠ .free ∧ k.first ≤ y ∧ y ≤ k.last := by
  simp [LineSlot.shows]

/-- R35: a slot shown on the line of an underrun is stopped. -/
def LineSlot.stopOn (k : LineSlot) (line : Nat) : LineSlot := if k.shows line = true then { k with stopped := true } else k

theorem LineSlot.stopOn_phase (k : LineSlot) (line : Nat) : (k.stopOn line).phase = k.phase := by
  unfold LineSlot.stopOn; split <;> rfl

theorem LayerBuf.stop_slots (b : LayerBuf) (line : Nat) : (b.stop line).slots = b.slots.map (·.stopOn line) := rfl

theorem Display.underrun_buf_self (x : Display) (l : LayerId) (col : Nat) :
    (x.underrun l col).buf l = { (x.buf l).stop x.line with under := some col } := by
  rw [← Display.setBuf_buf_self x l { (x.buf l).stop x.line with under := some col }]
  exact Display.dropReq_buf _ _ _ l

theorem Display.underrun_buf_ne (x : Display) {l m : LayerId} (col : Nat) (h : m ≠ l) :
    (x.underrun l col).buf m = x.buf m := by
  rw [← Display.setBuf_buf_ne x { (x.buf l).stop x.line with under := some col } h]
  exact Display.dropReq_buf _ _ _ m

/-- The fields an underrun leaves of the display. -/
theorem Display.underrun_fields (x : Display) (l : LayerId) (col : Nat) :
    x.underrun l col =
      { x with
        base := (x.underrun l col).base, ov0 := (x.underrun l col).ov0, ov1 := (x.underrun l col).ov1,
        req := (x.underrun l col).req, lineCounted := true,
        underruns := if x.lineCounted = true then x.underruns else min (x.underruns + 1) 65535 } := by
  unfold Display.underrun
  dsimp only
  rw [Display.dropReq_eq]
  cases l <;> rfl

/-- R35: the request for the row shown on the line of an underrun of layer `l` that has not been granted. -/
def Display.Withdraws (x : Display) (l : LayerId) (q : ScanReq) : Prop :=
  q.granted = false ∧ q.layer = l ∧ ∃ k, (x.buf l).slots[q.slot]? = some k ∧ k.shows x.line = true

theorem Display.underrun_test_iff (x : Display) (l : LayerId) (q : ScanReq) :
    (q.layer == l && !q.granted && ((x.buf l).slots.getD q.slot LineSlot.empty).shows x.line) = true ↔
      x.Withdraws l q := by
  unfold Display.Withdraws
  cases hk : (x.buf l).slots[q.slot]? with
  | none => simp [hk, LineSlot.shows, LineSlot.empty]
  | some k => simp [hk, and_assoc, and_left_comm]

theorem Display.underrun_req_withdrawn {x : Display} {l : LayerId} {q : ScanReq} (col : Nat) (hq : x.req = some q)
    (h : x.Withdraws l q) : (x.underrun l col).req = none := by
  refine (Display.dropReq_req_pos (q := q) (by simpa using hq) ((x.underrun_test_iff l q).mpr h)).trans ?_
  simp [h.1]

theorem Display.underrun_req_kept {x : Display} {l : LayerId} {q : ScanReq} (col : Nat) (hq : x.req = some q)
    (h : ¬x.Withdraws l q) : (x.underrun l col).req = some q :=
  Display.dropReq_req_neg (q := q) (by simpa using hq)
    (Bool.eq_false_iff.mpr (mt (x.underrun_test_iff l q).mp h))

theorem Display.underrun_req_none {x : Display} (l : LayerId) (col : Nat) (hq : x.req = none) :
    (x.underrun l col).req = none :=
  Display.dropReq_req_none (by simpa using hq)

theorem Display.underrun_req_le {x : Display} {l : LayerId} {col : Nat} {q : ScanReq}
    (h : (x.underrun l col).req = some q) : x.req = some q := by
  cases hq : x.req with
  | none => rw [Display.underrun_req_none l col hq] at h; cases h
  | some r =>
    by_cases hw : x.Withdraws l r
    · rw [Display.underrun_req_withdrawn col hq hw] at h; cases h
    · rw [Display.underrun_req_kept col hq hw] at h; exact h

/-! ### What the scan meets -/

/-- R21: a layer is clipped to the active area. -/
theorem layerOf_rect_le {p : Profile} {d : Disp} {fr : FrameRecord} {l : LayerId} {v : LayerView}
    (h : layerOf p d fr l = some v) : v.rect.x1 ≤ (Tri.get p.disp d).wa ∧ v.rect.y1 ≤ (Tri.get p.disp d).ha := by
  have clip : ∀ (t : DispTiming) (x y w h : Nat), (clipRect t x y w h).x1 ≤ t.wa ∧ (clipRect t x y w h).y1 ≤ t.ha :=
    fun t x y w h => ⟨Nat.min_le_right _ _, Nat.min_le_right _ _⟩
  have film : filmView (Tri.get p.disp d) fr = some v →
      v.rect.x1 ≤ (Tri.get p.disp d).wa ∧ v.rect.y1 ≤ (Tri.get p.disp d).ha := by
    intro h
    unfold filmView at h
    split at h
    · injection h with h; subst h; exact clip _ _ _ _ _
    · cases h
  have host : hostBaseView (Tri.get p.disp d) fr = some v →
      v.rect.x1 ≤ (Tri.get p.disp d).wa ∧ v.rect.y1 ≤ (Tri.get p.disp d).ha := by
    intro h
    unfold hostBaseView at h
    split at h
    · injection h with h; subst h; exact clip _ _ _ _ _
    · cases h
  have camera : cameraView (Tri.get p.disp d) p.cam fr = some v →
      v.rect.x1 ≤ (Tri.get p.disp d).wa ∧ v.rect.y1 ≤ (Tri.get p.disp d).ha := by
    intro h
    unfold cameraView at h
    split at h
    · injection h with h; subst h; exact clip _ _ _ _ _
    · cases h
    · cases h
  have overlay : ∀ drawn window,
      overlayView (Tri.get p.disp d) fr.content (fr.overlay l) (fr.overlayGeom l) drawn window = some v →
      v.rect.x1 ≤ (Tri.get p.disp d).wa ∧ v.rect.y1 ≤ (Tri.get p.disp d).ha := by
    intro drawn window h
    unfold overlayView at h
    split at h
    · split at h
      · injection h with h; subst h; exact clip _ _ _ _ _
      · cases h
    · cases h
  unfold layerOf at h
  dsimp only at h
  split at h
  · split at h
    · exact host h
    · exact camera h
  · exact film h
  · split at h
    · exact overlay _ _ h
    · exact overlay _ _ h
  · exact overlay _ _ h

theorem State.layer_some {s : State} {d : Disp} {l : LayerId} {v : LayerView} (h : s.layer d l = some v) :
    ∃ p fr, s.boot.profile = some p ∧ (s.display d).frame = some fr ∧ layerOf p d fr l = some v := by
  unfold State.layer at h
  split at h
  · rename_i p fr hp hf; exact ⟨p, fr, hp, hf, h⟩
  · cases h

/-- The underrun begins on an active line of a running display. -/
theorem State.meetsUnderrun_line {s : State} {d : Disp} {l : LayerId} {col : Nat} (h : s.meetsUnderrun d l col = true) :
    ∃ tm, s.timing d = some tm ∧ (s.display d).running = true ∧ (s.display d).line < tm.ha := by
  unfold State.meetsUnderrun at h
  dsimp only at h
  split at h
  · cases h
  · rename_i v hv
    obtain ⟨p, fr, hp, -, hl⟩ := State.layer_some hv
    simp only [Bool.and_eq_true] at h
    obtain ⟨⟨⟨⟨⟨⟨hr, hh⟩, -⟩, -⟩, -⟩, -⟩, -⟩ := h
    refine ⟨Tri.get p.disp d, by simp [State.timing, hp], hr, ?_⟩
    have := (layerOf_rect_le hl).2
    have := of_decide_eq_true hh
    omega

/-! ### LAYER_UNDERRUN -/

theorem State.markUnderrun_eq (s : State) (d : Disp) :
    s.markUnderrun d = { s with centre := if d = .centre then { s.centre with underrunFlag := true } else s.centre } := by
  unfold State.markUnderrun; split <;> rfl

/-- The state in which the engine goes on fetching after an underrun. -/
def State.underrun (s : State) (d : Disp) (l : LayerId) (col : Nat) : State :=
  (s.setDisplay d ((s.display d).underrun l col)).markUnderrun d

theorem State.underrun_eq (s : State) (d : Disp) (l : LayerId) (col : Nat) :
    s.underrun d l col =
      { s with disp := Tri.set s.disp d ((s.display d).underrun l col),
               centre := if d = .centre then { s.centre with underrunFlag := true } else s.centre } :=
  State.markUnderrun_eq _ _

theorem State.underrun_self (s : State) (d : Disp) (l : LayerId) (col : Nat) :
    (s.underrun d l col).display d = (s.display d).underrun l col := by
  rw [State.underrun_eq]; exact Tri.get_set_self _ _ _

theorem State.underrun_ne (s : State) {d e : Disp} (l : LayerId) (col : Nat) (h : e ≠ d) :
    (s.underrun d l col).display e = s.display e := by
  rw [State.underrun_eq]; exact Tri.get_set_ne _ _ h

theorem State.underrun_layer (s : State) (d : Disp) (l m : LayerId) (col : Nat) :
    (s.underrun d l col).layer d m = s.layer d m := by
  refine State.layer_congr (by rw [State.underrun_eq]) ?_ m
  rw [State.underrun_self, Display.underrun_fields]

/-- R35: what an underrun of layer `l` makes of display `x`, the engine having gone on fetching for the layers `view`. -/
def Display.underran (x : Display) (l : LayerId) (col : Nat) (view : LayerId → Option LayerView) : Display :=
  (x.underrun l col).refill view

theorem State.underrun_refill_self (s : State) (d : Disp) (l : LayerId) (col : Nat) :
    ((s.underrun d l col).refill d).display d = (s.display d).underran l col (s.layer d) := by
  rw [State.display_refill_self, State.underrun_self, Display.underran]
  congr 1
  funext m; exact s.underrun_layer d l m col

section
variable (x : Display) (l : LayerId) (col : Nat) (view : LayerId → Option LayerView)

theorem Display.underran_fields :
    x.underran l col view =
      { x with
        base := (x.underran l col view).base, ov0 := (x.underran l col view).ov0,
        ov1 := (x.underran l col view).ov1, req := (x.underran l col view).req, lineCounted := true,
        underruns := if x.lineCounted = true then x.underruns else min (x.underruns + 1) 65535 } := by
  have hu := x.underrun_fields l col
  have hy := ((x.underrun l col).refill_spec view).1
  unfold Display.underran
  generalize x.underrun l col = u at hu hy ⊢
  generalize u.refill view = y at hy ⊢
  rw [hy, hu]

theorem Display.underran_under_self : ((x.underran l col view).buf l).under = some col := by
  rw [Display.underran, (((x.underrun l col).refill_spec view).2.1 l).1, Display.underrun_buf_self]

theorem Display.underran_under_ne {m : LayerId} (h : m ≠ l) :
    ((x.underran l col view).buf m).under = (x.buf m).under := by
  rw [Display.underran, (((x.underrun l col).refill_spec view).2.1 m).1, Display.underrun_buf_ne _ _ h]

/-- R35: the row shown on the line is stopped, and its slot is otherwise as it was. -/
theorem Display.underran_slot {i : Nat} {k : LineSlot} (hk : (x.buf l).slots[i]? = some k) (hs : k.shows x.line = true) :
    ((x.underran l col view).buf l).slots[i]? = some { k with stopped := true } := by
  obtain ⟨-, hbufs, -⟩ := (x.underrun l col).refill_spec view
  refine (hbufs l).2.2 i { k with stopped := true } ?_ (LineSlot.shows_iff.mp hs).1 rfl
  rw [Display.underrun_buf_self]
  simp [LayerBuf.stop_slots, hk, LineSlot.stopOn, hs]

/-- R32: the free slots go to the rows needed next. -/
theorem Display.underran_reassigned (m : LayerId) :
    (x.buf m).Reassigned ((x.underran l col view).buf m) (view m) (fun k => k.phase == .free)
      (fun k => if m = l ∧ k.shows x.line = true then { k with stopped := true } else k) := by
  obtain ⟨-, hbufs, -⟩ := (x.underrun l col).refill_spec view
  obtain ⟨-, hslots, -⟩ := hbufs m
  by_cases hm : m = l
  · subst hm
    rw [Display.underrun_buf_self] at hslots
    refine LayerBuf.Reassigned.of_map (b1 := { (x.buf m).stop x.line with under := some col })
      (f := (·.stopOn x.line)) rfl rfl (fun k => ?_) (fun k _ => ?_) hslots
    · rw [LineSlot.stopOn_phase]
    · simp [LineSlot.stopOn]
  · rw [Display.underrun_buf_ne _ _ hm] at hslots
    have hid : (fun k : LineSlot => if m = l ∧ k.shows x.line = true then { k with stopped := true } else k) = id := by
      funext k; simp [hm]
    rw [hid]
    exact hslots

theorem Display.underran_req_kept {q : ScanReq} (hq : x.req = some q) (h : ¬x.Withdraws l q) :
    (x.underran l col view).req = some q :=
  ((x.underrun l col).refill_spec view).2.2.1 q (Display.underrun_req_kept col hq h)

/-- R33: a request after an underrun is the one before it or one for a row that is not stopped. -/
theorem Display.underran_req {q : ScanReq} (h : (x.underran l col view).req = some q) :
    (x.underrun l col).req = some q ∨ (q.granted = false ∧ q.live = true ∧ q.counted = true ∧
      ∃ k, ((x.underran l col view).buf q.layer).slots[q.slot]? = some k ∧ k.phase = .filling ∧ k.stopped = false) :=
  (((x.underrun l col).refill_spec view).2.2.2.1 q h).imp_right (·.2)

/-- R35: the request of the row stopped is withdrawn, and no other stands for that row. -/
theorem Display.underran_req_withdrawn {q : ScanReq} (hq : x.req = some q) (h : x.Withdraws l q) :
    (x.underran l col view).req ≠ some q := by
  intro hy
  rcases Display.underran_req x l col view hy with h' | ⟨-, -, -, k, hk, -, hs⟩
  · rw [Display.underrun_req_withdrawn col hq h] at h'; cases h'
  · obtain ⟨-, hl, k', hk', hs'⟩ := h
    rw [hl, Display.underran_slot x l col view hk' hs'] at hk
    injection hk with hk; subst hk; cases hs

end

/-- R35: where the row stopped has its last line, the data of its granted burst is discarded and no error on it counted,
from the end of the line on. -/
theorem Display.underran_endLine_req {x : Display} {l : LayerId} {view : LayerId → Option LayerView} {tm : DispTiming}
    {q : ScanReq} {k : LineSlot} (col : Nat) (hline : x.line < tm.ha) (hq : x.req = some q) (hg : q.granted = true)
    (hlive : q.live = true) (hl : q.layer = l) (hk : (x.buf l).slots[q.slot]? = some k) (hs : k.shows x.line = true)
    (hlast : k.last = x.line) :
    ((x.underran l col view).endLine tm).req = some { q with live := false, counted := false } := by
  have hreq : (x.underran l col view).req = some q :=
    Display.underran_req_kept x l col view hq (fun h => by rw [h.1] at hg; cases hg)
  have hslot : ((x.underran l col view).buf q.layer).slots[q.slot]? = some { k with stopped := true } := by
    rw [hl]; exact Display.underran_slot x l col view hk hs
  have hxl : (x.underran l col view).line = x.line := by rw [Display.underran_fields]
  rw [Display.endLine_req_retired hreq hg hslot (by rw [hxl]; exact hline) (LineSlot.shows_iff.mp hs).1
    (by rw [hxl]; exact hlast.le)]
  simp [hlive]

end Sys2Proof.Machine
end

section
/-! PROOFS. The pixel a display shows: when a layer has one, how the stack forms it, and what the pixel output carries
(R1, R2, R6, R20 to R31, R35); with it the whole of an underrun. -/

namespace Sys2Proof.Machine

open Sys2Proof

/-! ### LAYER_UNDERRUN taken -/

/-- R35: what LAYER_UNDERRUN makes of the machine where the scan meets a pixel that has not arrived. -/
theorem exec_layerUnderrun_taken {d : Disp} {l : LayerId} {col : Nat} {s : State} (hcol : col < 1920)
    (hm : s.meetsUnderrun d l col = true) :
    ∃ t, exec (.layerUnderrun d l col) s = .next t ∧ t = { s with disp := t.disp, centre := t.centre } ∧
      (∀ e, e ≠ d → t.display e = s.display e) ∧ t.display d = (s.display d).underran l col (s.layer d) ∧
      CountsUrgentLine (if d = .centre then { s.centre with underrunFlag := true } else s.centre) t := by
  refine ⟨(s.underrun d l col).refill d, execLayerUnderrun_eq hcol hm, ?_, fun e he => ?_,
    s.underrun_refill_self d l col, ?_⟩
  · rw [State.refill_frame, State.underrun_eq]
  · rw [State.display_refill_ne _ he, State.underrun_ne _ _ _ he]
  · have h := (s.underrun d l col).refill_counts d
    rwa [show (s.underrun d l col).centre = _ from congrArg State.centre (s.underrun_eq d l col)] at h

/-- The end of a running display's line, for its request: what the line's end leaves of it stays while the engine goes
on fetching. -/
theorem exec_lineEnd_req {d : Disp} {t : State} {tm : DispTiming} {q : ScanReq} (ht : t.timing d = some tm)
    (hr : (t.display d).running = true) (hq : ((t.display d).endLine tm).req = some q) :
    ∃ u, exec (.displayLineEnd d) t = .next u ∧ (u.display d).req = some q := by
  refine ⟨_, execDisplayLineEnd_eq ht hr, ?_⟩
  rw [State.display_refill_self, State.lineEnded_self]
  exact (((t.display d).endLine tm).refill_spec _).2.2.1 q hq

/-! ### The pixel of a layer -/

/-- Whether a layer has underrun before a column (R35). -/
theorem LayerBuf.pixelAt_some_iff {b : LayerBuf} {v : LayerView} {x y : Nat} {w : Word} :
    b.pixelAt v x y = some w ↔
      (∀ u, b.under = some u → x < u) ∧ ∃ k, b.slotFor y = some k ∧ k.pixel (x - v.rect.x0) = some w := by
  unfold LayerBuf.pixelAt
  cases hu : b.under with
  | none => cases hs : b.slotFor y <;> simp
  | some u =>
    by_cases hux : u ≤ x
    · simp [hux]
    · cases hs : b.slotFor y
      · simp
      · simp [hux]; omega

/-- The slot of a layer shown on a row is the first that is. -/
theorem LayerBuf.slotFor_iff {b : LayerBuf} {y : Nat} {k : LineSlot} :
    b.slotFor y = some k ↔ ∃ n : Nat, b.slots[n]? = some k ∧ k.shows y = true ∧
      ∀ (m : Nat) (j : LineSlot), m < n → b.slots[m]? = some j → ¬j.shows y = true := by
  unfold LayerBuf.slotFor
  rw [List.find?_eq_some_iff_getElem]
  constructor
  · rintro ⟨hk, n, hn, hget, hbefore⟩
    refine ⟨n, by rw [List.getElem?_eq_getElem hn, hget], hk, fun m j hm hj => ?_⟩
    obtain ⟨hml, rfl⟩ := List.getElem?_eq_some_iff.mp hj
    simpa using hbefore m hm
  · rintro ⟨n, hn, hk, hbefore⟩
    obtain ⟨hnl, hget⟩ := List.getElem?_eq_some_iff.mp hn
    exact ⟨hk, n, hnl, hget, fun m hm => by
      simpa using hbefore m _ hm (List.getElem?_eq_getElem (Nat.lt_trans hm hnl))⟩

/-- R20: a pixel of a run of beats, the low word at the even column. -/
theorem pixelOf_some_iff {data : List RBeat} {c : Nat} {w : Word} :
    pixelOf data c = some w ↔ ∃ beat, data[c / 2]? = some beat ∧
      w = if c % 2 = 0 then beat.lo.b3 ++ beat.lo.b2 ++ beat.lo.b1 ++ beat.lo.b0
        else beat.hi.b3 ++ beat.hi.b2 ++ beat.hi.b1 ++ beat.hi.b0 := by
  unfold pixelOf
  cases data[c / 2]? with
  | none => simp
  | some beat =>
    by_cases hc : c % 2 = 0 <;> simp [hc, wordOfQuad, eq_comm]

theorem LineSlot.pixel_some_iff {k : LineSlot} {c : Nat} {w : Word} :
    k.pixel c = some w ↔ ∃ data, k.chunks.find? (fun y => y.1 == c / 32) = some (c / 32, data) ∧
      pixelOf data (c % 32) = some w := by
  unfold LineSlot.pixel
  cases hf : k.chunks.find? (fun y => y.1 == c / 32) with
  | none => simp
  | some x =>
    obtain ⟨n, data⟩ := x
    have hn : n = c / 32 := by simpa using List.find?_some hf
    subst hn
    simp

theorem Rect.holds_iff {r : Rect} {x y : Nat} : r.holds x y = true ↔ r.x0 ≤ x ∧ x < r.x1 ∧ r.y0 ≤ y ∧ y < r.y1 := by
  simp [Rect.holds]

/-- R26: a layer draws outside its window. -/
theorem LayerView.draws_iff {v : LayerView} {x y : Nat} :
    v.draws x y = true ↔ ∀ z, v.window = some z → ¬(z.x0 ≤ x ∧ x < z.x1 ∧ z.y0 ≤ y ∧ y < z.y1) := by
  unfold LayerView.draws
  cases v.window with
  | none => simp
  | some z => simp [← Rect.holds_iff]

/-- R21, R26, R35: a layer of the frame has a pixel within its clipped rectangle and outside its window, up to the
column it underruns from, where the data of its source row has arrived. -/
theorem fetchedPixel_some_iff {b : LayerBuf} {v : LayerView} {col row : Nat} {w : Word} :
    fetchedPixel b (some v) col row = some w ↔
      v.rect.holds col row = true ∧ v.draws col row = true ∧ b.pixelAt v col row = some w := by
  unfold fetchedPixel
  by_cases h : v.rect.holds col row = true ∧ v.draws col row = true
  · simp [h]
  · simp [h, ← and_assoc]

theorem fetchedPixel_none_iff {b : LayerBuf} {v : LayerView} {col row : Nat} (hr : v.rect.holds col row = true)
    (hd : v.draws col row = true) : fetchedPixel b (some v) col row = none ↔ b.pixelAt v col row = none := by
  simp [fetchedPixel, hr, hd]

/-- R20, R35: the pixel of a layer, down to the bytes of the beat that holds it. -/
theorem fetchedPixel_iff (b : LayerBuf) (v : LayerView) (col row : Nat) (w : Word) :
    fetchedPixel b (some v) col row = some w ↔
      v.rect.x0 ≤ col ∧ col < v.rect.x1 ∧ v.rect.y0 ≤ row ∧ row < v.rect.y1 ∧
      (∀ z, v.window = some z → ¬(z.x0 ≤ col ∧ col < z.x1 ∧ z.y0 ≤ row ∧ row < z.y1)) ∧
      (∀ u, b.under = some u → col < u) ∧
      ∃ (n : Nat) (k : LineSlot) (data : List RBeat) (beat : RBeat),
        b.slots[n]? = some k ∧ k.phase ≠ .free ∧ k.first ≤ row ∧ row ≤ k.last ∧
        (∀ (m : Nat) (j : LineSlot), m < n → b.slots[m]? = some j → ¬(j.phase ≠ .free ∧ j.first ≤ row ∧ row ≤ j.last)) ∧
        k.chunks.find? (fun y => y.1 == (col - v.rect.x0) / 32) = some ((col - v.rect.x0) / 32, data) ∧
        data[(col - v.rect.x0) % 32 / 2]? = some beat ∧
        w = if (col - v.rect.x0) % 2 = 0 then beat.lo.b3 ++ beat.lo.b2 ++ beat.lo.b1 ++ beat.lo.b0
          else beat.hi.b3 ++ beat.hi.b2 ++ beat.hi.b1 ++ beat.hi.b0 := by
  have hpar : ((col - v.rect.x0) % 32) % 2 = (col - v.rect.x0) % 2 := by omega
  rw [fetchedPixel_some_iff, Rect.holds_iff, LayerView.draws_iff, LayerBuf.pixelAt_some_iff]
  constructor
  · rintro ⟨⟨h1, h2, h3, h4⟩, hw, hu, k, hk, hp⟩
    obtain ⟨n, hn, hs, hbefore⟩ := LayerBuf.slotFor_iff.mp hk
    obtain ⟨data, hfind, hp⟩ := LineSlot.pixel_some_iff.mp hp
    obtain ⟨beat, hbeat, e⟩ := pixelOf_some_iff.mp hp
    obtain ⟨hf, hfirst, hlast⟩ := LineSlot.shows_iff.mp hs
    rw [hpar] at e
    exact ⟨h1, h2, h3, h4, hw, hu, n, k, data, beat, hn, hf, hfirst, hlast,
      fun m j hm hj hshow => hbefore m j hm hj (LineSlot.shows_iff.mpr hshow), hfind, hbeat, e⟩
  · rintro ⟨h1, h2, h3, h4, hw, hu, n, k, data, beat, hn, hf, hfirst, hlast, hbefore, hfind, hbeat, e⟩
    rw [← hpar] at e
    exact ⟨⟨h1, h2, h3, h4⟩, hw, hu, k,
      LayerBuf.slotFor_iff.mpr ⟨n, hn, LineSlot.shows_iff.mpr ⟨hf, hfirst, hlast⟩,
        fun m j hm hj hshow => hbefore m j hm hj (LineSlot.shows_iff.mp hshow)⟩,
      LineSlot.pixel_some_iff.mpr ⟨data, hfind, pixelOf_some_iff.mpr ⟨beat, hbeat, e⟩⟩⟩

/-! ### When the scan meets an underrun -/

/-- R27: the window that is kept clear in the interval after the RVC has left OFF. -/
theorem State.keptClear_iff {s : State} {d : Disp} {col row : Nat} :
    s.keptClear d col row = true ↔ d = .centre ∧ ∃ p, s.boot.profile = some p ∧ s.centre.keepWindow = true ∧
      p.cam.cx + p.cam.px ≤ col ∧ col < min (p.cam.cx + p.cam.px + p.cam.pw) p.disp.c.wa ∧
      p.cam.cy + p.cam.py ≤ row ∧ row < min (p.cam.cy + p.cam.py + p.cam.ph) p.disp.c.ha := by
  unfold State.keptClear
  cases d with
  | centre =>
    cases s.boot.profile with
    | none => simp
    | some p => simp only [Bool.and_eq_true, Rect.holds_iff]; simp [protectedWindow, clipRect]
  | rear k => simp

/-- R11: a row that repeats the one above. -/
theorem LayerView.repeats_iff {v : LayerView} {row : Nat} :
    v.repeats row = true ↔ v.alternate = true ∧ (row - v.rect.y0) % 2 = 1 := by
  simp [LayerView.repeats]

/-- R35: where the scan meets a pixel whose data has not arrived. -/
theorem State.meetsUnderrun_iff (s : State) (d : Disp) (l : LayerId) (col : Nat) :
    s.meetsUnderrun d l col = true ↔ (s.display d).running = true ∧ ∃ v, s.layer d l = some v ∧
      v.rect.holds col (s.display d).line = true ∧ v.draws col (s.display d).line = true ∧
      ¬s.keptClear d col (s.display d).line = true ∧ ¬v.repeats (s.display d).line = true ∧
      ((s.display d).buf l).under = none ∧
      fetchedPixel ((s.display d).buf l) (some v) col (s.display d).line = none := by
  unfold State.meetsUnderrun
  dsimp only
  cases hv : s.layer d l with
  | none => simp
  | some v =>
    simp only [Bool.and_eq_true, Bool.not_eq_eq_eq_not, Bool.not_true, Option.isNone_iff_eq_none, Bool.not_eq_true]
    constructor
    · rintro ⟨⟨⟨⟨⟨⟨hr, hh⟩, hd⟩, hk⟩, hrep⟩, hu⟩, hp⟩
      exact ⟨hr, v, rfl, hh, hd, hk, hrep, hu, (fetchedPixel_none_iff hh hd).mpr hp⟩
    · rintro ⟨hr, v', e, hh, hd, hk, hrep, hu, hp⟩
      injection e with e; subst e
      exact ⟨⟨⟨⟨⟨⟨hr, hh⟩, hd⟩, hk⟩, hrep⟩, hu⟩, (fetchedPixel_none_iff hh hd).mp hp⟩

/-! ### The stack -/

/-- The lower of a band met before, if there is one, and that of a span. -/
def lowerBand : Option Nat → Span → Option Nat
  | none, a => some a.band
  | some b, a => some (min b a.band)

theorem bandAt_eq (row : SpanRow) (c : Nat) :
    bandAt row c = (row.spans.filter (fun x => decide (x.s ≤ c ∧ c ≤ x.e))).foldl lowerBand none := by
  unfold bandAt
  congr 1
  funext best x
  cases best <;> rfl

theorem foldl_lowerBand_some (xs : List Span) (b c : Nat) :
    xs.foldl lowerBand (some b) = some c ↔ (b = c ∨ ∃ a ∈ xs, a.band = c) ∧ c ≤ b ∧ ∀ a ∈ xs, c ≤ a.band := by
  induction xs generalizing b with
  | nil => simp only [List.foldl_nil, Option.some.injEq]; simp; omega
  | cons x xs ih =>
    rw [List.foldl_cons, lowerBand, ih]
    simp only [List.mem_cons, exists_eq_or_imp, forall_eq_or_imp]
    constructor
    · rintro ⟨h1, h2, h3⟩
      refine ⟨?_, by omega, by omega, h3⟩
      rcases h1 with h1 | h1
      · by_cases h : b ≤ x.band
        · left; omega
        · right; left; omega
      · exact .inr (.inr h1)
    · rintro ⟨h1, h2, h3, h4⟩
      refine ⟨?_, by omega, h4⟩
      rcases h1 with h1 | h1 | h1
      · left; omega
      · left; omega
      · exact .inr h1

/-- R31: the lowest band of the spans that cover a camera column. -/
theorem bandAt_some_iff {row : SpanRow} {c b : Nat} :
    bandAt row c = some b ↔ (∃ a ∈ row.spans, a.s ≤ c ∧ c ≤ a.e ∧ a.band = b) ∧
      ∀ a ∈ row.spans, a.s ≤ c → c ≤ a.e → b ≤ a.band := by
  have hmem : ∀ a, a ∈ row.spans.filter (fun x => decide (x.s ≤ c ∧ c ≤ x.e)) ↔ a ∈ row.spans ∧ a.s ≤ c ∧ c ≤ a.e := by
    intro a; simp
  rw [bandAt_eq]
  cases hf : row.spans.filter (fun x => decide (x.s ≤ c ∧ c ≤ x.e)) with
  | nil =>
    rw [hf] at hmem
    refine iff_of_false (by simp) ?_
    rintro ⟨⟨a, ha, h1, h2, -⟩, -⟩
    exact absurd ((hmem a).mpr ⟨ha, h1, h2⟩) List.not_mem_nil
  | cons x xs =>
    rw [hf] at hmem
    rw [List.foldl_cons, lowerBand, foldl_lowerBand_some]
    constructor
    · rintro ⟨h1, h2, h3⟩
      refine ⟨?_, fun a ha hs he => ?_⟩
      · rcases h1 with h1 | ⟨a, ha, h1⟩
        · obtain ⟨m, h4, h5⟩ := (hmem x).mp (by simp); exact ⟨x, m, h4, h5, h1⟩
        · obtain ⟨m, h4, h5⟩ := (hmem a).mp (by simp [ha]); exact ⟨a, m, h4, h5, h1⟩
      · rcases List.mem_cons.mp ((hmem a).mpr ⟨ha, hs, he⟩) with rfl | h
        · exact h2
        · exact h3 a h
    · rintro ⟨⟨a, ha, hs, he, h1⟩, h2⟩
      refine ⟨?_, ?_, fun a ha => ?_⟩
      · rcases List.mem_cons.mp ((hmem a).mpr ⟨ha, hs, he⟩) with rfl | h
        · exact .inl h1
        · exact .inr ⟨a, h, h1⟩
      · obtain ⟨m, h4, h5⟩ := (hmem x).mp (by simp); exact h2 x m h4 h5
      · obtain ⟨m, h4, h5⟩ := (hmem a).mp (by simp [ha]); exact h2 a m h4 h5

/-- R31: a span of the front table covers a display column and row with a band. -/
def spanCovers (p : Profile) (front : SpanTable) (x y b : Nat) : Prop :=
  p.cam.cx ≤ x ∧ p.cam.cy ≤ y ∧ ∃ r a, front.rows[y - p.cam.cy]? = some r ∧ a ∈ r.spans ∧ a.band = b ∧
    p.cam.cx + a.s ≤ x ∧ x ≤ p.cam.cx + a.e

theorem spanCovers_iff {p : Profile} {front : SpanTable} {x y b : Nat} :
    spanCovers p front x y b ↔ (p.cam.cx ≤ x ∧ p.cam.cy ≤ y) ∧
      ∃ a ∈ (front.rows.getD (y - p.cam.cy) SpanRow.empty).spans, a.s ≤ x - p.cam.cx ∧ x - p.cam.cx ≤ a.e ∧ a.band = b := by
  unfold spanCovers
  cases hr : front.rows[y - p.cam.cy]? with
  | none => simp [hr, SpanRow.empty]
  | some r =>
    simp only [List.getD_eq_getElem?_getD, hr, Option.getD_some, Option.some.injEq]
    constructor
    · rintro ⟨h1, h2, r', a, rfl, ha, hb, h3, h4⟩; exact ⟨⟨h1, h2⟩, a, ha, by omega, by omega, hb⟩
    · rintro ⟨⟨h1, h2⟩, a, ha, h3, h4, hb⟩; exact ⟨h1, h2, r, a, rfl, ha, hb, by omega, by omega⟩

/-- R31: the colour of the lowest band that covers a pixel. -/
theorem spanColour_of_lowest {p : Profile} {front : SpanTable} {x y b : Nat} (hb : spanCovers p front x y b)
    (hlow : ∀ b', spanCovers p front x y b' → b ≤ b') : spanColour p front x y = some (p.guide.colour b) := by
  obtain ⟨hc, hb⟩ := spanCovers_iff.mp hb
  rw [spanColour, if_pos hc, bandAt_some_iff.mpr ⟨hb, fun a ha hs he => hlow _ (spanCovers_iff.mpr ⟨hc, a, ha, hs, he, rfl⟩)⟩]
  rfl

theorem spanColour_of_none {p : Profile} {front : SpanTable} {x y : Nat} (h : ∀ b, ¬spanCovers p front x y b) :
    spanColour p front x y = none := by
  unfold spanColour
  split
  · rename_i hc
    cases hb : bandAt (front.rows.getD (y - p.cam.cy) SpanRow.empty) (x - p.cam.cx) with
    | none => rfl
    | some b => exact absurd (spanCovers_iff.mpr ⟨hc, (bandAt_some_iff.mp hb).1⟩) (h b)
  · rfl

end Sys2Proof.Machine
end

section
/-! PROOFS. The pixel of a frame by the stack, and the layers a frame fetches (R6, R20 to R29). -/

namespace Sys2Proof.Machine

open Sys2Proof

/-! ### The values of the stack (R21) -/

theorem background_scene {t : DispTiming} {fr : FrameRecord} {sc : Scene} (hc : fr.content = .scene)
    (hs : fr.scene = some sc) : background t fr = sc.background := by
  simp [background, hc, hs]

theorem background_noScene {t : DispTiming} {fr : FrameRecord} (hc : fr.content ≠ .scene) :
    background t fr = t.background := by
  unfold background
  split
  · rename_i h _; exact absurd h hc
  · rfl

/-- The camera's rectangle on the centre display holds a column and row. -/
def inCamera (c : CameraProfile) (col row : Nat) : Prop :=
  c.cx ≤ col ∧ col < c.cx + c.width ∧ c.cy ≤ row ∧ row < c.cy + c.height

/-- In the active area the clipped rectangle of the camera is the whole one (R21). -/
theorem cameraRect_holds {p : Profile} {col row : Nat} (hcol : col < p.disp.c.wa) (hrow : row < p.disp.c.ha) :
    (clipRect p.disp.c p.cam.cx p.cam.cy p.cam.width p.cam.height).holds col row = true ↔ inCamera p.cam col row := by
  rw [Rect.holds_iff]; simp only [clipRect, inCamera]; omega

section
variable {p : Profile} {fr : FrameRecord} {col row : Nat}

theorem cameraFill_outside (hcol : col < p.disp.c.wa) (hrow : row < p.disp.c.ha) (h : ¬inCamera p.cam col row) :
    cameraFill p fr col row = none :=
  if_neg (mt (cameraRect_holds hcol hrow).mp h)

theorem cameraFill_slot {k : Nat} (h : fr.camBase = .slot k) : cameraFill p fr col row = none := by
  simp [cameraFill, h]

theorem cameraFill_engaging (hcol : col < p.disp.c.wa) (hrow : row < p.disp.c.ha) (hc : inCamera p.cam col row)
    (h : fr.camBase = .engagingFill) : cameraFill p fr col row = some black := by
  rw [cameraFill, if_pos ((cameraRect_holds hcol hrow).mpr hc), h]

theorem cameraFill_unavailable (hcol : col < p.disp.c.wa) (hrow : row < p.disp.c.ha) (hc : inCamera p.cam col row)
    (h : fr.camBase = .unavailableFill) : cameraFill p fr col row = some p.cam.unavailable := by
  rw [cameraFill, if_pos ((cameraRect_holds hcol hrow).mpr hc), h]

end

/-- The base pixel where no fill is chosen and no line is kept is the base layer's (R21 step 2). -/
theorem basePixel_layer {p : Profile} {d : Disp} {fr : FrameRecord} {x : Display} {col row : Nat}
    (hfill : d = .centre → fr.view = .rear → cameraFill p fr col row = none) (hkept : d = .centre ∨ x.kept = none) :
    basePixel p d fr x col row = fetchedPixel x.base (layerOf p d fr .base) col row := by
  unfold basePixel
  cases d with
  | centre =>
    cases hv : fr.view with
    | host => rfl
    | rear => simp [hfill rfl hv]
  | rear k =>
    have hk : x.kept = none := hkept.resolve_left nofun
    simp [hk]

theorem basePixel_kept {p : Profile} {k : Seat} {fr : FrameRecord} {x : Display} {col row : Nat} {h : KeptLine}
    (hk : x.kept = some h) : basePixel p (.rear k) fr x col row = h.pixel col := by
  simp [basePixel, hk]

theorem basePixel_fill {p : Profile} {fr : FrameRecord} {x : Display} {col row : Nat} {w : Word}
    (hv : fr.view = .rear) (hw : cameraFill p fr col row = some w) : basePixel p .centre fr x col row = some w := by
  simp [basePixel, hv, hw]

theorem overlayOver_some {p : Profile} {d : Disp} {fr : FrameRecord} {l : LayerId} {b : LayerBuf} {x y : Nat}
    {bg w : Word} {o : SceneOverlay} (hw : fetchedPixel b (layerOf p d fr l) x y = some w) (ho : fr.overlay l = some o) :
    overlayOver p d fr l b x y bg = blend o.la w bg := by
  simp [overlayOver, hw, ho]

theorem overlayOver_none {p : Profile} {d : Disp} {fr : FrameRecord} {l : LayerId} {b : LayerBuf} {x y : Nat}
    {bg : Word} (hw : fetchedPixel b (layerOf p d fr l) x y = none) : overlayOver p d fr l b x y bg = bg := by
  simp [overlayOver, hw]

/-! ### What a display drives -/

/-- R6: a display is dark in DISABLED outside REAR_VIEW. -/
theorem isDark_iff {d : Disp} {fr : FrameRecord} :
    isDark d fr = true ↔ fr.content = .disabled ∧ ¬(d = .centre ∧ fr.view = .rear) := by
  cases d <;> cases hv : fr.view <;> simp [isDark, hv]

section
variable {s : State} {d : Disp} {col : Nat} {p : Profile} {fr : FrameRecord}
  (hp : s.boot.profile = some p) (hf : (s.display d).frame = some fr)
include hp hf

/-- R1, R2: outside the active area of a running display there is no pixel. -/
theorem State.outputPixel_none
    (h : (s.display d).running = false ∨ (Tri.get p.disp d).ha ≤ (s.display d).line ∨ (Tri.get p.disp d).wa ≤ col) :
    s.outputPixel d col = none := by
  unfold State.outputPixel
  simp only [hp, hf]
  rw [if_neg]
  simp only [Bool.and_eq_true, decide_eq_true_eq, not_and, Nat.not_lt]
  intro hr
  rcases h with h | h | h
  · rw [h] at hr; exact absurd hr.1 nofun
  · exact absurd hr.2 (Nat.not_lt.mpr h)
  · exact h

/-- R20: in the active area a running display drives the pixel of its stack, or black where it is dark or the window is
kept clear. -/
theorem State.outputPixel_active (hr : (s.display d).running = true)
    (hl : (s.display d).line < (Tri.get p.disp d).ha) (hc : col < (Tri.get p.disp d).wa) :
    s.outputPixel d col =
      some ((if (isDark d fr || s.keptClear d col (s.display d).line) = true then black
        else stackPixel p d (s.display d) fr s.guide.front col (s.display d).line).extractLsb' 0 24) := by
  unfold State.outputPixel
  simp only [hp, hf]
  rw [if_pos]
  simp [hr, hl, hc]

end

theorem State.pixelOutput_atRest {s : State} {d : Disp} (clk : Nat) (h : (s.display d).running = false) :
    s.pixelOutput d clk = .atRest 0 false := by
  unfold State.pixelOutput
  rw [h]; rfl

theorem State.pixelOutput_running {s : State} {d : Disp} {clk : Nat} (h : (s.display d).running = true) :
    s.pixelOutput d clk = ((s.outputPixel d clk).map PixelOutput.pixel).getD .noPixel := by
  unfold State.pixelOutput
  rw [if_pos h]
  cases s.outputPixel d clk <;> rfl

/-! ### The layers a frame fetches (R21 to R26) -/

section
variable (p : Profile) (fr : FrameRecord)

/-- R22, R11: the film base of a rear display. -/
theorem layerOf_film {k : Seat} {sc : Scene} {g : Geom} {i : Nat} (hc : fr.content = .scene) (hs : fr.scene = some sc)
    (hg : fr.cap.base = some g) (hi : fr.film = some i) :
    layerOf p (.rear k) fr .base = some
      { plainView (Tri.get p.disp (.rear k)) g sc.x sc.y with
        base := g.base + i * ((g.width * 4 * g.height + 16 + 4095) / 4096 * 4096), alternate := fr.reduced } := by
  simp only [layerOf, filmView, hc, hs, hg, hi]; rfl

theorem layerOf_noFilm (k : Seat) (h : fr.content ≠ .scene ∨ fr.cap.base = none ∨ fr.film = none) :
    layerOf p (.rear k) fr .base = none := by
  simp only [layerOf, filmView]
  split
  · rename_i hc _ hg hi; simp [hc, hg, hi] at h
  · rfl

/-- R23: the host base of the centre. -/
theorem layerOf_hostBase {sc : Scene} {g : Geom} (hv : fr.view = .host) (hc : fr.content = .scene)
    (hs : fr.scene = some sc) (hg : fr.cap.base = some g) :
    layerOf p .centre fr .base = some (plainView (Tri.get p.disp .centre) g sc.x sc.y) := by
  simp only [layerOf, hv, hostBaseView, hc, hs, hg]

theorem layerOf_noHostBase (hv : fr.view = .host) (h : fr.content ≠ .scene ∨ fr.cap.base = none) :
    layerOf p .centre fr .base = none := by
  simp only [layerOf, hv, hostBaseView]
  split
  · rename_i hc _ hg; simp [hc, hg] at h
  · rfl

/-- R24: the camera slot as the centre base. -/
theorem layerOf_camera {k : Nat} (hv : fr.view = .rear) (hc : fr.camBase = .slot k) :
    layerOf p .centre fr .base = some
      (plainView (Tri.get p.disp .centre)
        { base := p.cam.base + k * ((p.cam.width * p.cam.height * 4 + 4095) / 4096 * 4096), width := p.cam.width,
          height := p.cam.height } p.cam.cx p.cam.cy) := by
  simp only [layerOf, hv, cameraView, hc]; rfl

theorem layerOf_noCamera (hv : fr.view = .rear) (h : ∀ k, fr.camBase ≠ .slot k) :
    layerOf p .centre fr .base = none := by
  simp only [layerOf, hv, cameraView]
  split
  · rename_i k hc; exact absurd hc (h k)
  · rfl
  · rfl

/-- R25, R26: the overlay of a display. -/
theorem layerOf_overlay (d : Disp) {l : LayerId} (hl : l ≠ .base) :
    layerOf p d fr l =
      if d = .centre ∧ fr.view = .rear then
        overlayView (Tri.get p.disp d) fr.content (fr.overlay l) (fr.overlayGeom l) (·.revVisible)
          (some (protectedWindow p.cam (Tri.get p.disp d)))
      else overlayView (Tri.get p.disp d) fr.content (fr.overlay l) (fr.overlayGeom l) (fun _ => true) none := by
  cases d with
  | rear k => cases l <;> first | rfl | exact absurd rfl hl
  | centre =>
    cases hv : fr.view <;> cases l <;> first | exact absurd rfl hl | simp [layerOf, hv]

theorem overlay_ne_base {l : LayerId} {o : SceneOverlay} (h : fr.overlay l = some o) : l ≠ .base := by
  rintro rfl; cases h

theorem overlayView_some {t : DispTiming} {o : SceneOverlay} {g : Geom} {drawn : SceneOverlay → Bool}
    {window : Option Rect} (hd : drawn o = true) :
    overlayView t .scene (some o) (some g) drawn window =
      some { plainView t g o.x o.y with scroll := some o, window := window } := by
  simp [overlayView, hd]

theorem overlayView_undrawn {t : DispTiming} {o : SceneOverlay} {g : Geom} {drawn : SceneOverlay → Bool}
    {window : Option Rect} (hd : drawn o = false) : overlayView t .scene (some o) (some g) drawn window = none := by
  simp [overlayView, hd]

theorem overlayView_none {t : DispTiming} {content : Content} {o : Option SceneOverlay} {g : Option Geom}
    {drawn : SceneOverlay → Bool} {window : Option Rect} (h : content ≠ .scene ∨ g = none) :
    overlayView t content o g drawn window = none := by
  unfold overlayView
  split
  · simp at h
  · rfl

end

/-! ### The source row (R29) -/

theorem LayerView.source_plain {v : LayerView} (r : Nat) (h : v.scroll = none) : v.source r = r := by
  simp [LayerView.source, h]

theorem LayerView.source_scroll {v : LayerView} {o : SceneOverlay} (r : Nat) (h : v.scroll = some o) :
    v.source r = scrollRow o v.height r := by
  simp [LayerView.source, h]

end Sys2Proof.Machine
end

section
/-! PROOFS. O42 from its parts: the row LAYER_UNDERRUN, when the scan meets an underrun, the stack, the layers. -/

namespace Sys2Proof.Machine

open Sys2Proof

/-- R27: the pixels of the window kept clear, within the active area of the centre. -/
theorem State.keptClear_active_iff {s : State} {d : Disp} {p : Profile} {col row : Nat} (hp : s.boot.profile = some p)
    (hcol : col < (Tri.get p.disp d).wa) (hrow : row < (Tri.get p.disp d).ha) :
    s.keptClear d col row = true ↔ d = .centre ∧ s.centre.keepWindow = true ∧
      p.cam.cx + p.cam.px ≤ col ∧ col < p.cam.cx + p.cam.px + p.cam.pw ∧
      p.cam.cy + p.cam.py ≤ row ∧ row < p.cam.cy + p.cam.py + p.cam.ph := by
  rw [State.keptClear_iff]
  constructor
  · rintro ⟨rfl, p', hp', hk, h1, h2, h3, h4⟩
    rw [hp] at hp'; injection hp' with hp'; subst hp'
    exact ⟨rfl, hk, h1, by omega, h3, by omega⟩
  · rintro ⟨rfl, hk, h1, h2, h3, h4⟩
    have hcol' : col < p.disp.c.wa := hcol
    have hrow' : row < p.disp.c.ha := hrow
    exact ⟨rfl, p, hp, hk, h1, by omega, h3, by omega⟩

/-- The span colour over a value of the stack (R21 step 3, R31). -/
def overSpans (p : Profile) (d : Disp) (fr : FrameRecord) (front : SpanTable) (col row : Nat) (v : Word) : Word :=
  if d = .centre ∧ fr.view = .rear ∧ fr.showing = true then (spanColour p front col row).getD v else v

/-- The steps of the stack, one after the other (R21). -/
theorem stackPixel_eq (p : Profile) (d : Disp) (x : Display) (fr : FrameRecord) (front : SpanTable) (col row : Nat) :
    stackPixel p d x fr front col row =
      overlayOver p d fr .ov1 x.ov1 col row (overlayOver p d fr .ov0 x.ov0 col row
        (overSpans p d fr front col row ((basePixel p d fr x col row).getD (background (Tri.get p.disp d) fr)))) := rfl

theorem overSpans_band {p : Profile} {d : Disp} {fr : FrameRecord} {front : SpanTable} {col row b : Nat} {v : Word}
    (hr : d = .centre ∧ fr.view = .rear) (hs : fr.showing = true) (hb : spanCovers p front col row b)
    (hlow : ∀ b', spanCovers p front col row b' → b ≤ b') :
    overSpans p d fr front col row v = p.guide.colour b := by
  rw [overSpans, if_pos ⟨hr.1, hr.2, hs⟩, spanColour_of_lowest hb hlow]; rfl

theorem overSpans_none {p : Profile} {d : Disp} {fr : FrameRecord} {front : SpanTable} {col row : Nat} {v : Word}
    (h : ¬(d = .centre ∧ fr.view = .rear) ∨ fr.showing = false ∨ ∀ b, ¬spanCovers p front col row b) :
    overSpans p d fr front col row v = v := by
  unfold overSpans
  split
  · rename_i hc
    rcases h with h | h | h
    · exact absurd ⟨hc.1, hc.2.1⟩ h
    · rw [h] at hc; exact absurd hc.2.2 nofun
    · rw [spanColour_of_none h]; rfl
  · rfl

/-- R22 to R24: the base pixel of a column and row that no fill has. -/
theorem basePixel_unfilled {p : Profile} {d : Disp} {fr : FrameRecord} {x : Display} {col row : Nat}
    (hcol : col < (Tri.get p.disp d).wa) (hrow : row < (Tri.get p.disp d).ha)
    (h : ¬(d = .centre ∧ fr.view = .rear) ∨ ¬inCamera p.cam col row ∨ ∃ k, fr.camBase = .slot k)
    (hk : d = .centre ∨ x.kept = none) :
    basePixel p d fr x col row = fetchedPixel x.base (layerOf p d fr .base) col row := by
  refine basePixel_layer (fun hd hv => ?_) hk
  subst hd
  rcases h with h | h | ⟨k, h⟩
  · exact absurd ⟨rfl, hv⟩ h
  · exact cameraFill_outside hcol hrow h
  · exact cameraFill_slot h

/-- Settles O42, from the rules above: the row by what an underrun and the engine's going on fetching leave of the
display, the pixel step by step through the stack, the layers of a frame each by its own equation. -/
theorem layerUnderrunTaken : Obligations.LayerUnderrunTaken := by
  refine ⟨fun d l col s hcol hm => ?_, fun d l col s => ?_, fun s d col p fr hp hf => ?_,
    fun s d clk h => State.pixelOutput_atRest clk h, fun p d fr => ?_, fun v r => ?_,
    fun b v col row w => ⟨rfl, fetchedPixel_iff b v col row w⟩⟩
  · obtain ⟨t, he, hframe, hne, hself, hcounts⟩ := exec_layerUnderrun_taken hcol hm
    obtain ⟨tm, htm, hrun, hline⟩ := State.meetsUnderrun_line hm
    refine ⟨t, he, hframe, hne, ?_, hcounts⟩
    have hlineEnd : ∀ q, ((t.display d).endLine tm).req = some q →
        ∃ u, exec (.displayLineEnd d) t = .next u ∧ (u.display d).req = some q := fun q hq => by
      refine exec_lineEnd_req (tm := tm) ?_ ?_ hq
      · rw [State.timing_congr (show t.boot = s.boot by rw [hframe])]; exact htm
      · rw [hself, Display.underran_fields]; exact hrun
    rw [hself] at hlineEnd ⊢
    exact ⟨Display.underran_fields _ _ _ _, Display.underran_under_self _ _ _ _,
      fun m h => Display.underran_under_ne _ _ _ _ h, fun i k hk hs => Display.underran_slot _ _ _ _ hk hs,
      Display.underran_reassigned _ _ _ _,
      fun q hq => ⟨fun h => Display.underran_req_kept _ _ _ _ hq h, fun h => Display.underran_req_withdrawn _ _ _ _ hq h⟩,
      fun q hq => (Display.underran_req _ _ _ _ hq).imp_left Display.underrun_req_le,
      (((s.display d).underrun l col).refill_spec (s.layer d)).2.2.2.2,
      fun q k hq hg hlive hl hk hs hlast =>
        hlineEnd _ (Display.underran_endLine_req col hline hq hg hlive hl hk hs hlast)⟩
  · simp only [State.meetsUnderrun_iff, Rect.holds_iff, LayerView.draws_iff, State.keptClear_iff, LayerView.repeats_iff]
    constructor
    · rintro ⟨hr, v, hv, ⟨h1, h2, h3, h4⟩, hd, hk, hrep, hu, hpx⟩
      exact ⟨hr, v, hv, h1, h2, h3, h4, hd, fun p hc hp hw hin => hk ⟨hc, p, hp, hw, hin⟩, hrep, hu, hpx⟩
    · rintro ⟨hr, v, hv, h1, h2, h3, h4, hd, hk, hrep, hu, hpx⟩
      exact ⟨hr, v, hv, ⟨h1, h2, h3, h4⟩, hd, fun ⟨hc, p, hp, hw, hin⟩ => hk p hc hp hw hin, hrep, hu, hpx⟩
  · refine ⟨State.outputPixel_none hp hf, fun hr h => ?_, fun hr rgb h => ?_, fun hr hl hc => ⟨fun h => ?_, fun hd hk => ?_⟩⟩
    · rw [State.pixelOutput_running hr, State.outputPixel_none hp hf (.inr h)]; rfl
    · rw [State.pixelOutput_running hr, h]; rfl
    · rw [State.outputPixel_active hp hf hr hl hc, if_pos]
      · rfl
      · rw [Bool.or_eq_true, isDark_iff, State.keptClear_active_iff hp hc hl]; exact h
    · refine ⟨background (Tri.get p.disp d) fr,
        (basePixel p d fr (s.display d) col (s.display d).line).getD (background (Tri.get p.disp d) fr), _, _, _, ?_,
        fun sc h1 h2 => background_scene h1 h2, background_noScene, fun hr hin hb => ?_, fun hr hin hb => ?_,
        fun h => ⟨fun hkept => by rw [basePixel_unfilled hc hl h hkept]; rfl, fun k h' hd hkept => ?_⟩,
        fun b hr hs hb hlow => ?_, fun h => overSpans_none h, fun w o hw ho => overlayOver_some hw ho,
        fun h => overlayOver_none h, fun w o hw ho => overlayOver_some hw ho, fun h => overlayOver_none h⟩
      · rw [State.outputPixel_active hp hf hr hl hc, if_neg, stackPixel_eq]
        · rfl
        rw [Bool.or_eq_true, isDark_iff, State.keptClear_active_iff hp hc hl]
        exact not_or.mpr ⟨hd, hk⟩
      · obtain ⟨rfl, hv⟩ := hr
        rw [basePixel_fill hv (cameraFill_engaging hc hl hin hb)]; rfl
      · obtain ⟨rfl, hv⟩ := hr
        rw [basePixel_fill hv (cameraFill_unavailable hc hl hin hb)]; rfl
      · subst hd
        rw [basePixel_kept hkept]; rfl
      · rw [overSpans_band hr hs hb hlow]
        refine ⟨?_, ?_, ?_, ?_⟩ <;> (rintro rfl; rfl)
  · refine ⟨fun k sc g i hd hc hs hg hi => ?_, fun k hd h => ?_, fun sc g hd hv hc hs hg => ?_, fun hd hv h => ?_,
      fun k hd hv hc => ?_, fun hd hv h => ?_, fun l o g hc ho hg => ⟨fun h => ?_, fun hd hv ho' => ?_, fun hd hv ho' => ?_⟩,
      fun l hl h => ?_⟩
    · subst hd; exact layerOf_film p fr hc hs hg hi
    · subst hd; exact layerOf_noFilm p fr k h
    · subst hd; exact layerOf_hostBase p fr hv hc hs hg
    · subst hd; exact layerOf_noHostBase p fr hv h
    · subst hd; exact layerOf_camera p fr hv hc
    · subst hd; exact layerOf_noCamera p fr hv h
    · rw [layerOf_overlay p fr d (overlay_ne_base fr ho), if_neg h, hc, ho, hg, overlayView_some rfl]; rfl
    · rw [layerOf_overlay p fr d (overlay_ne_base fr ho), if_pos ⟨hd, hv⟩, hc, ho, hg, overlayView_some ho']; rfl
    · rw [layerOf_overlay p fr d (overlay_ne_base fr ho), if_pos ⟨hd, hv⟩, hc, ho, hg, overlayView_undrawn ho']
    · rw [layerOf_overlay p fr d hl]
      split <;> exact overlayView_none h
  · refine ⟨LayerView.source_plain r, fun o ho => ⟨fun h1 h2 h3 h4 => ?_, fun h => ?_⟩⟩
    · rw [LayerView.source_scroll r ho, scrollRow, if_pos ⟨h1, h2, h3, h4⟩]
    · rw [LayerView.source_scroll r ho, scrollRow, if_neg]
      omega

end Sys2Proof.Machine
end

section
/-! PROOFS. The completion of an engine's burst, and the next one it presents (R9, R26, R33, R36, R59). -/

namespace Sys2Proof.Machine

open Sys2Proof

/-! ### The burst that has arrived -/

/-- R33, R36: a display whose granted request `q` has ended with `r`, for the layer `v` the frame fetches there. -/
def Display.back (x : Display) (v : Option LayerView) (q : ScanReq) (r : Reply) : Display :=
  match r with
  | .error => { x with req := none }
  | .ok data => if q.live = true then { x with req := none }.take v q data else { x with req := none }

theorem Display.take_eq (x : Display) (v : Option LayerView) (q : ScanReq) (data : List RBeat) :
    x.take v q data =
      { x with base := (x.take v q data).base, ov0 := (x.take v q data).ov0, ov1 := (x.take v q data).ov1 } := by
  unfold Display.take
  cases v with
  | none => rfl
  | some v => cases q.layer <;> rfl

theorem Display.back_eq (x : Display) (v : Option LayerView) (q : ScanReq) (r : Reply) :
    x.back v q r =
      { x with base := (x.back v q r).base, ov0 := (x.back v q r).ov0, ov1 := (x.back v q r).ov1, req := none } := by
  unfold Display.back
  cases r with
  | error => rfl
  | ok data =>
    dsimp only
    split
    · rw [Display.take_eq]
    · rfl

theorem Display.withoutReq_buf (x : Display) (l : LayerId) : ({ x with req := none } : Display).buf l = x.buf l := by
  cases l <;> rfl

/-- R33: the data of a live request enters the slot it was read for. -/
theorem Display.back_buf_self {x : Display} {v : LayerView} {q : ScanReq} {data : List RBeat} {k : LineSlot}
    (hl : q.live = true) (hk : (x.buf q.layer).slots[q.slot]? = some k) :
    ((x.back (some v) q (.ok data)).buf q.layer).slots[q.slot]? = some (k.receive v q.burst data) := by
  obtain ⟨hlt, hget⟩ := List.getElem?_eq_some_iff.mp hk
  simp [Display.back, hl, Display.take, Display.withoutReq_buf, hlt, hget]

/-- R36: an error, or data that is discarded, and data for another slot leave a slot as it is. -/
theorem Display.back_slot_kept {x : Display} {v : Option LayerView} {q : ScanReq} {r : Reply} {l : LayerId} {i : Nat}
    (h : q.live = false ∨ r = .error ∨ l ≠ q.layer ∨ i ≠ q.slot) :
    ((x.back v q r).buf l).slots[i]? = (x.buf l).slots[i]? := by
  unfold Display.back
  cases r with
  | error => rw [Display.withoutReq_buf]
  | ok data =>
    dsimp only
    split
    · rename_i hl
      cases v with
      | none => rw [Display.take, Display.withoutReq_buf]
      | some v =>
        rw [Display.take]
        by_cases hlq : l = q.layer
        · subst hlq
          have hi : i ≠ q.slot := by
            rcases h with h | h | h | h
            · rw [h] at hl; cases hl
            · cases h
            · exact absurd rfl h
            · exact h
          rw [Display.setBuf_buf_self, Display.withoutReq_buf]
          exact List.getElem?_set_ne (Ne.symm hi)
        · rw [Display.setBuf_buf_ne _ _ hlq, Display.withoutReq_buf]
    · rw [Display.withoutReq_buf]

theorem LineSlot.receive_fields (k : LineSlot) (v : LayerView) (b : Nat) (data : List RBeat) :
    k.receive v b data = { k with chunks := k.chunks ++ [(b, data)], phase := (k.receive v b data).phase } := by
  unfold LineSlot.receive
  dsimp only
  split <;> rfl

/-- R33: a filling slot is complete once every burst of its row has arrived. -/
theorem LineSlot.receive_complete {k : LineSlot} (v : LayerView) (b : Nat) (data : List RBeat) (hk : k.phase = .filling) :
    (k.receive v b data).phase = .complete ↔ (k.receive v b data).whole v = true := by
  unfold LineSlot.receive
  dsimp only
  split
  · rename_i h; exact iff_of_true rfl h
  · rename_i h; exact iff_of_false (by rw [hk]; nofun) h

theorem LineSlot.receive_phase_ne {k : LineSlot} (v : LayerView) (b : Nat) (data : List RBeat) (hk : k.phase ≠ .free) :
    (k.receive v b data).phase ≠ .free := by
  unfold LineSlot.receive
  dsimp only
  split
  · nofun
  · exact hk

/-- A filled slot keeps all but the bursts requested of it while the engine goes on fetching. -/
theorem Display.refill_slot {x : Display} {view : LayerId → Option LayerView} {l : LayerId} {i : Nat} {k : LineSlot}
    (hk : (x.buf l).slots[i]? = some k) (hf : k.phase ≠ .free) :
    ∃ n, ((x.refill view).buf l).slots[i]? = some { k with asked := n } :=
  ((x.refill_spec view).2.1 l).2.1.2.1 i k hk (by simpa using hf)

/-! ### SCAN_BURST_COMPLETE -/

/-- The errors counted after a reply to a request (R36). -/
def PathState.backErrors (p : PathState) (q : ScanReq) (r : Reply) : PathState :=
  { p with fetchErrors := if q.counted = true ∧ r = .error then min (p.fetchErrors + 1) 65535 else p.fetchErrors }

theorem State.scanBack_eq (s : State) (d : Disp) (q : ScanReq) (r : Reply) :
    s.scanBack d q r =
      { s with disp := Tri.set s.disp d ((s.display d).back (s.layer d q.layer) q r), path := s.path.backErrors q r } := by
  have hpath : s.path = { s.path with fetchErrors := s.path.fetchErrors } := rfl
  unfold State.scanBack PathState.backErrors Display.back
  cases r with
  | error =>
    dsimp only
    split
    · rename_i h; rw [if_pos ⟨h, rfl⟩]; rfl
    · rename_i h; rw [if_neg (fun hc => h hc.1)]; rfl
  | ok data => rw [if_neg (fun hc => by cases hc.2)]; rfl

/-- The state in which the engine goes on fetching after a completion. -/
def State.scanned (s : State) (d : Disp) (q : ScanReq) (r : Reply) : State := s.popFlight.scanBack d q r

theorem State.scanned_eq (s : State) (d : Disp) (q : ScanReq) (r : Reply) :
    s.scanned d q r =
      { s with arb := { s.arb with flights := s.arb.flights.tail },
               disp := Tri.set s.disp d ((s.display d).back (s.layer d q.layer) q r),
               path := s.path.backErrors q r } := by
  rw [State.scanned, State.scanBack_eq]; rfl

theorem State.scanned_self (s : State) (d : Disp) (q : ScanReq) (r : Reply) :
    (s.scanned d q r).display d = (s.display d).back (s.layer d q.layer) q r := by
  rw [State.scanned_eq]; exact Tri.get_set_self _ _ _

theorem State.scanned_ne (s : State) {d e : Disp} (q : ScanReq) (r : Reply) (h : e ≠ d) :
    (s.scanned d q r).display e = s.display e := by
  rw [State.scanned_eq]; exact Tri.get_set_ne _ _ h

theorem execScanBurstComplete_eq {s : State} {d : Disp} {r : Reply} {f : Flight} {q : ScanReq} (hf : s.dueFlight = some f)
    (hq : (s.display d).req = some q) (ho : f.owner = .scan d) (hg : q.granted = true) (hr : r.wfBurst = true)
    (hw : r.wf q.beats = true) : execScanBurstComplete d r s = .next ((s.scanned d q r).refill d) := by
  unfold execScanBurstComplete
  rw [if_pos hr, hf, hq]
  exact if_pos ⟨ho, hg, hw⟩

/-! ### The next request (R33) -/

/-- R33: a slot with a burst to request. -/
def LayerBuf.Wants (b : LayerBuf) (v : LayerView) (i : Nat) (k : LineSlot) : Prop :=
  b.slots[i]? = some k ∧ k.phase = .filling ∧ k.stopped = false ∧ k.asked < v.bursts

/-- The earlier of two places: the first on equal rows. -/
theorem earlier_first {a b : Option (Nat × LayerId × Nat)} {y : Nat × LayerId × Nat} (h : earlier a b = some y) :
    (a = some y ∧ ∀ z, b = some z → y.1 ≤ z.1) ∨ (b = some y ∧ ∀ z, a = some z → y.1 < z.1) := by
  cases a with
  | none => exact .inr ⟨h, nofun⟩
  | some u =>
    cases b with
    | none => exact .inl ⟨h, nofun⟩
    | some w =>
      unfold earlier at h
      dsimp only at h
      split at h <;> (injection h with h; subst h)
      · rename_i hlt; exact .inr ⟨rfl, fun z hz => by injection hz with hz; subst hz; exact hlt⟩
      · rename_i hle; exact .inl ⟨rfl, fun z hz => by injection hz with hz; subst hz; omega⟩

theorem earlier_le_left {a b : Option (Nat × LayerId × Nat)} {y z : Nat × LayerId × Nat} (h : earlier a b = some y)
    (hz : a = some z) : y.1 ≤ z.1 := by
  rcases earlier_first h with ⟨ha, -⟩ | ⟨-, hlt⟩
  · rw [ha] at hz; injection hz with hz; rw [hz]
  · exact (hlt z hz).le

theorem earlier_le_right {a b : Option (Nat × LayerId × Nat)} {y z : Nat × LayerId × Nat} (h : earlier a b = some y)
    (hz : b = some z) : y.1 ≤ z.1 := by
  rcases earlier_first h with ⟨-, hle⟩ | ⟨hb, -⟩
  · exact hle z hz
  · rw [hb] at hz; injection hz with hz; rw [hz]

/-- The earliest of a run of places of layer `l` and of one met before it is one of them, and none comes before it. -/
theorem foldl_earlier {l : LayerId} (xs : List (Nat × Nat)) (best : Option (Nat × LayerId × Nat))
    {y : Nat × LayerId × Nat}
    (h : xs.foldl (fun best x => earlier best (some (x.1, l, x.2))) best = some y) :
    (best = some y ∨ ∃ x ∈ xs, y = (x.1, l, x.2)) ∧ (∀ z, best = some z → y.1 ≤ z.1) ∧ ∀ x ∈ xs, y.1 ≤ x.1 := by
  induction xs generalizing best with
  | nil => exact ⟨.inl h, fun z hz => by rw [hz] at h; injection h with h; rw [h], nofun⟩
  | cons a xs ih =>
    obtain ⟨h1, h2, h3⟩ := ih _ h
    have hne : ∃ e, earlier best (some (a.1, l, a.2)) = some e := by
      cases he : earlier best (some (a.1, l, a.2)) with
      | none => exact absurd (earlier_none.mp he).2 nofun
      | some e => exact ⟨e, rfl⟩
    obtain ⟨e, he⟩ := hne
    have hye : y.1 ≤ e.1 := h2 e he
    refine ⟨?_, fun z hz => hye.trans (earlier_le_left he hz), fun x hx => ?_⟩
    · rcases h1 with h1 | ⟨x, hx, h1⟩
      · rcases earlier_some h1 with h1 | h1
        · exact .inl h1
        · injection h1 with h1; exact .inr ⟨a, List.mem_cons_self, h1.symm⟩
      · exact .inr ⟨x, List.mem_cons_of_mem _ hx, h1⟩
    · rcases List.mem_cons.mp hx with rfl | hx
      · exact hye.trans (earlier_le_right he rfl)
      · exact h3 x hx

/-- R33: the place of a layer needed earliest is that of a slot with a burst to request, and no such slot is needed
before it. -/
theorem LayerBuf.earliest_first {b : LayerBuf} {l : LayerId} {v : Option LayerView} {y : Nat × LayerId × Nat}
    (h : b.earliest l v = some y) :
    ∃ w k, v = some w ∧ b.Wants w y.2.2 k ∧ y = (k.first, l, y.2.2) := by
  cases v with
  | none => cases h
  | some w =>
    obtain ⟨h1 | ⟨x, hx, h1⟩, -, -⟩ := foldl_earlier _ _ h
    · cases h1
    · obtain ⟨k, hk, hf, hs, ha, hfirst⟩ := LayerBuf.mem_wanting.mp hx
      subst h1
      exact ⟨w, k, rfl, ⟨hk, hf, hs, ha⟩, by rw [hfirst]⟩

theorem LayerBuf.earliest_of_wants {b : LayerBuf} {l : LayerId} {w : LayerView} {i : Nat} {k : LineSlot}
    (h : b.Wants w i k) : ∃ y, b.earliest l (some w) = some y ∧ y.2.1 = l ∧ y.1 ≤ k.first := by
  obtain ⟨hk, hf, hs, ha⟩ := h
  cases he : b.earliest l (some w) with
  | none => exact absurd ha (Nat.not_lt.mpr (LayerBuf.earliest_none he rfl (List.mem_of_getElem? hk) hf hs))
  | some y =>
    exact ⟨y, rfl, (LayerBuf.earliest_some he).1,
      (foldl_earlier _ _ he).2.2 (k.first, i) (LayerBuf.mem_wanting.mpr ⟨k, hk, hf, hs, ha, rfl⟩)⟩

/-- The place of the burst an engine asks for next. -/
def Display.soonest (x : Display) (view : LayerId → Option LayerView) : Option (Nat × LayerId × Nat) :=
  earlier (earlier (x.base.earliest .base (view .base)) (x.ov0.earliest .ov0 (view .ov0)))
    (x.ov1.earliest .ov1 (view .ov1))

/-- The lowest layer comes first (R33). -/
def LayerId.rank : LayerId → Nat
  | .base => 0
  | .ov0 => 1
  | .ov1 => 2

theorem Display.soonest_wants {x : Display} {view : LayerId → Option LayerView} {y : Nat × LayerId × Nat}
    (h : x.soonest view = some y) :
    ∃ w k, view y.2.1 = some w ∧ (x.buf y.2.1).Wants w y.2.2 k ∧ y.1 = k.first := by
  have key : ∀ l, (x.buf l).earliest l (view l) = some y →
      ∃ w k, view y.2.1 = some w ∧ (x.buf y.2.1).Wants w y.2.2 k ∧ y.1 = k.first := by
    intro l hl
    obtain ⟨w, k, hv, hw, hy⟩ := LayerBuf.earliest_first hl
    have hyl : y.2.1 = l := by rw [hy]
    have hy1 : y.1 = k.first := by rw [hy]
    rw [hyl]
    exact ⟨w, k, hv, hw, hy1⟩
  rcases earlier_some h with h | h
  · rcases earlier_some h with h | h
    · exact key .base h
    · exact key .ov0 h
  · exact key .ov1 h

/-- R33: no slot with a burst to request is needed before the place chosen, nor on the same row in a lower layer. -/
theorem Display.soonest_first {x : Display} {view : LayerId → Option LayerView} {y : Nat × LayerId × Nat}
    (h : x.soonest view = some y) {l : LayerId} {i : Nat} {w : LayerView} {k : LineSlot} (hv : view l = some w)
    (hk : (x.buf l).Wants w i k) : y.1 ≤ k.first ∧ (y.1 = k.first → LayerId.rank y.2.1 ≤ LayerId.rank l) := by
  obtain ⟨z, hz, -, hzk⟩ := LayerBuf.earliest_of_wants (l := l) hk
  rw [← hv] at hz
  have rank_of : ∀ m, (x.buf m).earliest m (view m) = some y → y.2.1 = m := fun m hm => (LayerBuf.earliest_some hm).1
  rcases earlier_first h with ⟨h01, hle2⟩ | ⟨h2, hlt01⟩
  · rcases earlier_first h01 with ⟨h0, hle1⟩ | ⟨h1, hlt0⟩
    · rw [rank_of .base h0]
      refine ⟨?_, fun _ => Nat.zero_le _⟩
      cases l with
      | base => exact (earlier_le_left h01 hz).trans hzk
      | ov0 => exact (hle1 z hz).trans hzk
      | ov1 => exact (hle2 z hz).trans hzk
    · rw [rank_of .ov0 h1]
      cases l with
      | base => have := hlt0 z hz; exact ⟨by omega, by omega⟩
      | ov0 => exact ⟨(earlier_le_right h01 hz).trans hzk, fun _ => le_rfl⟩
      | ov1 => exact ⟨(hle2 z hz).trans hzk, fun _ => Nat.le_succ 1⟩
  · rw [rank_of .ov1 h2]
    have below : ∀ z', earlier (x.base.earliest .base (view .base)) (x.ov0.earliest .ov0 (view .ov0)) = some z' →
        y.1 < z'.1 := hlt01
    cases l with
    | ov1 => exact ⟨(earlier_le_right h hz).trans hzk, fun _ => le_rfl⟩
    | base =>
      cases he : earlier (x.base.earliest .base (view .base)) (x.ov0.earliest .ov0 (view .ov0)) with
      | none => exact absurd ((earlier_none.mp he).1.symm.trans hz) nofun
      | some e => have := below e he; have := earlier_le_left he hz; exact ⟨by omega, by omega⟩
    | ov0 =>
      cases he : earlier (x.base.earliest .base (view .base)) (x.ov0.earliest .ov0 (view .ov0)) with
      | none => exact absurd ((earlier_none.mp he).2.symm.trans hz) nofun
      | some e => have := below e he; have := earlier_le_right he hz; exact ⟨by omega, by omega⟩

theorem Display.soonest_none {x : Display} {view : LayerId → Option LayerView} (h : x.soonest view = none) {l : LayerId}
    {i : Nat} {w : LayerView} {k : LineSlot} (hv : view l = some w) : ¬(x.buf l).Wants w i k := by
  intro hk
  obtain ⟨z, hz, -⟩ := LayerBuf.earliest_of_wants (l := l) hk
  rw [← hv] at hz
  obtain ⟨h01, h2⟩ := earlier_none.mp h
  obtain ⟨h0, h1⟩ := earlier_none.mp h01
  cases l with
  | base => exact absurd (h0.symm.trans hz) nofun
  | ov0 => exact absurd (h1.symm.trans hz) nofun
  | ov1 => exact absurd (h2.symm.trans hz) nofun

/-- R33: an engine without a request presents the burst of the place chosen, if there is one. -/
theorem Display.choose_none {x : Display} {view : LayerId → Option LayerView} (hq : x.req = none)
    (h : x.soonest view = none) : x.choose view = x := by
  unfold Display.soonest at h
  simp only [Display.choose, hq, h]

theorem Display.choose_some {x : Display} {view : LayerId → Option LayerView} {n i : Nat} {l : LayerId} {w : LayerView}
    {k : LineSlot} (hq : x.req = none) (h : x.soonest view = some (n, l, i)) (hv : view l = some w)
    (hk : (x.buf l).slots[i]? = some k) :
    x.choose view =
      { x.setBuf l { x.buf l with slots := (x.buf l).slots.set i (k.askNext w) } with req := some (scanRequest w l i k) } := by
  unfold Display.soonest at h
  simp only [Display.choose, hq, h, hv, List.getD_eq_getElem?_getD, hk, Option.getD_some]

/-- R33: the request presented, as `Display.soonest` chooses it, and the slot it is for. -/
theorem Display.choose_earliest {x : Display} {view : LayerId → Option LayerView} (hq : x.req = none) :
    ((x.choose view).req = none ∧ x.soonest view = none) ∨
      ∃ y w k, x.soonest view = some y ∧ view y.2.1 = some w ∧ (x.buf y.2.1).Wants w y.2.2 k ∧ y.1 = k.first ∧
        (x.choose view).req = some (scanRequest w y.2.1 y.2.2 k) ∧
        ((x.choose view).buf y.2.1).slots[y.2.2]? = some (k.askNext w) := by
  cases hs : x.soonest view with
  | none => exact .inl ⟨by rw [Display.choose_none hq hs, hq], rfl⟩
  | some y =>
    obtain ⟨w, k, hv, hk, hy⟩ := Display.soonest_wants hs
    have hc := Display.choose_some (n := y.1) hq hs hv hk.1
    refine .inr ⟨y, w, k, rfl, hv, hk, hy, by rw [hc], ?_⟩
    have hlt : y.2.2 < (x.buf y.2.1).slots.length := (List.getElem?_eq_some_iff.mp hk.1).1
    rw [hc]
    cases hl : y.2.1 <;> rw [hl] at hlt <;> exact List.getElem?_set_self hlt

/-! ### Which bursts a row needs (R26, R33) -/

/-- R26: a burst is left out exactly where its pixels all lie inside the window. -/
theorem LayerView.needs_false_iff (v : LayerView) (y m : Nat) :
    v.needs y m = false ↔ ∃ w, v.window = some w ∧ w.y0 ≤ y ∧ y < w.y1 ∧ w.x0 ≤ v.rect.x0 + 32 * m ∧
      v.rect.x0 + min (32 * m + 32) (v.rect.x1 - v.rect.x0) ≤ w.x1 := by
  unfold LayerView.needs
  cases v.window with
  | none => simp
  | some w =>
    simp only [Bool.not_eq_false', Option.some.injEq, exists_eq_left']
    exact decide_eq_true_iff

theorem LayerView.nextBurst_spec (v : LayerView) (y b : Nat) :
    v.nextBurst y b ≤ v.bursts ∧ (v.nextBurst y b < v.bursts → b ≤ v.nextBurst y b ∧ v.needs y (v.nextBurst y b) = true) ∧
      ∀ m, b ≤ m → m < v.nextBurst y b → v.needs y m = false := by
  unfold LayerView.nextBurst
  cases hf : (List.range v.bursts).find? (fun k => decide (b ≤ k) && v.needs y k) with
  | none =>
    refine ⟨le_rfl, fun h => absurd h (lt_irrefl _), fun m hb hm => ?_⟩
    have := List.find?_eq_none.mp hf m (List.mem_range.mpr hm)
    simpa [hb] using this
  | some n =>
    have hn := List.find?_some hf
    simp only [Bool.and_eq_true, decide_eq_true_eq] at hn
    refine ⟨(List.mem_range.mp (List.mem_of_find?_eq_some hf)).le, fun _ => hn, fun m hb hm => ?_⟩
    obtain ⟨-, j, hj, hget, hbefore⟩ := List.find?_eq_some_iff_getElem.mp hf
    rw [List.getElem_range] at hget
    subst hget
    have := hbefore m hm
    rw [List.getElem_range] at this
    simpa [hb] using this

/-- Settles O43: what the reply leaves of the display and what the engine makes of it going on, the choice of the next
burst, and the bursts of a row. -/
theorem scanBurstCompleted : Obligations.ScanBurstCompleted := by
  refine ⟨fun d r s f q hf ho hq hg hr hw => ?_, fun x view hq => ?_,
    fun v y b => ⟨rfl, v.needs_false_iff y, v.nextBurst_spec y b⟩⟩
  · have hself : ((s.scanned d q r).refill d).display d =
        ((s.display d).back (s.layer d q.layer) q r).refill ((s.scanned d q r).layer d) := by
      rw [State.display_refill_self, State.scanned_self]
    have hfields := (((s.display d).back (s.layer d q.layer) q r).refill_spec ((s.scanned d q r).layer d)).1
    refine ⟨(s.scanned d q r).refill d, execScanBurstComplete_eq hf hq ho hg hr hw, ?_, ?_, fun e he => ?_, ?_, ?_, ?_, ?_,
      fun data k hl hdata hlay hk hfill => ?_, fun l i k hk hfree h => ?_⟩
    · rw [State.refill_frame, State.scanned_eq]
    · rw [State.refill_arb, State.scanned_eq]
    · rw [State.display_refill_ne _ he, State.scanned_ne _ _ _ he]
    · rw [State.refill_path, State.scanned_eq]; rfl
    · have h := (s.scanned d q r).refill_counts d
      rwa [show (s.scanned d q r).centre = s.centre by rw [State.scanned_eq]] at h
    · rw [hself, hfields, Display.back_eq]
    · rw [hself, hfields, Display.back_eq]
    · obtain ⟨v, hv⟩ := Option.isSome_iff_exists.mp hlay
      subst hdata
      rw [hself, hv]
      obtain ⟨n, hn⟩ := Display.refill_slot (view := (s.scanned d q (.ok data)).layer d)
        (Display.back_buf_self (v := v) (data := data) hl hk)
        (LineSlot.receive_phase_ne v q.burst data (by rw [hfill]; nofun))
      refine ⟨_, hn, ?_, ?_, ?_, ?_, fun v' hv' => ?_⟩
      · rw [LineSlot.receive_fields]
      · rw [LineSlot.receive_fields]
      · rw [LineSlot.receive_fields]
      · rw [LineSlot.receive_fields]
      · injection hv' with hv'; subst hv'
        exact LineSlot.receive_complete v q.burst data hfill
    · rw [hself]
      exact Display.refill_slot ((Display.back_slot_kept h).trans hk) hfree
  · rcases Display.choose_earliest (view := view) hq with ⟨hnone, hs⟩ | ⟨y, w, k, hs, hv, hk, hy, hreq, hslot⟩
    · refine ⟨iff_of_true hnone fun l i v k h => Display.soonest_none hs h.1 h.2, fun q h => ?_⟩
      rw [hnone] at h; cases h
    · refine ⟨iff_of_false (by rw [hreq]; nofun) fun h => h y.2.1 y.2.2 w k ⟨hv, hk⟩, fun q h => ?_⟩
      rw [hreq] at h
      injection h with h
      subst h
      refine ⟨w, k, ⟨hv, hk⟩, rfl, fun l i v' k' hw => ?_, hslot⟩
      rw [← hy]
      exact Display.soonest_first hs hw.1 hw.2

end Sys2Proof.Machine
end

section
/-! PROOFS. What every blank event does to its display: the staged scene adopted, the frame record latched, and its
rows fetched anew (R3, R4, R12, R15, R19, R20, R30, R32). -/

namespace Sys2Proof.Machine

open Sys2Proof

/-! ### The staged scene adopted (R4, R15) -/

theorem Tri.set_get_self {α : Type} (t : Tri α) (d : Disp) : Tri.set t d (Tri.get t d) = t := by
  rcases d with _ | (_ | _) <;> rfl

theorem Tri.set_set {α : Type} (t : Tri α) (d : Disp) (a b : α) : Tri.set (Tri.set t d a) d b = Tri.set t d b := by
  rcases d with _ | (_ | _) <;> rfl

/-- A display that adopts its staged scene, if it holds one. -/
def Display.adopted (x : Display) (table : List Region) (d : Disp) : Display :=
  match x.staged with
  | none => x
  | some sc => x.adopt table d sc

/-- A backlight channel whose display adopts what it has staged: the duty of a started one is preloaded. -/
def PwmState.adopted (c : PwmState) : Option Scene → PwmState
  | none => c
  | some sc => if c.started then { c with preload := sc.sceneDuty } else c

theorem Display.adopted_none {x : Display} (table : List Region) (d : Disp) (h : x.staged = none) :
    x.adopted table d = x := by
  simp [Display.adopted, h]

theorem Display.adopted_some {x : Display} {sc : Scene} (table : List Region) (d : Disp) (h : x.staged = some sc) :
    x.adopted table d = x.adopt table d sc := by
  simp [Display.adopted, h]

/-- What adopting a scene leaves of a display: all but the scene's own fields. -/
theorem Display.adopted_eq (x : Display) (table : List Region) (d : Disp) :
    x.adopted table d =
      { x with
        content := (x.adopted table d).content, active := (x.adopted table d).active, staged := none,
        cap := (x.adopted table d).cap, mark := (x.adopted table d).mark, fault0 := (x.adopted table d).fault0,
        fault1 := (x.adopted table d).fault1 } := by
  cases h : x.staged with
  | none =>
    rw [Display.adopted_none table d h]
    obtain ⟨⟩ := x
    cases h; rfl
  | some sc => rw [Display.adopted_some table d h]; rfl

theorem PwmState.adopted_started {c : PwmState} (sc : Scene) (h : c.started = true) :
    c.adopted (some sc) = { c with preload := sc.sceneDuty } := if_pos h

theorem PwmState.adopted_of {c : PwmState} {staged : Option Scene} (h : staged = none ∨ c.started = false) :
    c.adopted staged = c := by
  rcases h with rfl | h
  · rfl
  · cases staged with
    | none => rfl
    | some sc => simp [PwmState.adopted, h]

theorem State.adoptStaged_eq (s : State) (d : Disp) :
    s.adoptStaged d =
      { s with
        disp := Tri.set s.disp d ((s.display d).adopted s.path.table d),
        bl := Tri.set s.bl d ((s.pwm d).adopted (s.display d).staged) } := by
  unfold State.adoptStaged Display.adopted
  cases (s.display d).staged with
  | none =>
    show s = { s with disp := Tri.set s.disp d (Tri.get s.disp d), bl := Tri.set s.bl d (Tri.get s.bl d) }
    rw [Tri.set_get_self, Tri.set_get_self]
  | some sc =>
    unfold State.preloadDuty PwmState.adopted
    dsimp only
    have hp : (s.setDisplay d ((s.display d).adopt s.path.table d sc)).pwm d = s.pwm d := rfl
    rw [hp]
    by_cases hst : (s.pwm d).started = true
    · rw [if_pos hst, if_pos hst]; rfl
    · rw [if_neg hst, if_neg hst]
      show _ = { s with disp := _, bl := Tri.set s.bl d (Tri.get s.bl d) }
      rw [Tri.set_get_self]; rfl

/-- R3, R4: a display at its first blank line, the scene adopted that it had staged. -/
def Display.atBlank (x : Display) (table : List Region) (d : Disp) (ha : Nat) : Display :=
  (x.atLine ha true).adopted table d

section
variable (x : Display) (table : List Region) (d : Disp) (ha : Nat)

theorem Display.atBlank_none (h : x.staged = none) : x.atBlank table d ha = x.atLine ha true :=
  Display.adopted_none (x := x.atLine ha true) table d h

theorem Display.atBlank_some {sc : Scene} (h : x.staged = some sc) :
    x.atBlank table d ha = (x.atLine ha true).adopt table d sc :=
  Display.adopted_some (x := x.atLine ha true) table d h

theorem Display.atBlank_eq :
    x.atBlank table d ha =
      { x with
        line := ha, lineClk := 0, blanked := true, kept := none, staged := none,
        content := (x.atBlank table d ha).content, active := (x.atBlank table d ha).active,
        cap := (x.atBlank table d ha).cap, mark := (x.atBlank table d ha).mark,
        fault0 := (x.atBlank table d ha).fault0, fault1 := (x.atBlank table d ha).fault1 } := by
  unfold Display.atBlank
  rw [Display.adopted_eq]; rfl

end

/-- R30: an overlay is faulty where it is present and its scroll rows do not add up to its height. -/
theorem scrollFault_iff {o : SceneOverlay} {g : Option Geom} :
    scrollFault o g = true ↔ ∃ h, g = some h ∧ o.scrT + o.scrS + o.scrB ≠ h.height := by
  cases g <;> simp [scrollFault]

theorem scrollFault_iff_of {o : SceneOverlay} {g g' : Option Geom} (h : g = g') :
    scrollFault o g = true ↔ ∃ x, g' = some x ∧ o.scrT + o.scrS + o.scrB ≠ x.height := h ▸ scrollFault_iff

/-- R19: the geometry captured of an overlay: that of the OVERLAY entry it names. -/
theorem overlayGeometry_bind (table : List Region) (r : Option Nat) :
    r.bind (fun i => overlayGeometry (entryAt table i)) =
      r.bind (fun i =>
        match entryAt table i with
        | .overlay v => some { base := v.base, width := v.width, height := v.height }
        | _ => none) := by
  refine congrArg (Option.bind r) (funext fun i => ?_)
  cases entryAt table i <;> rfl

/-- R19: the geometry captured of the film base of a rear display: that of the FILM entry of its seat. -/
theorem filmGeometry_bind (table : List Region) (k : Seat) (r : Option Nat) :
    r.bind (fun i => baseGeometry (.rear k) (entryAt table i)) =
      r.bind (fun i =>
        match entryAt table i with
        | .film f => if f.seat = k then some { base := f.base, width := f.width, height := f.height } else none
        | _ => none) := by
  refine congrArg (Option.bind r) (funext fun i => ?_)
  cases entryAt table i <;> rfl

/-- R19: what a rear display captures of a scene. -/
theorem capture_rear (table : List Region) (k : Seat) (sc : Scene) :
    capture table (.rear k) sc =
      { base := sc.base.bind (fun i =>
          match entryAt table i with
          | .film f => if f.seat = k then some { base := f.base, width := f.width, height := f.height } else none
          | _ => none),
        ov0 := sc.ov0.region.bind (fun i =>
          match entryAt table i with
          | .overlay v => some { base := v.base, width := v.width, height := v.height }
          | _ => none),
        ov1 := sc.ov1.region.bind (fun i =>
          match entryAt table i with
          | .overlay v => some { base := v.base, width := v.width, height := v.height }
          | _ => none) } :=
  congr (congr (congrArg Captured.mk (filmGeometry_bind table k sc.base)) (overlayGeometry_bind table sc.ov0.region))
    (overlayGeometry_bind table sc.ov1.region)

/-- R19: what the centre captures of a scene. -/
theorem capture_centre (table : List Region) (sc : Scene) :
    capture table .centre sc =
      { base := sc.base.bind (fun i =>
          match entryAt table i with
          | .overlay v => some { base := v.base, width := v.width, height := v.height }
          | _ => none),
        ov0 := sc.ov0.region.bind (fun i =>
          match entryAt table i with
          | .overlay v => some { base := v.base, width := v.width, height := v.height }
          | _ => none),
        ov1 := sc.ov1.region.bind (fun i =>
          match entryAt table i with
          | .overlay v => some { base := v.base, width := v.width, height := v.height }
          | _ => none) } :=
  congr (congr (congrArg Captured.mk (overlayGeometry_bind table sc.base)) (overlayGeometry_bind table sc.ov0.region))
    (overlayGeometry_bind table sc.ov1.region)

theorem State.blankLine_eq (s : State) (d : Disp) (ha : Nat) :
    (s.setDisplay d ((s.display d).atLine ha true)).adoptStaged d =
      { s with
        disp := Tri.set s.disp d ((s.display d).atBlank s.path.table d ha),
        bl := Tri.set s.bl d ((s.pwm d).adopted (s.display d).staged) } := by
  rw [State.adoptStaged_eq, State.display_setDisplay_self]
  show { s with disp := Tri.set (Tri.set s.disp d _) d _, bl := _ } = _
  rw [Tri.set_set]; rfl

/-! ### Rows fetched anew (R32) -/

theorem Display.freeAll_buf (x : Display) (l : LayerId) : x.freeAll.buf l = LayerBuf.empty := by
  unfold Display.freeAll
  cases l with
  | base =>
    rw [Display.freeLayer_buf_ne _ _ (by decide), Display.freeLayer_buf_ne _ _ (by decide), Display.freeLayer_buf_self]
  | ov0 => rw [Display.freeLayer_buf_ne _ _ (by decide), Display.freeLayer_buf_self]
  | ov1 => rw [Display.freeLayer_buf_self]

theorem Display.freeLayer_req_self {x : Display} {q : ScanReq} {l : LayerId} (hq : x.req = some q) (hl : q.layer = l) :
    (x.freeLayer l false).req = if q.granted = true then some { q with live := false } else none := by
  rw [Display.freeLayer_req, Display.dropReq_req_pos hq (by simp [hl])]
  simp

theorem Display.freeLayer_req_ne {x : Display} {q : ScanReq} {l : LayerId} (hq : x.req = some q) (h : q.layer ≠ l) :
    (x.freeLayer l false).req = some q := by
  rw [Display.freeLayer_req]
  exact Display.dropReq_req_neg hq (by simpa using h)

theorem Display.freeLayer_req_none {x : Display} {l : LayerId} (hq : x.req = none) : (x.freeLayer l false).req = none := by
  rw [Display.freeLayer_req]
  exact Display.dropReq_req_none hq

/-- A request whose data is not wanted is not touched by freeing layers. -/
theorem Display.freeLayer_req_dead {x : Display} {q : ScanReq} {l : LayerId} (hq : x.req = some q)
    (hg : q.granted = true) (hd : q.live = false) : (x.freeLayer l false).req = some q := by
  by_cases h : q.layer = l
  · rw [Display.freeLayer_req_self hq h, if_pos hg]
    cases q; cases hd; rfl
  · exact Display.freeLayer_req_ne hq h

theorem layer_cases (l : LayerId) : l = .base ∨ l = .ov0 ∨ l = .ov1 := by cases l <;> simp

/-- R32: a burst granted before will be discarded, one only presented is withdrawn. -/
theorem Display.freeAll_req_granted {x : Display} {q : ScanReq} (hq : x.req = some q) (hg : q.granted = true) :
    x.freeAll.req = some { q with live := false } := by
  have dead : ∀ (y : Display) (l : LayerId), y.req = some { q with live := false } →
      (y.freeLayer l false).req = some { q with live := false } :=
    fun y l hy => Display.freeLayer_req_dead hy hg rfl
  have self : ∀ (y : Display) (l : LayerId), q.layer = l → y.req = some q →
      (y.freeLayer l false).req = some { q with live := false } :=
    fun y l hl hy => (Display.freeLayer_req_self hy hl).trans (if_pos hg)
  have other : ∀ (y : Display) (l : LayerId), q.layer ≠ l → y.req = some q → (y.freeLayer l false).req = some q :=
    fun y l hl hy => Display.freeLayer_req_ne hy hl
  unfold Display.freeAll
  rcases layer_cases q.layer with hl | hl | hl
  · exact dead _ _ (dead _ _ (self _ _ hl hq))
  · exact dead _ _ (self _ _ hl (other _ .base (by rw [hl]; decide) hq))
  · exact self _ _ hl (other _ .ov0 (by rw [hl]; decide) (other _ .base (by rw [hl]; decide) hq))

theorem Display.freeAll_req_ungranted {x : Display} (h : ∀ q, x.req = some q → q.granted = false) :
    x.freeAll.req = none := by
  unfold Display.freeAll
  cases hq : x.req with
  | none => exact Display.freeLayer_req_none (Display.freeLayer_req_none (Display.freeLayer_req_none hq))
  | some q =>
    have hg := h q hq
    have self : ∀ (y : Display) (l : LayerId), q.layer = l → y.req = some q → (y.freeLayer l false).req = none :=
      fun y l hl hy => (Display.freeLayer_req_self hy hl).trans (if_neg (by rw [hg]; nofun))
    have other : ∀ (y : Display) (l : LayerId), q.layer ≠ l → y.req = some q → (y.freeLayer l false).req = some q :=
      fun y l hl hy => Display.freeLayer_req_ne hy hl
    rcases layer_cases q.layer with hl | hl | hl
    · exact Display.freeLayer_req_none (Display.freeLayer_req_none (self _ _ hl hq))
    · exact Display.freeLayer_req_none (self _ _ hl (other _ .base (by rw [hl]; decide) hq))
    · exact self _ _ hl (other _ .ov0 (by rw [hl]; decide) (other _ .base (by rw [hl]; decide) hq))

theorem Display.freeAll_eq (x : Display) :
    x.freeAll =
      { x with base := x.freeAll.base, ov0 := x.freeAll.ov0, ov1 := x.freeAll.ov1, req := x.freeAll.req } := by
  unfold Display.freeAll
  rw [Display.freeLayer_eq _ .ov1, Display.freeLayer_eq _ .ov0, Display.freeLayer_eq x .base]

theorem LayerBuf.empty_slot {i : Nat} (hi : i < 4) : LayerBuf.empty.slots[i]? = some LineSlot.empty :=
  List.getElem?_replicate_of_lt hi

theorem LayerBuf.empty_free {i : Nat} (hi : i < 4) :
    (LayerBuf.empty.slots.take i).countP (fun k => k.phase == .free) = i := by
  show ((List.replicate 4 LineSlot.empty).take i).countP _ = i
  rw [List.take_replicate, List.countP_replicate, if_pos (by rfl), Nat.min_eq_left hi.le]

/-- R32: the empty buffer of a layer assigned: its four slots to the first rows it needs, while it has so many. -/
theorem LayerBuf.empty_refill_slot (v : LayerView) {i : Nat} (hi : i < 4) :
    (LayerBuf.empty.refill (some v)).slots[i]? =
      some (if (if v.alternate = true then 2 * i else i) < v.rows then
        assignSlot v (if v.alternate = true then 2 * i else i) else LineSlot.empty) := by
  have h := assignFree_slot v LayerBuf.empty.slots LayerBuf.empty.nextRow i LineSlot.empty (LayerBuf.empty_slot hi)
  rw [LayerBuf.empty_free hi] at h
  refine h.trans ?_
  have hr : LayerBuf.empty.nextRow + (if v.alternate = true then 2 else 1) * i =
      if v.alternate = true then 2 * i else i := by
    split <;> simp [LayerBuf.empty]
  rw [hr]
  simp only [LineSlot.empty, true_and]

/-- A slot just assigned, or one left free, holds no data and is not stopped. -/
theorem assigned_blank (v : LayerView) (r : Nat) (c : Prop) [Decidable c] :
    (if c then assignSlot v r else LineSlot.empty).chunks = [] ∧
      (if c then assignSlot v r else LineSlot.empty).stopped = false := by
  split <;> exact ⟨rfl, rfl⟩

/-- Choosing a request leaves of each slot all but the burst it asks for next. -/
theorem Display.choose_slot (x : Display) (view : LayerId → Option LayerView) (l : LayerId) :
    ((x.choose view).buf l).under = (x.buf l).under ∧
      ((x.choose view).buf l).slots.length = (x.buf l).slots.length ∧
      ∀ (i : Nat) (k : LineSlot), (x.buf l).slots[i]? = some k →
        ∃ n, ((x.choose view).buf l).slots[i]? = some { k with asked := n } := by
  rcases x.choose_spec view with ⟨e, -⟩ | ⟨m, w, j, a, -, -, hj, -, -, -, e⟩
  · rw [e]; exact ⟨rfl, rfl, fun i k hk => ⟨k.asked, hk⟩⟩
  · have hb : (x.choose view).buf l =
        if l = m then { x.buf m with slots := (x.buf m).slots.set j (a.askNext w) } else x.buf l := by
      rw [e]; cases m <;> cases l <;> rfl
    rw [hb]
    by_cases hlm : l = m
    · subst hlm
      rw [if_pos rfl]
      refine ⟨rfl, List.length_set, fun i k hk => ?_⟩
      have hlt := (List.getElem?_eq_some_iff.mp hj).1
      by_cases hij : i = j
      · subst hij
        rw [hj] at hk; injection hk with hk; subst hk
        exact ⟨_, List.getElem?_set_self hlt⟩
      · exact ⟨k.asked, (List.getElem?_set_ne (Ne.symm hij)).trans hk⟩
    · rw [if_neg hlm]; exact ⟨rfl, rfl, fun i k hk => ⟨k.asked, hk⟩⟩

/-- The layers of a display whose free slots are assigned. -/
def Display.assign (x : Display) (view : LayerId → Option LayerView) : Display :=
  { x with
    base := x.base.refill (view .base), ov0 := x.ov0.refill (view .ov0), ov1 := x.ov1.refill (view .ov1) }

theorem Display.assign_buf (x : Display) (view : LayerId → Option LayerView) (l : LayerId) :
    (x.assign view).buf l = (x.buf l).refill (view l) := by
  cases l <;> rfl

theorem LayerBuf.empty_refill_length (v : Option LayerView) : (LayerBuf.empty.refill v).slots.length = 4 := by
  cases v with
  | none => rfl
  | some v => exact assignFree_length _ _ _

/-- R32: an engine that has nothing begins to fetch the frame's rows. -/
theorem Display.refill_fetchesAnew {x : Display} {before : Option ScanReq} (view : LayerId → Option LayerView)
    (hb : ∀ l, x.buf l = LayerBuf.empty)
    (hg : ∀ q, before = some q → q.granted = true → x.req = some { q with live := false })
    (hn : (∀ q, before = some q → q.granted = false) → x.req = none) :
    (x.refill view).FetchesAnew view before := by
  have hspec := x.refill_spec view
  have hslots : ∀ l, ((x.refill view).buf l).under = none ∧ ((x.refill view).buf l).slots.length = 4 ∧
      ∀ (i : Nat) (k : LineSlot), (LayerBuf.empty.refill (view l)).slots[i]? = some k →
        ∃ n, ((x.refill view).buf l).slots[i]? = some { k with asked := n } := by
    intro l
    obtain ⟨hu, hlen, hk⟩ := (x.assign view).choose_slot view l
    rw [Display.assign_buf, hb] at hu hlen hk
    exact ⟨hu.trans (LayerBuf.refill_under _ _), hlen.trans (LayerBuf.empty_refill_length _), hk⟩
  have hrow : ∀ l v i, view l = some v → i < 4 → ∃ n, ((x.refill view).buf l).slots[i]? =
      some { (if (if v.alternate = true then 2 * i else i) < v.rows then
        assignSlot v (if v.alternate = true then 2 * i else i) else LineSlot.empty) with asked := n } := by
    intro l v i hv hi
    have h := (hslots l).2.2 i
    rw [hv] at h
    exact h _ (LayerBuf.empty_refill_slot v hi)
  have hfree : ∀ l i, view l = none → i < 4 →
      ∃ n, ((x.refill view).buf l).slots[i]? = some { LineSlot.empty with asked := n } := by
    intro l i hv hi
    have h := (hslots l).2.2 i
    rw [hv] at h
    exact h _ (LayerBuf.empty_slot hi)
  refine ⟨fun l => ⟨(hslots l).2.1, (hslots l).1, fun k hk => ?_⟩, fun l hv k hk => ?_, fun l v i hv hi => ?_,
    fun q hq hgr => hspec.2.2.1 _ (hg q hq hgr), fun h q hq => ?_⟩
  · obtain ⟨i, hi⟩ := List.mem_iff_getElem?.mp hk
    have hi4 : i < 4 := (hslots l).2.1 ▸ (List.getElem?_eq_some_iff.mp hi).1
    cases hv : view l with
    | none =>
      obtain ⟨n, hn⟩ := hfree l i hv hi4
      rw [hn] at hi; injection hi with hi; subst hi
      exact ⟨rfl, rfl⟩
    | some v =>
      obtain ⟨n, hn⟩ := hrow l v i hv hi4
      rw [hn] at hi; injection hi with hi; subst hi
      exact assigned_blank v _ _
  · obtain ⟨i, hi⟩ := List.mem_iff_getElem?.mp hk
    obtain ⟨n, hn⟩ := hfree l i hv ((hslots l).2.1 ▸ (List.getElem?_eq_some_iff.mp hi).1)
    rw [hn] at hi; injection hi with hi; subst hi; rfl
  · obtain ⟨n, hn⟩ := hrow l v i hv hi
    refine ⟨_, hn, fun hr => ?_, fun hr => ?_⟩
    · rw [if_pos hr]
      exact ⟨assignSlot_phase v _, rfl, rfl, rfl⟩
    · rw [if_neg (Nat.not_lt.mpr hr)]; rfl
  · rcases hspec.2.2.2.1 q hq with h' | ⟨-, h1, h2, h3, -⟩
    · rw [hn h] at h'; cases h'
    · exact ⟨h1, h2, h3⟩

/-! ### The frame record latched (R20) -/

/-- R12, R20, R32: a display that latches a frame record at its blank event, and begins to fetch the layers `view`. -/
def Display.frameBegun (x : Display) (fr : FrameRecord) (flip : Bool) (view : LayerId → Option LayerView) : Display :=
  ((x.latch fr).markBlank flip).refill view

theorem Display.latch_eq (x : Display) (fr : FrameRecord) :
    x.latch fr =
      { x with base := x.freeAll.base, ov0 := x.freeAll.ov0, ov1 := x.freeAll.ov1, req := x.freeAll.req,
               frame := some fr, withdraw := false } := by
  unfold Display.latch
  rw [Display.freeAll_eq]

section
variable (x : Display) (fr : FrameRecord) (flip : Bool) (view : LayerId → Option LayerView)

/-- What a latched frame leaves of the display. -/
theorem Display.frameBegun_eq :
    x.frameBegun fr flip view =
      { x with
        frame := some fr, withdraw := false, markHigh := (x.markBlank flip).markHigh,
        base := (x.frameBegun fr flip view).base, ov0 := (x.frameBegun fr flip view).ov0,
        ov1 := (x.frameBegun fr flip view).ov1, req := (x.frameBegun fr flip view).req } := by
  have h := (((x.latch fr).markBlank flip).refill_spec view).1
  unfold Display.frameBegun
  generalize (((x.latch fr).markBlank flip).refill view) = y at h ⊢
  rw [h, Display.latch_eq]
  rfl

theorem Display.frameBegun_fetchesAnew : (x.frameBegun fr flip view).FetchesAnew view x.req := by
  refine Display.refill_fetchesAnew view (fun l => ?_) (fun q hq hg => ?_) (fun h => ?_)
  · rw [← x.freeAll_buf l]
    cases l <;> rfl
  · exact Display.freeAll_req_granted hq hg
  · exact Display.freeAll_req_ungranted h

end

theorem Display.markBlank_off {x : Display} (flip : Bool) (h : x.mark = .off) : (x.markBlank flip).markHigh = false := by
  simp [Display.markBlank, h]

theorem Display.markBlank_blank {x : Display} (flip : Bool) (h : x.mark = .blank) : (x.markBlank flip).markHigh = true := by
  simp [Display.markBlank, h]

theorem Display.markBlank_flip {x : Display} (flip : Bool) (h : x.mark = .flip) : (x.markBlank flip).markHigh = flip := by
  simp [Display.markBlank, h]

/-- The layers the display of a machine fetches in the frame it has latched. -/
theorem State.latchFrame_display_self (s : State) (d : Disp) (fr : FrameRecord) (flip : Bool) :
    (s.latchFrame d fr flip).display d =
      (s.display d).frameBegun fr flip ((s.latchFrame d fr flip).layer d) := by
  have hv : (s.latchFrame d fr flip).layer d =
      (s.setDisplay d (((s.display d).latch fr).markBlank flip)).layer d := funext fun l => State.refill_layer _ _ _
  rw [hv]
  unfold State.latchFrame
  rw [State.display_refill_self, State.display_setDisplay_self, Display.frameBegun]

theorem State.latchFrame_display_ne (s : State) {d e : Disp} (fr : FrameRecord) (flip : Bool) (h : e ≠ d) :
    (s.latchFrame d fr flip).display e = s.display e := by
  unfold State.latchFrame
  rw [State.display_refill_ne _ h, State.display_setDisplay_ne _ _ h]

theorem State.latchFrame_counts (s : State) (d : Disp) (fr : FrameRecord) (flip : Bool) :
    CountsUrgentLine s.centre (s.latchFrame d fr flip) :=
  (s.setDisplay d (((s.display d).latch fr).markBlank flip)).refill_counts d

end Sys2Proof.Machine
end

section
/-! PROOFS. The film set a rear display presents and the selection on it (R68 to R73, R76, R80), and the whole of a rear
blank event. -/

namespace Sys2Proof.Machine

open Sys2Proof

/-! ### The sets -/

theorem State.setAt_putSet_self {s : State} {i : Nat} {b : BufSet} (h : s.setAt i = some b) (c : BufSet) :
    (s.putSet i c).setAt i = some c := by
  have hlt : i < s.sets.length := by
    by_contra hn
    have hnone : s.sets[i]? = none := List.getElem?_eq_none (Nat.not_lt.mp hn)
    rw [State.setAt, hnone] at h
    cases h
  show ((s.sets.set i (some c))[i]?).join = some c
  rw [List.getElem?_set_self hlt]; rfl

theorem State.setAt_putSet_ne (s : State) {i j : Nat} (c : BufSet) (h : j ≠ i) : (s.putSet i c).setAt j = s.setAt j := by
  show ((s.sets.set i (some c))[j]?).join = _
  rw [List.getElem?_set_ne (Ne.symm h)]; rfl

theorem State.setAt_setRear (s : State) (k : Seat) (r : RearState) (i : Nat) : (s.setRear k r).setAt i = s.setAt i := rfl

theorem State.rearOf_putSet (s : State) (i : Nat) (b : BufSet) (k : Seat) : (s.putSet i b).rearOf k = s.rearOf k := rfl

/-- R68: what a set that ceases to be presented is left with. -/
theorem BufSet.hide_eq (b : BufSet) :
    b.hide =
      { b with
        bufs := match b.shown with
          | some j => b.bufs.set j { phase := .free, tag := none }
          | none => b.bufs,
        shows := 0 } := by
  unfold BufSet.hide
  cases b.shown <;> rfl

/-! ### The set presented (R68) -/

theorem State.presentedNow_none {s : State} {k : Seat}
    (h : (s.display (.rear k)).content = .noScene ∨ (s.display (.rear k)).active = none) : s.presentedNow k = none := by
  unfold State.presentedNow
  dsimp only
  rcases h with h | h
  · rw [h]
  · rw [h]; cases (s.display (.rear k)).content <;> rfl

theorem State.presentedNow_scene {s : State} {k : Seat} {sc : Scene} (hc : (s.display (.rear k)).content ≠ .noScene)
    (ha : (s.display (.rear k)).active = some sc) :
    s.presentedNow k = sc.base.bind (fun i => if (s.setAt i).isSome = true then some i else none) := by
  unfold State.presentedNow
  dsimp only
  rw [ha]
  cases h : (s.display (.rear k)).content with
  | noScene => exact absurd h hc
  | scene => cases hb : sc.base <;> simp [hb]
  | disabled => cases hb : sc.base <;> simp [hb]

/-- A set is presented only where there is one. -/
theorem State.presentedNow_isSome {s : State} {k : Seat} {i : Nat} (h : s.presentedNow k = some i) :
    ∃ b, s.setAt i = some b := by
  by_cases hn : (s.display (.rear k)).content = .noScene ∨ (s.display (.rear k)).active = none
  · rw [State.presentedNow_none hn] at h; cases h
  · obtain ⟨hc, ha⟩ := not_or.mp hn
    obtain ⟨sc, hsc⟩ := Option.ne_none_iff_exists'.mp ha
    rw [State.presentedNow_scene hc hsc] at h
    obtain ⟨j, -, hj⟩ := Option.bind_eq_some_iff.mp h
    split at hj
    · rename_i hs; injection hj with hj; subst hj; exact Option.isSome_iff_exists.mp hs
    · cases hj

section
variable (s : State) (k : Seat) (now : Option Nat)

theorem State.changePresented_rearOf_self :
    (s.changePresented k now).rearOf k = { s.rearOf k with presented := now } :=
  State.rearOf_setRear_self _ _ _

theorem State.changePresented_rearOf_ne {j : Seat} (h : j ≠ k) : (s.changePresented k now).rearOf j = s.rearOf j := by
  refine (State.rearOf_setRear_ne _ _ h).trans ?_
  split
  · split
    · rfl
    · split <;> rfl
  · rfl

/-- The sets after a change of the presented one: the one that ceases to be presented hidden, the others as they were. -/
theorem State.changePresented_setAt_hidden {i : Nat} {b : BufSet} (hi : (s.rearOf k).presented = some i)
    (hb : s.setAt i = some b) (hn : now ≠ some i) : (s.changePresented k now).setAt i = some b.hide := by
  refine (State.setAt_setRear _ _ _ _).trans ?_
  simp only [hi, if_neg hn, hb]
  exact State.setAt_putSet_self hb _

theorem State.changePresented_setAt_kept {i : Nat} (h : (s.rearOf k).presented ≠ some i ∨ now = some i) :
    (s.changePresented k now).setAt i = s.setAt i := by
  refine (State.setAt_setRear _ _ _ _).trans ?_
  cases hp : (s.rearOf k).presented with
  | none => rfl
  | some j =>
    dsimp only
    split
    · rfl
    · rename_i hn
      have hij : i ≠ j := by
        rintro rfl
        rcases h with h | h
        · exact h hp
        · exact hn h
      split
      · exact State.setAt_putSet_ne _ _ hij
      · rfl

end

/-! ### The selection (R69 to R73, R80) -/

/-- R80: the counters of a rear display after a selection on a set of its seat. -/
def RearState.counted (r : RearState) (x : Selection) : RearState :=
  { r with
    dropped := satAdd r.dropped x.dropped
    repeated := if x.repeated = true then satInc r.repeated else r.repeated
    late := if x.late = true then satInc r.late else r.late }

/-- The selection a set makes now. -/
def State.selection (s : State) (b : BufSet) : Selection := b.select (Pair.get s.aud.streams b.seat)

section
variable {s : State} {k : Seat} {i : Nat} {b : BufSet}

theorem State.selectFilm_none (h : s.presentedNow k = none) : s.selectFilm k = (s.changePresented k none, false) := by
  unfold State.selectFilm
  dsimp only
  rw [h]

theorem State.selectFilm_some (h : s.presentedNow k = some i) (hb : s.setAt i = some b) :
    s.selectFilm k =
      (((s.changePresented k (some i)).putSet i (s.selection b).set).setRear b.seat
        (((s.changePresented k (some i)).rearOf b.seat).counted (s.selection b)), (s.selection b).flipped) := by
  have hset : (s.changePresented k (some i)).setAt i = some b :=
    (s.changePresented_setAt_kept k (some i) (.inr rfl)).trans hb
  unfold State.selectFilm State.selection
  dsimp only
  rw [h]
  dsimp only
  rw [hset]
  dsimp only
  rw [State.changePresented_aud]
  rfl

theorem State.selectFilm_setAt_shown (h : s.presentedNow k = some i) (hb : s.setAt i = some b) :
    (s.selectFilm k).1.setAt i = some (s.selection b).set := by
  rw [State.selectFilm_some h hb]
  exact State.setAt_putSet_self ((s.changePresented_setAt_kept k (some i) (.inr rfl)).trans hb) _

/-- The sets but the presented one are as the change of the presented set leaves them. -/
theorem State.selectFilm_setAt_ne (h : s.presentedNow k ≠ some i) :
    (s.selectFilm k).1.setAt i = (s.changePresented k (s.presentedNow k)).setAt i := by
  cases hn : s.presentedNow k with
  | none => rw [State.selectFilm_none hn]
  | some j =>
    obtain ⟨c, hc⟩ := State.presentedNow_isSome hn
    rw [State.selectFilm_some hn hc]
    refine State.setAt_putSet_ne _ _ ?_
    rintro rfl; exact h hn

theorem State.selectFilm_setAt_hidden (hi : (s.rearOf k).presented = some i) (hb : s.setAt i = some b)
    (h : s.presentedNow k ≠ some i) : (s.selectFilm k).1.setAt i = some b.hide := by
  rw [State.selectFilm_setAt_ne h]; exact s.changePresented_setAt_hidden k _ hi hb h

theorem State.selectFilm_setAt_kept (hi : (s.rearOf k).presented ≠ some i) (h : s.presentedNow k ≠ some i) :
    (s.selectFilm k).1.setAt i = s.setAt i := by
  rw [State.selectFilm_setAt_ne h]; exact s.changePresented_setAt_kept k _ (.inl hi)

theorem State.selectFilm_rear_none (h : s.presentedNow k = none) :
    (s.selectFilm k).1.rearOf k = { s.rearOf k with presented := none } ∧
      ∀ j, j ≠ k → (s.selectFilm k).1.rearOf j = s.rearOf j := by
  rw [State.selectFilm_none h]
  exact ⟨s.changePresented_rearOf_self k none, fun j hj => s.changePresented_rearOf_ne k none hj⟩

theorem State.selectFilm_rear_seat (h : s.presentedNow k = some i) (hb : s.setAt i = some b) (hk : b.seat = k) :
    (s.selectFilm k).1.rearOf k = RearState.counted { s.rearOf k with presented := some i } (s.selection b) ∧
      ∀ j, j ≠ k → (s.selectFilm k).1.rearOf j = s.rearOf j := by
  rw [State.selectFilm_some h hb, hk, State.changePresented_rearOf_self]
  refine ⟨State.rearOf_setRear_self _ _ _, fun j hj => ?_⟩
  rw [State.rearOf_setRear_ne _ _ hj, State.rearOf_putSet, State.changePresented_rearOf_ne _ _ _ hj]

/-- Whichever display's counters a selection moves, the display presents the set chosen, in its quality mode. -/
theorem State.selectFilm_presented (s : State) (k : Seat) :
    ((s.selectFilm k).1.rearOf k).presented = s.presentedNow k ∧
      ((s.selectFilm k).1.rearOf k).reduced = (s.rearOf k).reduced := by
  cases h : s.presentedNow k with
  | none => rw [(State.selectFilm_rear_none h).1]; exact ⟨rfl, rfl⟩
  | some i =>
    obtain ⟨b, hb⟩ := State.presentedNow_isSome h
    by_cases hk : b.seat = k
    · rw [(State.selectFilm_rear_seat h hb hk).1]; exact ⟨rfl, rfl⟩
    · rw [State.selectFilm_some h hb, State.rearOf_setRear_ne _ _ (Ne.symm hk), State.rearOf_putSet,
        State.changePresented_rearOf_self]
      exact ⟨rfl, rfl⟩

theorem State.selectFilm_flipped (s : State) (k : Seat) :
    (s.selectFilm k).2 = true ↔ ∃ i b, s.presentedNow k = some i ∧ s.setAt i = some b ∧ (s.selection b).flipped = true := by
  cases h : s.presentedNow k with
  | none => rw [State.selectFilm_none h]; simp
  | some i =>
    obtain ⟨b, hb⟩ := State.presentedNow_isSome h
    rw [State.selectFilm_some h hb]
    constructor
    · exact fun hf => ⟨i, b, rfl, hb, hf⟩
    · rintro ⟨j, c, hj, hc, hf⟩
      injection hj with hj; subst hj
      rw [hb] at hc; injection hc with hc; subst hc
      exact hf

end

/-! ### REAR_BLANK_EVENT -/

/-- R10: the quality mode a rear blank event decides. -/
theorem State.quality_eq (s : State) (now : Bool) :
    s.quality now =
      if s.centre.urgentLines = 4 ∨ s.centre.underrunFlag = true ∨
          (s.rvc.phase ≠ .off ∧ s.reduceInReverse = true) then true
      else if s.centre.calm = 120 then false else now := by
  simp [State.quality, State.reversing, or_assoc]

/-- The state in which the film is selected: the scene adopted, the quality mode decided. -/
def State.rearLine (s : State) (k : Seat) (ha : Nat) : State :=
  ((s.setDisplay (.rear k) ((s.display (.rear k)).atLine ha true)).adoptStaged (.rear k)).decideQuality k

theorem State.rearLine_eq (s : State) (k : Seat) (ha : Nat) :
    s.rearLine k ha =
      { s with
        disp := Tri.set s.disp (.rear k) ((s.display (.rear k)).atBlank s.path.table (.rear k) ha),
        bl := Tri.set s.bl (.rear k) ((s.pwm (.rear k)).adopted (s.display (.rear k)).staged),
        rear := Pair.set s.rear k { s.rearOf k with reduced := s.quality (s.rearOf k).reduced } } := by
  rw [State.rearLine, State.blankLine_eq]; rfl

/-- R20: what the film selection hands to the frame record and the frame-mark line. -/
theorem execRearBlankEvent_eq {k : Seat} {s : State} {tm : DispTiming} (ht : s.timing (.rear k) = some tm)
    (hr : (s.display (.rear k)).running = true) :
    execRearBlankEvent k s =
      .next ((((s.rearLine k tm.ha).selectFilm k).1).latchFrame (.rear k)
        ((((s.rearLine k tm.ha).selectFilm k).1).rearFrame k) ((s.rearLine k tm.ha).selectFilm k).2) := by
  unfold execRearBlankEvent
  rw [ht]
  exact if_pos hr

section
variable (s : State) (k : Seat) (ha : Nat)

theorem State.rearLine_display :
    (s.rearLine k ha).display (.rear k) = (s.display (.rear k)).atBlank s.path.table (.rear k) ha := by
  rw [State.rearLine_eq]; exact Tri.get_set_self _ _ _

theorem State.rearLine_display_ne {d : Disp} (h : d ≠ .rear k) : (s.rearLine k ha).display d = s.display d := by
  rw [State.rearLine_eq]; exact Tri.get_set_ne _ _ h

theorem State.rearLine_pwm :
    (s.rearLine k ha).pwm (.rear k) = (s.pwm (.rear k)).adopted (s.display (.rear k)).staged := by
  rw [State.rearLine_eq]; exact Tri.get_set_self _ _ _

theorem State.rearLine_pwm_ne {d : Disp} (h : d ≠ .rear k) : (s.rearLine k ha).pwm d = s.pwm d := by
  rw [State.rearLine_eq]; exact Tri.get_set_ne _ _ h

theorem State.rearLine_rearOf :
    (s.rearLine k ha).rearOf k = { s.rearOf k with reduced := s.quality (s.rearOf k).reduced } := by
  rw [State.rearLine_eq]; exact Pair.get_set_self _ _ _

theorem State.rearLine_rearOf_ne {j : Seat} (h : j ≠ k) : (s.rearLine k ha).rearOf j = s.rearOf j := by
  rw [State.rearLine_eq]; exact Pair.get_set_ne _ _ h

theorem State.rearLine_setAt (i : Nat) : (s.rearLine k ha).setAt i = s.setAt i := by
  rw [State.rearLine_eq]; rfl

theorem State.rearLine_selection (b : BufSet) :
    (s.rearLine k ha).selection b = b.select (Pair.get s.aud.streams b.seat) := by
  rw [State.rearLine_eq]; rfl

end

/-- Settles O39: the scene adopted, the quality mode decided, the film selected, the record latched. -/
theorem rearBlankEventTaken : Obligations.RearBlankEventTaken := by
  intro k s tm ht hr
  have hexec := execRearBlankEvent_eq ht hr
  obtain ⟨u, hu⟩ : ∃ u, u = s.rearLine k tm.ha := ⟨_, rfl⟩
  obtain ⟨v, hv⟩ : ∃ v, v = (u.selectFilm k).1 := ⟨_, rfl⟩
  obtain ⟨b, hb'⟩ : ∃ b, b = (s.display (.rear k)).atBlank s.path.table (.rear k) tm.ha := ⟨_, rfl⟩
  obtain ⟨t, hts⟩ : ∃ t, t = v.latchFrame (.rear k) (v.rearFrame k) (u.selectFilm k).2 := ⟨_, rfl⟩
  rw [← hu, ← hv, ← hts] at hexec
  have hud : u.display (.rear k) = b := by rw [hu, hb']; exact s.rearLine_display k tm.ha
  have hcentre : v.centre = s.centre := by
    rw [hv, State.selectFilm_centre, hu, State.rearLine_eq]
  have hvd : v.display (.rear k) = b := by rw [hv, State.display_congr (State.selectFilm_disp _ _), hud]
  have hdisp : t.display (.rear k) = b.frameBegun (v.rearFrame k) (u.selectFilm k).2 (t.layer (.rear k)) := by
    rw [hts, State.latchFrame_display_self, hvd]
  have hb := (s.display (.rear k)).atBlank_eq s.path.table (.rear k) tm.ha
  rw [← hb'] at hb
  have hfields := hdisp.trans (Display.frameBegun_eq _ _ _ _)
  have hrear : ∀ j, t.rearOf j = v.rearOf j := State.rearOf_congr (by rw [hts, State.latchFrame_rear])
  have hset : ∀ i, t.setAt i = v.setAt i := State.setAt_congr (by rw [hts, State.latchFrame_sets])
  have hpwm : ∀ d, t.pwm d = u.pwm d := State.pwm_congr (by rw [hts, State.latchFrame_bl, hv, State.selectFilm_bl])
  have hpres : (t.rearOf k).presented = u.presentedNow k := by
    rw [hrear, hv]; exact (u.selectFilm_presented k).1
  have hflip : (u.selectFilm k).2 = true ↔ ∃ i b, (t.rearOf k).presented = some i ∧ s.setAt i = some b ∧
      (b.select (Pair.get s.aud.streams b.seat)).flipped = true := by
    rw [State.selectFilm_flipped, hpres]
    simp only [hu, State.rearLine_setAt, State.rearLine_selection]
  have hcontent : (t.display (.rear k)).content = (u.display (.rear k)).content := by
    rw [hfields, hud]
  have hactive : (t.display (.rear k)).active = (u.display (.rear k)).active := by
    rw [hfields, hud]
  have hmark : (t.display (.rear k)).mark = b.mark := by rw [hfields]
  have hhigh : (t.display (.rear k)).markHigh = (b.markBlank (u.selectFilm k).2).markHigh := by rw [hfields]
  refine ⟨t, hexec, exec_frame (c := .rearBlankEvent k) hexec, ?_,
    fun d hd => ⟨?_, ?_⟩, ?_, ?_, ?_, ?_, ?_, fun sc hsc => ?_, fun hsc => ?_, ?_, fun h => ?_, fun h => ?_, fun h => ?_,
    fun sc hsc hst => ?_, fun h => ?_, fun h => ?_, fun sc hc ha => ?_, fun i c hi hc hn => ?_, fun i c hi hc => ⟨?_, fun hk => ?_⟩,
    fun h => ?_, fun i hi hn => ?_, ?_, ?_⟩
  · rw [hts, ← hcentre]; exact State.latchFrame_counts _ _ _ _
  · rw [hts, State.latchFrame_display_ne _ _ _ hd, hv, State.display_congr (State.selectFilm_disp _ _), hu,
      State.rearLine_display_ne _ _ _ hd]
  · rw [hpwm, hu, State.rearLine_pwm_ne _ _ _ hd]
  · rw [hfields, hb]
  · rw [hfields, hb]
  · rw [hfields, hb]
  · rw [hfields, hb]
  · rw [hfields, hb]
  · have hadopt : b = ((s.display (.rear k)).atLine tm.ha true).adopt s.path.table (.rear k) sc :=
      hb'.trans (Display.atBlank_some _ _ _ _ hsc)
    rw [hfields, hadopt]
    exact ⟨rfl, rfl, rfl, capture_rear _ _ _, scrollFault_iff_of (overlayGeometry_bind _ _),
      scrollFault_iff_of (overlayGeometry_bind _ _)⟩
  · have hnone : b = (s.display (.rear k)).atLine tm.ha true := hb'.trans (Display.atBlank_none _ _ _ _ hsc)
    rw [hfields, hnone]
    exact ⟨rfl, rfl, rfl, rfl, rfl⟩
  · rw [hrear, hv, (u.selectFilm_presented k).2, hu, State.rearLine_rearOf, State.quality_eq]
  · rw [hhigh]; exact Display.markBlank_off _ (hmark ▸ h)
  · rw [hhigh]; exact Display.markBlank_blank _ (hmark ▸ h)
  · rw [hhigh, Display.markBlank_flip _ (hmark ▸ h)]; exact hflip
  · rw [hpwm, hu, State.rearLine_pwm, hsc, PwmState.adopted_started sc hst]; rfl
  · rw [hpwm, hu, State.rearLine_pwm, PwmState.adopted_of h]
  · rw [hpres]; rw [hcontent, hactive] at h; exact State.presentedNow_none h
  · rw [hpres, State.presentedNow_scene (hcontent ▸ hc) (hactive ▸ ha)]
    simp only [hu, State.rearLine_setAt]
  · rw [hset, hv]
    refine Eq.trans ?_ (congrArg some c.hide_eq)
    exact State.selectFilm_setAt_hidden (by rw [hu, State.rearLine_rearOf]; exact hi) (by rw [hu, State.rearLine_setAt]; exact hc)
      (hpres ▸ hn)
  · rw [hset, hv, ← s.rearLine_selection k tm.ha c, ← hu]
    exact State.selectFilm_setAt_shown (hpres ▸ hi) (by rw [hu, State.rearLine_setAt]; exact hc)
  · obtain ⟨h1, h2⟩ := State.selectFilm_rear_seat (s := u) (hpres ▸ hi) (by rw [hu, State.rearLine_setAt]; exact hc) hk
    refine ⟨?_, fun j hj => ?_⟩
    · rw [hrear, hv, h1, hu, State.rearLine_selection, State.rearLine_rearOf]; rfl
    · rw [hrear, hv, h2 j hj, hu, State.rearLine_rearOf_ne _ _ _ hj]
  · obtain ⟨h1, h2⟩ := State.selectFilm_rear_none (s := u) (hpres ▸ h)
    refine ⟨?_, fun j hj => ?_⟩
    · rw [hrear, hv, h1, hu, State.rearLine_rearOf]
    · rw [hrear, hv, h2 j hj, hu, State.rearLine_rearOf_ne _ _ _ hj]
  · rw [hset, hv, State.selectFilm_setAt_kept (by rw [hu, State.rearLine_rearOf]; exact hi) (hpres ▸ hn), hu, State.rearLine_setAt]
  · refine ⟨v.rearFrame k, by rw [hfields], ?_, ?_, ?_, ?_, ?_⟩
    · rw [hfields, ← hvd]; rfl
    · rw [hfields, ← hvd]; rfl
    · rw [hfields, ← hvd]; rfl
    · show v.shownFilm k = t.shownFilm k
      unfold State.shownFilm
      rw [hrear]
      simp only [hset]
    · rw [hrear]; rfl
  · have hreq : b.req = (s.display (.rear k)).req := by rw [hb]
    rw [hdisp, ← hreq]
    exact Display.frameBegun_fetchesAnew _ _ _ _

end Sys2Proof.Machine
end

section
/-! PROOFS. A centre blank event: the scene, the view, the pressure record, the frame record and its base choice (R3, R4,
R7, R9, R12, R13, R19, R20, R30, R32, R114). -/

namespace Sys2Proof.Machine

open Sys2Proof

/-! ### The states of the event -/

/-- The state whose frame record a centre blank event latches: the scene adopted, the view set, the camera work done,
the pressure record closed. -/
def State.centreLine (s : State) (ha : Nat) : State :=
  let u := ((s.setDisplay .centre (s.disp.c.atLine ha true)).adoptStaged .centre).setView.cameraWork
  u.setCentre (u.centre.closeFrame s.centreFrameEnds)

/-- The state after the record is latched: GUIDE's part and the report follow. -/
def State.centreLatched (s : State) (ha : Nat) : State :=
  (s.centreLine ha).latchFrame .centre (s.centreLine ha).centreFrame true

theorem execCentreBlankEvent_eq {s : State} {tm : DispTiming} (ht : s.timing .centre = some tm)
    (hr : s.disp.c.running = true) :
    ∃ g, execCentreBlankEvent s = .next ((s.centreLatched tm.ha).setGuide g).reportDue := by
  refine ⟨(s.centreLatched tm.ha).guide.blank ((s.centreLatched tm.ha).rvc.phase == .showing)
    (s.centreLatched tm.ha).link.snapshot, ?_⟩
  unfold execCentreBlankEvent
  rw [ht]
  exact if_pos hr

section
variable (s : State) (ha : Nat)

theorem State.centreLine_disp :
    (s.centreLine ha).disp = Tri.set s.disp .centre ((s.display .centre).atBlank s.path.table .centre ha) := by
  show (((s.setDisplay .centre (s.disp.c.atLine ha true)).adoptStaged .centre).setView.cameraWork).disp = _
  rw [State.cameraWork_disp, State.setView_disp]
  exact congrArg State.disp (s.blankLine_eq .centre ha)

theorem State.centreLine_bl :
    (s.centreLine ha).bl = Tri.set s.bl .centre ((s.pwm .centre).adopted (s.display .centre).staged) := by
  show (((s.setDisplay .centre (s.disp.c.atLine ha true)).adoptStaged .centre).setView.cameraWork).bl = _
  rw [State.cameraWork_bl, State.setView_bl]
  exact congrArg State.bl (s.blankLine_eq .centre ha)

theorem State.centreLine_boot : (s.centreLine ha).boot = s.boot := by
  show (((s.setDisplay .centre (s.disp.c.atLine ha true)).adoptStaged .centre).setView.cameraWork).boot = _
  rw [State.cameraWork_boot, State.setView_boot, State.adoptStaged_boot, State.setDisplay_boot]

/-- R9, R27: the pressure record of the frame that ends is closed, the view set. -/
theorem State.centreLine_centre :
    (s.centreLine ha).centre =
      { s.centre with
        view := if s.rvc.phase = .off then .host else .rear, keepWindow := false,
        calm := if s.disp.c.frame.isSome = true then
            (if s.centre.urgentLines = 4 ∨ s.centre.underrunFlag = true then 0 else min (s.centre.calm + 1) 120)
          else s.centre.calm,
        urgentLines := 0, underrunFlag := false } := by
  have hv : (((s.setDisplay .centre (s.disp.c.atLine ha true)).adoptStaged .centre).setView.cameraWork).centre =
      { s.centre with view := if s.rvc.phase = .off then .host else .rear, keepWindow := false } := by
    rw [State.cameraWork_centre]
    refine (congrArg (fun u => u.setView.centre) (s.blankLine_eq .centre ha)).trans ?_
    show ({ s.centre with view := if (s.rvc.phase != .off) = true then .rear else .host, keepWindow := false } : CentreState) = _
    cases s.rvc.phase <;> rfl
  show ((((s.setDisplay .centre (s.disp.c.atLine ha true)).adoptStaged .centre).setView.cameraWork).centre).closeFrame _ = _
  rw [hv]; rfl

end

/-! ### The base choice and the urgency of the event -/

/-- R114: the base choice, with what stands for it where the rule gives none (log entries 35 and 44). -/
theorem RvcState.baseChoice_engaging {r : RvcState} (shown : Option Nat) (h : r.phase = .off ∨ r.phase = .engaging) :
    r.baseChoice shown = .engagingFill := by
  unfold RvcState.baseChoice
  rcases h with h | h <;> rw [h]

theorem RvcState.baseChoice_slot {r : RvcState} (k : Nat)
    (h : r.phase = .showing ∨ (r.phase = .releasing ∧ r.fresh = true)) : r.baseChoice (some k) = .slot k := by
  unfold RvcState.baseChoice
  rcases h with h | ⟨h, hf⟩
  · rw [h]
  · rw [h]; exact if_pos hf

theorem RvcState.baseChoice_unavailable {r : RvcState} (shown : Option Nat)
    (h : r.phase = .lost ∨ (r.phase = .showing ∧ shown = none) ∨
      (r.phase = .releasing ∧ (r.fresh = false ∨ shown = none))) : r.baseChoice shown = .unavailableFill := by
  unfold RvcState.baseChoice
  rcases h with h | ⟨h, rfl⟩ | ⟨h, hf | rfl⟩
  · rw [h]
  · rw [h]
  · rw [h]
    cases shown with
    | none => rfl
    | some k => exact if_neg (by rw [hf]; nofun)
  · rw [h]

theorem State.scanUrgent_congr {s t : State} (hb : t.boot = s.boot) (hd : t.disp = s.disp) (d : Disp) :
    t.scanUrgent d = s.scanUrgent d := by
  have hl : ∀ l, t.layer d l = s.layer d l :=
    State.layer_congr hb (by rw [State.display_congr hd])
  unfold State.scanUrgent
  rw [State.timing_congr hb, State.display_congr hd, hl, hl, hl]

/-- What leaves the displays and their timing leaves the urgency of the line. -/
theorem CountsUrgentLine.congr {c : CentreState} {s t : State} (h : CountsUrgentLine c s) (hc : t.centre = s.centre)
    (hb : t.boot = s.boot) (hd : t.disp = s.disp) : CountsUrgentLine c t := by
  have hu : t.urgent .scanC = s.urgent .scanC := State.scanUrgent_congr hb hd .centre
  unfold CountsUrgentLine at h ⊢
  rw [hc, hu]; exact h

/-- R34: on its first blank line a centre with two blank lines or more is not urgent: no row is needed by the next. -/
theorem State.scanUrgent_firstBlank {s : State} {tm : DispTiming} (ht : s.timing .centre = some tm)
    (hl : (s.display .centre).line = tm.ha) (hv : 2 ≤ tm.vb) : s.scanUrgent .centre = false := by
  have hs : ∀ b v, shortLayer tm tm.ha b v = false := by
    intro b v
    cases v with
    | none => rfl
    | some v =>
      have h2 : (tm.ha + 1 == tm.ha + tm.vb) = false := by simp; omega
      simp [shortLayer, h2]
  unfold State.scanUrgent
  simp only [ht, hl, hs, Bool.or_false, Bool.and_false]

theorem CountsUrgentLine.urgentLines_of_calm {c : CentreState} {t : State} (h : CountsUrgentLine c t)
    (hu : t.scanUrgent .centre = false) : t.centre = c := by
  unfold CountsUrgentLine at h
  rw [h, if_neg]
  rintro ⟨h1, -⟩
  have h1' : t.scanUrgent .centre = true := h1
  rw [hu] at h1'; cases h1'

/-- Counting the line moves only the count and its mark. -/
theorem CountsUrgentLine.eq {c : CentreState} {t : State} (h : CountsUrgentLine c t) :
    t.centre = { c with urgentLines := t.centre.urgentLines, lineUrgent := t.centre.lineUrgent } := by
  unfold CountsUrgentLine at h
  rw [h]
  split <;> rfl

/-! ### CENTRE_BLANK_EVENT -/

/-- Settles O36: the centre's display as every blank event leaves it, with the record of the state whose view is set and
whose pressure record is closed. -/
theorem centreBlankEventTaken : Obligations.CentreBlankEventTaken := by
  intro s tm ht hr
  obtain ⟨g, hexec⟩ := execCentreBlankEvent_eq ht hr
  obtain ⟨u, hu⟩ : ∃ u, u = s.centreLine tm.ha := ⟨_, rfl⟩
  obtain ⟨v, hv⟩ : ∃ v, v = u.latchFrame .centre u.centreFrame true := ⟨_, rfl⟩
  obtain ⟨t, hts⟩ : ∃ t, t = (v.setGuide g).reportDue := ⟨_, rfl⟩
  obtain ⟨b, hb'⟩ : ∃ b, b = (s.display .centre).atBlank s.path.table .centre tm.ha := ⟨_, rfl⟩
  have hvs : v = s.centreLatched tm.ha := by rw [hv, hu]; rfl
  rw [← hvs, ← hts] at hexec
  have hb := (s.display .centre).atBlank_eq s.path.table .centre tm.ha
  rw [← hb'] at hb
  have hud : u.display .centre = b := by
    rw [hu, State.display, State.centreLine_disp, Tri.get_set_self, hb']
  have htd : t.disp = v.disp := by rw [hts, State.reportDue_disp]; rfl
  have htc : t.centre = v.centre := by rw [hts, State.reportDue_centre]; rfl
  have htb : t.boot = v.boot := by rw [hts, State.reportDue_boot]; rfl
  have htr : t.rvc = u.rvc := by rw [hts, State.reportDue_rvc, State.setGuide_rvc, hv, State.latchFrame_rvc]
  have htcam : t.cam = u.cam := by rw [hts, State.reportDue_cam, State.setGuide_cam, hv, State.latchFrame_cam]
  have htbl : t.bl = Tri.set s.bl .centre ((s.pwm .centre).adopted (s.display .centre).staged) := by
    rw [hts, State.reportDue_bl, State.setGuide_bl, hv, State.latchFrame_bl, hu, State.centreLine_bl]
  have htboot : t.boot = s.boot := by rw [htb, hv, State.latchFrame_boot, hu, State.centreLine_boot]
  have hdisp : t.disp.c = b.frameBegun u.centreFrame true (t.layer .centre) := by
    have hl : t.layer .centre = v.layer .centre :=
      funext (State.layer_congr htb (by rw [State.display_congr htd]))
    rw [htd, hl, ← hud, hv]
    exact u.latchFrame_display_self .centre u.centreFrame true
  have hfields := hdisp.trans (Display.frameBegun_eq _ _ _ _)
  have hother : ∀ d, d ≠ .centre → t.display d = s.display d := by
    intro d hd
    rw [State.display_congr htd, hv, State.latchFrame_display_ne _ _ _ hd, hu, State.display, State.centreLine_disp,
      Tri.get_set_ne _ _ hd]; rfl
  have hcounts : CountsUrgentLine u.centre t := by
    have h := u.latchFrame_counts .centre u.centreFrame true
    rw [← hv] at h
    exact h.congr htc htb htd
  have hcentre : u.centre = _ := (congrArg State.centre hu).trans (s.centreLine_centre tm.ha)
  have hcalm : t.centre.calm = u.centre.calm := by rw [hcounts.eq]
  have hview : t.centre.view = u.centre.view := by rw [hcounts.eq]
  refine ⟨t, hexec, exec_frame (c := .centreBlankEvent) hexec, hother (.rear .left) nofun, hother (.rear .right) nofun,
    ?_, ?_, ?_, ?_, ?_, ?_, ?_, ?_, fun sc hsc => ?_, fun hsc => ?_, ?_, ?_, fun hf => ?_, fun hf => ?_, ?_, fun h2 => ?_,
    ?_, ?_, ⟨u.centreFrame, ?_, ?_, ?_, ?_, ?_, ?_, fun h => ?_, fun k hk h => ?_, fun h => ?_⟩, ?_⟩
  · rw [htbl]; rfl
  · rw [htbl]; rfl
  · rw [hfields, hb]
  · rw [hfields, hb]
  · rw [hfields, hb]
  · rw [hfields, hb]
  · rw [hfields, hb]; rfl
  · rw [hfields, hb]
  · have hadopt : b = ((s.display .centre).atLine tm.ha true).adopt s.path.table .centre sc :=
      hb'.trans (Display.atBlank_some _ _ _ _ hsc)
    have hst : (s.display .centre).staged = some sc := hsc
    refine ⟨by rw [hfields, hadopt]; rfl, by rw [hfields, hadopt]; rfl, by rw [hfields, hadopt]; rfl, fun hs => ?_, ?_⟩
    · have hs' : (s.pwm .centre).started = true := hs
      rw [htbl, hst, PwmState.adopted_started sc hs']; rfl
    · rw [hfields, hadopt]
      exact ⟨capture_centre _ _, scrollFault_iff_of (overlayGeometry_bind _ _),
        scrollFault_iff_of (overlayGeometry_bind _ _)⟩
  · have hnone : b = (s.display .centre).atLine tm.ha true := hb'.trans (Display.atBlank_none _ _ _ _ hsc)
    have hst : (s.display .centre).staged = none := hsc
    rw [hfields, hnone, htbl, hst]
    exact ⟨rfl, rfl, rfl, rfl, rfl, rfl, rfl⟩
  · rw [hview, hcentre]
  · rw [hcounts.eq, hcentre]
  · rw [hcalm, hcentre, hf]; rfl
  · rw [hcalm, hcentre, if_pos (Option.isSome_iff_ne_none.mpr hf)]
  · rw [hcounts.eq, hcentre]
  · have hline : (t.display .centre).line = tm.ha := by
      show t.disp.c.line = tm.ha
      rw [hfields, hb]
    rw [hcounts.urgentLines_of_calm (State.scanUrgent_firstBlank ((State.timing_congr htboot _).trans ht) hline h2), hcentre]
  · have hc : u.centre = { s.centre with
        view := t.centre.view, keepWindow := false, calm := t.centre.calm, urgentLines := 0, underrunFlag := false } := by
      rw [hview, hcalm, hcentre]
    rw [← hc]; exact hcounts
  · have hmark : t.disp.c.mark = b.mark := by rw [hfields]
    have hhigh : t.disp.c.markHigh = (b.markBlank true).markHigh := by rw [hfields]
    rw [hmark, hhigh]
    cases hm : b.mark <;> simp [Display.markBlank, hm]
  · rw [hfields]
  · exact hview.symm
  · rw [hfields, ← hud]; rfl
  · rw [hfields, ← hud]; rfl
  · rw [hfields, ← hud]; rfl
  · rw [htr]; exact beq_iff_eq
  · rw [htr] at h; exact RvcState.baseChoice_engaging _ h
  · rw [htr] at h
    rw [htcam] at hk
    show u.rvc.baseChoice u.cam.shown = _
    rw [hk]; exact RvcState.baseChoice_slot k h
  · rw [htr, htcam] at h; exact RvcState.baseChoice_unavailable _ h
  · have hreq : b.req = s.disp.c.req := by rw [hb]; rfl
    rw [hdisp, ← hreq]
    exact Display.frameBegun_fetchesAnew _ _ _ _

end Sys2Proof.Machine
end

section
/-! PROOFS. What a change of the active table does to the sets, to the displays that present one and to the streams that
play a ring (R77, R85, R86, R93). -/

namespace Sys2Proof.Machine

open Sys2Proof

/-! ### Pairs -/

theorem Pair.set_get_self {α : Type} (p : Pair α) (k : Seat) : Pair.set p k (Pair.get p k) = p := by
  cases k <;> rfl

/-! ### The sets (R77) -/

theorem filmAt_some_iff {table : List Region} {i : Nat} {f : Film} :
    filmAt table i = some f ↔ entryAt table i = .film f := by
  unfold filmAt
  cases entryAt table i <;> simp

section
variable (old new : List Region) (sets : List (Option BufSet)) {i : Nat}

theorem remakeSets_at (hi : i < 16) :
    (remakeSets old new sets)[i]? =
      some (match entryAt new i with
        | .film f => if entryAt old i = .film f then (sets[i]?).join else some (BufSet.fresh f)
        | _ => none) := by
  rw [remakeSets, List.getElem?_map, List.getElem?_range hi]
  rfl

theorem remakeSets_kept {f : Film} (hi : i < 16) (hn : entryAt new i = .film f) (ho : entryAt old i = .film f) :
    ((remakeSets old new sets)[i]?).join = (sets[i]?).join := by
  rw [remakeSets_at old new sets hi, hn]
  exact if_pos ho

theorem remakeSets_fresh {f : Film} (hi : i < 16) (hn : entryAt new i = .film f) (ho : entryAt old i ≠ .film f) :
    ((remakeSets old new sets)[i]?).join = some (BufSet.fresh f) := by
  rw [remakeSets_at old new sets hi, hn]
  exact if_neg ho

theorem remakeSets_gone (hi : i < 16) (hn : ∀ f, entryAt new i ≠ .film f) :
    ((remakeSets old new sets)[i]?).join = none := by
  rw [remakeSets_at old new sets hi]
  cases h : entryAt new i with
  | film f => exact absurd h (hn f)
  | _ => rfl

end

/-! ### The displays that present a set (R22, R77) -/

/-- R77: the set a rear display presents is reset by a change of the table. -/
def RearState.losesSet (r : RearState) (old new : List Region) : Bool := r.presented.any (setReset old new)

/-- R77: a rear display's own part after a change of the table: it goes on presenting the index only where a set for it
is made anew there. -/
def RearState.tableChanged (r : RearState) (old new : List Region) (k : Seat) : RearState :=
  if r.losesSet old new = true then
    { r with presented := r.presented.filter (fun i => ((filmAt new i).map (·.seat)) == some k) }
  else r

theorem State.withdrawReset_eq (s : State) (old new : List Region) (k : Seat) :
    s.withdrawReset old new k =
      { s with
        rear := Pair.set s.rear k ((s.rearOf k).tableChanged old new k),
        disp := Tri.set s.disp (.rear k)
          { s.display (.rear k) with
            withdraw := (s.display (.rear k)).withdraw || (s.rearOf k).losesSet old new } } := by
  have hkeep : s = { s with rear := Pair.set s.rear k (s.rearOf k),
                            disp := Tri.set s.disp (.rear k) (s.display (.rear k)) } := by
    show s = { s with rear := Pair.set s.rear k (Pair.get s.rear k),
                      disp := Tri.set s.disp (.rear k) (Tri.get s.disp (.rear k)) }
    rw [Pair.set_get_self, Tri.set_get_self]
  unfold State.withdrawReset RearState.tableChanged RearState.losesSet
  cases hp : (s.rearOf k).presented with
  | none => simpa using hkeep
  | some i =>
    by_cases hr : setReset old new i = true
    · simp only [Option.any_some, hr, if_pos, Bool.or_true, Option.filter_some]
      rfl
    · rw [Bool.not_eq_true] at hr
      simp only [Option.any_some, hr, Bool.false_eq_true, if_false, Bool.or_false]
      exact hkeep

/-- R77: what a change of the table does to PRES and to the displays. -/
theorem State.tableChanged_eq (s : State) (old new : List Region) :
    s.tableChanged old new =
      { s with
        sets := remakeSets old new s.sets,
        rear := ⟨(s.rearOf .left).tableChanged old new .left, (s.rearOf .right).tableChanged old new .right⟩,
        disp := { s.disp with
                  l := { s.disp.l with withdraw := s.disp.l.withdraw || (s.rearOf .left).losesSet old new },
                  r := { s.disp.r with withdraw := s.disp.r.withdraw || (s.rearOf .right).losesSet old new } } } := by
  rw [State.tableChanged, State.withdrawReset_eq, State.withdrawReset_eq]
  rfl

section
variable (s : State) (old new : List Region)

theorem State.tableChanged_rearOf (k : Seat) :
    (s.tableChanged old new).rearOf k = (s.rearOf k).tableChanged old new k := by
  rw [State.tableChanged_eq]; cases k <;> rfl

theorem State.tableChanged_rearDisplay (k : Seat) :
    (s.tableChanged old new).display (.rear k) =
      { s.display (.rear k) with
        withdraw := (s.display (.rear k)).withdraw || (s.rearOf k).losesSet old new } := by
  rw [State.tableChanged_eq]; cases k <;> rfl

theorem State.tableChanged_centreDisplay (s : State) (old new : List Region) :
    (s.tableChanged old new).display .centre = s.display .centre := by
  rw [State.tableChanged_eq]; rfl

theorem State.tableChanged_sets_eq : (s.tableChanged old new).sets = remakeSets old new s.sets := by
  rw [State.tableChanged_eq]

end

section
variable {r : RearState} {old new : List Region} {i : Nat} {k : Seat}

theorem setReset_iff : setReset old new i = true ↔ (∃ f, entryAt old i = .film f) ∧ entryAt old i ≠ entryAt new i := by
  unfold setReset
  rw [Bool.and_eq_true, bne_iff_ne, Option.isSome_iff_exists]
  simp only [filmAt_some_iff]

/-- A display keeps the set it presents where the entry is as it was, or was no film. -/
theorem RearState.losesSet_of_kept
    (h : r.presented = none ∨ ∃ i, r.presented = some i ∧
      (entryAt new i = entryAt old i ∨ ∀ f, entryAt old i ≠ .film f)) : r.losesSet old new = false := by
  rcases h with h | ⟨i, hi, h⟩
  · simp [RearState.losesSet, h]
  · have hs : ¬setReset old new i = true := by
      rw [setReset_iff]
      rintro ⟨⟨f, hf⟩, hne⟩
      rcases h with h | h
      · exact hne h.symm
      · exact h f hf
    simp [RearState.losesSet, hi, hs]

theorem RearState.losesSet_of_reset {f : Film} (hp : r.presented = some i) (ho : entryAt old i = .film f)
    (hn : entryAt new i ≠ .film f) : r.losesSet old new = true := by
  rw [RearState.losesSet, hp]
  exact setReset_iff.mpr ⟨⟨f, ho⟩, fun h => hn (h ▸ ho)⟩

theorem RearState.tableChanged_kept (h : r.losesSet old new = false) : r.tableChanged old new k = r := by
  simp [RearState.tableChanged, h]

/-- R77, log entry 25: the index is held where a set for the display is made anew. -/
theorem RearState.tableChanged_anew {f : Film} (hp : r.presented = some i) (hn : entryAt new i = .film f)
    (hk : f.seat = k) : r.tableChanged old new k = r := by
  unfold RearState.tableChanged
  split
  · have hf : (((filmAt new i).map (·.seat)) == some k) = true := by
      rw [filmAt_some_iff.mpr hn]; simp [hk]
    simp only [hp, Option.filter_some, hf, if_true]
    cases r; cases hp; rfl
  · rfl

theorem RearState.tableChanged_lost (hl : r.losesSet old new = true) (hp : r.presented = some i)
    (hn : ∀ f, entryAt new i = .film f → f.seat ≠ k) : r.tableChanged old new k = { r with presented := none } := by
  have hf : (((filmAt new i).map (·.seat)) == some k) = false := by
    cases h : filmAt new i with
    | none => rfl
    | some f =>
      have := hn f (filmAt_some_iff.mp h)
      simpa using this
  rw [RearState.tableChanged, if_pos hl, hp]
  simp [Option.filter_some, hf]

end

/-! ### The streams (R84 to R86, R93) -/

theorem State.stopStream_streams_self (s : State) (k : Seat) :
    Pair.get (s.stopStream k).aud.streams k = { Pair.get s.aud.streams k with phase := .stopped, ring := none } :=
  Pair.get_set_self _ _ _

theorem State.stopStream_streams_ne (s : State) {k j : Seat} (h : j ≠ k) :
    Pair.get (s.stopStream k).aud.streams j = Pair.get s.aud.streams j :=
  Pair.get_set_ne _ _ h

/-- R86: a stream loses its ring where the table has lost the entry. -/
def Stream.losesRing (st : Stream) (gone : Nat → Bool) : Bool := st.ring.any (fun r => gone r.idx)

theorem State.loseRing_pos {s : State} {k : Seat} {gone : Nat → Bool}
    (h : (Pair.get s.aud.streams k).losesRing gone = true) : s.loseRing k gone = s.stopStream k := by
  unfold State.loseRing Stream.losesRing at *
  cases hr : (Pair.get s.aud.streams k).ring with
  | none => rw [hr] at h; cases h
  | some r => rw [hr] at h; exact if_pos h

theorem State.loseRing_neg {s : State} {k : Seat} {gone : Nat → Bool}
    (h : (Pair.get s.aud.streams k).losesRing gone = false) : s.loseRing k gone = s := by
  unfold State.loseRing Stream.losesRing at *
  cases hr : (Pair.get s.aud.streams k).ring with
  | none => rfl
  | some r => rw [hr] at h; exact if_neg (by rw [Option.any_some] at h; rw [h]; nofun)

theorem State.loseRing_streams_ne (s : State) {k j : Seat} (gone : Nat → Bool) (h : j ≠ k) :
    Pair.get (s.loseRing k gone).aud.streams j = Pair.get s.aud.streams j := by
  cases hl : (Pair.get s.aud.streams k).losesRing gone with
  | true => rw [State.loseRing_pos hl, State.stopStream_streams_ne _ h]
  | false => rw [State.loseRing_neg hl]

/-- R93: what is abandoned is said of AUD's and ARB's state alone. -/
theorem AbandonsPrefetches.congr {gone : Seat → Bool} {s s' t t' : State} (h : AbandonsPrefetches gone s t)
    (hs : s'.aud = s.aud) (hs' : s'.arb = s.arb) (ht : t'.aud = t.aud) (ht' : t'.arb = t.arb) :
    AbandonsPrefetches gone s' t' := by
  unfold AbandonsPrefetches at h ⊢
  rw [hs, hs', ht, ht']
  exact h

/-- Two operations on the streams, one on each, abandon together what each abandons of its own. -/
theorem AbandonsPrefetches.both {f : Seat → Bool} {s u t : State}
    (a : AbandonsPrefetches (fun j => j == .left && f .left) s u)
    (b : AbandonsPrefetches (fun j => j == .right && f .right) u t) : AbandonsPrefetches f s t := by
  have h := a.trans b
  have heq : (fun k : Seat => (k == .left && f .left) || (k == .right && f .right)) = f := by
    funext k; cases k <;> simp
  rwa [heq] at h

/-- R86: both streams after the table has lost entries. -/
def State.loseRings (s : State) (gone : Nat → Bool) : State := (s.loseRing .left gone).loseRing .right gone

section
variable (s : State) (gone : Nat → Bool)

theorem State.loseRings_abandons :
    AbandonsPrefetches (fun k => (Pair.get s.aud.streams k).losesRing gone) s (s.loseRings gone) := by
  have hl := s.loseRing_abandons .left gone
  have hr := (s.loseRing .left gone).loseRing_abandons .right gone
  rw [State.loseRing_streams_ne s gone (show Seat.right ≠ .left by decide)] at hr
  exact hl.both (f := fun k => (Pair.get s.aud.streams k).losesRing gone) hr

theorem State.loseRings_streams (k : Seat) :
    Pair.get (s.loseRings gone).aud.streams k =
      if (Pair.get s.aud.streams k).losesRing gone = true then
        { Pair.get s.aud.streams k with phase := .stopped, ring := none }
      else Pair.get s.aud.streams k := by
  have self : ∀ (u : State) (j : Seat), Pair.get (u.loseRing j gone).aud.streams j =
      if (Pair.get u.aud.streams j).losesRing gone = true then
        { Pair.get u.aud.streams j with phase := .stopped, ring := none } else Pair.get u.aud.streams j := by
    intro u j
    cases hl : (Pair.get u.aud.streams j).losesRing gone with
    | true => rw [State.loseRing_pos hl, State.stopStream_streams_self, if_pos rfl]
    | false => rw [State.loseRing_neg hl]; rfl
  unfold State.loseRings
  cases k with
  | left => rw [State.loseRing_streams_ne _ _ (by decide), self]
  | right => rw [self, State.loseRing_streams_ne _ _ (by decide)]

end

end Sys2Proof.Machine
end

section
/-! PROOFS. The definition of the camera region: its moment, the table without the entries it overlaps, and the blocks
the profile starts (R1, R2, R9, R17, R18, R44, R77, R86, R93, R185). -/

namespace Sys2Proof.Machine

open Sys2Proof

/-! ### The displays that start (R2, R18) -/

/-- R17: the cause set of a load with a backlight fault, if there is one. -/
def LoadState.faulted (l : LoadState) (fault : Bool) : LoadState :=
  if fault = true then { l with causes := l.causes ||| 0x100#10 } else l

theorem LoadState.faulted_faulted (l : LoadState) (a b : Bool) : (l.faulted a).faulted b = l.faulted (a || b) := by
  cases a <;> cases b <;> simp [LoadState.faulted, BitVec.or_assoc]

/-- R18: a backlight channel that has started, at its default duty. -/
def PwmState.begun (duty : Nat) (fault : Bool) : PwmState :=
  { started := true, counter := 0, down := false, base := duty, preload := duty, held := none, enabled := !fault,
    latch := fault }

/-- R2: a display that has entered RUNNING. -/
def Display.entered (x : Display) (ha : Nat) : Display :=
  { x with running := true, line := ha, lineClk := 0, blanked := false }

/-- R2, R9, R17, R18: a display that the profile drives starts, with its channel. -/
theorem State.startDisplay_pos {s : State} {d : Disp} {t : DispTiming} (h : t.drives d = true) :
    s.startDisplay d t =
      { s with
        disp := Tri.set s.disp d ((s.display d).entered t.ha),
        centre := if d = .centre then { s.centre with calm := 0 } else s.centre,
        bl := Tri.set s.bl d (PwmState.begun t.duty (Tri.get s.pins.fault d)),
        load := s.load.faulted (Tri.get s.pins.fault d) } := by
  unfold State.startDisplay
  rw [if_pos h]
  unfold State.startPwm LoadState.faulted
  by_cases hd : d = .centre
  · subst hd
    cases hf : Tri.get s.pins.fault .centre <;> simp [hf, PwmState.begun, Display.entered] <;> rfl
  · cases hf : Tri.get s.pins.fault d <;> simp [hd, hf, PwmState.begun, Display.entered] <;> rfl

theorem State.startDisplay_neg {s : State} {d : Disp} {t : DispTiming} (h : t.drives d = false) :
    s.startDisplay d t = s := by
  simp [State.startDisplay, h]

/-- A display or its channel, of a display the profile drives or does not. -/
def Display.startedAs (x : Display) (d : Disp) (t : DispTiming) : Display := if t.drives d = true then x.entered t.ha else x

def PwmState.startedAs (c : PwmState) (d : Disp) (t : DispTiming) (fault : Bool) : PwmState :=
  if t.drives d = true then .begun t.duty fault else c

/-- What the start of one display does, whether the profile drives it or not. -/
theorem State.startDisplay_eq (s : State) (d : Disp) (t : DispTiming) :
    s.startDisplay d t =
      { s with
        disp := Tri.set s.disp d ((s.display d).startedAs d t),
        centre := if d = .centre ∧ t.drives d = true then { s.centre with calm := 0 } else s.centre,
        bl := Tri.set s.bl d ((s.pwm d).startedAs d t (Tri.get s.pins.fault d)),
        load := s.load.faulted (t.drives d && Tri.get s.pins.fault d) } := by
  unfold Display.startedAs PwmState.startedAs
  cases h : t.drives d with
  | true => rw [State.startDisplay_pos h]; simp
  | false =>
    rw [State.startDisplay_neg h]
    show s = { s with disp := Tri.set s.disp d (Tri.get s.disp d), centre := _, bl := Tri.set s.bl d (Tri.get s.bl d),
                      load := s.load }
    rw [Tri.set_get_self, Tri.set_get_self]
    simp

/-- R2, R9, R18, R185: the state in which BOOT has entered RUNNING and the displays the profile drives have started. -/
theorem State.startDisplays_eq (s : State) (p : Profile) :
    s.startDisplays p =
      { s with
        boot := { s.boot with startup := .running, profile := some p },
        disp := ⟨s.disp.c.startedAs .centre p.disp.c, s.disp.l.startedAs (.rear .left) p.disp.l,
          s.disp.r.startedAs (.rear .right) p.disp.r⟩,
        centre := if p.disp.c.drives .centre = true then { s.centre with calm := 0 } else s.centre,
        bl := ⟨s.bl.c.startedAs .centre p.disp.c s.pins.fault.c, s.bl.l.startedAs (.rear .left) p.disp.l s.pins.fault.l,
          s.bl.r.startedAs (.rear .right) p.disp.r s.pins.fault.r⟩,
        load := s.load.faulted ((p.disp.c.drives .centre && s.pins.fault.c) ||
          (p.disp.l.drives (.rear .left) && s.pins.fault.l) || (p.disp.r.drives (.rear .right) && s.pins.fault.r)) } := by
  rw [← LoadState.faulted_faulted, ← LoadState.faulted_faulted, State.startDisplays, State.startDisplay_eq,
    State.startDisplay_eq, State.startDisplay_eq]
  have hl : ∀ x : CentreState, (if Disp.rear .left = .centre ∧ p.disp.l.drives (.rear .left) = true then
      { x with calm := 0 } else x) = x := fun x => if_neg (fun h => by cases h.1)
  have hr : ∀ x : CentreState, (if Disp.rear .right = .centre ∧ p.disp.r.drives (.rear .right) = true then
      { x with calm := 0 } else x) = x := fun x => if_neg (fun h => by cases h.1)
  simp only [hl, hr, true_and]
  rfl

section
variable (s : State) (p : Profile)

theorem State.startDisplays_display (d : Disp) :
    (s.startDisplays p).display d = (s.display d).startedAs d (Tri.get p.disp d) := by
  rw [State.startDisplays_eq]; rcases d with _ | (_ | _) <;> rfl

theorem State.startDisplays_pwm (d : Disp) :
    (s.startDisplays p).pwm d = (s.pwm d).startedAs d (Tri.get p.disp d) (Tri.get s.pins.fault d) := by
  rw [State.startDisplays_eq]; rcases d with _ | (_ | _) <;> rfl

end

/-! ### The region defined (R44) -/

theorem entryAt_cleanTable (table : List Region) (c : CamRegion) (i : Nat) :
    entryAt (cleanTable table c) i =
      if (entryAt table i).meetsCam c = true then .absent else entryAt table i := by
  unfold entryAt cleanTable
  rw [List.getD_eq_getElem?_getD, List.getD_eq_getElem?_getD, List.getElem?_map]
  cases table[i]? with
  | none => simp
  | some r => rfl

/-- The table without the entries that the camera region overlaps. -/
def State.cleaned (s : State) (c : CamRegion) : List Region := cleanTable s.path.table c

theorem State.defineCamera_eq (s : State) (c : CamRegion) :
    s.defineCamera c =
      (((s.setPath { s.path with table := s.cleaned c, cam := some c }).tableChanged s.path.table (s.cleaned c)).loseRings
        (entryGone s.path.table (s.cleaned c))) := rfl

section
variable (s : State) (c : CamRegion)

theorem State.loseRings_disp (gone : Nat → Bool) : (s.loseRings gone).disp = s.disp := by simp [State.loseRings]
theorem State.loseRings_rear (gone : Nat → Bool) : (s.loseRings gone).rear = s.rear := by simp [State.loseRings]
theorem State.loseRings_sets (gone : Nat → Bool) : (s.loseRings gone).sets = s.sets := by simp [State.loseRings]
theorem State.loseRings_path (gone : Nat → Bool) : (s.loseRings gone).path = s.path := by simp [State.loseRings]

theorem State.defineCamera_path :
    (s.defineCamera c).path = { s.path with table := s.cleaned c, cam := some c } := by
  rw [State.defineCamera_eq, State.loseRings_path, State.tableChanged_path]; rfl

theorem State.defineCamera_sets : (s.defineCamera c).sets = remakeSets s.path.table (s.cleaned c) s.sets := by
  rw [State.defineCamera_eq, State.loseRings_sets, State.tableChanged_sets_eq]; rfl

theorem State.defineCamera_centreDisplay : (s.defineCamera c).display .centre = s.display .centre := by
  rw [State.defineCamera_eq, State.display_congr (State.loseRings_disp _ _), State.tableChanged_centreDisplay]; rfl

theorem State.defineCamera_rearDisplay (k : Seat) :
    (s.defineCamera c).display (.rear k) =
      { s.display (.rear k) with
        withdraw := (s.display (.rear k)).withdraw || (s.rearOf k).losesSet s.path.table (s.cleaned c) } := by
  rw [State.defineCamera_eq, State.display_congr (State.loseRings_disp _ _), State.tableChanged_rearDisplay]; rfl

theorem State.defineCamera_rearOf (k : Seat) :
    (s.defineCamera c).rearOf k = (s.rearOf k).tableChanged s.path.table (s.cleaned c) k := by
  rw [State.defineCamera_eq, State.rearOf_congr (State.loseRings_rear _ _), State.tableChanged_rearOf]; rfl

/-- R86: the streams whose ring the definition removes. -/
def State.ringLost (k : Seat) : Bool :=
  (Pair.get s.aud.streams k).losesRing (entryGone s.path.table (s.cleaned c))

theorem State.ringLost_iff (k : Seat) :
    s.ringLost c k = true ↔ ∃ r, (Pair.get s.aud.streams k).ring = some r ∧
      entryAt s.path.table r.idx ≠ entryAt (s.cleaned c) r.idx := by
  unfold State.ringLost Stream.losesRing entryGone
  cases (Pair.get s.aud.streams k).ring <;> simp

theorem State.defineCamera_streams (k : Seat) :
    Pair.get (s.defineCamera c).aud.streams k =
      if s.ringLost c k = true then { Pair.get s.aud.streams k with phase := .stopped, ring := none }
      else Pair.get s.aud.streams k := by
  rw [State.defineCamera_eq, State.loseRings_streams, State.tableChanged_aud]; rfl

theorem State.defineCamera_abandons : AbandonsPrefetches (s.ringLost c) s (s.defineCamera c) := by
  have h := ((s.setPath { s.path with table := s.cleaned c, cam := some c }).tableChanged s.path.table
    (s.cleaned c)).loseRings_abandons (entryGone s.path.table (s.cleaned c))
  rw [State.tableChanged_aud] at h
  exact h.congr (by rw [State.tableChanged_aud]; rfl) (by rw [State.tableChanged_arb]; rfl) rfl rfl

end

/-! ### CAMERA_REGION_DEFINE -/

theorem State.mayDefine_iff (s : State) :
    s.mayDefine = true ↔
      s.boot.asked = true ∧ s.boot.startup = .profileRead ∧ s.path.queue = [] ∧
        ∀ f ∈ s.arb.flights, f.owner ≠ .host := by
  simp [State.mayDefine, and_assoc]

/-- R1, R2, Table 4: the displays that the profile drives. -/
theorem DispTiming.drives_iff (tm : DispTiming) (d : Disp) :
    tm.drives d = true ↔
      tm.enable = 1 ∧ 64 ≤ tm.wa ∧ (d = .centre → tm.wa ≤ 1920 ∧ tm.ha ≤ 720) ∧
        (d ≠ .centre → tm.wa ≤ 1280 ∧ tm.ha ≤ 800) ∧ 16 ≤ tm.ha ∧ 16 ≤ tm.hb ∧ tm.hb ≤ 4095 ∧ 2 ≤ tm.vb ∧ tm.vb ≤ 255 ∧
        2 ≤ tm.d ∧ tm.d ≤ 32 ∧ tm.duty ≤ 4095 ∧ 256 ≤ tm.period ∧ tm.period ≤ 65534 ∧ tm.period % 2 = 0 := by
  have hin : tm.inRange d = true ↔
      64 ≤ tm.wa ∧ tm.wa ≤ (if d = .centre then 1920 else 1280) ∧ 16 ≤ tm.ha ∧
        tm.ha ≤ (if d = .centre then 720 else 800) ∧ 16 ≤ tm.hb ∧ tm.hb ≤ 4095 ∧ 2 ≤ tm.vb ∧ tm.vb ≤ 255 ∧ 2 ≤ tm.d ∧
        tm.d ≤ 32 ∧ tm.duty ≤ 4095 ∧ 256 ≤ tm.period ∧ tm.period ≤ 65534 ∧ tm.period % 2 = 0 := decide_eq_true_iff
  rw [DispTiming.drives, Bool.and_eq_true, beq_iff_eq, hin]
  clear hin
  by_cases hd : d = .centre
  · simp [hd]; omega
  · simp [hd]; omega

theorem LoadState.faulted_of {l : LoadState} {b : Bool} (h : b = true) :
    l.faulted b = { l with causes := l.causes ||| 0x100#10 } := if_pos h

theorem LoadState.faulted_none {l : LoadState} {b : Bool} (h : b = false) : l.faulted b = l := by
  rw [h]; rfl

/-- A display that the profile drives has its fault input active (R17). -/
def State.startFault (s : State) (p : Profile) : Bool :=
  (p.disp.c.drives .centre && s.pins.fault.c) || (p.disp.l.drives (.rear .left) && s.pins.fault.l) ||
    (p.disp.r.drives (.rear .right) && s.pins.fault.r)

theorem State.startFault_iff (s : State) (p : Profile) :
    s.startFault p = true ↔ ∃ d, (Tri.get p.disp d).drives d = true ∧ Tri.get s.pins.fault d = true := by
  simp only [State.startFault, Bool.or_eq_true, Bool.and_eq_true]
  constructor
  · rintro ((h | h) | h)
    · exact ⟨.centre, h⟩
    · exact ⟨.rear .left, h⟩
    · exact ⟨.rear .right, h⟩
  · rintro ⟨d, h⟩
    rcases d with _ | (_ | _)
    · exact .inl (.inl h)
    · exact .inl (.inr h)
    · exact .inr h

/-- Settles O21. -/
theorem cameraRegionDefined : Obligations.CameraRegionDefined := by
  refine ⟨DispTiming.drives_iff, fun s => ⟨s.mayDefine_iff, fun h => ?_⟩, fun s hmay => ?_⟩
  · show execCameraRegionDefine s = .next s
    rw [execCameraRegionDefine, if_neg (by rw [h]; nofun)]
  obtain ⟨p, hp⟩ : ∃ p, p = readProfile s.boot.image := ⟨_, rfl⟩
  obtain ⟨c, hc⟩ : ∃ c : CamRegion, c = { base := p.cam.base, slotBytes := p.cam.slotBytes } := ⟨_, rfl⟩
  obtain ⟨u, hu⟩ : ∃ u, u = s.defineCamera c := ⟨_, rfl⟩
  obtain ⟨v, hv⟩ : ∃ v, v = u.startDisplays p := ⟨_, rfl⟩
  have hve := hv.trans (u.startDisplays_eq p)
  obtain ⟨t, ht⟩ : ∃ t, t = ((v.setCam { v.cam with phase := .noSignal, reported := 0, period := none }).setLink
      { v.link with started := true }).setChime { v.chime with started := true } := ⟨_, rfl⟩
  have hts : t = u.startProfileBlocks p := by rw [State.startProfileBlocks_eq, ← hv, ht]
  have hexec : exec .cameraRegionDefine s = .next t := by
    show execCameraRegionDefine s = .next t
    rw [hts, hu, hc, hp, execCameraRegionDefine]
    exact if_pos hmay
  have hboot : v.boot = { s.boot with startup := .running, profile := some p } := by
    rw [hve]; show { u.boot with startup := .running, profile := some p } = _; rw [hu, State.defineCamera_boot]
  have hpath : t.path = { s.path with table := s.cleaned c, cam := some c } := by
    rw [ht]; show v.path = _; rw [hve]; show u.path = _; rw [hu, State.defineCamera_path]
  have hpins : u.pins = s.pins := by rw [hu, State.defineCamera_pins]
  have hdisp : ∀ d, t.display d = (u.display d).startedAs d (Tri.get p.disp d) := fun d => by
    rw [← u.startDisplays_display p d, ← hv]; exact State.display_congr (by rw [ht]; rfl) d
  have hpwm : ∀ d, t.pwm d = (s.pwm d).startedAs d (Tri.get p.disp d) (Tri.get s.pins.fault d) := fun d => by
    have hbl : u.pwm d = s.pwm d := State.pwm_congr (by rw [hu, State.defineCamera_bl]) d
    rw [← hbl, ← hpins, ← u.startDisplays_pwm p d, ← hv]; exact State.pwm_congr (by rw [ht]; rfl) d
  have hud : ∀ d, u.display d = { s.display d with withdraw := (u.display d).withdraw } := by
    intro d
    cases d with
    | centre => rw [hu, State.defineCamera_centreDisplay]
    | rear k => rw [hu, State.defineCamera_rearDisplay]
  have hwithdraw : ∀ d, (t.display d).withdraw = (u.display d).withdraw := by
    intro d; rw [hdisp]; unfold Display.startedAs; split <;> rfl
  have hload : t.load = s.load.faulted (s.startFault p) := by
    rw [ht]; show v.load = _; rw [hve]
    show u.load.faulted (u.startFault p) = _
    rw [hu, State.defineCamera_load, State.startFault, State.defineCamera_pins]; rfl
  have hrear : ∀ k, t.rearOf k = u.rearOf k := State.rearOf_congr (by rw [ht]; show v.rear = _; rw [hve])
  have hset : ∀ i, t.setAt i = u.setAt i := State.setAt_congr (by rw [ht]; show v.sets = _; rw [hve])
  have haud : t.aud = u.aud := by rw [ht]; show v.aud = _; rw [hve]
  have harb : t.arb = u.arb := by rw [ht]; show v.arb = _; rw [hve]
  have htable : t.path.table = s.cleaned c := by rw [hpath]
  have hkept : ∀ k, (s.rearOf k).losesSet s.path.table (s.cleaned c) = false →
      t.rearOf k = s.rearOf k ∧ (t.display (.rear k)).withdraw = (s.display (.rear k)).withdraw := by
    intro k hk
    rw [hrear, hwithdraw, hu, State.defineCamera_rearOf, State.defineCamera_rearDisplay, hk,
      RearState.tableChanged_kept hk]
    exact ⟨rfl, Bool.or_false _⟩
  rw [← hp]
  refine ⟨t, s.ringLost c, hexec, exec_frame (c := .cameraRegionDefine) hexec, ?_, ?_, fun i => ?_, ?_, ?_, ?_,
    fun d hd => ⟨?_, ?_⟩, fun d hd => ⟨?_, ?_⟩, ?_, fun h => ?_, fun h => ?_, fun i hi => ⟨fun f hf => ?_, fun hf => ?_⟩, ?_,
    fun k => ⟨fun i f hi ho hn => ?_, fun i hi hn => ?_, fun hi => ?_⟩, fun k => ?_, fun k => ⟨fun h => ?_, fun h => ?_⟩, ?_⟩
  · rw [ht]; exact hboot
  · rw [htable, ← hc]; exact hpath
  · rw [htable, ← hc]; exact entryAt_cleanTable _ _ _
  · rw [ht]; show { v.cam with phase := .noSignal, reported := 0, period := none } = _
    rw [hve]; show { u.cam with phase := .noSignal, reported := 0, period := none } = _
    rw [hu, State.defineCamera_cam]
  · rw [ht]; show { v.link with started := true } = _
    rw [hve]; show { u.link with started := true } = _
    rw [hu, State.defineCamera_link]
  · rw [ht]; show { v.chime with started := true } = _
    rw [hve]; show { u.chime with started := true } = _
    rw [hu, State.defineCamera_chime]
  · rw [hwithdraw, hdisp, Display.startedAs, if_pos hd, hud]; rfl
  · rw [hpwm, PwmState.startedAs, if_pos hd]; rfl
  · rw [hwithdraw, hdisp, Display.startedAs, if_neg (by rw [hd]; nofun)]; exact hud d
  · rw [hpwm, PwmState.startedAs, if_neg (by rw [hd]; nofun)]
  · rw [ht]; show v.centre = _; rw [hve]
    show (if p.disp.c.drives .centre = true then { u.centre with calm := 0 } else u.centre) = _
    rw [hu, State.defineCamera_centre]
    split <;> rfl
  · rw [hload, LoadState.faulted_of ((s.startFault_iff p).mpr h)]
  · rw [hload, LoadState.faulted_none]
    rw [← Bool.not_eq_true, State.startFault_iff]
    rintro ⟨d, hd, hf⟩
    rw [h d hd] at hf; cases hf
  · rw [htable] at hf
    have ho : entryAt s.path.table i = .film f := by
      rw [State.cleaned, entryAt_cleanTable] at hf
      split at hf
      · cases hf
      · exact hf
    rw [hset, hu, State.setAt, State.defineCamera_sets]
    exact remakeSets_kept _ _ _ hi hf ho
  · rw [htable] at hf
    rw [hset, hu, State.setAt, State.defineCamera_sets]
    exact remakeSets_gone _ _ _ hi hf
  · show (t.display .centre).withdraw = (s.display .centre).withdraw
    rw [hwithdraw, hu, State.defineCamera_centreDisplay]
  · rw [htable] at hn
    have hne : ∀ g, entryAt (s.cleaned c) i = .film g → g.seat ≠ k := fun g hg => by rw [hn] at hg; cases hg
    have hl : (s.rearOf k).losesSet s.path.table (s.cleaned c) = true :=
      RearState.losesSet_of_reset hi ho (by rw [hn]; nofun)
    rw [hrear, hwithdraw, hu, State.defineCamera_rearOf, State.defineCamera_rearDisplay, hl,
      RearState.tableChanged_lost hl hi hne]
    exact ⟨rfl, Bool.or_true _⟩
  · rw [htable] at hn
    exact hkept k (RearState.losesSet_of_kept (.inr ⟨i, hi, .inl hn⟩))
  · exact hkept k (RearState.losesSet_of_kept (.inl hi))
  · rw [htable]; exact s.ringLost_iff c k
  · rw [haud, hu, State.defineCamera_streams, if_pos h]
  · rw [haud, hu, State.defineCamera_streams, if_neg (by rw [h]; nofun)]
  · rw [hu] at haud harb
    exact (s.defineCamera_abandons c).congr rfl rfl haud harb

end Sys2Proof.Machine
end

section
/-! PROOFS. The checks of a load: each of the model's tests says what its table or rule says of the bytes, and the first
failure is taken in their order (R169, R170, Tables 56, 62 to 64). -/

namespace Sys2Proof.Machine

open Sys2Proof

/-! ### Fields -/

theorem fieldLE_two (rd : Nat → Nat) (o : Nat) : fieldLE rd o 2 = word2 rd o := by
  simp [fieldLE, word2]

theorem fieldLE_four (rd : Nat → Nat) (o : Nat) : fieldLE rd o 4 = word4 rd o := by
  simp only [fieldLE, word4, word2, Nat.add_assoc, Nat.reduceAdd]; omega

/-! ### The descriptors (Table 62) -/

/-- Where the descriptor of an entry begins. -/
def descOffset (i : Nat) : Nat := 0x100 + 32 * i

section
variable {rd : Nat → Nat} {i : Nat}

theorem readRegion_absent (h : rd (descOffset i) = 0) : readRegion rd i = .absent := by
  unfold descOffset at h
  simp [readRegion, h]

theorem readRegion_film (h : rd (descOffset i) = 1) :
    readRegion rd i =
      .film { base := word4 rd (descOffset i + 4), size := word4 rd (descOffset i + 8),
              width := word2 rd (descOffset i + 12), height := word2 rd (descOffset i + 14),
              swz := readSwz (rd (descOffset i + 1)), orient := readOrient (rd (descOffset i + 2)),
              seat := if rd (descOffset i + 3) = 2 then .right else .left, count := rd (descOffset i + 16) } := by
  simp only [← fieldLE_two, ← fieldLE_four]
  exact if_pos h

theorem readRegion_overlay (h : rd (descOffset i) = 2) :
    readRegion rd i =
      .overlay { base := word4 rd (descOffset i + 4), size := word4 rd (descOffset i + 8),
                 width := word2 rd (descOffset i + 12), height := word2 rd (descOffset i + 14),
                 swz := readSwz (rd (descOffset i + 1)) } := by
  simp only [← fieldLE_two, ← fieldLE_four]
  unfold descOffset at *
  simp [readRegion, h]

theorem readRegion_audio (h : rd (descOffset i) = 3) :
    readRegion rd i =
      .audio { base := word4 rd (descOffset i + 4), size := word4 rd (descOffset i + 8),
               n := word2 rd (descOffset i + 18) } := by
  simp only [← fieldLE_two, ← fieldLE_four]
  unfold descOffset at *
  simp [readRegion, h]

end

theorem entryAt_readTable (rd : Nat → Nat) {i : Nat} (hi : i < 16) : entryAt (readTable rd) i = readRegion rd i := by
  rw [entryAt, readTable, List.getD_eq_getElem?_getD, List.getElem?_map, List.getElem?_range hi]
  rfl

/-- A kind that passes is one of the four. -/
theorem kind_cases {n : Nat} (h : n ≤ 3) : n = 0 ∨ n = 1 ∨ n = 2 ∨ n = 3 := by omega

/-- The first byte and the size of a descriptor that is not NONE. -/
theorem readRegion_extent {rd : Nat → Nat} {i : Nat} (h : rd (descOffset i) ≤ 3) (hn : rd (descOffset i) ≠ 0) :
    (readRegion rd i).extent = (word4 rd (descOffset i + 4), word4 rd (descOffset i + 8)) := by
  rcases kind_cases h with h | h | h | h
  · exact absurd h hn
  · rw [readRegion_film h]; rfl
  · rw [readRegion_overlay h]; rfl
  · rw [readRegion_audio h]; rfl

theorem readRegion_ne_absent {rd : Nat → Nat} {i : Nat} (h : rd (descOffset i) ≤ 3) :
    readRegion rd i ≠ .absent ↔ rd (descOffset i) ≠ 0 := by
  rcases kind_cases h with h | h | h | h
  · rw [readRegion_absent h, h]; simp
  · rw [readRegion_film h, h]; simp
  · rw [readRegion_overlay h, h]; simp
  · rw [readRegion_audio h, h]; simp

/-! ### The tests on a descriptor (R169, Table 56) -/

theorem badKind_iff {rd : Nat → Nat} {i : Nat} : badKind rd i = true ↔ FailsKind rd (descOffset i) := by
  unfold badKind FailsKind descOffset
  simp only [Bool.or_eq_true, Bool.and_eq_true, decide_eq_true_eq, beq_iff_eq, Bool.not_eq_true', Bool.or_eq_false_iff,
    beq_eq_false_iff_ne]
  tauto

theorem FailsKind.le_three {rd : Nat → Nat} {o : Nat} (h : ¬FailsKind rd o) : rd o ≤ 3 := by
  unfold FailsKind at h; omega

theorem badExtent_iff {base size : Nat} :
    badExtent base size = true ↔
      base % 4096 ≠ 0 ∨ size = 0 ∨ size % 4096 ≠ 0 ∨ 0xFFFFFFFF < base + size - 1 := by
  simp [badExtent, or_assoc]

theorem Film.slotBytes_eq (f : Film) : f.slotBytes = (f.width * 4 * f.height + 16 + 4095) / 4096 * 4096 := by
  have h : f.width * 4 * f.height + 16 + 4096 - 1 = f.width * 4 * f.height + 16 + 4095 := Nat.add_sub_assoc (by decide) _
  rw [Film.slotBytes, roundup, h]

theorem badGeometry_iff {rd : Nat → Nat} {i : Nat} (h : rd (descOffset i) ≤ 3) :
    badGeometry (readRegion rd i) = true ↔ FailsGeometry rd (descOffset i) := by
  unfold FailsGeometry
  dsimp only
  rcases kind_cases h with h | h | h | h
  · rw [readRegion_absent h]; simp [badGeometry, h]
  · rw [readRegion_film h, badGeometry, Bool.or_eq_true, badExtent_iff, Bool.not_eq_true', decide_eq_false_iff_not]
    simp only [h, true_and, Film.slotBytes_eq]
    omega
  · rw [readRegion_overlay h, badGeometry, Bool.or_eq_true, badExtent_iff, Bool.not_eq_true', decide_eq_false_iff_not]
    simp only [h, true_and, Overlay.pixelBytes]
    omega
  · rw [readRegion_audio h, badGeometry, Bool.or_eq_true, badExtent_iff, Bool.not_eq_true', decide_eq_false_iff_not]
    simp only [h, true_and]
    omega

/-- Two ranges meet where they share a byte. -/
theorem rangesMeet_iff {b1 n1 b2 n2 : Nat} :
    rangesMeet b1 n1 b2 n2 = true ↔ ∃ a, (b1 ≤ a ∧ a < b1 + n1) ∧ b2 ≤ a ∧ a < b2 + n2 := by
  rw [rangesMeet, decide_eq_true_iff]
  constructor
  · rintro ⟨h1, h2, h3, h4⟩
    exact ⟨max b1 b2, by omega⟩
  · rintro ⟨a, h1, h2⟩; omega

/-- A descriptor holds a byte (Table 62). -/
def descHolds (rd : Nat → Nat) (i a : Nat) : Prop :=
  rd (descOffset i) ≠ 0 ∧ word4 rd (descOffset i + 4) ≤ a ∧
    a < word4 rd (descOffset i + 4) + word4 rd (descOffset i + 8)

theorem FailsOverlap_iff {rd : Nat → Nat} {i cb : Nat} {cam : Option CamRegion} :
    FailsOverlap rd i cb cam ↔ ∃ a, descHolds rd i a ∧
      ((∃ j, j < i ∧ descHolds rd j a) ∨ (cb ≤ a ∧ a < cb + 4096) ∨
        ∃ c, cam = some c ∧ c.base ≤ a ∧ a < c.base + 4 * c.slotBytes) := by
  have h4 : ∀ j, 0x104 + 32 * j = descOffset j + 4 := by intro j; unfold descOffset; omega
  have h8 : ∀ j, 0x108 + 32 * j = descOffset j + 8 := by intro j; unfold descOffset; omega
  unfold FailsOverlap descHolds
  simp only [h4, h8]
  rfl

theorem descHolds_iff {rd : Nat → Nat} {i a : Nat} (h : rd (descOffset i) ≤ 3) :
    descHolds rd i a ↔ (readRegion rd i).extent.1 ≤ a ∧ a < (readRegion rd i).extent.1 + (readRegion rd i).extent.2 := by
  unfold descHolds
  by_cases hn : rd (descOffset i) = 0
  · rw [readRegion_absent hn]; simp [hn, Region.extent]
  · rw [readRegion_extent h hn]; simp [hn]

theorem badOverlap_iff {rd : Nat → Nat} {i cb : Nat} {cam : Option CamRegion} (hi : i < 16)
    (h : rd (descOffset i) ≤ 3) (hj : ∀ j, j < i → rd (descOffset j) ≤ 3) :
    badOverlap ((readTable rd).take i) cb cam (readRegion rd i) = true ↔ FailsOverlap rd i cb cam := by
  have htake : (readTable rd).take i = (List.range i).map (readRegion rd) := by
    rw [readTable, ← List.map_take, List.take_range, Nat.min_eq_left hi.le]
  have hany : ((List.range i).map (readRegion rd)).any (fun e => regionsMeet (readRegion rd i) e) = true ↔
      ∃ a, descHolds rd i a ∧ ∃ j, j < i ∧ descHolds rd j a := by
    simp only [List.any_map, List.any_eq_true, List.mem_range, Function.comp_apply, regionsMeet, rangesMeet_iff]
    constructor
    · rintro ⟨j, hji, a, h1, h2⟩
      exact ⟨a, (descHolds_iff h).mpr h1, j, hji, (descHolds_iff (hj j hji)).mpr h2⟩
    · rintro ⟨a, h1, j, hji, h2⟩
      exact ⟨j, hji, a, (descHolds_iff h).mp h1, (descHolds_iff (hj j hji)).mp h2⟩
  have hcam : ∀ c : CamRegion, (readRegion rd i).meetsCam c = true ↔
      ∃ a, descHolds rd i a ∧ c.base ≤ a ∧ a < c.base + 4 * c.slotBytes := by
    intro c
    simp only [Region.meetsCam, rangesMeet_iff, ← descHolds_iff h]
  have hblock : rangesMeet (readRegion rd i).extent.1 (readRegion rd i).extent.2 cb 4096 = true ↔
      ∃ a, descHolds rd i a ∧ cb ≤ a ∧ a < cb + 4096 := by
    simp only [rangesMeet_iff, ← descHolds_iff h]
  have hkind : (readRegion rd i != .absent) = true ↔ rd (descOffset i) ≠ 0 := by
    rw [bne_iff_ne, readRegion_ne_absent h]
  unfold badOverlap
  rw [FailsOverlap_iff, htake, Bool.and_eq_true, Bool.or_eq_true, Bool.or_eq_true, hany, hblock, hkind]
  cases cam with
  | none =>
    constructor
    · rintro ⟨-, (⟨a, h1, h2⟩ | ⟨a, h1, h2⟩) | h2⟩
      · exact ⟨a, h1, .inl h2⟩
      · exact ⟨a, h1, .inr (.inl h2)⟩
      · cases h2
    · rintro ⟨a, h1, h2 | h2 | ⟨c, hc, -⟩⟩
      · exact ⟨h1.1, .inl (.inl ⟨a, h1, h2⟩)⟩
      · exact ⟨h1.1, .inl (.inr ⟨a, h1, h2⟩)⟩
      · cases hc
  | some c =>
    constructor
    · rintro ⟨-, (⟨a, h1, h2⟩ | ⟨a, h1, h2⟩) | h2⟩
      · exact ⟨a, h1, .inl h2⟩
      · exact ⟨a, h1, .inr (.inl h2)⟩
      · obtain ⟨a, h1, h2⟩ := (hcam c).mp h2
        exact ⟨a, h1, .inr (.inr ⟨c, rfl, h2⟩)⟩
    · rintro ⟨a, h1, h2 | h2 | ⟨c', hc, h2⟩⟩
      · exact ⟨h1.1, .inl (.inl ⟨a, h1, h2⟩)⟩
      · exact ⟨h1.1, .inl (.inr ⟨a, h1, h2⟩)⟩
      · injection hc with hc; subst hc
        exact ⟨h1.1, .inr ((hcam _).mpr ⟨a, h1, h2⟩)⟩

/-! ### The tests on the scenes and the audio record (R170) -/

theorem badRef_iff {n : Nat} : badRef n = true ↔ 16 ≤ n ∧ n ≤ 254 := by simp [badRef]

theorem badEntry_iff {table : List Region} {ok : Region → Bool} {n : Nat} :
    badEntry table ok n = true ↔ n ≠ 0xFF ∧ ok (entryAt table n) = false := by
  unfold badEntry regionRef
  by_cases h : n = 0xFF <;> simp [h]

theorem isOverlay_false_iff {r : Region} : isOverlay r = false ↔ ∀ v, r ≠ .overlay v := by
  cases r <;> simp [isOverlay]

theorem isFilmFor_false_iff {k : Seat} {r : Region} : isFilmFor k r = false ↔ ∀ f, r = .film f → f.seat ≠ k := by
  cases r <;> simp [isFilmFor]

theorem badOverlay_iff {rd : Nat → Nat} {table : List Region} {o : Nat} :
    badOverlay rd table o = true ↔ FailsOverlay rd table o := by
  unfold badOverlay FailsOverlay
  simp only [Bool.or_eq_true, badRef_iff, badEntry_iff, isOverlay_false_iff, decide_eq_true_eq, fieldLE_two, or_assoc]

theorem badScene_centre_iff {rd : Nat → Nat} {table : List Region} :
    badScene rd table .centre = true ↔ FailsScene rd table .centre := by
  unfold badScene FailsScene sceneOffset
  simp only [Bool.or_eq_true, badRef_iff, badEntry_iff, baseAdmits, isOverlay_false_iff, badOverlay_iff,
    decide_eq_true_eq, fieldLE_two, or_assoc]

theorem badScene_rear_iff {rd : Nat → Nat} {table : List Region} {k : Seat} :
    badScene rd table (.rear k) = true ↔ FailsScene rd table (.rear k) := by
  unfold badScene FailsScene sceneOffset
  cases k <;>
    simp only [Bool.or_eq_true, badRef_iff, badEntry_iff, baseAdmits, isFilmFor_false_iff, badOverlay_iff,
      decide_eq_true_eq, fieldLE_two, or_assoc]

theorem badStream_iff {rd : Nat → Nat} {table : List Region} {o : Nat} :
    badStream rd table o = true ↔ FailsStream rd table o := by
  unfold badStream FailsStream
  cases hr : entryAt table (rd (o + 1)) <;>
    simp only [Bool.or_eq_true, Bool.and_eq_true, fieldLE_two, decide_eq_true_eq, beq_iff_eq, Bool.not_eq_true',
      decide_eq_false_iff_not, reduceCtorEq, Region.audio.injEq, false_implies, implies_true, forall_eq', true_or, or_true, and_true] <;>
    omega

end Sys2Proof.Machine
end

section
/-! PROOFS. The verdict on a staged copy, check by check in their fixed order, and what its records read (R169, R170,
Tables 56, 60, 62 to 64). -/

namespace Sys2Proof.Machine

open Sys2Proof

/-! ### The first failure of a list of checks -/

theorem firstFailure_cons_none (xs : List (Option Failure)) : firstFailure (none :: xs) = firstFailure xs := rfl

theorem firstFailure_cons_some (e : Failure) (xs : List (Option Failure)) : firstFailure (some e :: xs) = some e := rfl

/-- Checks that pass are passed over. -/
theorem firstFailure_map_none {f : Nat → Option Failure} {is : List Nat} (h : ∀ j ∈ is, f j = none)
    (ys : List (Option Failure)) : firstFailure (is.map f ++ ys) = firstFailure ys := by
  induction is with
  | nil => rfl
  | cons a is ih =>
    rw [List.map_cons, List.cons_append, h a List.mem_cons_self, firstFailure_cons_none]
    exact ih fun j hj => h j (List.mem_cons_of_mem _ hj)

/-- The first of a run of numbered checks to fail decides. -/
theorem firstFailure_map_range {f : Nat → Option Failure} {n i : Nat} {e : Failure} (hi : i < n)
    (hbefore : ∀ j, j < i → f j = none) (hf : f i = some e) (ys : List (Option Failure)) :
    firstFailure ((List.range n).map f ++ ys) = some e := by
  have hsplit : List.range n = List.range i ++ i :: (List.range (n - i - 1)).map (fun k => i + 1 + k) := by
    have h1 : n = i + (1 + (n - i - 1)) := by omega
    conv_lhs => rw [h1, List.range_add, List.range_add, List.map_append, List.map_map]
    simp [Function.comp_def, Nat.add_assoc]
  rw [hsplit, List.map_append, List.append_assoc, firstFailure_map_none (fun j hj => hbefore j (List.mem_range.mp hj)),
    List.map_cons, List.cons_append, hf, firstFailure_cons_some]

/-! ### The checks (R169, R170) -/

/-- R169 step 1: the format version is 1 and the scope a known one. -/
def VersionOk (rd : Nat → Nat) (scope : Byte) : Prop := rd 0 = 1 ∧ (∀ i, i < 7 → rd (i + 1) = 0) ∧ scope.toNat ≤ 1

/-- A field reads 0 where all its bytes are 0. -/
theorem fieldLE_eq_zero (rd : Nat → Nat) (o n : Nat) : fieldLE rd o n = 0 ↔ ∀ i, i < n → rd (o + i) = 0 := by
  induction n generalizing o with
  | zero => simp [fieldLE]
  | succ n ih =>
    have hstep : fieldLE rd o (n + 1) = 0 ↔ rd o = 0 ∧ fieldLE rd (o + 1) n = 0 := by simp only [fieldLE]; omega
    rw [hstep, ih]
    constructor
    · rintro ⟨h0, h⟩ i hi
      cases i with
      | zero => exact h0
      | succ i => rw [Nat.add_comm i 1, ← Nat.add_assoc]; exact h i (by omega)
    · intro h
      refine ⟨h 0 (by omega), fun i hi => ?_⟩
      rw [Nat.add_assoc]; exact h (1 + i) (by omega)

/-- The eight bytes of the format version read 1 where the first is 1 and the others are 0. -/
theorem fieldLE_eight_eq_one (rd : Nat → Nat) : fieldLE rd 0 8 = 1 ↔ rd 0 = 1 ∧ ∀ i, i < 7 → rd (i + 1) = 0 := by
  have hstep : fieldLE rd 0 (7 + 1) = 1 ↔ rd 0 = 1 ∧ fieldLE rd 1 7 = 0 := by
    rw [fieldLE, Nat.zero_add]; omega
  rw [hstep, fieldLE_eq_zero]
  simp only [Nat.add_comm 1]

theorem checkVersion_none {rd : Nat → Nat} {scope : Byte} (h : VersionOk rd scope) : checkVersion rd scope = none :=
  if_pos ⟨(fieldLE_eight_eq_one rd).mpr ⟨h.1, h.2.1⟩, h.2.2⟩

theorem checkVersion_some {rd : Nat → Nat} {scope : Byte} (h : ¬VersionOk rd scope) :
    checkVersion rd scope = some (.badVersion, 0xFF) := by
  refine if_neg fun hc => h ?_
  obtain ⟨h0, h1⟩ := (fieldLE_eight_eq_one rd).mp hc.1
  exact ⟨h0, h1, hc.2⟩

/-- A descriptor passes its three tests. -/
def DescGood (rd : Nat → Nat) (cb : Nat) (cam : Option CamRegion) (i : Nat) : Prop :=
  ¬FailsKind rd (descOffset i) ∧ ¬FailsGeometry rd (descOffset i) ∧ ¬FailsOverlap rd i cb cam

section
variable {rd : Nat → Nat} {cb i : Nat} {cam : Option CamRegion}

theorem checkRegion_kind (h : FailsKind rd (descOffset i)) : checkRegion rd cb cam i = some (.regionKind, i) :=
  if_pos (badKind_iff.mpr h)

theorem checkRegion_geometry (hk : ¬FailsKind rd (descOffset i)) (h : FailsGeometry rd (descOffset i)) :
    checkRegion rd cb cam i = some (.regionGeometry, i) := by
  unfold checkRegion
  dsimp only
  rw [if_neg (mt badKind_iff.mp hk), if_pos ((badGeometry_iff (FailsKind.le_three hk)).mpr h)]

variable (hi : i < 16) (hj : ∀ j, j < i → DescGood rd cb cam j)
include hi hj

theorem checkRegion_overlap (hk : ¬FailsKind rd (descOffset i)) (hg : ¬FailsGeometry rd (descOffset i))
    (h : FailsOverlap rd i cb cam) : checkRegion rd cb cam i = some (.regionOverlap, i) := by
  unfold checkRegion
  dsimp only
  rw [if_neg (mt badKind_iff.mp hk), if_neg (mt (badGeometry_iff (FailsKind.le_three hk)).mp hg),
    if_pos ((badOverlap_iff hi (FailsKind.le_three hk) fun j hji => FailsKind.le_three (hj j hji).1).mpr h)]

theorem checkRegion_good (h : DescGood rd cb cam i) : checkRegion rd cb cam i = none := by
  obtain ⟨hk, hg, ho⟩ := h
  unfold checkRegion
  dsimp only
  rw [if_neg (mt badKind_iff.mp hk), if_neg (mt (badGeometry_iff (FailsKind.le_three hk)).mp hg),
    if_neg (mt (badOverlap_iff hi (FailsKind.le_three hk) fun j hji => FailsKind.le_three (hj j hji).1).mp ho)]

end

/-- R170: the scenes, each in its turn. -/
theorem badScene_iff {rd : Nat → Nat} {table : List Region} {d : Disp} :
    badScene rd table d = true ↔ FailsScene rd table d := by
  cases d with
  | centre => exact badScene_centre_iff
  | rear k => exact badScene_rear_iff

section
variable {rd : Nat → Nat} {tab : List Region}

theorem checkScenes_centre (h : FailsScene rd tab .centre) : checkScenes rd tab = some (.sceneReference, 0) :=
  if_pos (badScene_iff.mpr h)

theorem checkScenes_left (hc : ¬FailsScene rd tab .centre) (h : FailsScene rd tab (.rear .left)) :
    checkScenes rd tab = some (.sceneReference, 1) := by
  rw [checkScenes, if_neg (mt badScene_iff.mp hc), if_pos (badScene_iff.mpr h)]

theorem checkScenes_right (hc : ¬FailsScene rd tab .centre) (hl : ¬FailsScene rd tab (.rear .left))
    (h : FailsScene rd tab (.rear .right)) : checkScenes rd tab = some (.sceneReference, 2) := by
  rw [checkScenes, if_neg (mt badScene_iff.mp hc), if_neg (mt badScene_iff.mp hl), if_pos (badScene_iff.mpr h)]

theorem checkScenes_none (h : ∀ d, ¬FailsScene rd tab d) : checkScenes rd tab = none := by
  rw [checkScenes, if_neg (mt badScene_iff.mp (h .centre)), if_neg (mt badScene_iff.mp (h (.rear .left))),
    if_neg (mt badScene_iff.mp (h (.rear .right)))]

/-- R170: two enabled streams name one ring. -/
def SameRing (rd : Nat → Nat) : Prop := rd 0x480 = 1 ∧ rd 0x490 = 1 ∧ rd 0x481 = rd 0x491

theorem checkAudio_left (h : FailsStream rd tab 0x480) : checkAudio rd tab = some (.audioReference, 0) :=
  if_pos (badStream_iff.mpr h)

theorem checkAudio_right (hl : ¬FailsStream rd tab 0x480) (h : FailsStream rd tab 0x490 ∨ SameRing rd) :
    checkAudio rd tab = some (.audioReference, 1) := by
  rw [checkAudio, if_neg (mt badStream_iff.mp hl)]
  by_cases hr : FailsStream rd tab 0x490
  · rw [if_pos (badStream_iff.mpr hr)]
  · rw [if_neg (mt badStream_iff.mp hr)]
    exact if_pos (h.resolve_left hr)

theorem cabin_iff : (2 < rd 0x4A0 ∨ 1 < rd 0x4A1 ∨ 256 < fieldLE rd 0x4A2 2 ∨ 256 < fieldLE rd 0x4A4 2) ↔
    FailsCabin rd := by
  simp only [fieldLE_two, FailsCabin]; tauto

theorem checkAudio_cabin (hl : ¬FailsStream rd tab 0x480) (hr : ¬FailsStream rd tab 0x490) (hs : ¬SameRing rd)
    (h : FailsCabin rd) : checkAudio rd tab = some (.audioReference, 2) := by
  rw [checkAudio, if_neg (mt badStream_iff.mp hl), if_neg (mt badStream_iff.mp hr)]
  exact (if_neg hs).trans (if_pos (cabin_iff.mpr h))

theorem checkAudio_none (hl : ¬FailsStream rd tab 0x480) (hr : ¬FailsStream rd tab 0x490) (hs : ¬SameRing rd)
    (h : ¬FailsCabin rd) : checkAudio rd tab = none := by
  rw [checkAudio, if_neg (mt badStream_iff.mp hl), if_neg (mt badStream_iff.mp hr)]
  exact (if_neg hs).trans (if_neg (mt cabin_iff.mp h))

end

/-! ### The verdict -/

theorem isFull_iff {scope : Byte} : isFull scope = true ↔ scope = 0 := beq_iff_eq

theorem loadTable_eq (rd : Nat → Nat) (scope : Byte) (active : List Region) :
    loadTable rd scope active = if scope = 0 then readTable rd else active := by
  unfold loadTable
  simp only [isFull_iff]

section
variable {rd : Nat → Nat} {scope : Byte} {active : List Region} {cb : Nat} {cam : Option CamRegion}

theorem checkLoad_version (h : ¬VersionOk rd scope) : checkLoad rd scope active cb cam = some (.badVersion, 0xFF) := by
  rw [checkLoad, checkVersion_some h]; rfl

theorem checkLoad_full (hv : VersionOk rd scope) (hs : scope = 0) :
    checkLoad rd scope active cb cam =
      firstFailure ((List.range 16).map (checkRegion rd cb cam) ++
        [checkScenes rd (loadTable rd scope active), checkAudio rd (loadTable rd scope active)]) := by
  rw [checkLoad, checkVersion_none hv, if_pos (isFull_iff.mpr hs)]; rfl

/-- The descriptor that fails first decides. -/
theorem checkLoad_region (hv : VersionOk rd scope) (hs : scope = 0) {i : Nat} (hi : i < 16)
    (hj : ∀ j, j < i → DescGood rd cb cam j) {e : Failure} (he : checkRegion rd cb cam i = some e) :
    checkLoad rd scope active cb cam = some e := by
  rw [checkLoad_full hv hs]
  exact firstFailure_map_range hi (fun j hji => checkRegion_good (Nat.lt_trans hji hi)
    (fun j' hj' => hj j' (Nat.lt_trans hj' hji)) (hj j hji)) he _

/-- Where version and table pass, the scenes and the audio record decide. -/
theorem checkLoad_records (hv : VersionOk rd scope) (hg : scope = 0 → ∀ i, i < 16 → DescGood rd cb cam i) :
    checkLoad rd scope active cb cam =
      firstFailure [checkScenes rd (loadTable rd scope active), checkAudio rd (loadTable rd scope active)] := by
  by_cases hs : scope = 0
  · rw [checkLoad_full hv hs]
    refine firstFailure_map_none (fun j hj => ?_) _
    have hj16 := List.mem_range.mp hj
    exact checkRegion_good hj16 (fun j' hj' => hg hs j' (Nat.lt_trans hj' hj16)) (hg hs j hj16)
  · rw [checkLoad, checkVersion_none hv, if_neg (mt isFull_iff.mp hs)]; rfl

end

/-! ### What the records read (Tables 60, 62 to 64) -/

theorem readMask_bit (rd : Nat → Nat) {i : Nat} (hi : i < 10) :
    (readMask rd).getLsbD i = (word4 rd 0x018).testBit i := by
  rw [readMask, fieldLE_four, BitVec.getLsbD_ofNat]
  simp [hi]

end Sys2Proof.Machine
end

section
/-! PROOFS. What an accepted load hands over: the staged scenes, the streams stopped or started anew, the fault latches
cleared (R17, R85, R93, R95, R171), and LOAD's return to IDLE with the test of R166. -/

namespace Sys2Proof.Machine

open Sys2Proof

/-! ### The streams (R85) -/

/-- R85: an enabled stream is started anew where it was stopped or its ring has changed. -/
def Stream.Anew (st : Stream) (table : List Region) (x : StreamRecord) : Prop :=
  st.phase = .stopped ∨ ∀ r, st.ring = some r → r.idx ≠ x.ring ∨ entryAt table x.ring ≠ .audio r.desc

/-- R85, R93: an audio record stops a stream or starts it anew: its prefetch is abandoned. -/
def Stream.Abandoned (st : Stream) (table : List Region) (x : StreamRecord) : Prop :=
  (x.enable = false ∧ st.phase ≠ .stopped) ∨
    (x.enable = true ∧ st.Anew table x ∧ ∃ g, entryAt table x.ring = .audio g)

/-- R85: a stream started anew. -/
def Stream.primed (st : Stream) (x : StreamRecord) (g : AudioRing) : Stream :=
  { st with
    phase := .priming, blockSeq := 0,
    ring := some
      { idx := x.ring, desc := g, blocks := List.replicate g.n .empty, awaited := some x.start,
        playing := none, prime := x.prime, prefetch := none, play := [] } }

theorem ringChanged_iff {table : List Region} {r : RingRecord} {idx : Nat} :
    ringChanged table r idx = true ↔ r.idx ≠ idx ∨ entryAt table idx ≠ .audio r.desc := by
  simp [ringChanged]

section
variable {s : State} {k : Seat} {x : StreamRecord}

theorem State.applyStream_off (he : x.enable = false) (hp : (Pair.get s.aud.streams k).phase = .stopped) :
    s.applyStream k x = s := by
  simp [State.applyStream, he, hp]

theorem State.applyStream_stop (he : x.enable = false) (hp : (Pair.get s.aud.streams k).phase ≠ .stopped) :
    s.applyStream k x = s.stopStream k := by
  simp [State.applyStream, he, hp]

theorem State.applyStream_same (he : x.enable = true) (ha : ¬(Pair.get s.aud.streams k).Anew s.path.table x) :
    s.applyStream k x = s := by
  unfold Stream.Anew at ha
  unfold State.applyStream
  simp only [he, if_true]
  cases hr : (Pair.get s.aud.streams k).ring with
  | none => exact absurd (.inr fun r h => by rw [hr] at h; cases h) ha
  | some r =>
    refine if_neg fun h => ha ?_
    rw [Bool.or_eq_true, beq_iff_eq, ringChanged_iff] at h
    exact h.imp_right fun h r' hr' => by rw [hr] at hr'; injection hr' with hr'; subst hr'; exact h

/-- Where a stream is to start anew, whether the table has its ring decides. -/
theorem State.applyStream_anew_test (he : x.enable = true) (ha : (Pair.get s.aud.streams k).Anew s.path.table x) :
    s.applyStream k x =
      match entryAt s.path.table x.ring with
      | .audio g => s.startStream k x.ring g x.start x.prime
      | _ => s := by
  unfold Stream.Anew at ha
  unfold State.applyStream
  simp only [he, if_true]
  cases hr : (Pair.get s.aud.streams k).ring with
  | none => exact if_pos rfl
  | some r =>
    refine if_pos ?_
    rw [Bool.or_eq_true, beq_iff_eq, ringChanged_iff]
    exact ha.imp_right fun h => h r hr

theorem State.applyStream_start {g : AudioRing} (he : x.enable = true)
    (ha : (Pair.get s.aud.streams k).Anew s.path.table x) (hg : entryAt s.path.table x.ring = .audio g) :
    s.applyStream k x = s.startStream k x.ring g x.start x.prime := by
  rw [State.applyStream_anew_test he ha, hg]

theorem State.applyStream_noRing (he : x.enable = true) (ha : (Pair.get s.aud.streams k).Anew s.path.table x)
    (hg : ∀ g, entryAt s.path.table x.ring ≠ .audio g) : s.applyStream k x = s := by
  rw [State.applyStream_anew_test he ha]
  cases h : entryAt s.path.table x.ring with
  | audio g => exact absurd h (hg g)
  | _ => rfl

/-- What an audio record does to one stream, in each of its cases. -/
theorem State.applyStream_cases (s : State) (k : Seat) (x : StreamRecord) :
    (s.applyStream k x = s ∧ ¬(Pair.get s.aud.streams k).Abandoned s.path.table x) ∨
      ((Pair.get s.aud.streams k).Abandoned s.path.table x ∧
        (s.applyStream k x = s.stopStream k ∨ ∃ g, s.applyStream k x = s.startStream k x.ring g x.start x.prime)) := by
  unfold Stream.Abandoned
  cases he : x.enable with
  | false =>
    by_cases hp : (Pair.get s.aud.streams k).phase = .stopped
    · exact .inl ⟨State.applyStream_off he hp, by simp [hp]⟩
    · exact .inr ⟨.inl ⟨rfl, hp⟩, .inl (State.applyStream_stop he hp)⟩
  | true =>
    by_cases ha : (Pair.get s.aud.streams k).Anew s.path.table x
    · by_cases hg : ∃ g, entryAt s.path.table x.ring = .audio g
      · obtain ⟨g, hg⟩ := hg
        exact .inr ⟨.inr ⟨rfl, ha, g, hg⟩, .inr ⟨g, State.applyStream_start he ha hg⟩⟩
      · refine .inl ⟨State.applyStream_noRing he ha fun g h => hg ⟨g, h⟩, ?_⟩
        rintro (⟨h, -⟩ | ⟨-, -, h⟩)
        · cases h
        · exact hg h
    · refine .inl ⟨State.applyStream_same he ha, ?_⟩
      rintro (⟨h, -⟩ | ⟨-, h, -⟩)
      · cases h
      · exact ha h

end

theorem State.startStream_streams_self (s : State) (k : Seat) (x : StreamRecord) (g : AudioRing) :
    Pair.get (s.startStream k x.ring g x.start x.prime).aud.streams k = (Pair.get s.aud.streams k).primed x g :=
  Pair.get_set_self _ _ _

theorem State.applyStream_streams_ne (s : State) {k j : Seat} (x : StreamRecord) (h : j ≠ k) :
    Pair.get (s.applyStream k x).aud.streams j = Pair.get s.aud.streams j := by
  rcases s.applyStream_cases k x with ⟨e, -⟩ | ⟨-, e | ⟨g, e⟩⟩
  · rw [e]
  · rw [e]; exact Pair.get_set_ne _ _ h
  · rw [e]; exact Pair.get_set_ne _ _ h

/-- R93: the stream stopped or started anew abandons its prefetch, and no other does. -/
theorem State.applyStream_abandons (s : State) (k : Seat) (x : StreamRecord) :
    ∃ b : Bool, (b = true ↔ (Pair.get s.aud.streams k).Abandoned s.path.table x) ∧
      AbandonsPrefetches (fun j => j == k && b) s (s.applyStream k x) := by
  rcases s.applyStream_cases k x with ⟨e, hn⟩ | ⟨ha, h⟩
  · refine ⟨false, iff_of_false nofun hn, ?_⟩
    rw [e]
    simp only [Bool.and_false]
    exact .none rfl rfl
  · refine ⟨true, iff_of_true rfl ha, ?_⟩
    simp only [Bool.and_true]
    rcases h with e | ⟨g, e⟩
    · rw [e]; exact s.stopStream_abandons k
    · rw [e]; exact s.startStream_abandons k _ _ _ _

/-- The record of one stream in an audio record. -/
theorem State.applyAudio_eq (s : State) (x : AudioRecord) :
    s.applyAudio x =
      ((s.applyStream .left x.streams.l).applyStream .right x.streams.r).setMix
        { s.mix with
          v := ⟨x.streams.l.volume, x.streams.r.volume⟩, route := x.route, vc := x.vc, duck := x.duck,
          mute := x.mute } := by
  simp only [State.applyAudio, State.applyStream_mix]

/-- R85: what an audio record makes of a stream, with the table in force: from `st` it comes to `st'`. -/
def Stream.Obeys (st : Stream) (table : List Region) (x : StreamRecord) (st' : Stream) : Prop :=
  (x.enable = false → st.phase = .stopped → st' = st) ∧
  (x.enable = false → st.phase ≠ .stopped → st' = { st with phase := .stopped, ring := none }) ∧
  (x.enable = true → st.Anew table x → ∀ g, entryAt table x.ring = .audio g → st' = st.primed x g) ∧
  (x.enable = true → ¬st.Anew table x → st' = st)

theorem State.applyStream_obeys (s : State) (k : Seat) (x : StreamRecord) :
    (Pair.get s.aud.streams k).Obeys s.path.table x (Pair.get (s.applyStream k x).aud.streams k) := by
  refine ⟨fun he hp => ?_, fun he hp => ?_, fun he ha g hg => ?_, fun he ha => ?_⟩
  · rw [State.applyStream_off he hp]
  · rw [State.applyStream_stop he hp, State.stopStream_streams_self]
  · rw [State.applyStream_start he ha hg, State.startStream_streams_self]
  · rw [State.applyStream_same he ha]

/-- R85: each stream obeys its own part of the audio record. -/
theorem State.applyAudio_obeys (s : State) (x : AudioRecord) (k : Seat) :
    (Pair.get s.aud.streams k).Obeys s.path.table (Pair.get x.streams k)
      (Pair.get (s.applyAudio x).aud.streams k) := by
  rw [State.applyAudio_eq]
  cases k with
  | left =>
    have h := s.applyStream_obeys .left x.streams.l
    rwa [← State.applyStream_streams_ne (s.applyStream .left x.streams.l) x.streams.r
      (show Seat.left ≠ .right by decide)] at h
  | right =>
    have h := (s.applyStream .left x.streams.l).applyStream_obeys .right x.streams.r
    rwa [State.applyStream_streams_ne s x.streams.l (show Seat.right ≠ .left by decide), State.applyStream_path] at h

/-- R85, R93: an audio record abandons the prefetches of the streams it stops and starts anew, and of no other. -/
theorem State.applyAudio_abandons (s : State) (x : AudioRecord) :
    ∃ gone : Seat → Bool,
      (∀ k, gone k = true ↔ (Pair.get s.aud.streams k).Abandoned s.path.table (Pair.get x.streams k)) ∧
        AbandonsPrefetches gone s (s.applyAudio x) := by
  obtain ⟨bl, hl, al⟩ := s.applyStream_abandons .left x.streams.l
  obtain ⟨br, hr, ar⟩ := (s.applyStream .left x.streams.l).applyStream_abandons .right x.streams.r
  rw [State.applyStream_streams_ne s x.streams.l (show Seat.right ≠ .left by decide), State.applyStream_path] at hr
  refine ⟨Pair.get ⟨bl, br⟩, fun k => by cases k with | left => exact hl | right => exact hr, ?_⟩
  rw [State.applyAudio_eq]
  exact (al.both (f := Pair.get ⟨bl, br⟩) ar).congr rfl rfl rfl rfl

end Sys2Proof.Machine
end

section
/-! PROOFS. The end of a check: what an accepted load hands over to each block, and LOAD's return to IDLE with the test of
R166 (R17, R77, R85, R166, R171, R172). -/

namespace Sys2Proof.Machine

open Sys2Proof

/-! ### LOAD's return to IDLE (R166) -/

/-- R166: what LOAD does as it returns to IDLE, with the generations it has loaded and refused: from `l` it comes to `l'`,
a later generation begins a load at once, and none other. -/
def LoadState.Retested (l : LoadState) (loaded refused : Word) (l' : LoadState) : Prop :=
  l'.latestGen = l.latestGen ∧ l'.staged = [] ∧
    l' = { l with
           phase := l'.phase, loadGen := l'.loadGen, loadScope := l'.loadScope, staged := [],
           granted := 0, back := 0, stopping := false, slot := l'.slot, loaded := l'.loaded,
           refused := l'.refused, outcome := l'.outcome, code := l'.code,
           badIndex := l'.badIndex, mask := l'.mask, irq := l'.irq, causes := l'.causes } ∧
    (∀ w, l.slot = some w → l'.slot = some w) ∧
    (l.latestGen = loaded ∨ l.latestGen = refused ∨ l.begun = false →
      l'.phase = .idle ∧ l'.loadGen = l.loadGen ∧ l'.loadScope = l.loadScope ∧ l'.slot = l.slot) ∧
    (l.latestGen ≠ loaded → l.latestGen ≠ refused → l.begun = true →
      l'.phase = .loading ∧ l'.loadGen = l.latestGen ∧ l'.loadScope = l.latestScope ∧
        (l.slot = none → l.report = none → l'.slot = some (.readBurst 0)))

/-- LOAD in IDLE with no staged copy. -/
def LoadState.idled (l : LoadState) : LoadState :=
  { l with phase := .idle, staged := [], granted := 0, back := 0, stopping := false }

section
variable {l : LoadState}

/-- R178: presenting changes the request slot alone. -/
theorem LoadState.present_eq (l : LoadState) : l.present = { l with slot := l.present.slot } := by
  unfold LoadState.present
  cases hs : l.slot with
  | some w => cases l; cases hs; rfl
  | none =>
    cases hr : l.report with
    | none => rfl
    | some r => dsimp only; split <;> rfl

theorem LoadState.present_some {w : LoadReq} (h : l.slot = some w) : l.present.slot = some w := by
  unfold LoadState.present
  rw [h]
  exact h

/-- R178: with no report to write, a load that has nothing granted yet presents its first burst. -/
theorem LoadState.present_first (hs : l.slot = none) (hr : l.report = none) (hp : l.phase = .loading)
    (hst : l.stopping = false) (hg : l.granted = 0) : l.present.slot = some (.readBurst 0) := by
  unfold LoadState.present
  rw [hs, hr]
  simp [hp, hst, hg]

theorem LoadState.finish_idle (h : l.latestGen = l.loaded ∨ l.latestGen = l.refused ∨ l.begun = false) :
    l.finish = l.idled := by
  refine if_neg ?_
  rintro ⟨hb, -, hl, hr⟩
  rcases h with h | h | h
  · exact hl h
  · exact hr h
  · rw [h] at hb; cases hb

theorem LoadState.finish_loading (hl : l.latestGen ≠ l.loaded) (hr : l.latestGen ≠ l.refused) (hb : l.begun = true) :
    l.finish = l.idled.read l.latestGen l.latestScope :=
  if_pos ⟨hb, rfl, hl, hr⟩

/-- LOAD returns to IDLE and tests again, whatever the check has changed in its verdict, its mask and its causes. -/
theorem LoadState.finish_retested {m : LoadState}
    (h : m = { l with loaded := m.loaded, refused := m.refused, outcome := m.outcome, code := m.code,
                      badIndex := m.badIndex, mask := m.mask, irq := m.irq, causes := m.causes }) :
    l.Retested m.loaded m.refused m.finish := by
  have hgen : m.latestGen = l.latestGen := by rw [h]
  have hbegun : m.begun = l.begun := by rw [h]
  have hscope : m.latestScope = l.latestScope := by rw [h]
  have hslot : m.slot = l.slot := by rw [h]
  have hreport : m.report = l.report := by rw [h]
  have hphase : m.loadGen = l.loadGen ∧ m.loadScope = l.loadScope := by rw [h]; exact ⟨rfl, rfl⟩
  by_cases hc : m.latestGen = m.loaded ∨ m.latestGen = m.refused ∨ m.begun = false
  · rw [LoadState.finish_idle hc]
    refine ⟨hgen, rfl, ?_, fun w hw => hslot.trans hw, fun _ => ⟨rfl, hphase.1, hphase.2, hslot⟩, fun h1 h2 h3 => ?_⟩
    · unfold LoadState.idled
      conv_lhs => rw [h]
      conv_rhs => rw [h]
    · rw [← hgen] at h1 h2; rw [← hbegun] at h3
      rcases hc with hc | hc | hc
      · exact absurd hc h1
      · exact absurd hc h2
      · rw [hc] at h3; cases h3
  · simp only [not_or, Bool.not_eq_false] at hc
    obtain ⟨hl, hr, hb⟩ := hc
    rw [LoadState.finish_loading hl hr hb, LoadState.read, LoadState.present_eq]
    refine ⟨hgen, rfl, ?_, fun w hw => ?_, fun hc => ?_, fun _ _ _ => ⟨rfl, hgen, hscope, fun hs hrep => ?_⟩⟩
    · unfold LoadState.idled
      conv_lhs => rw [h]
      conv_rhs => rw [h]
    · exact LoadState.present_some (hslot.trans hw)
    · rw [← hgen, ← hbegun] at hc
      rcases hc with hc | hc | hc
      · exact absurd hc hl
      · exact absurd hc hr
      · rw [hc] at hb; cases hb
    · exact LoadState.present_first (hslot.trans hs) (hreport.trans hrep) rfl rfl rfl

/-- What LOAD's return to IDLE leaves. -/
theorem LoadState.finish_eq (l : LoadState) :
    l.finish = { l with
                 phase := l.finish.phase, loadGen := l.finish.loadGen, loadScope := l.finish.loadScope, staged := [],
                 granted := 0, back := 0, stopping := false, slot := l.finish.slot } := by
  by_cases hc : l.latestGen = l.loaded ∨ l.latestGen = l.refused ∨ l.begun = false
  · rw [LoadState.finish_idle hc]; rfl
  · simp only [not_or, Bool.not_eq_false] at hc
    rw [LoadState.finish_loading hc.1 hc.2.1 hc.2.2, LoadState.read, LoadState.present_eq]; rfl

end

/-! ### The fault latches (R17) -/

/-- R17: a backlight channel as an accepted load leaves it, by its fault input. -/
def PwmState.cleared (c : PwmState) (fault : Bool) : PwmState :=
  if c.started && !fault then { c with latch := false, enabled := true } else c

theorem State.clearLatch_pwm_self (s : State) (d : Disp) :
    (s.clearLatch d).pwm d = (s.pwm d).cleared (Tri.get s.pins.fault d) := by
  unfold State.clearLatch PwmState.cleared
  split
  · exact s.pwm_setPwm_self d _
  · rfl

theorem State.clearLatch_pwm_ne (s : State) {d e : Disp} (h : e ≠ d) : (s.clearLatch d).pwm e = s.pwm e := by
  unfold State.clearLatch
  split
  · exact s.pwm_setPwm_ne _ h
  · rfl

theorem State.clearLatches_pwm (s : State) (d : Disp) :
    s.clearLatches.pwm d = (s.pwm d).cleared (Tri.get s.pins.fault d) := by
  have hpins : ∀ (u : State) (e : Disp), (u.clearLatch e).pins = u.pins := fun u e => State.clearLatch_pins u e
  unfold State.clearLatches
  rcases d with _ | (_ | _)
  · rw [State.clearLatch_pwm_ne _ (by decide), State.clearLatch_pwm_ne _ (by decide), State.clearLatch_pwm_self]
  · rw [State.clearLatch_pwm_ne _ (by decide), State.clearLatch_pwm_self, State.clearLatch_pwm_ne _ (by decide), hpins]
  · rw [State.clearLatch_pwm_self, State.clearLatch_pwm_ne _ (by decide), State.clearLatch_pwm_ne _ (by decide), hpins,
      hpins]

/-! ### The scenes and the table (R77, R171) -/

theorem State.stageScenes_display (s : State) (rd : Nat → Nat) (d : Disp) :
    (s.stageScenes rd).display d = { s.display d with staged := some (readScene rd d) } := by
  rcases d with _ | (_ | _) <;> rfl

section
variable (s : State) (table : List Region)

theorem State.swapTable_path : (s.swapTable table).path = { s.path with table := table } :=
  State.tableChanged_path _ _ _

theorem State.swapTable_sets_eq : (s.swapTable table).sets = remakeSets s.path.table table s.sets :=
  State.tableChanged_sets_eq _ _ _

theorem State.swapTable_rearOf (k : Seat) :
    (s.swapTable table).rearOf k = (s.rearOf k).tableChanged s.path.table table k :=
  State.tableChanged_rearOf _ _ _ _

theorem State.swapTable_rearDisplay (k : Seat) :
    (s.swapTable table).display (.rear k) =
      { s.display (.rear k) with
        withdraw := (s.display (.rear k)).withdraw || (s.rearOf k).losesSet s.path.table table } :=
  State.tableChanged_rearDisplay _ _ _ _

theorem State.swapTable_centreDisplay : (s.swapTable table).display .centre = s.display .centre :=
  State.tableChanged_centreDisplay _ _ _

end

/-- R171: the table of an accepted load: a FULL one replaces the active one, a SCENES load leaves it. -/
def State.tableTaken (s : State) : State :=
  if isFull s.load.loadScope then s.swapTable (readTable (beatsByte s.load.staged)) else s

section
variable {s : State}

theorem State.tableTaken_full (h : s.load.loadScope = 0) :
    s.tableTaken = s.swapTable (readTable (beatsByte s.load.staged)) := if_pos (isFull_iff.mpr h)

theorem State.tableTaken_scenes (h : s.load.loadScope ≠ 0) : s.tableTaken = s := if_neg (mt isFull_iff.mp h)

/-- R77: taking the table leaves what a display shows but for the withdrawal of a rear base. -/
theorem State.tableTaken_display (s : State) (d : Disp) :
    s.tableTaken.display d = { s.display d with withdraw := (s.tableTaken.display d).withdraw } := by
  by_cases h : s.load.loadScope = 0
  · rw [State.tableTaken_full h]
    cases d with
    | centre => rw [State.swapTable_centreDisplay]
    | rear k => rw [State.swapTable_rearDisplay]
  · rw [State.tableTaken_scenes h]

theorem State.tableTaken_centreDisplay (s : State) : s.tableTaken.display .centre = s.display .centre := by
  by_cases h : s.load.loadScope = 0
  · rw [State.tableTaken_full h, State.swapTable_centreDisplay]
  · rw [State.tableTaken_scenes h]

theorem State.tableTaken_rest (s : State) :
    s.tableTaken.aud = s.aud ∧ s.tableTaken.arb = s.arb ∧ s.tableTaken.mix = s.mix ∧ s.tableTaken.load = s.load ∧
      s.tableTaken.bl = s.bl ∧ s.tableTaken.pins = s.pins := by
  by_cases h : s.load.loadScope = 0
  · rw [State.tableTaken_full h]; simp
  · rw [State.tableTaken_scenes h]; simp

end

/-! ### What an accepted load hands over (R171) -/

theorem State.handOver_eq (s : State) :
    s.handOver = ((s.tableTaken.stageScenes (beatsByte s.load.staged)).applyAudio
      (readAudio (beatsByte s.load.staged))).clearLatches := rfl

section
variable (s : State)

theorem State.handOver_load : s.handOver.load = s.load := by
  rw [State.handOver_eq, State.clearLatches_load, State.applyAudio_load, State.stageScenes_load]
  exact s.tableTaken_rest.2.2.2.1

theorem State.handOver_display (d : Disp) :
    s.handOver.display d =
      { s.tableTaken.display d with staged := some (readScene (beatsByte s.load.staged) d) } := by
  have hdisp : s.handOver.disp = (s.tableTaken.stageScenes (beatsByte s.load.staged)).disp := by
    rw [State.handOver_eq, State.clearLatches_disp, State.applyAudio_disp]
  exact (congrArg (fun x => Tri.get x d) hdisp).trans (State.stageScenes_display _ _ d)

theorem State.handOver_path_eq : s.handOver.path = s.tableTaken.path := by
  rw [State.handOver_eq, State.clearLatches_path, State.applyAudio_path, State.stageScenes_path]

theorem State.handOver_sets : s.handOver.sets = s.tableTaken.sets := by
  rw [State.handOver_eq, State.clearLatches_sets, State.applyAudio_sets, State.stageScenes_sets]

theorem State.handOver_rear : s.handOver.rear = s.tableTaken.rear := by
  rw [State.handOver_eq, State.clearLatches_rear, State.applyAudio_rear, State.stageScenes_rear]

theorem State.handOver_rearOf (k : Seat) : s.handOver.rearOf k = s.tableTaken.rearOf k :=
  congrArg (fun x => Pair.get x k) s.handOver_rear

theorem State.handOver_setAt (i : Nat) : s.handOver.setAt i = s.tableTaken.setAt i :=
  congrArg (fun x : List (Option BufSet) => (x[i]?).join) s.handOver_sets

theorem State.handOver_pwm (d : Disp) :
    s.handOver.pwm d = (s.pwm d).cleared (Tri.get s.pins.fault d) := by
  obtain ⟨u, hbl, hpins, hu⟩ := s.handOver_bl
  rw [hu, State.clearLatches_pwm, State.pwm_congr hbl d, hpins]

/-- The machine before the audio record is applied, as AUD and MIX see it: with the table of the load. -/
theorem State.handOver_mix :
    s.handOver.mix =
      { s.mix with
        v := ⟨(readAudio (beatsByte s.load.staged)).streams.l.volume,
          (readAudio (beatsByte s.load.staged)).streams.r.volume⟩,
        route := (readAudio (beatsByte s.load.staged)).route, vc := (readAudio (beatsByte s.load.staged)).vc,
        duck := (readAudio (beatsByte s.load.staged)).duck, mute := (readAudio (beatsByte s.load.staged)).mute } := by
  have hmix : (s.tableTaken.stageScenes (beatsByte s.load.staged)).mix = s.mix := by
    rw [State.stageScenes_mix, s.tableTaken_rest.2.2.1]
  rw [State.handOver_eq, State.clearLatches_mix, State.applyAudio_eq, hmix]
  rfl

end

/-! ### The streams of an accepted load (R85, R93) -/

/-- The table in force as the audio record is applied. -/
theorem State.handOver_table (s : State) :
    (s.tableTaken.stageScenes (beatsByte s.load.staged)).path.table = s.handOver.path.table := by
  rw [State.handOver_path_eq, State.stageScenes_path]

theorem State.handOver_aud (s : State) :
    s.handOver.aud = ((s.tableTaken.stageScenes (beatsByte s.load.staged)).applyAudio
      (readAudio (beatsByte s.load.staged))).aud := State.clearLatches_aud _

theorem State.handOver_obeys (s : State) (k : Seat) :
    (Pair.get s.aud.streams k).Obeys s.handOver.path.table
      (Pair.get (readAudio (beatsByte s.load.staged)).streams k) (Pair.get s.handOver.aud.streams k) := by
  have h := (s.tableTaken.stageScenes (beatsByte s.load.staged)).applyAudio_obeys
    (readAudio (beatsByte s.load.staged)) k
  rwa [State.stageScenes_aud, s.tableTaken_rest.1, s.handOver_table, ← s.handOver_aud] at h

theorem State.handOver_abandons (s : State) :
    ∃ gone : Seat → Bool,
      (∀ k, gone k = true ↔ (Pair.get s.aud.streams k).Abandoned s.handOver.path.table
        (Pair.get (readAudio (beatsByte s.load.staged)).streams k)) ∧ AbandonsPrefetches gone s s.handOver := by
  obtain ⟨haud, harb, -⟩ := s.tableTaken_rest
  obtain ⟨gone, hg, ha⟩ := (s.tableTaken.stageScenes (beatsByte s.load.staged)).applyAudio_abandons
    (readAudio (beatsByte s.load.staged))
  rw [State.stageScenes_aud, haud, s.handOver_table] at hg
  exact ⟨gone, hg, ha.congr (by rw [State.stageScenes_aud, haud]) (by rw [State.stageScenes_arb, harb])
    (State.clearLatches_aud _) (State.clearLatches_arb _)⟩

end Sys2Proof.Machine
end

section
/-! PROOFS. LOAD_CHECK (R169 to R172): the acceptance, the refusal, the order of the checks, and the fields the records
read. O33. -/

namespace Sys2Proof.Machine

open Sys2Proof

/-! ### The two outcomes -/

/-- R171, R176: LOAD as an accepted load leaves it, before it returns to IDLE. -/
def LoadState.accepted (l : LoadState) (mask : BitVec 10) : LoadState :=
  { l with
    mask := mask, loaded := l.loadGen, outcome := .accepted, code := .nothing, badIndex := 0xFF,
    irq := irqLevel l.delivered mask, causes := withCause l.causes .loadDone }

/-- R172: LOAD as a refused load leaves it, before it returns to IDLE. -/
def LoadState.refusedFor (l : LoadState) (e : Failure) : LoadState :=
  { l with
    refused := l.loadGen, outcome := .refused, code := e.1, badIndex := e.2,
    causes := withCause l.causes .loadRefused }

/-- The verdict on the staged copy. -/
def State.verdict (s : State) : Option Failure :=
  checkLoad (beatsByte s.load.staged) s.load.loadScope s.path.table s.boot.cbBase s.path.cam

section
variable {s : State}

theorem State.endChecking_accepts (h : s.verdict = none) :
    s.endChecking = s.handOver.setLoad (s.load.accepted (readMask (beatsByte s.load.staged))).finish := by
  unfold State.verdict at h
  unfold State.endChecking
  simp only [h]
  rw [State.acceptLoad_eq, State.raise_eq, State.setLoad_setLoad, State.setLoad_setLoad, State.handOver_load]
  rfl

theorem State.endChecking_refuses {e : Failure} (h : s.verdict = some e) :
    s.endChecking = s.setLoad (s.load.refusedFor e).finish := by
  unfold State.verdict at h
  unfold State.endChecking
  simp only [h]
  rfl

theorem execLoadCheck_of_checking (h : s.load.phase = .checking) : exec .loadCheck s = .next s.endChecking :=
  if_pos h

end

/-! ### The acceptance, block by block (R17, R77, R85, R171) -/

section
variable {s : State}

/-- R77: the sets of a FULL load's table. -/
theorem State.handOver_fullSets (h : s.load.loadScope = 0) :
    (∀ i f, i < 16 → entryAt s.handOver.path.table i = .film f →
      (entryAt s.path.table i = .film f → s.handOver.setAt i = s.setAt i) ∧
        (entryAt s.path.table i ≠ .film f →
          s.handOver.setAt i = some { seat := f.seat, bufs := List.replicate f.count { phase := .free, tag := none },
                                      ready := [], shows := 0 })) ∧
    (∀ i, i < 16 → (∀ f, entryAt s.handOver.path.table i ≠ .film f) → s.handOver.setAt i = none) := by
  have hset : ∀ i, s.handOver.setAt i = ((remakeSets s.path.table s.handOver.path.table s.sets)[i]?).join := by
    intro i
    rw [State.handOver_setAt, State.handOver_path_eq, State.tableTaken_full h, State.setAt, State.swapTable_sets_eq,
      State.swapTable_path]
  refine ⟨fun i f hi hf => ⟨fun ho => ?_, fun ho => ?_⟩, fun i hi hn => ?_⟩
  · rw [hset]; exact remakeSets_kept _ _ _ hi hf ho
  · rw [hset]; exact remakeSets_fresh _ _ _ hi hf ho
  · rw [hset]; exact remakeSets_gone _ _ _ hi hn

/-- R77, log entry 25: the rear displays at a FULL load's table. -/
theorem State.handOver_fullRears (h : s.load.loadScope = 0) :
    (∀ k i g, (s.rearOf k).presented = some i → entryAt s.path.table i = .film g →
      entryAt s.handOver.path.table i ≠ .film g →
      (s.handOver.display (.rear k)).withdraw = true ∧
        ((∃ f, entryAt s.handOver.path.table i = .film f ∧ f.seat = k) → s.handOver.rearOf k = s.rearOf k) ∧
        ((∀ f, entryAt s.handOver.path.table i = .film f → f.seat ≠ k) →
          s.handOver.rearOf k = { s.rearOf k with presented := none })) ∧
    (∀ k, ((s.rearOf k).presented = none ∨ ∃ i, (s.rearOf k).presented = some i ∧
        (entryAt s.handOver.path.table i = entryAt s.path.table i ∨ ∀ f, entryAt s.path.table i ≠ .film f)) →
      s.handOver.rearOf k = s.rearOf k ∧
        (s.handOver.display (.rear k)).withdraw = (s.display (.rear k)).withdraw) := by
  have hrear : ∀ k, s.handOver.rearOf k =
      (s.rearOf k).tableChanged s.path.table s.handOver.path.table k := by
    intro k
    rw [State.handOver_rearOf, State.handOver_path_eq, State.tableTaken_full h, State.swapTable_rearOf,
      State.swapTable_path]
  have hwithdraw : ∀ k, (s.handOver.display (.rear k)).withdraw =
      ((s.display (.rear k)).withdraw || (s.rearOf k).losesSet s.path.table s.handOver.path.table) := by
    intro k
    rw [State.handOver_display, State.handOver_path_eq, State.tableTaken_full h, State.swapTable_rearDisplay,
      State.swapTable_path]
  refine ⟨fun k i g hp ho hn => ?_, fun k hk => ?_⟩
  · have hl := RearState.losesSet_of_reset hp ho hn
    rw [hwithdraw, hrear, hl, Bool.or_true]
    exact ⟨rfl, fun ⟨f, hf, hseat⟩ => RearState.tableChanged_anew hp hf hseat,
      fun hno => RearState.tableChanged_lost hl hp hno⟩
  · have hl := RearState.losesSet_of_kept hk
    rw [hwithdraw, hrear, hl, Bool.or_false]
    exact ⟨RearState.tableChanged_kept hl, rfl⟩

/-- R171: a SCENES load leaves the table, the sets and what the displays present. -/
theorem State.handOver_scenes (h : s.load.loadScope ≠ 0) :
    s.handOver.path = s.path ∧ s.handOver.sets = s.sets ∧ s.handOver.rear = s.rear ∧
      ∀ d, (s.handOver.display d).withdraw = (s.display d).withdraw := by
  refine ⟨?_, ?_, ?_, fun d => ?_⟩
  · rw [State.handOver_path_eq, State.tableTaken_scenes h]
  · rw [State.handOver_sets, State.tableTaken_scenes h]
  · rw [State.handOver_rear, State.tableTaken_scenes h]
  · rw [State.handOver_display, State.tableTaken_scenes h]

/-- R171: each display receives its scene. -/
theorem State.handOver_staged (d : Disp) :
    s.handOver.display d =
      { s.display d with
        staged := some (readScene (beatsByte s.load.staged) d), withdraw := (s.handOver.display d).withdraw } := by
  rw [State.handOver_display, State.tableTaken_display]

/-- R17: the fault latches. -/
theorem State.handOver_latches :
    (∀ d, (s.pwm d).started = true → Tri.get s.pins.fault d = false →
      s.handOver.pwm d = { s.pwm d with latch := false, enabled := true }) ∧
    (∀ d, (s.pwm d).started = false ∨ Tri.get s.pins.fault d = true → s.handOver.pwm d = s.pwm d) := by
  refine ⟨fun d hs hf => ?_, fun d h => ?_⟩
  · rw [State.handOver_pwm]; exact if_pos (by rw [hs, hf]; rfl)
  · rw [State.handOver_pwm, PwmState.cleared]
    refine if_neg ?_
    rcases h with h | h <;> rw [h] <;> simp

end

/-! ### The row -/

/-- R77, R85, R171: an accepted load. -/
theorem loadCheck_accepts {s : State} (hc : s.load.phase = .checking) (hv : s.verdict = none) :
    ∃ (t : State) (gone : Seat → Bool), exec .loadCheck s = .next t ∧
      t = { s with
            path := t.path, arb := t.arb, disp := t.disp, rear := t.rear, sets := t.sets, aud := t.aud,
            mix := t.mix, load := t.load, bl := t.bl } ∧
      t = s.handOver.setLoad (s.load.accepted (readMask (beatsByte s.load.staged))).finish ∧
      (∀ k, gone k = true ↔ (Pair.get s.aud.streams k).Abandoned s.handOver.path.table
        (Pair.get (readAudio (beatsByte s.load.staged)).streams k)) ∧ AbandonsPrefetches gone s t := by
  obtain ⟨gone, hg, ha⟩ := s.handOver_abandons
  have hexec := execLoadCheck_of_checking hc
  exact ⟨s.endChecking, gone, hexec, exec_frame hexec, State.endChecking_accepts hv, hg, by
    rw [State.endChecking_accepts hv]; exact ha.congr rfl rfl rfl rfl⟩

/-- What LOAD's return to IDLE leaves of the verdict, the mask and the causes. -/
theorem LoadState.finish_keeps (l : LoadState) :
    l.finish.loaded = l.loaded ∧ l.finish.refused = l.refused ∧ l.finish.outcome = l.outcome ∧
      l.finish.code = l.code ∧ l.finish.badIndex = l.badIndex ∧ l.finish.causes = l.causes ∧
      l.finish.mask = l.mask ∧ l.finish.irq = l.irq ∧ l.finish.delivered = l.delivered := by
  rw [LoadState.finish_eq]
  exact ⟨rfl, rfl, rfl, rfl, rfl, rfl, rfl, rfl, rfl⟩

/-- R171, R176: LOAD after an acceptance. -/
theorem LoadState.accepted_finish (l : LoadState) (m : BitVec 10) :
    (l.accepted m).finish.loaded = l.loadGen ∧ (l.accepted m).finish.outcome = .accepted ∧
      (l.accepted m).finish.code = .nothing ∧ (l.accepted m).finish.badIndex = 0xFF ∧
      (l.accepted m).finish.causes = l.causes ||| 0x001#10 ∧ (l.accepted m).finish.mask = m ∧
      (l.accepted m).finish.refused = l.refused ∧ l.Retested l.loadGen l.refused (l.accepted m).finish ∧
      (l.accepted m).finish.irq = (l.delivered &&& m != 0) ∧ (l.accepted m).finish.delivered = l.delivered := by
  obtain ⟨hloaded, hrefused, houtcome, hcode, hbad, hcauses, hmask, hirq, hdelivered⟩ := (l.accepted m).finish_keeps
  exact ⟨hloaded, houtcome, hcode, hbad, hcauses, hmask, hrefused, LoadState.finish_retested rfl, hirq, hdelivered⟩

/-- R172: LOAD after a refusal. -/
theorem LoadState.refused_finish (l : LoadState) (e : Failure) :
    (l.refusedFor e).finish.refused = l.loadGen ∧ (l.refusedFor e).finish.loaded = l.loaded ∧
      (l.refusedFor e).finish.outcome = .refused ∧ (l.refusedFor e).finish.code = e.1 ∧
      (l.refusedFor e).finish.badIndex = e.2 ∧ (l.refusedFor e).finish.causes = l.causes ||| 0x002#10 ∧
      (l.refusedFor e).finish.mask = l.mask ∧ (l.refusedFor e).finish.irq = l.irq ∧
      l.Retested l.loaded l.loadGen (l.refusedFor e).finish := by
  obtain ⟨hloaded, hrefused, houtcome, hcode, hbad, hcauses, hmask, hirq, -⟩ := (l.refusedFor e).finish_keeps
  exact ⟨hrefused, hloaded, houtcome, hcode, hbad, hcauses, hmask, hirq, LoadState.finish_retested rfl⟩

/-! ### The fields of the records (Tables 62 to 64) -/

section
variable {rd : Nat → Nat} {i : Nat}

theorem readTable_absent (hi : i < 16) (h : rd (descOffset i) = 0) : entryAt (readTable rd) i = .absent := by
  rw [entryAt_readTable rd hi, readRegion_absent h]

theorem readTable_film (hi : i < 16) (h : rd (descOffset i) = 1) :
    ∃ f, entryAt (readTable rd) i = .film f ∧ f.base = word4 rd (descOffset i + 4) ∧
      f.size = word4 rd (descOffset i + 8) ∧ f.width = word2 rd (descOffset i + 12) ∧
      f.height = word2 rd (descOffset i + 14) ∧ f.count = rd (descOffset i + 16) ∧
      (rd (descOffset i + 3) = 1 → f.seat = .left) ∧ (rd (descOffset i + 3) = 2 → f.seat = .right) ∧
      (rd (descOffset i + 2) = 0 → f.orient = .normal) ∧ (rd (descOffset i + 2) = 1 → f.orient = .mirrorX) ∧
      (rd (descOffset i + 2) = 2 → f.orient = .mirrorY) ∧ (rd (descOffset i + 2) = 3 → f.orient = .rotate180) ∧
      f.swz = ⟨(rd (descOffset i + 1)).testBit 0, (rd (descOffset i + 1)).testBit 1,
        (rd (descOffset i + 1)).testBit 2, (rd (descOffset i + 1)).testBit 3⟩ := by
  refine ⟨_, (entryAt_readTable rd hi).trans (readRegion_film h), rfl, rfl, rfl, rfl, rfl, fun h1 => ?_, fun h1 => ?_,
    fun h1 => ?_, fun h1 => ?_, fun h1 => ?_, fun h1 => ?_, rfl⟩ <;> simp only [h1] <;> rfl

theorem readTable_overlay (hi : i < 16) (h : rd (descOffset i) = 2) :
    ∃ v, entryAt (readTable rd) i = .overlay v ∧ v.base = word4 rd (descOffset i + 4) ∧
      v.size = word4 rd (descOffset i + 8) ∧ v.width = word2 rd (descOffset i + 12) ∧
      v.height = word2 rd (descOffset i + 14) ∧
      v.swz = ⟨(rd (descOffset i + 1)).testBit 0, (rd (descOffset i + 1)).testBit 1,
        (rd (descOffset i + 1)).testBit 2, (rd (descOffset i + 1)).testBit 3⟩ :=
  ⟨_, (entryAt_readTable rd hi).trans (readRegion_overlay h), rfl, rfl, rfl, rfl, rfl⟩

theorem readTable_audio (hi : i < 16) (h : rd (descOffset i) = 3) :
    entryAt (readTable rd) i =
      .audio { base := word4 rd (descOffset i + 4), size := word4 rd (descOffset i + 8),
               n := word2 rd (descOffset i + 18) } := by
  rw [entryAt_readTable rd hi, readRegion_audio h]

end

/-- Table 63: the fields of an overlay in a scene record. -/
theorem readSceneOverlay_fields (rd : Nat → Nat) (n : Nat) :
    (readSceneOverlay rd n).region = (if rd n = 0xFF then none else some (rd n)) ∧
      (readSceneOverlay rd n).la = rd (n + 1) ∧ ((readSceneOverlay rd n).revVisible = true ↔ rd (n + 2) ≠ 0) ∧
      (readSceneOverlay rd n).x = word2 rd (n + 4) ∧ (readSceneOverlay rd n).y = word2 rd (n + 6) ∧
      (readSceneOverlay rd n).scrT = word2 rd (n + 8) ∧ (readSceneOverlay rd n).scrS = word2 rd (n + 10) ∧
      (readSceneOverlay rd n).scrB = word2 rd (n + 12) ∧ (readSceneOverlay rd n).scrP = word2 rd (n + 14) := by
  simp only [← fieldLE_two]
  exact ⟨rfl, rfl, bne_iff_ne, rfl, rfl, rfl, rfl, rfl, rfl⟩

/-- Table 63: the fields of the scene record at `o`. -/
theorem readScene_fields (rd : Nat → Nat) (d : Disp) :
    ((readScene rd d).enable = true ↔ rd (sceneOffset d) ≠ 0) ∧
      (rd (sceneOffset d + 1) = 0 → (readScene rd d).mark = .off) ∧
      (rd (sceneOffset d + 1) = 1 → (readScene rd d).mark = .blank) ∧
      (rd (sceneOffset d + 1) = 2 → (readScene rd d).mark = .flip) ∧
      (readScene rd d).duty = word2 rd (sceneOffset d + 2) ∧
      (readScene rd d).background = BitVec.ofNat 32 (word4 rd (sceneOffset d + 4)) ∧
      (readScene rd d).base = (if rd (sceneOffset d + 8) = 0xFF then none else some (rd (sceneOffset d + 8))) ∧
      (readScene rd d).x = word2 rd (sceneOffset d + 10) ∧ (readScene rd d).y = word2 rd (sceneOffset d + 12) := by
  simp only [← fieldLE_two, ← fieldLE_four]
  refine ⟨bne_iff_ne, fun h => ?_, fun h => ?_, fun h => ?_, rfl, rfl, rfl, rfl, rfl⟩ <;>
    simp only [readScene, readMark, h] <;> rfl

/-- Table 64: the fields of the audio record. -/
theorem readAudio_fields (rd : Nat → Nat) :
    (rd 0x4A0 = 0 → (readAudio rd).route = .silent) ∧ (rd 0x4A0 = 1 → (readAudio rd).route = .stream .left) ∧
      (rd 0x4A0 = 2 → (readAudio rd).route = .stream .right) ∧ ((readAudio rd).mute = true ↔ rd 0x4A1 ≠ 0) ∧
      (readAudio rd).vc = word2 rd 0x4A2 ∧ (readAudio rd).duck = word2 rd 0x4A4 := by
  simp only [← fieldLE_two]
  refine ⟨fun h => ?_, fun h => ?_, fun h => ?_, bne_iff_ne, rfl, rfl⟩ <;>
    simp only [readAudio, readRoute, h] <;> rfl

end Sys2Proof.Machine
end

section
/-! PROOFS. LOAD_CHECK decides: the order of the checks, the two outcomes and the records, put together (R169 to R172). O33. -/

namespace Sys2Proof.Machine

open Sys2Proof

/-! ### The verdict, check by check (R169, R170, Table 56) -/

section
variable {rd : Nat → Nat} {scope : Byte} {active : List Region} {cb : Nat} {cam : Option CamRegion}

/-- R169: the first descriptor to fail decides, by the first of its three tests to fail. -/
theorem checkLoad_descriptors (hv : VersionOk rd scope) (hs : scope = 0) {i : Nat} (hi : i < 16)
    (hj : ∀ j, j < i → DescGood rd cb cam j) :
    (FailsKind rd (descOffset i) → checkLoad rd scope active cb cam = some (.regionKind, i)) ∧
    (¬FailsKind rd (descOffset i) → FailsGeometry rd (descOffset i) →
      checkLoad rd scope active cb cam = some (.regionGeometry, i)) ∧
    (¬FailsKind rd (descOffset i) → ¬FailsGeometry rd (descOffset i) → FailsOverlap rd i cb cam →
      checkLoad rd scope active cb cam = some (.regionOverlap, i)) :=
  ⟨fun h => checkLoad_region hv hs hi hj (checkRegion_kind h),
    fun hk h => checkLoad_region hv hs hi hj (checkRegion_geometry hk h),
    fun hk hg h => checkLoad_region hv hs hi hj (checkRegion_overlap hi hj hk hg h)⟩

/-- R170: where version and table pass, the first scene to fail decides. -/
theorem checkLoad_scenes (hv : VersionOk rd scope) (hg : scope = 0 → ∀ i, i < 16 → DescGood rd cb cam i) {e : Failure}
    (he : checkScenes rd (if scope = 0 then readTable rd else active) = some e) :
    checkLoad rd scope active cb cam = some e := by
  rw [checkLoad_records hv hg, loadTable_eq, he, firstFailure_cons_some]

/-- R170: where the scenes pass too, the audio record decides. -/
theorem checkLoad_audio (hv : VersionOk rd scope) (hg : scope = 0 → ∀ i, i < 16 → DescGood rd cb cam i)
    (hs : ∀ d, ¬FailsScene rd (if scope = 0 then readTable rd else active) d) :
    checkLoad rd scope active cb cam = checkAudio rd (if scope = 0 then readTable rd else active) := by
  rw [checkLoad_records hv hg, loadTable_eq, checkScenes_none hs, firstFailure_cons_none]
  cases checkAudio rd (if scope = 0 then readTable rd else active) <;> rfl

end

/-- Settles O33: the two outcomes are what an accepted and a refused load hand over, by block; the verdict follows the
checks in their order; the fields are those of the tables. -/
theorem loadCheckDecides : Obligations.LoadCheckDecides := by
  unfold Obligations.LoadCheckDecides
  refine ⟨fun s hc => ⟨fun hv => ?_, fun code i hv => ?_⟩, fun rd scope active cb cam => ?_, fun rd i hi => ?_,
    fun rd => ?_, fun rd d => ?_, fun rd i hi => readMask_bit rd hi⟩
  · obtain ⟨t, gone, hexec, hframe, ht, hgone, habandons⟩ := loadCheck_accepts hc hv
    obtain ⟨hloaded, houtcome, hcode, hbad, hcauses, hmask, hrefused, hretest, hirq, hdelivered⟩ :=
      s.load.accepted_finish (readMask (beatsByte s.load.staged))
    refine ⟨t, gone, hexec, hframe, ?_⟩
    subst ht
    have hcentre : (s.handOver.display .centre).withdraw = (s.display .centre).withdraw := by
      rw [State.handOver_display, State.tableTaken_centreDisplay]
    refine ⟨hloaded, houtcome, hcode, hbad, hcauses, hmask, hrefused, hretest, fun d => State.handOver_staged d, hcentre,
      fun hs => ?_, fun hs => State.handOver_scenes hs, fun hs => ?_, fun k => ?_, habandons, s.handOver_mix, hirq,
      hdelivered, State.handOver_latches.1, State.handOver_latches.2⟩
    · exact s.handOver_path_eq.trans ((congrArg State.path (State.tableTaken_full hs)).trans (s.swapTable_path _))
    · obtain ⟨hfilms, hothers⟩ := State.handOver_fullSets hs
      obtain ⟨hreset, hkept⟩ := State.handOver_fullRears hs
      exact ⟨hfilms, hothers, hreset, hkept⟩
    · obtain ⟨hoff, hstop, hstart, hsame⟩ := s.handOver_obeys k
      exact ⟨hgone k, hoff, hstop, hstart, hsame⟩
  · have hexec := execLoadCheck_of_checking hc
    rw [State.endChecking_refuses hv] at hexec
    obtain ⟨hrefused, hloaded, houtcome, hcode, hbad, hcauses, hmask, hirq, hretest⟩ :=
      s.load.refused_finish (code, i)
    exact ⟨_, hexec, rfl, hrefused, hloaded, houtcome, hcode, hbad, hcauses, hmask, hirq, hretest⟩
  · refine ⟨fun h => checkLoad_version h, fun hv hs i hi hj => checkLoad_descriptors hv hs hi hj, fun hv hg => ?_⟩
    refine ⟨fun h => checkLoad_scenes hv hg (checkScenes_centre h),
      fun hc h => checkLoad_scenes hv hg (checkScenes_left hc h),
      fun hc hl h => checkLoad_scenes hv hg (checkScenes_right hc hl h), fun hs => ?_⟩
    have haudio := checkLoad_audio hv hg hs
    exact ⟨fun h => haudio.trans (checkAudio_left h), fun hl h => haudio.trans (checkAudio_right hl h),
      fun hl hr hsame h => haudio.trans (checkAudio_cabin hl hr hsame h),
      fun hl hr hsame h => haudio.trans (checkAudio_none hl hr hsame h)⟩
  · exact ⟨readTable_absent hi, readTable_film hi, readTable_overlay hi, readTable_audio hi⟩
  · obtain ⟨hsilent, hleft, hright, hmute, hvc, hduck⟩ := readAudio_fields rd
    exact ⟨rfl, rfl, rfl, fieldLE_two rd _, rfl, rfl, rfl, fieldLE_two rd _, bne_iff_ne, bne_iff_ne, hsilent, hleft,
      hright, hmute, hvc, hduck⟩
  · obtain ⟨henable, hoff, hblank, hflip, hduty, hback, hbase, hx, hy⟩ := readScene_fields rd d
    rcases d with _ | (_ | _) <;>
      exact ⟨henable, hoff, hblank, hflip, hduty, hback, hbase, hx, hy, readSceneOverlay_fields rd _,
        readSceneOverlay_fields rd _⟩

end Sys2Proof.Machine
end

section
/-! PROOFS. The blocks at a host reset, apart from the displays: CHIME's sources withdrawn one by one, LOAD, the backlight
duties and the granted bursts (R15, R41, R62, R93, R155, R158, R163, R173). -/

namespace Sys2Proof.Machine

open Sys2Proof

/-! ### CHIME's slot sources withdrawn (R155, R158, R163) -/

/-- An entry with the sources that `keep` names: gone where it has lost its last one. -/
def ChimeEntry.keeping (keep : Source → Bool) (e : ChimeEntry) : Option ChimeEntry :=
  if e.sources.all keep = true then some e
  else if e.sources.filter keep = [] then none else some { e with sources := e.sources.filter keep }

section
variable {keep : Source → Bool} {e : ChimeEntry}

theorem ChimeEntry.keeping_all (h : e.sources.all keep = true) : e.keeping keep = some e := if_pos h

theorem ChimeEntry.keeping_gone (h : ¬e.sources.all keep = true) (hf : e.sources.filter keep = []) :
    e.keeping keep = none := by
  rw [ChimeEntry.keeping, if_neg h, if_pos hf]

theorem ChimeEntry.keeping_some (h : ¬e.sources.all keep = true) (hf : e.sources.filter keep ≠ []) :
    e.keeping keep = some { e with sources := e.sources.filter keep } := by
  rw [ChimeEntry.keeping, if_neg h, if_neg hf]

theorem ChimeEntry.keeping_pattern {e' : ChimeEntry} (h : e.keeping keep = some e') : e'.pattern = e.pattern := by
  unfold ChimeEntry.keeping at h
  split at h
  · injection h with h; rw [h]
  · split at h
    · cases h
    · injection h with h; rw [← h]

/-- Sources withdrawn in two turns are withdrawn together. -/
theorem ChimeEntry.keeping_keeping (p q : Source → Bool) (e : ChimeEntry) :
    (e.keeping p).bind (ChimeEntry.keeping q) = e.keeping (fun x => p x && q x) := by
  have hall : e.sources.all (fun x => p x && q x) = (e.sources.all p && e.sources.all q) := by
    rw [Bool.eq_iff_iff]
    simp only [Bool.and_eq_true, List.all_eq_true]
    exact ⟨fun h => ⟨fun x hx => (h x hx).1, fun x hx => (h x hx).2⟩, fun h x hx => ⟨h.1 x hx, h.2 x hx⟩⟩
  have hfilter : e.sources.filter (fun x => p x && q x) = (e.sources.filter p).filter q := by
    rw [List.filter_filter]; congr 1; funext x; exact Bool.and_comm _ _
  by_cases hp : e.sources.all p = true
  · rw [ChimeEntry.keeping_all hp]
    have hpq : e.sources.filter p = e.sources := List.filter_eq_self.mpr (List.all_eq_true.mp hp)
    unfold ChimeEntry.keeping
    rw [Option.bind_some, hall, hp, Bool.true_and, hfilter, hpq]
  · have hn : ¬e.sources.all (fun x => p x && q x) = true := by
      rw [hall, Bool.and_eq_true]; exact fun h => hp h.1
    by_cases hf : e.sources.filter p = []
    · rw [ChimeEntry.keeping_gone hp hf, ChimeEntry.keeping_gone hn (by rw [hfilter, hf]; rfl)]; rfl
    · rw [ChimeEntry.keeping_some hp hf]
      by_cases hq : (e.sources.filter p).all q = true
      · have hqq : (e.sources.filter p).filter q = e.sources.filter p := List.filter_eq_self.mpr (List.all_eq_true.mp hq)
        rw [ChimeEntry.keeping_some hn (by rw [hfilter, hqq]; exact hf), hfilter, hqq]
        exact ChimeEntry.keeping_all hq
      · by_cases hg : (e.sources.filter p).filter q = []
        · rw [ChimeEntry.keeping_gone hn (by rw [hfilter, hg])]
          exact ChimeEntry.keeping_gone hq hg
        · rw [ChimeEntry.keeping_some hn (by rw [hfilter]; exact hg), hfilter]
          exact ChimeEntry.keeping_some hq hg

/-- A source that an entry does not have leaves it. -/
theorem ChimeEntry.keeping_without {src : Source} :
    e.keeping (· != src) =
      if src ∈ e.sources then (if (e.without src).sources.isEmpty = true then none else some (e.without src))
      else some e := by
  by_cases h : src ∈ e.sources
  · have hn : ¬e.sources.all (· != src) = true := fun hall => by
      simpa using List.all_eq_true.mp hall src h
    rw [if_pos h, ChimeEntry.keeping, if_neg hn]
    simp only [ChimeEntry.without, List.isEmpty_iff]
  · have hall : e.sources.all (· != src) = true := by
      rw [List.all_eq_true]
      intro x hx
      simp only [bne_iff_ne]
      rintro rfl; exact h hx
    rw [if_neg h, ChimeEntry.keeping_all hall]

end

theorem withoutSource_eq (src : Source) (es : List ChimeEntry) :
    withoutSource src es = es.filterMap (ChimeEntry.keeping (· != src)) := by
  unfold withoutSource
  congr 1
  funext e
  rw [ChimeEntry.keeping_without]

/-- R155, R158: CHIME after the sources that `keep` does not name have left: from `c` it comes to `c'`. -/
structure ChimeState.Withdrawn (keep : Source → Bool) (c c' : ChimeState) : Prop where
  frame : c' = { c with phase := c'.phase, fade := c'.fade, playing := c.playing.bind (ChimeEntry.keeping keep),
                        stack := c.stack.filterMap (ChimeEntry.keeping keep),
                        waiting := c.waiting.filterMap (ChimeEntry.keeping keep) }
  fades : ∀ e, c.phase = .playing → c.playing = some e → e.keeping keep = none →
    c'.phase = .switching ∧ c'.fade = some { pattern := e.pattern, step := c.step, m := 0, e0 := c.lastEnv }
  stays : (c.phase ≠ .playing ∨ ∀ e, c.playing = some e → e.keeping keep ≠ none) →
    c'.phase = c.phase ∧ c'.fade = c.fade

theorem ChimeState.cancel_withdrawn (c : ChimeState) (src : Source) :
    ChimeState.Withdrawn (· != src) c (c.cancel src) := by
  unfold ChimeState.cancel
  dsimp only
  rw [withoutSource_eq, withoutSource_eq]
  cases hp : c.playing with
  | none =>
    exact ⟨by simp only [hp, Option.bind_none], fun e _ h _ => absurd (hp.symm.trans h) nofun, fun _ => ⟨rfl, rfl⟩⟩
  | some e =>
    dsimp only
    by_cases hs : src ∈ e.sources
    · rw [if_pos hs]
      by_cases hem : (e.without src).sources.isEmpty = true
      · have hk : e.keeping (· != src) = none := by rw [ChimeEntry.keeping_without, if_pos hs, if_pos hem]
        rw [if_pos hem]
        by_cases hph : c.phase = .playing
        · rw [if_pos hph]
          refine ⟨?_, fun e' _ h _ => ?_, fun h => ?_⟩
          · rw [hp, Option.bind_some, hk]; rfl
          · rw [hp] at h; injection h with h; subst h; exact ⟨rfl, rfl⟩
          · rcases h with h | h
            · exact absurd hph h
            · exact absurd hk (h e hp)
        · rw [if_neg hph]
          exact ⟨by rw [hp, Option.bind_some, hk], fun _ h => absurd h hph, fun _ => ⟨rfl, rfl⟩⟩
      · have hk : e.keeping (· != src) = some (e.without src) := by
          rw [ChimeEntry.keeping_without, if_pos hs, if_neg hem]
        rw [if_neg hem]
        refine ⟨by rw [hp, Option.bind_some, hk], fun e' _ h hn => ?_, fun _ => ⟨rfl, rfl⟩⟩
        rw [hp] at h; injection h with h; subst h; rw [hk] at hn; cases hn
    · have hk : e.keeping (· != src) = some e := by rw [ChimeEntry.keeping_without, if_neg hs]
      rw [if_neg hs]
      refine ⟨by rw [hp, Option.bind_some, hk, ← hp], fun e' _ h hn => ?_, fun _ => ⟨rfl, rfl⟩⟩
      rw [hp] at h; injection h with h; subst h; rw [hk] at hn; cases hn

/-- Two withdrawals in turn are one of the sources of both. -/
theorem ChimeState.Withdrawn.trans {p q : Source → Bool} {c c' c'' : ChimeState} (h : ChimeState.Withdrawn p c c')
    (h' : ChimeState.Withdrawn q c' c'') : ChimeState.Withdrawn (fun x => p x && q x) c c'' := by
  have hplaying : c'.playing = c.playing.bind (ChimeEntry.keeping p) := by rw [h.frame]
  have hstack : c'.stack = c.stack.filterMap (ChimeEntry.keeping p) := by rw [h.frame]
  have hwaiting : c'.waiting = c.waiting.filterMap (ChimeEntry.keeping p) := by rw [h.frame]
  have hstep : c'.step = c.step ∧ c'.lastEnv = c.lastEnv := by rw [h.frame]; exact ⟨rfl, rfl⟩
  have hcomp : (fun e : ChimeEntry => (e.keeping p).bind (ChimeEntry.keeping q)) =
      ChimeEntry.keeping (fun x => p x && q x) := funext fun e => ChimeEntry.keeping_keeping p q e
  refine ⟨?_, fun e hph hp hn => ?_, fun hc => ?_⟩
  · have hf := h'.frame
    rw [hplaying, hstack, hwaiting, Option.bind_assoc, List.filterMap_filterMap, List.filterMap_filterMap, hcomp] at hf
    rw [hf]
    conv_lhs => rw [h.frame]
  · rw [← ChimeEntry.keeping_keeping] at hn
    cases hk : e.keeping p with
    | none =>
      obtain ⟨hsw, hfade⟩ := h.fades e hph hp hk
      obtain ⟨e1, e2⟩ := h'.stays (.inl (by rw [hsw]; decide))
      exact ⟨e1.trans hsw, e2.trans hfade⟩
    | some e' =>
      rw [hk, Option.bind_some] at hn
      have hp' : c'.playing = some e' := by rw [hplaying, hp]; exact hk
      obtain ⟨hph', -⟩ := h.stays (.inr fun e0 h0 => by rw [hp] at h0; injection h0 with h0; rw [← h0, hk]; nofun)
      obtain ⟨e1, e2⟩ := h'.fades e' (hph'.trans hph) hp' hn
      rw [ChimeEntry.keeping_pattern hk, hstep.1, hstep.2] at e2
      exact ⟨e1, e2⟩
  · have hc1 : c.phase ≠ .playing ∨ ∀ e, c.playing = some e → e.keeping p ≠ none :=
      hc.imp_right fun hc e he hk => hc e he (by rw [← ChimeEntry.keeping_keeping, hk]; rfl)
    obtain ⟨e1, e2⟩ := h.stays hc1
    have hc2 : c'.phase ≠ .playing ∨ ∀ e, c'.playing = some e → e.keeping q ≠ none := by
      refine hc.imp (fun h hph => h (e1 ▸ hph)) fun hc e' he' hk => ?_
      rw [hplaying] at he'
      obtain ⟨e, he, hk'⟩ := Option.bind_eq_some_iff.mp he'
      exact hc e he (by rw [← ChimeEntry.keeping_keeping, hk']; exact hk)
    obtain ⟨e3, e4⟩ := h'.stays hc2
    exact ⟨e3.trans e1, e4.trans e2⟩

/-- R163: the sources a host reset leaves. -/
def keptSource : Source → Bool := fun x => x != .slot 0 && x != .slot 1 && x != .slot 2 && x != .slot 3

/-- R163: a host reset withdraws the four slot sources and empties their results. -/
theorem ChimeState.hostReset_withdrawn (c : ChimeState) :
    ∃ c', ChimeState.Withdrawn keptSource c c' ∧
      c.hostReset = { c' with results := [.blank, .blank, .blank, .blank] } :=
  ⟨_, (((c.cancel_withdrawn _).trans (ChimeState.cancel_withdrawn _ _)).trans (ChimeState.cancel_withdrawn _ _)).trans
    (ChimeState.cancel_withdrawn _ _), rfl⟩

/-! ### LOAD (R173) -/

/-- R173: of LOAD's request slot a report's burst is left alone. -/
theorem LoadState.hostReset_slot (l : LoadState) :
    (∀ i, l.slot = some (.reportBurst i) → l.hostReset.slot = some (.reportBurst i)) ∧
      ∀ r, l.hostReset.slot = some r → ∃ i, r = .reportBurst i := by
  refine ⟨fun i h => ?_, fun r h => ?_⟩
  · refine LoadState.present_some ?_
    show (match l.slot with | some (.reportBurst i) => some (LoadReq.reportBurst i) | _ => none) = _
    rw [h]
  · unfold LoadState.hostReset LoadState.present at h
    dsimp only at h
    split at h
    · rename_i w hw
      split at hw
      · injection hw with hw
        rw [‹l.slot = _›] at h
        injection h with h
        exact ⟨_, h.symm⟩
      · cases hw
    · split at h
      · split at h
        · injection h with h; exact ⟨_, h.symm⟩
        · cases h
      · cases h

theorem LoadState.hostReset_eq (l : LoadState) :
    l.hostReset =
      { l with
        phase := .idle, latestGen := 0, latestScope := 0, loadGen := 0, loadScope := 0, loaded := 0, refused := 0,
        staged := [], granted := 0, back := 0, stopping := false, slot := l.hostReset.slot, outcome := .nothing,
        code := .nothing, badIndex := 0xFF, causes := 0, delivered := 0, mask := 0, powerOn := false, hostRst := true,
        irq := false } := by
  unfold LoadState.hostReset
  rw [LoadState.present_eq]

/-! ### ARB and the backlights (R15, R62, R93) -/

/-- The granted bursts whose completions a host reset discards. -/
theorem ArbState.hostReset_eq (a : ArbState) :
    a.hostReset =
      { hostCount := 0, loadCount := 0,
        flights := a.flights.map (fun f =>
          { f with
            live := f.live && !(f.owner == .host || f.owner == .loadRead || f.owner == .loadReread ||
              f.owner == .audio .left || f.owner == .audio .right) }) } := by
  unfold ArbState.hostReset killFlights
  congr 1
  refine List.map_congr_left fun f _ => ?_
  obtain ⟨o, w, l, h⟩ := f
  rcases o with _ | _ | _ | (_ | _) | _ | _ | _ <;> simp

theorem State.resetDuty_pwm_ne (s : State) {d e : Disp} (h : e ≠ d) : (s.resetDuty d).pwm e = s.pwm e := by
  unfold State.resetDuty State.preloadDuty
  split
  · split
    · exact s.pwm_setPwm_ne _ h
    · rfl
  · rfl

/-- R15, R18: a started channel preloads its default duty, another is left. -/
theorem State.resetDuty_pwm_self (s : State) (d : Disp) :
    (∀ tm, s.timing d = some tm → (s.pwm d).started = true →
      (s.resetDuty d).pwm d = { s.pwm d with preload := tm.duty }) ∧
    ((s.pwm d).started = false → (s.resetDuty d).pwm d = s.pwm d) := by
  unfold State.resetDuty State.preloadDuty
  refine ⟨fun tm ht hs => ?_, fun hs => ?_⟩
  · simp only [ht, hs, if_true]
    exact s.pwm_setPwm_self d _
  · split
    · simp [hs]
    · rfl

end Sys2Proof.Machine
end

section
/-! PROOFS. A display at a host reset: its host layers end, with their slots and requests, what else it fetches goes on, and
what it shows on the line begun (R5, R13, R22, R30, R37, R78). -/

namespace Sys2Proof.Machine

open Sys2Proof

/-! ### The layers a host reset ends (R37) -/

/-- R37: the layers that a host reset ends: all but the camera base of the centre. -/
def Display.EndsLayer (x : Display) (d : Disp) (l : LayerId) : Prop :=
  l = .base → d = .centre → ∀ fr, x.frame = some fr → fr.view = .host

theorem Display.endsLayer_overlay {x : Display} {d : Disp} {l : LayerId} (h : l ≠ .base) : x.EndsLayer d l :=
  fun hl => absurd hl h

theorem Display.baseIsHost_iff {x : Display} {d : Disp} : x.baseIsHost d = true ↔ x.EndsLayer d .base := by
  unfold Display.baseIsHost Display.EndsLayer
  cases d with
  | rear k => simp
  | centre => cases x.frame <;> simp

/-- R37: what the end of the layers that `ends` names does to the one request of a display: a granted one goes on, its data
discarded and no error on it counted; one only presented is withdrawn; a request for another layer stays. -/
structure Display.ReqEnded (ends : LayerId → Prop) (x y : Display) : Prop where
  granted : ∀ q, x.req = some q → ends q.layer → q.granted = true →
    y.req = some { q with live := false, counted := false }
  dead : ∀ q, y.req = some q → ends q.layer → q.granted = true ∧ q.live = false
  kept : ∀ q, x.req = some q → ¬ends q.layer → y.req = some q
  before : ∀ q, y.req = some q → ¬ends q.layer → x.req = some q

theorem Display.freeLayer_reqEnded (x : Display) (l : LayerId) :
    Display.ReqEnded (fun m => m = l) x (x.freeLayer l true) := by
  cases hq : x.req with
  | none =>
    have hn : (x.freeLayer l true).req = Option.none := by
      rw [Display.freeLayer_req, Display.dropReq_req_none hq]
    exact ⟨fun q h => absurd (hq.symm.trans h) nofun, fun q h => absurd (hn.symm.trans h) nofun,
      fun q h => absurd (hq.symm.trans h) nofun, fun q h => absurd (hn.symm.trans h) nofun⟩
  | some r =>
    by_cases hl : r.layer = l
    · have hr : (x.freeLayer l true).req =
          if r.granted = true then some { r with live := false, counted := false } else Option.none := by
        rw [Display.freeLayer_req, Display.dropReq_req_pos (t := fun q => q.layer == l) hq (beq_iff_eq.mpr hl)]; simp
      refine ⟨fun q h _ hg => ?_, fun q h _ => ?_, fun q h hn => ?_, fun q h hn => ?_⟩
      · rw [hq] at h; injection h with h; subst h; rw [hr, if_pos hg]
      · rw [hr] at h
        split at h
        · injection h with h; subst h; exact ⟨‹_›, rfl⟩
        · cases h
      · rw [hq] at h; injection h with h; subst h; exact absurd hl hn
      · rw [hr] at h
        split at h
        · injection h with h; subst h; exact absurd hl hn
        · cases h
    · have hr : (x.freeLayer l true).req = some r := by
        rw [Display.freeLayer_req, Display.dropReq_req_neg (t := fun q => q.layer == l) hq (beq_eq_false_iff_ne.mpr hl)]
      refine ⟨fun q h he _ => ?_, fun q h he => ?_, fun q h _ => ?_, fun q h _ => ?_⟩
      · rw [hq] at h; injection h with h; subst h; exact absurd he hl
      · rw [hr] at h; injection h with h; subst h; exact absurd he hl
      · rw [hr, ← hq, h]
      · rw [hq, ← hr, h]

theorem Display.ReqEnded.trans {e1 e2 : LayerId → Prop} {x y z : Display} (h1 : Display.ReqEnded e1 x y)
    (h2 : Display.ReqEnded e2 y z) : Display.ReqEnded (fun l => e1 l ∨ e2 l) x z := by
  refine ⟨fun q hq he hg => ?_, fun q hq he => ?_, fun q hq hn => ?_, fun q hq hn => ?_⟩
  · by_cases h : e1 q.layer
    · have hy := h1.granted q hq h hg
      by_cases h' : e2 q.layer
      · have hz := h2.granted _ hy h' hg
        exact hz
      · exact h2.kept _ hy h'
    · exact h2.granted q (h1.kept q hq h) (he.resolve_left h) hg
  · by_cases h : e2 q.layer
    · exact h2.dead q hq h
    · exact h1.dead q (h2.before q hq h) (he.resolve_right h)
  · exact h2.kept q (h1.kept q hq fun h => hn (.inl h)) fun h => hn (.inr h)
  · exact h1.before q (h2.before q hq fun h => hn (.inr h)) fun h => hn (.inl h)

theorem Display.ReqEnded.congr {e e' : LayerId → Prop} {x y : Display} (h : Display.ReqEnded e x y)
    (he : ∀ l, e l ↔ e' l) : Display.ReqEnded e' x y :=
  (funext fun l => propext (he l) : e = e') ▸ h

/-- The layers of a display as a host reset frees them (R37). -/
def Display.hostFreed (x : Display) (d : Disp) : Display :=
  ((if x.baseIsHost d then x.freeLayer .base true else x).freeLayer .ov0 true).freeLayer .ov1 true

/-- Between `x` and `y` a display's buffers and its request alone change. -/
def Display.SameButFetch (x y : Display) : Prop :=
  y = { x with base := y.base, ov0 := y.ov0, ov1 := y.ov1, req := y.req }

theorem Display.SameButFetch.trans {x y z : Display} (h1 : x.SameButFetch y) (h2 : y.SameButFetch z) :
    x.SameButFetch z := by
  unfold Display.SameButFetch at *
  refine h2.trans ?_
  conv_lhs => rw [h1]

theorem Display.hostFreed_same (x : Display) (d : Disp) : x.SameButFetch (x.hostFreed d) := by
  have hfree : ∀ (y : Display) (l : LayerId), y.SameButFetch (y.freeLayer l true) := fun y l => y.freeLayer_eq l true
  have hbase : x.SameButFetch (if x.baseIsHost d then x.freeLayer .base true else x) := by
    split
    · exact hfree x _
    · rfl
  exact (hbase.trans (hfree _ _)).trans (hfree _ _)

/-- R5, R13, R30: the fields a host reset gives a display apart from its fetching. -/
theorem Display.hostReset_eq (x : Display) (d : Disp) (v : Option LayerView) :
    x.hostReset d v =
      { x with
        base := (x.hostFreed d).base, ov0 := (x.hostFreed d).ov0, ov1 := (x.hostFreed d).ov1,
        req := (x.hostFreed d).req, content := .noScene, active := none, staged := none, cap := Captured.empty,
        mark := .off, markHigh := false, frame := x.frame.map FrameRecord.hostReset, fault0 := false, fault1 := false,
        withdraw := false, kept := x.lineLeft d v } := by
  have hdef : x.hostReset d v =
      { x.hostFreed d with
        content := .noScene, active := none, staged := none, cap := Captured.empty, mark := .off, markHigh := false,
        frame := x.frame.map FrameRecord.hostReset, fault0 := false, fault1 := false, withdraw := false,
        kept := x.lineLeft d v } := rfl
  have hsame : x.hostFreed d = _ := x.hostFreed_same d
  rw [hdef]
  conv_lhs => rw [hsame]

theorem Display.hostFreed_reqEnded (x : Display) (d : Disp) :
    Display.ReqEnded (x.EndsLayer d) x (x.hostFreed d) := by
  have hrest : ∀ y : Display, Display.ReqEnded (fun l => l = .ov0 ∨ l = .ov1) y
      ((y.freeLayer .ov0 true).freeLayer .ov1 true) :=
    fun y => (y.freeLayer_reqEnded .ov0).trans (Display.freeLayer_reqEnded _ .ov1)
  unfold Display.hostFreed
  by_cases hb : x.baseIsHost d = true
  · rw [if_pos hb]
    refine ((x.freeLayer_reqEnded .base).trans (hrest _)).congr fun l => iff_of_true ?_ ?_
    · cases l <;> simp
    · cases l
      · exact Display.baseIsHost_iff.mp hb
      · exact Display.endsLayer_overlay nofun
      · exact Display.endsLayer_overlay nofun
  · rw [if_neg hb]
    refine (hrest x).congr fun l => ?_
    cases l
    · exact iff_of_false (by simp) (mt Display.baseIsHost_iff.mpr hb)
    · exact iff_of_true (.inl rfl) (Display.endsLayer_overlay nofun)
    · exact iff_of_true (.inr rfl) (Display.endsLayer_overlay nofun)

theorem Display.hostFreed_buf {x : Display} {d : Disp} {l : LayerId} (h : x.EndsLayer d l) :
    (x.hostFreed d).buf l = LayerBuf.empty := by
  unfold Display.hostFreed
  cases l with
  | base =>
    rw [Display.freeLayer_buf_ne _ _ (by decide), Display.freeLayer_buf_ne _ _ (by decide),
      if_pos (Display.baseIsHost_iff.mpr h)]
    exact Display.freeLayer_buf_self _ _ _
  | ov0 => rw [Display.freeLayer_buf_ne _ _ (by decide)]; exact Display.freeLayer_buf_self _ _ _
  | ov1 => exact Display.freeLayer_buf_self _ _ _

/-- R37, Table 15: the camera base keeps its buffer. -/
theorem Display.hostFreed_base {x : Display} {d : Disp} (h : ¬x.EndsLayer d .base) :
    (x.hostFreed d).buf .base = x.buf .base := by
  unfold Display.hostFreed
  rw [Display.freeLayer_buf_ne _ _ (by decide), Display.freeLayer_buf_ne _ _ (by decide),
    if_neg (mt Display.baseIsHost_iff.mp h)]

/-! ### The engine goes on fetching what is left (R32, R33) -/

/-- A layer freed and not fetched stays free while the engine goes on. -/
theorem Display.refill_buf_empty {x : Display} {view : LayerId → Option LayerView} {l : LayerId}
    (hb : x.buf l = LayerBuf.empty) (hv : view l = none) : (x.refill view).buf l = LayerBuf.empty := by
  let z : Display :=
    { x with base := x.base.refill (view .base), ov0 := x.ov0.refill (view .ov0), ov1 := x.ov1.refill (view .ov1) }
  have hz : z.buf l = LayerBuf.empty := by
    have h : z.buf l = (x.buf l).refill (view l) := by cases l <;> rfl
    rw [h, hv, hb]; rfl
  rcases z.choose_spec view with ⟨e, -⟩ | ⟨m, w, i, k, -, hw, -, -, -, -, e⟩
  · exact (congrArg (·.buf l) e).trans hz
  · have hl : l ≠ m := by rintro rfl; rw [hv] at hw; cases hw
    refine (congrArg (·.buf l) e).trans ?_
    have h : ∀ (y : Display) (q : Option ScanReq), ({ y with req := q } : Display).buf l = y.buf l := by
      intro y q; cases l <;> rfl
    exact (h _ _).trans ((z.setBuf_buf_ne _ hl).trans hz)

/-- R33: with a request outstanding the engine asks for nothing, and a slot that holds a row stays as it is. -/
theorem Display.refill_slot_of_req {x : Display} {view : LayerId → Option LayerView} {q : ScanReq} {l : LayerId} {i : Nat}
    {k : LineSlot} (hq : x.req = some q) (hk : (x.buf l).slots[i]? = some k) (hf : k.phase ≠ .free) :
    ((x.refill view).buf l).slots[i]? = some k := by
  let z : Display :=
    { x with base := x.base.refill (view .base), ov0 := x.ov0.refill (view .ov0), ov1 := x.ov1.refill (view .ov1) }
  rcases z.choose_spec view with ⟨e, -⟩ | ⟨m, w, j, k', hnone, -⟩
  · have hz : (x.refill view).buf l = (x.buf l).refill (view l) := by
      refine (congrArg (·.buf l) e).trans ?_
      cases l <;> rfl
    rw [hz]
    cases view l with
    | none => exact hk
    | some v =>
      have := assignFree_slot v (x.buf l).slots (x.buf l).nextRow i k hk
      rwa [if_neg (fun h => hf h.1)] at this
  · exact absurd (hq.symm.trans hnone) nofun

/-! ### What is shown after a host reset (R5, R22, R37, R78) -/

/-- R37: the frame a display goes on with after a host reset has no host layer. -/
theorem layerOf_hostReset {p : Profile} {d : Disp} {fr : FrameRecord} {l : LayerId}
    (h : l = .base → d = .centre → fr.view = .host) : layerOf p d fr.hostReset l = none := by
  have hc : fr.hostReset.content ≠ .scene := by show Content.noScene ≠ .scene; decide
  by_cases hl : l = .base
  · subst hl
    cases d with
    | centre => exact layerOf_noHostBase p fr.hostReset (h rfl rfl) (.inl hc)
    | rear k => exact layerOf_noFilm p fr.hostReset k (.inl hc)
  · rw [layerOf_overlay p fr.hostReset d hl]
    split <;> exact overlayView_none (.inl hc)

theorem State.layer_hostReset {w : State} {x : Display} {d : Disp} {l : LayerId}
    (hf : (w.display d).frame = x.frame.map FrameRecord.hostReset) (h : x.EndsLayer d l) : w.layer d l = none := by
  unfold State.layer
  rw [hf]
  cases hfr : x.frame with
  | none => cases w.boot.profile <;> rfl
  | some fr =>
    cases w.boot.profile with
    | none => rfl
    | some p => exact layerOf_hostReset fun hl hd => h hl hd fr hfr

/-- R5, R22: with no scene and no film a rear display shows on a line what a host reset has left to it, and elsewhere its
profile background. -/
theorem State.outputPixel_bare {w : State} {p : Profile} {k : Seat} {fr : FrameRecord} {col : Nat}
    (hp : w.boot.profile = some p) (hf : (w.display (.rear k)).frame = some fr.hostReset)
    (hr : (w.display (.rear k)).running = true) (hl : (w.display (.rear k)).line < (Tri.get p.disp (.rear k)).ha)
    (hc : col < (Tri.get p.disp (.rear k)).wa) :
    w.outputPixel (.rear k) col =
      some ((((w.display (.rear k)).kept.bind (·.pixel col)).getD (Tri.get p.disp (.rear k)).background).extractLsb' 0
        24) := by
  have hlayer : ∀ l, layerOf p (.rear k) fr.hostReset l = none := fun l => layerOf_hostReset fun _ h => nomatch h
  have hne : Disp.rear k ≠ .centre := nofun
  have hbase : basePixel p (.rear k) fr.hostReset (w.display (.rear k)) col (w.display (.rear k)).line =
      (w.display (.rear k)).kept.bind (·.pixel col) := by
    cases hk : (w.display (.rear k)).kept with
    | some h => rw [basePixel_kept hk]; rfl
    | none => rw [basePixel_layer (fun h => absurd h hne) (.inr hk), hlayer]; rfl
  rw [State.outputPixel_active hp hf hr hl hc, if_neg (by simp [isDark, State.keptClear, FrameRecord.hostReset]),
    stackPixel_eq, overlayOver_none (by rw [hlayer]; rfl), overlayOver_none (by rw [hlayer]; rfl),
    overSpans_none (.inl fun h => hne h.1), hbase, background_noScene (by show Content.noScene ≠ .scene; decide)]

/-- R22, log entry 42: what a host reset leaves to the line a rear display has begun is its base pixels, or nothing. -/
theorem Display.lineLeft_pixel (x : Display) (p : Profile) (k : Seat) (fr : FrameRecord) (col : Nat) :
    (x.lineLeft (.rear k) (layerOf p (.rear k) fr .base)).bind (·.pixel col) =
      if Config.hostResetKeepsLine = true then basePixel p (.rear k) fr x col x.line else none := by
  rw [Display.lineLeft_eq]
  split
  · exact x.lineBegun_pixel p k fr col
  · rfl

end Sys2Proof.Machine
end

section
/-! PROOFS. HOST_RESET in the machine (R5, R37, R173, R188): what it makes of each display, of the backlights and of what
is shown, block by block. O22. -/

namespace Sys2Proof.Machine

open Sys2Proof

/-! ### A display that has been reset and goes on fetching -/

section
variable (x : Display) (d : Disp) (v : Option LayerView) (view : LayerId → Option LayerView)

/-- R5, R13, R30: the fields of a display after a host reset but its buffers and its request. -/
theorem Display.hostReset_refill_eq :
    (x.hostReset d v).refill view =
      { x with
        base := ((x.hostReset d v).refill view).base, ov0 := ((x.hostReset d v).refill view).ov0,
        ov1 := ((x.hostReset d v).refill view).ov1, req := ((x.hostReset d v).refill view).req, content := .noScene,
        active := none, staged := none, cap := Captured.empty, mark := .off, markHigh := false,
        frame := x.frame.map FrameRecord.hostReset, fault0 := false, fault1 := false, withdraw := false,
        kept := x.lineLeft d v } := by
  obtain ⟨hframe, -⟩ := (x.hostReset d v).refill_spec view
  have hreset := x.hostReset_eq d v
  refine Eq.trans hframe ?_
  obtain ⟨y, hy⟩ : ∃ y, y = (x.hostReset d v).refill view := ⟨_, rfl⟩
  rw [← hy]
  conv_lhs => rw [hreset]

theorem Display.hostReset_buf (l : LayerId) : (x.hostReset d v).buf l = (x.hostFreed d).buf l := by
  rw [Display.hostReset_eq]; cases l <;> rfl

theorem Display.hostReset_req : (x.hostReset d v).req = (x.hostFreed d).req := by
  rw [Display.hostReset_eq]

variable {x d v view} (hview : ∀ l, x.EndsLayer d l → view l = none)
include hview

theorem Display.hostReset_refill_buf {l : LayerId} (h : x.EndsLayer d l) :
    ((x.hostReset d v).refill view).buf l = LayerBuf.empty :=
  Display.refill_buf_empty ((x.hostReset_buf d v l).trans (Display.hostFreed_buf h)) (hview l h)

/-- R37: the request of a display after a host reset. -/
theorem Display.hostReset_refill_req :
    (∀ q, x.req = some q → x.EndsLayer d q.layer → q.granted = true →
      ((x.hostReset d v).refill view).req = some { q with live := false, counted := false }) ∧
    (∀ q, ((x.hostReset d v).refill view).req = some q → x.EndsLayer d q.layer → q.granted = true ∧ q.live = false) ∧
    (∀ q, x.req = some q → ¬x.EndsLayer d q.layer → ((x.hostReset d v).refill view).req = some q) := by
  have hended := x.hostFreed_reqEnded d
  obtain ⟨-, -, hforth, hback, -⟩ := (x.hostReset d v).refill_spec view
  rw [Display.hostReset_req] at hforth hback
  refine ⟨fun q hq he hg => hforth _ (hended.granted q hq he hg), fun q hq he => ?_,
    fun q hq hn => hforth q (hended.kept q hq hn)⟩
  rcases hback q hq with h | ⟨-, -, -, -, k, hk, hf, -⟩
  · exact hended.dead q h he
  · rw [Display.hostReset_refill_buf hview he] at hk
    have hempty : k = LineSlot.empty := List.eq_of_mem_replicate (List.mem_of_getElem? hk)
    rw [hempty] at hf
    cases hf

omit hview in
/-- R37, Table 15: a base that does not end keeps its rows, their data and its request. -/
theorem Display.hostReset_refill_base (h : ¬x.EndsLayer d .base) :
    (((x.hostReset d v).refill view).buf .base).under = (x.buf .base).under ∧
    (((x.hostReset d v).refill view).buf .base).slots.length = (x.buf .base).slots.length ∧
    (∀ (i : Nat) (k : LineSlot), (x.buf .base).slots[i]? = some k → k.phase ≠ .free →
      ∃ n, (((x.hostReset d v).refill view).buf .base).slots[i]? = some { k with asked := n }) ∧
    (∀ q, x.req = some q → q.layer = .base → ∀ (i : Nat) (k : LineSlot), (x.buf .base).slots[i]? = some k →
      k.phase ≠ .free → (((x.hostReset d v).refill view).buf .base).slots[i]? = some k) := by
  have hbase : (x.hostReset d v).buf .base = x.buf .base :=
    (x.hostReset_buf d v .base).trans (Display.hostFreed_base h)
  obtain ⟨-, hbufs, -⟩ := (x.hostReset d v).refill_spec view
  obtain ⟨hunder, ⟨hlength, hslots, -⟩, -⟩ := hbufs .base
  rw [hbase] at hunder hlength hslots
  refine ⟨hunder, hlength, fun i k hk hf => hslots i k hk (beq_eq_false_iff_ne.mpr hf), fun q hq hl i k hk hf => ?_⟩
  have hreq : (x.hostReset d v).req = some q :=
    (x.hostReset_req d v).trans ((x.hostFreed_reqEnded d).kept q hq (by rw [hl]; exact h))
  exact Display.refill_slot_of_req hreq (by rw [hbase]; exact hk) hf

end

/-! ### The machine -/

/-- The machine at a host reset, before the engines go on fetching. -/
def State.hostEmptied (s : State) : State :=
  let s2 := ((s.setPath s.path.hostReset).setArb s.arb.hostReset).setDisps
    ⟨s.disp.c.hostReset .centre (s.layer .centre .base), s.disp.l.hostReset (.rear .left) (s.layer (.rear .left) .base),
      s.disp.r.hostReset (.rear .right) (s.layer (.rear .right) .base)⟩
  let s4 := (((s2.setSets noSets).setRears ⟨s.rear.l.hostReset, s.rear.r.hostReset⟩).setAud s.aud.hostReset).setMix
    s.mix.hostReset
  (s4.setChime s.chime.hostReset).setLoad s.load.hostReset

/-- R15, R18: the backlight channels at a host reset. -/
def State.resetDuties (s : State) : State :=
  ((s.resetDuty .centre).resetDuty (.rear .left)).resetDuty (.rear .right)

/-- The three engines go on fetching. -/
def State.refetchAll (s : State) : State := ((s.refetch .centre).refetch (.rear .left)).refetch (.rear .right)

theorem State.applyHostReset_eq (s : State) : s.applyHostReset = s.hostEmptied.resetDuties.refetchAll := rfl

theorem State.display_refetch_self (s : State) (d : Disp) :
    (s.refetch d).display d = (s.display d).refill (s.layer d) := State.display_setDisplay_self _ _ _

theorem State.display_refetch_ne (s : State) {d e : Disp} (h : e ≠ d) : (s.refetch d).display e = s.display e :=
  State.display_setDisplay_ne _ _ h

/-- R26: what a layer is depends on the profile and on its display's own frame. -/
theorem State.refetch_layer_ne (s : State) {d e : Disp} (h : e ≠ d) : (s.refetch d).layer e = s.layer e :=
  funext fun l => State.layer_congr (State.refetch_boot s d) (by rw [State.display_refetch_ne s h]) l

theorem State.display_refetchAll (s : State) (d : Disp) :
    s.refetchAll.display d = (s.display d).refill (s.layer d) := by
  unfold State.refetchAll
  rcases d with _ | (_ | _)
  · rw [State.display_refetch_ne _ (by decide), State.display_refetch_ne _ (by decide), State.display_refetch_self]
  · rw [State.display_refetch_ne _ (by decide), State.display_refetch_self, State.display_refetch_ne _ (by decide),
      State.refetch_layer_ne _ (by decide)]
  · rw [State.display_refetch_self, State.display_refetch_ne _ (by decide), State.display_refetch_ne _ (by decide),
      State.refetch_layer_ne _ (by decide), State.refetch_layer_ne _ (by decide)]

theorem State.hostEmptied_display (s : State) (d : Disp) :
    s.hostEmptied.resetDuties.display d = (s.display d).hostReset d (s.layer d .base) := by
  have hdisp : s.hostEmptied.resetDuties.disp = s.hostEmptied.disp := by
    unfold State.resetDuties; simp
  rw [State.display, hdisp]
  rcases d with _ | (_ | _) <;> rfl

/-- What a host reset makes of a display: its host layers end, and its engine goes on with what is left. -/
theorem State.applyHostReset_display (s : State) (d : Disp) :
    ∃ view, s.applyHostReset.display d = ((s.display d).hostReset d (s.layer d .base)).refill view ∧
      ∀ l, (s.display d).EndsLayer d l → view l = none := by
  refine ⟨s.hostEmptied.resetDuties.layer d, ?_, fun l hl => ?_⟩
  · rw [State.applyHostReset_eq, State.display_refetchAll, State.hostEmptied_display]
  · refine State.layer_hostReset (x := s.display d) ?_ hl
    rw [State.hostEmptied_display, Display.hostReset_eq]

/-- R15, R18: each started channel preloads its default duty, another is left. -/
theorem State.resetDuties_pwm (s : State) (d : Disp) :
    (∀ tm, s.timing d = some tm → (s.pwm d).started = true →
      s.resetDuties.pwm d = { s.pwm d with preload := tm.duty }) ∧
    ((s.pwm d).started = false → s.resetDuties.pwm d = s.pwm d) := by
  have key : ∀ w : State, w.timing d = s.timing d → w.pwm d = s.pwm d →
      (∀ tm, s.timing d = some tm → (s.pwm d).started = true →
        (w.resetDuty d).pwm d = { s.pwm d with preload := tm.duty }) ∧
      ((s.pwm d).started = false → (w.resetDuty d).pwm d = s.pwm d) := by
    intro w ht hp
    have h := w.resetDuty_pwm_self d
    rwa [ht, hp] at h
  have htiming : ∀ (w : State) (e : Disp), (w.resetDuty e).timing d = w.timing d := by
    intro w e
    unfold State.timing
    rw [State.resetDuty_boot]
  unfold State.resetDuties
  rcases d with _ | (_ | _)
  · rw [State.resetDuty_pwm_ne _ (by decide), State.resetDuty_pwm_ne _ (by decide)]
    exact key s rfl rfl
  · rw [State.resetDuty_pwm_ne _ (by decide)]
    exact key _ (htiming _ _) (State.resetDuty_pwm_ne _ (by decide))
  · refine key _ ((htiming _ _).trans (htiming _ _)) ?_
    rw [State.resetDuty_pwm_ne _ (by decide), State.resetDuty_pwm_ne _ (by decide)]

theorem State.applyHostReset_pwm (s : State) (d : Disp) :
    (∀ tm, s.timing d = some tm → (s.pwm d).started = true →
      s.applyHostReset.pwm d = { s.pwm d with preload := tm.duty }) ∧
    ((s.pwm d).started = false → s.applyHostReset.pwm d = s.pwm d) := by
  have hbl : s.applyHostReset.bl = s.hostEmptied.resetDuties.bl := by
    rw [State.applyHostReset_eq, State.refetchAll]; simp
  have hboot : s.hostEmptied.boot = s.boot := by unfold State.hostEmptied; simp
  have hbls : s.hostEmptied.bl = s.bl := by unfold State.hostEmptied; simp
  have htiming : s.hostEmptied.timing d = s.timing d := by unfold State.timing; rw [hboot]
  have hpwm : s.hostEmptied.pwm d = s.pwm d := State.pwm_congr hbls d
  have h := s.hostEmptied.resetDuties_pwm d
  rw [htiming, hpwm] at h
  rw [State.pwm_congr hbl d]
  exact h

/-- R41, R78, R84, R95, R163, R173: the other blocks. -/
theorem State.applyHostReset_blocks (s : State) :
    s.applyHostReset.pins = s.pins ∧ s.applyHostReset.path = s.path.hostReset ∧
      s.applyHostReset.arb = s.arb.hostReset ∧ s.applyHostReset.sets = noSets ∧
      s.applyHostReset.rear = ⟨s.rear.l.hostReset, s.rear.r.hostReset⟩ ∧ s.applyHostReset.aud = s.aud.hostReset ∧
      s.applyHostReset.mix = s.mix.hostReset ∧ s.applyHostReset.chime = s.chime.hostReset ∧
      s.applyHostReset.load = s.load.hostReset ∧ s.applyHostReset.boot = s.boot := by
  unfold State.applyHostReset
  simp

/-! ### What a rear display shows -/

section
variable {s : State} {k : Seat} {p : Profile} {fr : FrameRecord} {col : Nat}
  (hp : s.boot.profile = some p) (hf : (s.display (.rear k)).frame = some fr)
include hp hf

theorem State.layer_of_frame (l : LayerId) : s.layer (.rear k) l = layerOf p (.rear k) fr l := by
  unfold State.layer; rw [hp, hf]

variable (hr : (s.display (.rear k)).running = true)
include hr

/-- R5, R22, log entry 42: on the line it has begun a rear display shows what the host reset has left to the line, and
elsewhere its profile background. -/
theorem State.applyHostReset_pixel (hl : (s.display (.rear k)).line < (Tri.get p.disp (.rear k)).ha)
    (hc : col < (Tri.get p.disp (.rear k)).wa) :
    s.applyHostReset.outputPixel (.rear k) col =
      some (((if Config.hostResetKeepsLine = true then
          basePixel p (.rear k) fr (s.display (.rear k)) col (s.display (.rear k)).line else none).getD
        (Tri.get p.disp (.rear k)).background).extractLsb' 0 24) := by
  obtain ⟨view, hd, -⟩ := s.applyHostReset_display (.rear k)
  have heq := (s.display (.rear k)).hostReset_refill_eq (.rear k) (s.layer (.rear k) .base) view
  rw [← hd] at heq
  have hboot : s.applyHostReset.boot.profile = some p := by
    obtain ⟨-, -, -, -, -, -, -, -, -, hboot⟩ := s.applyHostReset_blocks
    rw [hboot, hp]
  have hkept : (s.applyHostReset.display (.rear k)).kept =
      (s.display (.rear k)).lineLeft (.rear k) (layerOf p (.rear k) fr .base) := by
    rw [heq, State.layer_of_frame hp hf]
  rw [State.outputPixel_bare (fr := fr) hboot (by rw [heq, hf]; rfl) (by rw [heq]; exact hr) (by rw [heq]; exact hl) hc,
    hkept, Display.lineLeft_pixel]

/-- R5, R22, R37: on the lines after it a rear display shows its profile background. -/
theorem State.applyHostReset_nextLine (hc : col < (Tri.get p.disp (.rear k)).wa) :
    ∃ u, exec (.displayLineEnd (.rear k)) s.applyHostReset = .next u ∧
      ((u.display (.rear k)).line < (Tri.get p.disp (.rear k)).ha →
        u.outputPixel (.rear k) col = some ((Tri.get p.disp (.rear k)).background.extractLsb' 0 24)) := by
  obtain ⟨t, ht⟩ : ∃ t, t = s.applyHostReset := ⟨_, rfl⟩
  obtain ⟨view, hd, -⟩ := s.applyHostReset_display (.rear k)
  have heq := (s.display (.rear k)).hostReset_refill_eq (.rear k) (s.layer (.rear k) .base) view
  rw [← hd, ← ht] at heq
  have hboot : t.boot.profile = some p := by
    obtain ⟨-, -, -, -, -, -, -, -, -, hboot⟩ := s.applyHostReset_blocks
    rw [ht, hboot, hp]
  have htiming : t.timing (.rear k) = some (Tri.get p.disp (.rear k)) := by rw [State.timing, hboot]
  have hrun : (t.display (.rear k)).running = true := by rw [heq]; exact hr
  obtain ⟨u, hu⟩ : ∃ u, u = (t.lineEnded (.rear k) (Tri.get p.disp (.rear k))).refill (.rear k) := ⟨_, rfl⟩
  rw [← ht]
  refine ⟨u, hu ▸ execDisplayLineEnd_eq htiming hrun, fun hl => ?_⟩
  have hself : u.display (.rear k) =
      ((t.display (.rear k)).endLine (Tri.get p.disp (.rear k))).refill
        ((t.lineEnded (.rear k) (Tri.get p.disp (.rear k))).layer (.rear k)) := by
    rw [hu, State.display_refill_self, State.lineEnded_self]
  have hfields := (Display.refill_spec ((t.display (.rear k)).endLine (Tri.get p.disp (.rear k)))
    ((t.lineEnded (.rear k) (Tri.get p.disp (.rear k))).layer (.rear k))).1
  rw [← hself, Display.endLine_fields] at hfields
  have hframe : (u.display (.rear k)).frame = some fr.hostReset := by
    have hw : (t.display (.rear k)).withdraw = false := by rw [heq]
    have hfr : (t.display (.rear k)).frame = some fr.hostReset := by rw [heq, hf]; rfl
    rw [hfields, ← hfr]
    exact if_neg (by rw [hw]; decide)
  have hkept : (u.display (.rear k)).kept = none := by rw [hfields]
  have huboot : u.boot.profile = some p := by
    rw [hu, State.refill_boot, State.lineEnded_eq]; exact hboot
  rw [State.outputPixel_bare huboot hframe (by rw [hfields]; exact hrun) hl hc, hkept]
  rfl

end

end Sys2Proof.Machine
end

section
/-! PROOFS. HOST_RESET: what is emptied and what stays, put together (R5, R37, R163, R173, R188). O22. -/

namespace Sys2Proof.Machine

open Sys2Proof

section
variable (s : State)

/-- R37: the host layers of the machine's displays. -/
theorem State.endsLayer_iff {d : Disp} {l : LayerId} :
    (s.display d).EndsLayer d l ↔
      (l = .base → d = .centre → ∀ fr, s.disp.c.frame = some fr → fr.view = .host) := by
  unfold Display.EndsLayer
  exact ⟨fun h hl hd => by subst hd; exact h hl rfl, fun h hl hd => by subst hd; exact h hl rfl⟩

theorem State.applyHostReset_eqDisplay (d : Disp) :
    s.applyHostReset.display d =
      { s.display d with
        base := (s.applyHostReset.display d).base, ov0 := (s.applyHostReset.display d).ov0,
        ov1 := (s.applyHostReset.display d).ov1, req := (s.applyHostReset.display d).req, content := .noScene,
        active := none, staged := none, cap := Captured.empty, mark := .off, markHigh := false,
        frame := (s.display d).frame.map FrameRecord.hostReset, fault0 := false, fault1 := false, withdraw := false,
        kept := (s.display d).lineLeft d (s.layer d .base) } := by
  obtain ⟨view, hd, -⟩ := s.applyHostReset_display d
  rw [hd]
  exact (s.display d).hostReset_refill_eq d (s.layer d .base) view

/-- R5, R13, R30: a display's own fields. -/
theorem State.applyHostReset_fields (d : Disp) :
    let y := s.applyHostReset.display d
    y.running = (s.display d).running ∧ y.line = (s.display d).line ∧ y.lineClk = (s.display d).lineClk ∧
      y.blanked = (s.display d).blanked ∧ y.frameNo = (s.display d).frameNo ∧
      y.underruns = (s.display d).underruns ∧ y.lineCounted = (s.display d).lineCounted ∧ y.content = .noScene ∧
      y.active = none ∧ y.staged = none ∧ y.cap = { base := none, ov0 := none, ov1 := none } ∧ y.mark = .off ∧
      y.markHigh = false ∧ y.fault0 = false ∧ y.fault1 = false ∧ y.withdraw = false ∧
      y.frame = (s.display d).frame.map (fun fr =>
        { fr with
          content := .noScene, scene := none, cap := { base := none, ov0 := none, ov1 := none }, film := none }) := by
  intro y
  have heq : y = _ := s.applyHostReset_eqDisplay d
  rw [heq]
  exact ⟨rfl, rfl, rfl, rfl, rfl, rfl, rfl, rfl, rfl, rfl, rfl, rfl, rfl, rfl, rfl, rfl, rfl⟩

/-- R22, log entry 42: what is left to a line begun, and where. -/
theorem State.applyHostReset_kept :
    s.applyHostReset.disp.c.kept = none ∧
      ∀ d, (s.applyHostReset.display d).kept ≠ none → Config.hostResetKeepsLine = true := by
  have hkept : ∀ d, (s.applyHostReset.display d).kept = (s.display d).lineLeft d (s.layer d .base) :=
    fun d => by rw [s.applyHostReset_eqDisplay d]
  refine ⟨(hkept .centre).trans ?_, fun d h => ?_⟩
  · rw [Display.lineLeft_eq]; split <;> rfl
  · rw [hkept, Display.lineLeft_eq] at h
    by_contra hc
    rw [if_neg hc] at h
    exact h rfl

/-- R37: the host layers end, and the requests for them. -/
theorem State.applyHostReset_layers :
    (∀ d l, (s.display d).EndsLayer d l → (s.applyHostReset.display d).buf l = LayerBuf.empty) ∧
    (∀ d q, (s.display d).req = some q → (s.display d).EndsLayer d q.layer → q.granted = true →
      (s.applyHostReset.display d).req = some { q with live := false, counted := false }) ∧
    (∀ d q, (s.applyHostReset.display d).req = some q → (s.display d).EndsLayer d q.layer →
      q.granted = true ∧ q.live = false) := by
  refine ⟨fun d l h => ?_, fun d q hq he hg => ?_, fun d q hq he => ?_⟩
  · obtain ⟨view, hd, hview⟩ := s.applyHostReset_display d
    rw [hd]; exact Display.hostReset_refill_buf hview h
  · obtain ⟨view, hd, hview⟩ := s.applyHostReset_display d
    rw [hd]; exact (Display.hostReset_refill_req hview).1 q hq he hg
  · obtain ⟨view, hd, hview⟩ := s.applyHostReset_display d
    rw [hd] at hq; exact (Display.hostReset_refill_req hview).2.1 q hq he

/-- R37, Table 15: in REAR_VIEW the camera base of the centre keeps its rows, their data and its request. -/
theorem State.applyHostReset_camera {fr : FrameRecord} (hf : s.disp.c.frame = some fr) (hv : fr.view = .rear) :
    let y := s.applyHostReset.disp.c
    y.base.under = s.disp.c.base.under ∧ y.base.slots.length = s.disp.c.base.slots.length ∧
    (∀ (i : Nat) (k : LineSlot), s.disp.c.base.slots[i]? = some k → k.phase ≠ .free →
      ∃ n, y.base.slots[i]? = some { k with asked := n }) ∧
    ∀ q, s.disp.c.req = some q → q.layer = .base → y.req = some q ∧
      ∀ (i : Nat) (k : LineSlot), s.disp.c.base.slots[i]? = some k → k.phase ≠ .free → y.base.slots[i]? = some k := by
  have hn : ¬(s.display .centre).EndsLayer .centre .base := fun h => by
    have hhost := h rfl rfl fr hf
    rw [hv] at hhost; cases hhost
  obtain ⟨view, hd, hview⟩ := s.applyHostReset_display .centre
  obtain ⟨hunder, hlength, hslots, hexact⟩ :=
    Display.hostReset_refill_base (v := s.layer .centre .base) (view := view) hn
  obtain ⟨-, -, hreq⟩ := Display.hostReset_refill_req (v := s.layer .centre .base) hview
  rw [← hd] at hunder hlength hslots hexact hreq
  exact ⟨hunder, hlength, hslots, fun q hq hl => ⟨hreq q hq (by rw [hl]; exact hn), hexact q hq hl⟩⟩

/-- R5, R22, R37, R78: what a rear display shows on the line it has begun and on the next. -/
theorem State.applyHostReset_shown {k : Seat} {p : Profile} {fr : FrameRecord} {col : Nat}
    (hp : s.boot.profile = some p) (hf : (s.display (.rear k)).frame = some fr)
    (hr : (s.display (.rear k)).running = true) (hl : (s.display (.rear k)).line < (Tri.get p.disp (.rear k)).ha)
    (hc : col < (Tri.get p.disp (.rear k)).wa) {shown : Option Word}
    (hs : shown = basePixel p (.rear k) fr (s.display (.rear k)) col (s.display (.rear k)).line) :
    s.applyHostReset.outputPixel (.rear k) col = some
        ((if Config.hostResetKeepsLine = true then shown.getD (Tri.get p.disp (.rear k)).background
          else (Tri.get p.disp (.rear k)).background).extractLsb' 0 24) ∧
      ∃ u, exec (.displayLineEnd (.rear k)) s.applyHostReset = .next u ∧
        ((u.display (.rear k)).line < (Tri.get p.disp (.rear k)).ha →
          u.outputPixel (.rear k) col = some ((Tri.get p.disp (.rear k)).background.extractLsb' 0 24)) := by
  refine ⟨?_, State.applyHostReset_nextLine hp hf hr hc⟩
  rw [State.applyHostReset_pixel hp hf hr hl hc, hs]
  split <;> rfl

end

/-- HRSTN has fallen. -/
def State.hrstnFallen (s : State) : State := s.setPins { s.pins with hrstnLow := true }

/-- The row outside power-on reset, on the falling edge of HRSTN. -/
theorem execHostReset_falls {s : State} (hl : s.pins.hrstnLow = false) (hs : s.boot.startup ≠ .reset) :
    exec .hostReset s = .next s.hrstnFallen.applyHostReset := by
  show execHostReset s = _
  unfold execHostReset
  rw [if_neg (by rw [hl]; decide)]
  exact if_neg hs

/-- Settles O22: the row is the reset of every block at once, and the engines' going on with what R37 leaves. -/
theorem hostResetEmpties : Obligations.HostResetEmpties := by
  intro s hlow hstartup ownHostLayer kept strip
  have hexec := execHostReset_falls hlow hstartup
  obtain ⟨hpins, hpath, harb, hsets, hrear, haud, hmix, hchime, hload, -⟩ :=
    s.hrstnFallen.applyHostReset_blocks
  obtain ⟨hkeptC, hkept⟩ := s.hrstnFallen.applyHostReset_kept
  obtain ⟨hbuf, hreq, hdead⟩ := s.hrstnFallen.applyHostReset_layers
  obtain ⟨c', ⟨hcframe, hfades, hstays⟩, hc'⟩ := s.chime.hostReset_withdrawn
  obtain ⟨hreport, honly⟩ := s.load.hostReset_slot
  have hends : ∀ d l, ownHostLayer d l → (s.display d).EndsLayer d l := fun d l => s.endsLayer_iff.mpr
  have hct : s.hrstnFallen.applyHostReset.chime =
      { c' with results := [.blank, .blank, .blank, .blank] } := hchime.trans hc'
  refine ⟨_, hexec, exec_frame hexec, hpins, hpath, harb.trans s.arb.hostReset_eq,
    s.hrstnFallen.applyHostReset_fields, hkeptC, hkept, ?_,
    fun d l h => hbuf d l (hends d l h), fun d q hq h hg => hreq d q hq (hends d _ h) hg,
    fun d q hq h => hdead d q hq (hends d _ h),
    fun fr hf hv => s.hrstnFallen.applyHostReset_camera hf hv, ?_, ?_, haud, hmix, ?_,
    fun e hph hp hn => ?_, fun h => ?_, ?_, ?_, ?_, ?_, ?_⟩
  · intro k p fr col hp hf hr x tm shown hl hc
    refine s.hrstnFallen.applyHostReset_shown hp hf hr hl hc ?_
    show (match x.kept with
      | none => fetchedPixel x.base (layerOf p (.rear k) fr .base) col x.line
      | some h => if h.x0 ≤ col ∧ col < h.x1 then h.slot.pixel (col - h.x0) else none) = _
    cases hk : x.kept with
    | none => exact (basePixel_layer (d := .rear k) (fun h => absurd h nofun) (.inr hk)).symm
    | some h => exact (basePixel_kept hk).symm
  · intro i
    rw [State.setAt, hsets, noSets, List.getElem?_replicate]
    split <;> rfl
  · intro k
    rw [State.rearOf, hrear]
    cases k <;> rfl
  · rw [hct]
    conv_lhs => rw [hcframe]
    rfl
  · rw [hct]; exact hfades e hph hp hn
  · rw [hct]; exact hstays h
  · rw [hload]; exact s.load.hostReset_eq
  · intro i h; rw [hload]; exact hreport i h
  · intro r h; rw [hload] at h; exact honly r h
  · exact fun d => (s.hrstnFallen.applyHostReset_pwm d).1
  · exact fun d => (s.hrstnFallen.applyHostReset_pwm d).2

end Sys2Proof.Machine
end

section
/-! PROOFS. The alpha arithmetic (R28): the combined alpha and the rounded channels, and the channels of the blended
word. O44. -/

namespace Sys2Proof.Machine

open Sys2Proof

/-! ### Alpha on the scale of 256 (R28) -/

/-- An alpha 0..255 on the scale 0..256: `a + a div 128`, 0 for 0 and 256 for 255 (R28). -/
def wideAlpha (a : Nat) : Nat := a + a / 128

theorem wideAlpha_le {a : Nat} (h : a ≤ 255) : wideAlpha a ≤ 256 := by unfold wideAlpha; omega

theorem blendChannel_eq (a f g : Nat) :
    blendChannel a f g = (wideAlpha a * f + (256 - wideAlpha a) * g + 128) / 256 := rfl

/-- A mean of two channels by a weight of 256 parts, rounded, is a channel again. -/
theorem roundedMean_le {w f g : Nat} (hw : w ≤ 256) (hf : f ≤ 255) (hg : g ≤ 255) :
    (w * f + (256 - w) * g + 128) / 256 ≤ 255 := by
  have hsum : w * f + (256 - w) * g ≤ 256 * 255 := calc
    w * f + (256 - w) * g ≤ w * 255 + (256 - w) * 255 :=
      Nat.add_le_add (Nat.mul_le_mul_left _ hf) (Nat.mul_le_mul_left _ hg)
    _ = 256 * 255 := by rw [← Nat.add_mul, Nat.add_sub_cancel' hw]
  omega

theorem channel_le (w : Word) (i : Nat) : channel w i ≤ 255 := Nat.le_of_lt_succ (w.extractLsb' (8 * i) 8).isLt

theorem combinedAlpha_le {la pa : Nat} (hl : la ≤ 255) (hp : pa ≤ 255) : combinedAlpha la pa ≤ 255 := by
  have := roundedMean_le (g := 0) (wideAlpha_le hl) hp (Nat.zero_le _)
  rwa [Nat.mul_zero, Nat.add_zero] at this

theorem blendChannel_le {a f g : Nat} (ha : a ≤ 255) (hf : f ≤ 255) (hg : g ≤ 255) : blendChannel a f g ≤ 255 :=
  roundedMean_le (wideAlpha_le ha) hf hg

/-- A full alpha gives the overlay's channel. -/
theorem blendChannel_full (f g : Nat) : blendChannel 255 f g = f := by
  show (256 * f + 0 * g + 128) / 256 = f; omega

/-- A zero alpha leaves the running value's channel. -/
theorem blendChannel_zero (f g : Nat) : blendChannel 0 f g = g := by
  show (0 * f + 256 * g + 128) / 256 = g; omega

/-! ### The blended word -/

/-- One byte of the blended word. -/
def blendByte (la : Nat) (fg bg : Word) (i : Nat) : Byte :=
  BitVec.ofNat 8 (blendChannel (combinedAlpha la (channel fg 3)) (channel fg i) (channel bg i))

theorem blend_eq (la : Nat) (fg bg : Word) :
    blend la fg bg = (0 : Byte) ++ blendByte la fg bg 2 ++ blendByte la fg bg 1 ++ blendByte la fg bg 0 := rfl

/-- No blend overflows its byte. -/
theorem blendByte_toNat {la : Nat} (hl : la ≤ 255) (fg bg : Word) (i : Nat) :
    (blendByte la fg bg i).toNat =
      blendChannel (combinedAlpha la (channel fg 3)) (channel fg i) (channel bg i) :=
  Nat.mod_eq_of_lt (Nat.lt_succ_of_le
    (blendChannel_le (combinedAlpha_le hl (channel_le fg 3)) (channel_le fg i) (channel_le bg i)))

/-- The channels of a word put together from its bytes. -/
theorem channel_append (x3 x2 x1 x0 : Byte) :
    channel (x3 ++ x2 ++ x1 ++ x0) 0 = x0.toNat ∧ channel (x3 ++ x2 ++ x1 ++ x0) 1 = x1.toNat ∧
      channel (x3 ++ x2 ++ x1 ++ x0) 2 = x2.toNat := by
  have hnext : ∀ {v : Nat} (hi : BitVec v) (lo : Byte) (n : Nat),
      (hi ++ lo).extractLsb' (n + 8) 8 = hi.extractLsb' n 8 := fun _ _ n =>
    BitVec.extractLsb'_append_eq_of_le (Nat.le_add_left 8 n)
  have hlast : ∀ {v : Nat} (hi : BitVec v) (lo : Byte), (hi ++ lo).extractLsb' 0 8 = lo := fun _ _ =>
    BitVec.extractLsb'_append_eq_right
  exact ⟨congrArg BitVec.toNat (hlast _ _), congrArg BitVec.toNat ((hnext _ _ 0).trans (hlast _ _)),
    congrArg BitVec.toNat ((hnext _ _ 8).trans ((hnext _ _ 0).trans (hlast _ _)))⟩

/-- Each colour channel of the blended word is the blend of the channels (R28). -/
theorem channel_blend {la : Nat} (hl : la ≤ 255) (fg bg : Word) {i : Nat} (hi : i < 3) :
    channel (blend la fg bg) i = blendChannel (combinedAlpha la (channel fg 3)) (channel fg i) (channel bg i) := by
  obtain ⟨h0, h1, h2⟩ := channel_append 0 (blendByte la fg bg 2) (blendByte la fg bg 1) (blendByte la fg bg 0)
  rw [← blendByte_toNat hl, blend_eq]
  match i, hi with
  | 0, _ => exact h0
  | 1, _ => exact h1
  | 2, _ => exact h2

/-- The alpha byte of the running value has no part in a blend. -/
theorem blend_congr {la : Nat} {fg bg bg' : Word} (h : ∀ i, i < 3 → channel bg' i = channel bg i) :
    blend la fg bg' = blend la fg bg := by
  have hbyte : ∀ i, i < 3 → blendByte la fg bg' i = blendByte la fg bg i := fun i hi => by
    unfold blendByte; rw [h i hi]
  rw [blend_eq, blend_eq, hbyte 0 (by decide), hbyte 1 (by decide), hbyte 2 (by decide)]

/-- Settles O44: the arithmetic of the alphas, the channels of the blended word, and the stack's two blends. -/
theorem blendFollowsRule : Obligations.BlendFollowsRule := by
  intro la fg bg hla la' a a'
  have ha : a ≤ 255 := combinedAlpha_le hla (channel_le fg 3)
  refine ⟨wideAlpha_le hla, fun h => by subst h; rfl, ha, wideAlpha_le ha, fun i hi => ?_, fun bg' => blend_congr,
    fun p d x fr l o col row ho hov hpix => ho ▸ overlayOver_some hpix hov, fun p d x fr g col row => ⟨_, rfl⟩⟩
  have hchannel : channel (blend la fg bg) i = blendChannel a (channel fg i) (channel bg i) := channel_blend hla fg bg hi
  exact ⟨hchannel, fun h => by rw [hchannel, h, blendChannel_full], fun h => by rw [hchannel, h, blendChannel_zero]⟩

end Sys2Proof.Machine
end

section
/-! PROOFS. What each requester presents, and where (R39, R91, R100, R167, R178, R179). -/

namespace Sys2Proof.Machine

open Sys2Proof

/-! ### HOST: the piece whose turn it is (R39) -/

theorem Piece.isUnissued_iff {x : Piece} : x.isUnissued = true ↔ x.status = .unissued := by
  simp [Piece.isUnissued]

theorem Piece.not_isUnissued {x : Piece} (h : x.status ≠ .unissued) : ¬x.isUnissued = true := mt Piece.isUnissued_iff.mp h

theorem firstPiece_none {t : Piece → Bool} {q : List HostEntry} (h : ∀ e ∈ q, ∀ y ∈ e.pieces, ¬t y = true) :
    firstPiece t q = none := by
  induction q with
  | nil => rfl
  | cons e es ih =>
    have hfind : e.pieces.find? t = none := List.find?_eq_none.mpr (h e List.mem_cons_self)
    unfold firstPiece
    rw [hfind]
    exact ih fun f hf => h f (List.mem_cons_of_mem e hf)

section
variable {t : Piece → Bool} {pre post : List HostEntry} {e : HostEntry} {ps rest : List Piece} {x : Piece}
  (hpre : ∀ f ∈ pre, ∀ y ∈ f.pieces, ¬t y = true) (hps : ∀ y ∈ ps, ¬t y = true) (hx : t x = true)
include hps hx

theorem mapFirst_append (f : Piece → Piece) : mapFirst t f (ps ++ x :: rest) = ps ++ f x :: rest := by
  induction ps with
  | nil => exact if_pos hx
  | cons y ys ih =>
    have hy : ¬t y = true := hps y List.mem_cons_self
    exact (if_neg hy).trans (congrArg (y :: ·) (ih fun z hz => hps z (List.mem_cons_of_mem y hz)))

include hpre
variable (he : e.pieces = ps ++ x :: rest)
include he

/-- The first piece that a test picks, where the queue is taken apart at it. -/
theorem firstPiece_append : firstPiece t (pre ++ e :: post) = some (e, x) := by
  induction pre with
  | nil =>
    have hfind : e.pieces.find? t = some x := List.find?_eq_some_iff_append.mpr ⟨hx, ps, rest, he, by simpa using hps⟩
    show firstPiece t (e :: post) = _
    unfold firstPiece
    rw [hfind]
  | cons g gs ih =>
    have hfind : g.pieces.find? t = none := List.find?_eq_none.mpr (hpre g List.mem_cons_self)
    show firstPiece t (g :: (gs ++ e :: post)) = _
    unfold firstPiece
    rw [hfind]
    exact ih fun f hf => hpre f (List.mem_cons_of_mem g hf)

/-- What is applied to the first piece that a test picks moves that piece alone. -/
theorem mapFirstPiece_append (f : Piece → Piece) :
    mapFirstPiece t f (pre ++ e :: post) = pre ++ { e with pieces := ps ++ f x :: rest } :: post := by
  induction pre with
  | nil =>
    have hany : e.pieces.any t = true := List.any_eq_true.mpr ⟨x, by simp [he], hx⟩
    exact (if_pos hany).trans (by rw [he, mapFirst_append hps hx]; rfl)
  | cons g gs ih =>
    have hany : ¬g.pieces.any t = true := by simpa using hpre g List.mem_cons_self
    exact (if_neg hany).trans (congrArg (g :: ·) (ih fun z hz => hpre z (List.mem_cons_of_mem g hz)))

end

theorem PathState.presents_of_turn {p : PathState} {e : HostEntry} {x : Piece}
    (h : firstPiece Piece.isUnissued p.queue = some (e, x)) :
    p.presents = if x.drop = true then none else some x.burst := by
  unfold PathState.presents PathState.turn; rw [h]; rfl

theorem PathState.presents_none {p : PathState} (h : firstPiece Piece.isUnissued p.queue = none) :
    p.presents = none := by
  unfold PathState.presents PathState.turn; rw [h]; rfl

/-! ### The engines and AUDIO (R33, R91) -/

/-- The requester of a display's engine (R59). -/
def engineOf : Disp → Requester
  | .centre => .scanC
  | .rear .left => .scanRl
  | .rear .right => .scanRr

theorem State.presents_engineOf (s : State) (d : Disp) : s.presents (engineOf d) = (s.display d).presents := by
  rcases d with _ | _ | _ <;> rfl

theorem Display.presents_some {x : Display} {q : ScanReq} (h : x.req = some q) :
    x.presents = if q.granted = true then none else some { write := false, addr := q.addr, beats := q.beats, data := [] } := by
  unfold Display.presents; rw [h]

theorem Display.presents_none {x : Display} (h : x.req = none) : x.presents = none := by
  unfold Display.presents; rw [h]

theorem AudState.presents_some {a : AudState} {k : Seat} {rest : List Seat} {r : RingRecord} {f : Prefetch}
    (hd : a.due = k :: rest) (hr : (Pair.get a.streams k).ring = some r) (hf : r.prefetch = some f) :
    a.presents =
      some (k, { write := false, addr := r.desc.base + 1024 * f.block + 128 * f.granted, beats := 16, data := [] }) := by
  unfold AudState.presents; simp only [hd, hr, hf]

theorem AudState.presents_none {a : AudState} (h : a.due = []) : a.presents = none := by
  unfold AudState.presents; rw [h]

/-! ### CAMERA: the pixels behind those being handed over (R100) -/

theorem ArbState.handing_free {a : ArbState} (h : a.flights.all (·.handed) = true) : a.handing = 0 := by
  have hfind : a.flights.find? (fun g => !g.handed) = none := by simpa using h
  unfold ArbState.handing; rw [hfind]

theorem ArbState.handing_of_find {a : ArbState} {f : Flight} (h : a.flights.find? (fun g => !g.handed) = some f) :
    a.handing = f.pixels := by
  unfold ArbState.handing; rw [h]

theorem Flight.pixels_camera {f : Flight} {n : Nat} (h : f.owner = .camera n) :
    f.pixels = if f.live = true then n else 0 := by
  unfold Flight.pixels; rw [h]

theorem Flight.pixels_other {f : Flight} (h : (∀ n, f.owner ≠ .camera n) ∨ f.live = false) : f.pixels = 0 := by
  unfold Flight.pixels
  split
  · rename_i n hn
    rw [h.resolve_left fun hne => hne n hn]; rfl
  · rfl

theorem CamState.presents_cons {c : CamState} {b : CamBurst} {rest : List CamBurst} (h : c.bursts = b :: rest) (n : Nat) :
    c.presents n =
      some { write := true, addr := b.addr, beats := b.npix / 2, data := pixelBeats ((c.buf.drop n).take b.npix) } := by
  unfold CamState.presents; rw [h]

theorem CamState.presents_nil {c : CamState} (h : c.bursts = []) (n : Nat) : c.presents n = none := by
  unfold CamState.presents; rw [h]

/-! ### LOAD: the control block and the status page (R167, R179) -/

/-- Eight bytes make a beat. -/
theorem beatsOfBytes_length : ∀ l : List Byte, (beatsOfBytes l).length = l.length / 8
  | _ :: _ :: _ :: _ :: _ :: _ :: _ :: _ :: rest => by
    have ih := beatsOfBytes_length rest
    simp only [beatsOfBytes, List.length_cons, ih]
    omega
  | [] | [_] | [_, _] | [_, _, _] | [_, _, _, _] | [_, _, _, _, _] | [_, _, _, _, _, _] | [_, _, _, _, _, _, _] => by
    simp [beatsOfBytes]

/-- The bytes stand in the beats in address order. -/
theorem beatsOfBytes_nth {l : List Byte} {n : Nat} {b : RBeat} (hb : (beatsOfBytes l)[n]? = some b) {j : Nat}
    (hj : j < 8) : l[8 * n + j]? = some (Beat.nth b j) := by
  induction l using beatsOfBytes.induct generalizing n with
  | case1 b0 b1 b2 b3 b4 b5 b6 b7 rest ih =>
    cases n with
    | zero =>
      obtain rfl : _ = b := Option.some.inj hb
      match j, hj with
      | 0, _ | 1, _ | 2, _ | 3, _ | 4, _ | 5, _ | 6, _ | 7, _ => rfl
    | succ n =>
      have hrest : rest[8 * n + j]? = some (Beat.nth b j) := ih hb
      rw [show 8 * (n + 1) + j = 8 * n + j + 8 by omega]
      exact hrest
  | case2 l hl => simp [beatsOfBytes] at hb

/-- A strobed beat carries its bytes, each with its strobe set. -/
theorem strobed_nth (b : RBeat) {j : Nat} (hj : j < 8) : Beat.nth (strobed b) j = ⟨Beat.nth b j, true⟩ := by
  match j, hj with
  | 0, _ | 1, _ | 2, _ | 3, _ | 4, _ | 5, _ | 6, _ | 7, _ => rfl

/-- The data of burst `i` of a report: 128 bytes of its page. -/
def Report.beats (r : Report) (i : Nat) : List WBeat := (beatsOfBytes ((r.page.drop (128 * i)).take 128)).map strobed

/-- R179: a report burst carries the next 128 bytes of the page, every strobe set. -/
theorem Report.beats_page {r : Report} {i : Nat} (hpage : r.page.length = 1024) (hi : i < 8) :
    (r.beats i).length = 16 ∧ ∀ n b, (r.beats i)[n]? = some b → ∀ j, j < 8 →
      (Beat.nth b j).strobe = true ∧ r.page[128 * i + 8 * n + j]? = some (Beat.nth b j).byte := by
  have hlength : (r.beats i).length = 16 := by
    rw [Report.beats, List.length_map, beatsOfBytes_length, List.length_take, List.length_drop, hpage]
    omega
  refine ⟨hlength, fun n b hb j hj => ?_⟩
  have hn : n < 16 := hlength ▸ (List.getElem?_eq_some_iff.mp hb).1
  rw [Report.beats, List.getElem?_map] at hb
  obtain ⟨c, hc, rfl⟩ := Option.map_eq_some_iff.mp hb
  have hbyte := beatsOfBytes_nth hc hj
  rw [List.getElem?_take_of_lt (by omega), List.getElem?_drop, ← Nat.add_assoc] at hbyte
  rw [strobed_nth c hj]
  exact ⟨rfl, hbyte⟩

section
variable {l : LoadState} (cb : Nat)

theorem LoadState.presents_none (h : l.slot = none) : l.presents cb = none := by
  unfold LoadState.presents; simp only [h]

theorem LoadState.presents_readBurst {i : Nat} (h : l.slot = some (.readBurst i)) :
    l.presents cb = some { write := false, addr := cb + 128 * i, beats := 16, data := [] } := by
  unfold LoadState.presents; simp only [h]

theorem LoadState.presents_reread (h : l.slot = some .reread) :
    l.presents cb = some { write := false, addr := cb + 0x008, beats := 1, data := [] } := by
  unfold LoadState.presents; simp only [h]

theorem LoadState.presents_reportBurst {i : Nat} {r : Report} (h : l.slot = some (.reportBurst i))
    (hr : l.report = some r) :
    l.presents cb = some { write := true, addr := cb + 0x800 + 128 * i, beats := 16, data := r.beats i } := by
  unfold LoadState.presents; simp only [h, hr]; rfl

end

end Sys2Proof.Machine
end

section
/-! PROOFS. Who is urgent (R34, R60, R92, R100). -/

namespace Sys2Proof.Machine

open Sys2Proof

/-! ### The engines (R34) -/

/-- A layer covers a display row and has no complete row for it. -/
def LayerBuf.Lacks (b : LayerBuf) (v : LayerView) (y : Nat) : Prop :=
  v.rect.x0 < v.rect.x1 ∧ v.rect.y0 ≤ y ∧ y < v.rect.y1 ∧
    ∀ k ∈ b.slots, k.phase = .complete → ¬(k.first ≤ y ∧ y ≤ k.last)

/-- R34: a layer is short on a line: an active line whose row or next row it lacks, or the last blank line where it lacks
row 0. -/
def LayerBuf.Short (b : LayerBuf) (v : LayerView) (tm : DispTiming) (line : Nat) : Prop :=
  (line < tm.ha ∧ (b.Lacks v line ∨ b.Lacks v (line + 1))) ∨ (tm.ha ≤ line ∧ line + 1 = tm.ha + tm.vb ∧ b.Lacks v 0)

theorem LayerView.coversRow_iff {v : LayerView} {y : Nat} :
    v.coversRow y = true ↔ v.rect.x0 < v.rect.x1 ∧ v.rect.y0 ≤ y ∧ y < v.rect.y1 := by
  unfold LayerView.coversRow LayerView.rows
  rw [decide_eq_true_eq]
  split <;> omega

theorem LayerBuf.lacks_iff {b : LayerBuf} {v : LayerView} {y : Nat} : b.lacks v y = true ↔ b.Lacks v y := by
  have hslots : (b.slots.any fun k => k.phase == .complete && k.shows y) = false ↔
      ∀ k ∈ b.slots, k.phase = .complete → ¬(k.first ≤ y ∧ y ≤ k.last) := by
    rw [List.any_eq_false]
    refine forall₂_congr fun k _ => ?_
    rw [Bool.and_eq_true, beq_iff_eq, LineSlot.shows_iff, not_and]
    exact forall_congr' fun hk => not_congr (and_iff_right (hk ▸ nofun))
  unfold LayerBuf.lacks LayerBuf.Lacks
  rw [Bool.and_eq_true, Bool.not_eq_true', hslots, LayerView.coversRow_iff, and_assoc, and_assoc]

theorem shortLayer_iff {tm : DispTiming} {line : Nat} {b : LayerBuf} {o : Option LayerView} :
    shortLayer tm line b o = true ↔ ∃ v, o = some v ∧ b.Short v tm line := by
  cases o with
  | none => exact ⟨nofun, nofun⟩
  | some v =>
    unfold shortLayer LayerBuf.Short
    by_cases h : line < tm.ha
    · simp [h, LayerBuf.lacks_iff, Nat.not_le.mpr h]
    · simp [h, LayerBuf.lacks_iff, Nat.not_lt.mp h]

theorem State.scanUrgent_iff {s : State} {d : Disp} :
    s.scanUrgent d = true ↔ (s.display d).running = true ∧ ∃ tm l v, s.timing d = some tm ∧ s.layer d l = some v ∧
      ((s.display d).buf l).Short v tm (s.display d).line := by
  have hlayers : ∀ tm, (∃ l v, s.layer d l = some v ∧ ((s.display d).buf l).Short v tm (s.display d).line) ↔
      (shortLayer tm (s.display d).line (s.display d).base (s.layer d .base) ||
        shortLayer tm (s.display d).line (s.display d).ov0 (s.layer d .ov0) ||
        shortLayer tm (s.display d).line (s.display d).ov1 (s.layer d .ov1)) = true := fun tm => by
    rw [Bool.or_eq_true, Bool.or_eq_true, shortLayer_iff, shortLayer_iff, shortLayer_iff]
    refine ⟨?_, ?_⟩
    · rintro ⟨_ | _ | _, h⟩
      · exact .inl (.inl h)
      · exact .inl (.inr h)
      · exact .inr h
    · rintro ((h | h) | h)
      · exact ⟨.base, h⟩
      · exact ⟨.ov0, h⟩
      · exact ⟨.ov1, h⟩
  unfold State.scanUrgent
  cases s.timing d with
  | none => simp
  | some tm => simp [← hlayers tm]

theorem State.urgent_engineOf (s : State) (d : Disp) : s.urgent (engineOf d) = s.scanUrgent d := by
  rcases d with _ | _ | _ <;> rfl

/-! ### AUDIO (R92) -/

theorem Stream.unfinished_iff {st : Stream} :
    st.unfinished = true ↔ ∃ r f, st.ring = some r ∧ r.prefetch = some f ∧ f.back < 8 := by
  unfold Stream.unfinished
  cases hr : st.ring with
  | none => simp
  | some r => cases hf : r.prefetch <;> simp [hf]

theorem AudState.urgent_iff {a : AudState} :
    a.urgent = true ↔
      (∃ k r f, (Pair.get a.streams k).ring = some r ∧ r.prefetch = some f ∧ f.back < 8) ∧
        (a.lastFrame = true ∨ 210 ≤ a.phase) := by
  have hstreams : (a.streams.l.unfinished || a.streams.r.unfinished) = true ↔
      ∃ k, (Pair.get a.streams k).unfinished = true := by
    rw [Bool.or_eq_true]
    refine ⟨?_, ?_⟩
    · rintro (h | h)
      · exact ⟨.left, h⟩
      · exact ⟨.right, h⟩
    · rintro ⟨_ | _, h⟩
      · exact .inl h
      · exact .inr h
  unfold AudState.urgent
  rw [Bool.and_eq_true, hstreams, Bool.or_eq_true, decide_eq_true_eq]
  simp only [Stream.unfinished_iff]

end Sys2Proof.Machine
end

section
/-! PROOFS. What a grant takes from the requester granted, and what the end of a handover frees (R33, R39, R59, R62, R91,
R100, R178). -/

namespace Sys2Proof.Machine

open Sys2Proof

/-! ### AUDIO's prefetch (R91) -/

/-- R91: a burst granted is counted, and with the eighth the prefetch leaves the request slot. -/
theorem AudState.granted_eq {a : AudState} {k : Seat} {rest : List Seat} {r : RingRecord} {f : Prefetch}
    (hd : a.due = k :: rest) (hr : (Pair.get a.streams k).ring = some r) (hf : r.prefetch = some f) :
    a.granted k =
      { a with
        streams := Pair.set a.streams k
          { Pair.get a.streams k with ring := some { r with prefetch := some { f with granted := f.granted + 1 } } },
        due := if f.granted = 7 then rest else k :: rest } := by
  unfold AudState.granted
  simp only [hr, hf, hd, List.drop_one, List.tail_cons, Nat.reduceEqDiff]

/-! ### LOAD's slot (R178) -/

/-- What LOAD may present next: a report's burst first, then the load's own. -/
def LoadState.NextIs (l : LoadState) (w : Option LoadReq) : Prop :=
  (∀ r, l.report = some r → r.granted < 8 → w = some (.reportBurst r.granted)) ∧
    ((∀ r, l.report = some r → 8 ≤ r.granted) →
      (l.phase = .loading → l.stopping = false → l.granted < 10 → w = some (.readBurst l.granted)) ∧
      (l.phase = .loading → l.stopping = false → l.granted = 10 → l.back = 10 → w = some .reread) ∧
      (l.phase ≠ .loading ∨ l.stopping = true ∨ 10 < l.granted ∨ (l.granted = 10 ∧ l.back ≠ 10) → w = none))

/-- The burst of a load that its pass has next (R167, R168). -/
def LoadState.nextRead (l : LoadState) : Option LoadReq :=
  if l.phase = .loading ∧ l.stopping = false then
    if l.granted < 10 then some (.readBurst l.granted)
    else if l.granted = 10 ∧ l.back = 10 then some .reread
    else none
  else none

theorem LoadState.nextRead_burst {l : LoadState} (hp : l.phase = .loading) (hst : l.stopping = false)
    (hg : l.granted < 10) : l.nextRead = some (.readBurst l.granted) := by
  unfold LoadState.nextRead
  rw [if_pos ⟨hp, hst⟩, if_pos hg]

theorem LoadState.nextRead_reread {l : LoadState} (hp : l.phase = .loading) (hst : l.stopping = false)
    (hg : l.granted = 10) (hb : l.back = 10) : l.nextRead = some .reread := by
  unfold LoadState.nextRead
  rw [if_pos ⟨hp, hst⟩, if_neg (by omega), if_pos ⟨hg, hb⟩]

theorem LoadState.nextRead_none {l : LoadState}
    (h : l.phase ≠ .loading ∨ l.stopping = true ∨ 10 < l.granted ∨ (l.granted = 10 ∧ l.back ≠ 10)) :
    l.nextRead = none := by
  unfold LoadState.nextRead
  by_cases hc : l.phase = .loading ∧ l.stopping = false
  · have hpast : 10 < l.granted ∨ (l.granted = 10 ∧ l.back ≠ 10) := by simpa [hc.1, hc.2] using h
    rw [if_pos hc, if_neg (by omega), if_neg (by omega)]
  · exact if_neg hc

/-- An empty slot takes a report's burst, or without one the load's. -/
theorem LoadState.present_empty {l : LoadState} (hs : l.slot = none) :
    (∀ r, l.report = some r → r.granted < 8 → l.present.slot = some (.reportBurst r.granted)) ∧
      ((∀ r, l.report = some r → 8 ≤ r.granted) → l.present.slot = l.nextRead) := by
  unfold LoadState.present
  simp only [hs]
  cases hr : l.report with
  | none => exact ⟨nofun, fun _ => rfl⟩
  | some r =>
    refine ⟨fun r' hr' hg => ?_, fun hg => ?_⟩
    · obtain rfl := Option.some.inj hr'
      simp only [hg, if_true]
    · simp only [Nat.not_lt.mpr (hg r rfl), if_false]
      rfl

theorem LoadState.nextIs_present {l : LoadState} (hs : l.slot = none) : l.NextIs l.present.slot := by
  obtain ⟨hreport, hload⟩ := LoadState.present_empty hs
  refine ⟨hreport, fun hr => ?_⟩
  rw [hload hr]
  exact ⟨LoadState.nextRead_burst, LoadState.nextRead_reread, LoadState.nextRead_none⟩

theorem LoadState.present_nextIs {l : LoadState} (hs : l.slot = none) : l.present.NextIs l.present.slot := by
  rw [l.present_eq]
  exact LoadState.nextIs_present hs

/-- LOAD with the burst in its slot granted. -/
def LoadState.taken (l : LoadState) : LoadReq → LoadState
  | .reportBurst _ => { l with slot := none, report := l.report.map (fun r => { r with granted := r.granted + 1 }) }
  | .readBurst _ | .reread => { l with slot := none, granted := l.granted + 1 }

theorem LoadState.granted1_eq {l : LoadState} {w : LoadReq} (h : l.slot = some w) : l.granted1 = (l.taken w).present := by
  unfold LoadState.granted1
  rw [h]
  cases w <;> rfl

/-- A grant to LOAD moves the slot and the count of the load's or the report's bursts. -/
theorem LoadState.granted1_frame {l : LoadState} {w : LoadReq} (h : l.slot = some w) :
    l.granted1 = { l with slot := l.granted1.slot, granted := l.granted1.granted, report := l.granted1.report } := by
  rw [LoadState.granted1_eq h, LoadState.present_eq]
  cases w <;> rfl

theorem LoadState.granted1_report {l : LoadState} {i : Nat} (h : l.slot = some (.reportBurst i)) :
    l.granted1.granted = l.granted ∧
      l.granted1.report = l.report.map (fun r => { r with granted := r.granted + 1 }) := by
  rw [LoadState.granted1_eq h, LoadState.present_eq]
  exact ⟨rfl, rfl⟩

theorem LoadState.granted1_load {l : LoadState} {w : LoadReq} (h : l.slot = some w) (hw : ∀ i, w ≠ .reportBurst i) :
    l.granted1.granted = l.granted + 1 ∧ l.granted1.report = l.report := by
  rw [LoadState.granted1_eq h, LoadState.present_eq]
  cases w with
  | reportBurst i => exact absurd rfl (hw i)
  | readBurst i => exact ⟨rfl, rfl⟩
  | reread => exact ⟨rfl, rfl⟩

theorem LoadState.granted1_nextIs {l : LoadState} {w : LoadReq} (h : l.slot = some w) :
    l.granted1.NextIs l.granted1.slot := by
  rw [LoadState.granted1_eq h]
  exact LoadState.present_nextIs (by cases w <;> rfl)

/-! ### The grant in the machine -/

/-- PATH with the piece whose turn it is issued (R39). -/
def PathState.issueTurn (p : PathState) : PathState :=
  { p with queue := mapFirstPiece Piece.isUnissued (fun y => { y with status := .issued }) p.queue }

/-- AUD with the burst it presents granted (R91). -/
def AudState.takePresented (a : AudState) : AudState :=
  match a.presents with
  | some x => a.granted x.1
  | none => a

theorem AudState.takePresented_eq {a : AudState} {k : Seat} {b : Burst} (h : a.presents = some (k, b)) :
    a.takePresented = a.granted k := by
  unfold AudState.takePresented; rw [h]

/-- What a grant takes, block by block: each requester's block moves for that requester alone. -/
theorem State.takeGrant_eq (s : State) (q : Requester) :
    s.takeGrant q =
      { s with
        path := if q = .host then s.path.issueTurn else s.path
        disp := ⟨if q = .scanC then s.disp.c.grantReq else s.disp.c, if q = .scanRl then s.disp.l.grantReq else s.disp.l,
          if q = .scanRr then s.disp.r.grantReq else s.disp.r⟩
        cam := if q = .camera then { s.cam with bursts := s.cam.bursts.drop 1 } else s.cam
        aud := if q = .audio then s.aud.takePresented else s.aud
        load := if q = .load then s.load.granted1 else s.load } := by
  cases q with
  | audio =>
    show (match s.aud.presents with | some x => s.setAud (s.aud.granted x.1) | none => s) = s.setAud s.aud.takePresented
    unfold AudState.takePresented
    cases s.aud.presents <;> rfl
  | _ => rfl

/-- What the grant leaves in the machine is what it takes from the requester, and the burst granted. -/
theorem State.grant_eq (s : State) (q : Requester) (b : Burst) :
    s.grant q b = (s.takeGrant q).setArb
      { s.arb.counted s.asks q with
        flights := s.arb.flights ++ [{ owner := s.ownerOf q, live := true, handed := false, burst := b }] } := rfl

section
variable (s : State) (q : Requester) (b : Burst)

theorem State.grant_frame :
    s.grant q b =
      { s with
        arb := (s.grant q b).arb, path := (s.grant q b).path, disp := (s.grant q b).disp, cam := (s.grant q b).cam,
        aud := (s.grant q b).aud, load := (s.grant q b).load } := by
  rw [State.grant_eq, State.takeGrant_eq]; rfl

theorem State.grant_path : (s.grant q b).path = if q = .host then s.path.issueTurn else s.path := by
  rw [State.grant_eq, State.takeGrant_eq]; rfl

theorem State.grant_cam :
    (s.grant q b).cam = if q = .camera then { s.cam with bursts := s.cam.bursts.drop 1 } else s.cam := by
  rw [State.grant_eq, State.takeGrant_eq]; rfl

theorem State.grant_aud : (s.grant q b).aud = if q = .audio then s.aud.takePresented else s.aud := by
  rw [State.grant_eq, State.takeGrant_eq]; rfl

theorem State.grant_load : (s.grant q b).load = if q = .load then s.load.granted1 else s.load := by
  rw [State.grant_eq, State.takeGrant_eq]; rfl

theorem State.grant_display (d : Disp) :
    (s.grant q b).display d = if q = engineOf d then (s.display d).grantReq else s.display d := by
  rw [State.grant_eq, State.takeGrant_eq]
  rcases d with _ | _ | _ <;> rfl

end

/-- R59, R61: with the port free and a burst presented, the grant is made to the requester chosen, for its burst. -/
theorem execArbGrant_grants {s : State} (hfree : s.portFree = true) (hasks : ∃ q, s.asks q = true) :
    ∃ q b, grantChoice s.asks s.urgent s.arb.hostCount s.arb.loadCount = some q ∧ s.presents q = some b ∧
      exec .arbGrant s = .next (s.grant q b) := by
  obtain ⟨q, hq⟩ := Option.isSome_iff_exists.mp (grantChoice_isSome.mpr hasks)
  obtain ⟨b, hb⟩ := Option.isSome_iff_exists.mp (grantChoice_asks hq)
  refine ⟨q, b, hq, hb, ?_⟩
  show execArbGrant s = _
  unfold execArbGrant
  rw [if_pos hfree, hq]
  dsimp only
  rw [hb]

/-! ### The end of a handover (R59, R100) -/

/-- The port is free, and the pixels of the burst handed over leave the head of the line buffer. -/
theorem execBurstHandoverDone_frees {s : State} {f : Flight} (h : s.arb.flights.find? (fun g => !g.handed) = some f) :
    exec .burstHandoverDone s =
      .next { s with
              arb := { s.arb with flights := s.arb.flights.map (fun g => { g with handed := true }) },
              cam := { s.cam with buf := s.cam.buf.drop f.pixels } } := by
  show execBurstHandoverDone s = _
  unfold execBurstHandoverDone
  rw [h]
  rfl

end Sys2Proof.Machine
end

section
/-! PROOFS. O31 from its parts: the grant, the end of a handover, what the requesters present, who is urgent. -/

namespace Sys2Proof.Machine

open Sys2Proof

/-! ### What is taken from each requester -/

section
variable {s : State} {b : Burst}

/-- R39: of HOST the piece in turn is issued. -/
theorem State.grant_host {pre post : List HostEntry} {e : HostEntry} {ps rest : List Piece} {x : Piece}
    (hqueue : s.path.queue = pre ++ e :: post) (hpre : ∀ f ∈ pre, ∀ y ∈ f.pieces, y.status ≠ .unissued)
    (he : e.pieces = ps ++ x :: rest) (hps : ∀ y ∈ ps, y.status ≠ .unissued) (hx : x.status = .unissued) :
    (s.grant .host b).path =
      { s.path with
        queue := pre ++ { e with pieces := ps ++ { x with status := .issued } :: rest } :: post } := by
  rw [State.grant_path, if_pos rfl, PathState.issueTurn, hqueue,
    mapFirstPiece_append (fun f hf y hy => Piece.not_isUnissued (hpre f hf y hy))
      (fun y hy => Piece.not_isUnissued (hps y hy)) (Piece.isUnissued_iff.mpr hx) he]

/-- R33: an engine's request waits for its completion. -/
theorem State.grant_engine (d : Disp) :
    s.ownerOf (engineOf d) = .scan d ∧ (s.grant (engineOf d) b).display d = (s.display d).grantReq := by
  refine ⟨by rcases d with _ | _ | _ <;> rfl, ?_⟩
  rw [State.grant_display, if_pos rfl]

/-- R100: CAMERA's oldest burst leaves its list. -/
theorem State.grant_camera {c : CamBurst} {rest : List CamBurst} (h : s.cam.bursts = c :: rest) :
    s.ownerOf .camera = .camera c.npix ∧ (s.grant .camera b).cam = { s.cam with bursts := rest } := by
  refine ⟨by simp only [State.ownerOf, h], ?_⟩
  rw [State.grant_cam, if_pos rfl, h]
  rfl

/-- R91: the prefetch that holds the request slot counts the burst. -/
theorem State.grant_audio {k : Seat} {rest : List Seat} {r : RingRecord} {f : Prefetch} (hd : s.aud.due = k :: rest)
    (hr : (Pair.get s.aud.streams k).ring = some r) (hf : r.prefetch = some f) :
    s.ownerOf .audio = .audio k ∧ (s.grant .audio b).aud = s.aud.granted k := by
  have hp := AudState.presents_some hd hr hf
  refine ⟨by simp only [State.ownerOf, hp], ?_⟩
  rw [State.grant_aud, if_pos rfl, AudState.takePresented_eq hp]

end

theorem starved_eq (count limit : Nat) (asks : Requester → Bool) (q r : Requester) :
    starved count limit (q == r) (asks r) =
      if q = r then 0 else if asks r = true then min (count + 1) limit else 0 := by
  unfold starved
  simp only [beq_iff_eq]

/-- Settles O31: each clause by the lemma that says what its requester presents, what a grant takes from it, or when it is
urgent. -/
theorem arbRows : Obligations.ArbRows := by
  refine ⟨?_, ?_, ?_, ?_⟩
  · intro s hfree hasks engine
    have hengine : ∀ d, engine d = engineOf d := by rintro (_ | _ | _) <;> rfl
    obtain ⟨q, b, hq, hb, hexec⟩ := execArbGrant_grants hfree hasks
    refine ⟨q, b, s.grant q b, hq, hb, hexec, s.grant_frame q b, rfl, starved_eq .., starved_eq ..,
      fun h => (s.grant_path q b).trans (if_neg h), fun h => (s.grant_cam q b).trans (if_neg h),
      fun h => (s.grant_aud q b).trans (if_neg h), fun h => (s.grant_load q b).trans (if_neg h),
      fun h => (s.grant_display q b .centre).trans (if_neg h),
      fun h => (s.grant_display q b (.rear .left)).trans (if_neg h),
      fun h => (s.grant_display q b (.rear .right)).trans (if_neg h), ?_, ?_, ?_, ?_, ?_⟩
    · rintro pre e post ps x rest rfl hqueue hpre he hps hx
      exact ⟨rfl, State.grant_host hqueue hpre he hps hx⟩
    · intro d hd
      obtain rfl := hd.trans (hengine d)
      exact State.grant_engine d
    · rintro c rest rfl hc
      exact State.grant_camera hc
    · rintro k rest r f rfl hd hr hf
      obtain ⟨howner, haud⟩ := State.grant_audio (b := b) hd hr hf
      exact ⟨howner, haud.trans (AudState.granted_eq hd hr hf)⟩
    · rintro w rfl hw
      have howner : s.ownerOf .load = w.owner := by simp only [State.ownerOf, hw]
      obtain ⟨hreport, hload⟩ := LoadState.granted1_nextIs hw
      rw [State.grant_load, if_pos rfl, howner]
      exact ⟨LoadState.granted1_frame hw, fun i h => h ▸ rfl, fun h => h ▸ rfl,
        fun i h => ⟨h ▸ rfl, LoadState.granted1_report (h ▸ hw)⟩, LoadState.granted1_load hw, hreport, hload⟩
  · intro s f hf
    refine ⟨_, execBurstHandoverDone_frees hf, rfl, by simp [State.portFree], rfl, fun n hn hlive => ?_, fun h => ?_⟩
    · rw [Flight.pixels_camera hn, if_pos hlive]
    · rw [Flight.pixels_other h]; rfl
  · intro s b rest hb
    refine ⟨CamState.presents_cons hb _, ArbState.handing_free, fun f n hf hn => ?_, fun a c xs => rfl⟩
    rw [ArbState.handing_of_find hf, Flight.pixels_camera hn]
  · intro s engine
    have hengine : ∀ d, engine d = engineOf d := by rintro (_ | _ | _) <;> rfl
    have hpresents : ∀ d, s.presents (engine d) = (s.display d).presents := fun d =>
      (congrArg s.presents (hengine d)).trans (s.presents_engineOf d)
    have hurgent : ∀ d, s.urgent (engine d) = s.scanUrgent d := fun d =>
      (congrArg s.urgent (hengine d)).trans (s.urgent_engineOf d)
    refine ⟨fun pre e post ps x rest hqueue hpre he hps hx => ?_, fun h => ?_,
      fun d q hq => (hpresents d).trans (Display.presents_some hq), fun d hd => (hpresents d).trans (Display.presents_none hd),
      fun h => CamState.presents_nil h _, fun h => congrArg (Option.map Prod.snd) (AudState.presents_none h),
      fun k rest r f hd hr hf => congrArg (Option.map Prod.snd) (AudState.presents_some hd hr hf),
      LoadState.presents_none _, fun i => LoadState.presents_readBurst _, LoadState.presents_reread _,
      fun i r hi hr => ⟨r.beats i, LoadState.presents_reportBurst _ hi hr, Report.beats_page⟩,
      rfl, rfl, decide_eq_true_iff, AudState.urgent_iff,
      fun d => hurgent d ▸ State.scanUrgent_iff⟩
    · refine PathState.presents_of_turn (e := e) ?_
      rw [hqueue]
      exact firstPiece_append (fun f hf y hy => Piece.not_isUnissued (hpre f hf y hy)) (fun y hy => Piece.not_isUnissued (hps y hy))
        (Piece.isUnissued_iff.mpr hx) he
    · exact PathState.presents_none (firstPiece_none fun e he y hy => Piece.not_isUnissued (h e he y hy))

end Sys2Proof.Machine
end

section
/-! PROOFS. The active region table (R41, R42, R44, R169, R171): the rows that change it, and that its entries keep their
geometry and stay apart from each other, the control block and the camera region. -/

namespace Sys2Proof.Machine

open Sys2Proof

/-! ### The rows that leave the table (R41, R44, R171) -/

/-- A notice leaves the table: of PATH it changes the shadows and the count of incomplete writes alone. -/
theorem State.notice_table (s : State) (n : Notice) : (s.notice n).path.table = s.path.table := by
  cases n with
  | chimeWrite j seqNo action pattern =>
    simp only [State.notice, State.chimeWrite]
    split
    · rfl
    · rw [State.takeChime_path]; rfl
  | filmPixel i b => rw [State.notice, State.filmPixelWrite_path]
  | filmTag i b bytes => rw [State.notice, State.filmTagWrite_path]
  | generation gen scope => rfl
  | acknowledge w => rfl
  | audioBlock i j e => rfl
  | partialWrite => rfl

theorem State.notify_table (s : State) (ns : List Notice) : (s.notify ns).path.table = s.path.table :=
  foldl_keeps State.notice (·.path.table) State.notice_table ns s

/-- A load check changes the table where a FULL load is accepted. -/
theorem execLoadCheck_table {s t : State} (h : exec .loadCheck s = .next t) :
    t.path.table = s.path.table ∨
      (s.load.phase = .checking ∧ s.load.loadScope = 0 ∧ s.verdict = none ∧
        t.path.table = readTable (beatsByte s.load.staged) ∧ t.load.loaded = s.load.loadGen) := by
  by_cases hc : s.load.phase = .checking
  · rw [execLoadCheck_of_checking hc] at h
    injection h with h
    subst h
    cases hv : s.verdict with
    | some e => rw [State.endChecking_refuses hv]; exact .inl rfl
    | none =>
      rw [State.endChecking_accepts hv]
      by_cases hs : s.load.loadScope = 0
      · refine .inr ⟨hc, hs, rfl, ?_, (s.load.accepted_finish _).1⟩
        rw [State.setLoad_path, State.handOver_path_eq, State.tableTaken_full hs, State.swapTable_path]
      · rw [State.setLoad_path, (State.handOver_scenes hs).1]; exact .inl rfl
  · simp only [exec, execLoadCheck, if_neg hc] at h
    injection h with h
    exact .inl (h ▸ rfl)

/-- Every row but a reset, the definition of the camera region and a load check leaves the table. -/
theorem exec_table {c : Instr} {s t : State} (h : exec c s = .next t) (hreset : c ≠ .powerOnReset)
    (hhost : c ≠ .hostReset) (hdefine : c ≠ .cameraRegionDefine) (hcheck : c ≠ .loadCheck) :
    t.path.table = s.path.table := by
  cases c with
  | powerOnReset => exact absurd rfl hreset
  | hostReset => exact absurd rfl hhost
  | cameraRegionDefine => exact absurd rfl hdefine
  | loadCheck => exact absurd rfl hcheck
  | hostRequest q =>
    simp only [exec, execHostRequest] at h
    (repeat' split at h) <;> first | (injection h with h; subst h; rfl) | cases h
  | arbGrant =>
    simp only [exec, execArbGrant] at h
    (repeat' split at h) <;> (injection h with h; subst h)
    · rw [State.grant_path]; split <;> rfl
    all_goals rfl
  | hostPieceDrop =>
    simp only [exec, execHostPieceDrop] at h
    (repeat' split at h) <;> (injection h with h; subst h; rfl)
  | hostPieceComplete r =>
    simp only [exec, execHostPieceComplete] at h
    (repeat' split at h) <;> first | (injection h with h; subst h) | cases h
    · rw [State.notify_table]; rfl
    all_goals rfl
  | loadReadBurstComplete r =>
    simp only [exec, execLoadReadBurstComplete] at h
    (repeat' split at h) <;> first | (injection h with h; subst h; rfl) | cases h
  | loadRereadComplete r =>
    simp only [exec, execLoadRereadComplete] at h
    (repeat' split at h) <;> first | (injection h with h; subst h; rfl) | cases h
  | reportBurstComplete err =>
    simp only [exec, execReportBurstComplete] at h
    (repeat' split at h) <;> (injection h with h; subst h; rfl)
  | scanBurstComplete d r =>
    simp only [exec, execScanBurstComplete] at h
    (repeat' split at h) <;> first | (injection h with h; subst h) | cases h
    · rw [State.refill_path, State.scanBack_eq]
      cases r with
      | ok data => rfl
      | error => rfl
    all_goals rfl
  | audioBurstComplete r =>
    simp only [exec, execAudioBurstComplete] at h
    (repeat' split at h) <;> first | (injection h with h; subst h; rfl) | cases h
  | cameraBurstComplete err =>
    simp only [exec, execCameraBurstComplete] at h
    (repeat' split at h) <;> (injection h with h; subst h; rfl)
  | _ => exact congrArg (·.path.table) (exec_frame h)

/-! ### The control block's place (R180) -/

/-- The control block is placed by the release of PORN and by power-on reset alone. -/
theorem exec_cbBase {c : Instr} {s t : State} (h : exec c s = .next t) (hreset : c ≠ .powerOnReset)
    (hrelease : ∀ n, c ≠ .pornRelease n) : t.boot.cbBase = s.boot.cbBase := by
  have hadv : ∀ n, (s.advance n).boot.cbBase = s.boot.cbBase := by
    intro n; rw [s.advance_boot]; split <;> rfl
  cases c with
  | powerOnReset => exact absurd rfl hreset
  | pornRelease n => exact absurd rfl (hrelease n)
  | cameraRegionDefine =>
    rcases execCameraRegionDefine_boot h with e | ⟨-, e⟩
    · rw [e]
    · rw [e]
  | clockCheckEnd e =>
    simp only [exec, execClockCheckEnd] at h
    split at h
    · split at h <;> (injection h with h; rw [← h])
      · rw [State.startReferenceBlocks_boot]; exact hadv e
      · exact hadv e
    · injection h with h; rw [h]
  | profileLengthRead a b =>
    simp only [exec, execProfileLengthRead] at h
    (repeat' split at h) <;> (injection h with h; subst h; rfl)
  | profileReadDone rest =>
    simp only [exec, execProfileReadDone] at h
    (repeat' split at h) <;> first | (injection h with h; subst h; rfl) | cases h
  | cameraFrameStart e =>
    simp only [exec, execCameraFrameStart] at h
    split at h <;> (injection h with h; rw [← h])
    · exact hadv e
    · exact hadv e
  | _ => exact congrArg (·.boot.cbBase) (exec_frame h)

/-! ### Tables that are sound -/

theorem Region.holds_iff {r : Region} {a : Nat} :
    r.holds a = true ↔ r.extent.1 ≤ a ∧ a < r.extent.1 + r.extent.2 := decide_eq_true_iff

theorem Region.absent_holds (a : Nat) : Region.absent.holds a = false :=
  decide_eq_false (show ¬(0 ≤ a ∧ a < 0 + 0) by omega)

theorem entryAt_of_length {table : List Region} {i : Nat} (h : table.length ≤ i) : entryAt table i = .absent :=
  List.getD_eq_default _ _ h

/-- The empty table is sound wherever the control block and the camera region lie (R41, R180). -/
theorem tableApart_empty (cb : Nat) (cam : Option CamRegion) : TableApart emptyTable cb cam := by
  have hentry : ∀ i, entryAt emptyTable i = .absent := by
    intro i
    unfold entryAt emptyTable
    rw [List.getD_eq_getElem?_getD, List.getElem?_replicate]
    split <;> rfl
  have hholds : ∀ i a, (entryAt emptyTable i).holds a ≠ true := by
    intro i a h
    rw [hentry, Region.absent_holds] at h
    cases h
  exact ⟨fun i => hentry i ▸ trivial, fun i j a h => absurd h (hholds i a), fun i a h => absurd h (hholds i a)⟩

/-- R44: the definition of the camera region takes out the entries it overlaps, and keeps the others. -/
theorem TableApart.clean {table : List Region} {cb : Nat} {cam : Option CamRegion} (h : TableApart table cb cam)
    (c : CamRegion) : TableApart (cleanTable table c) cb (some c) := by
  obtain ⟨hfits, happart, haway⟩ := h
  have hkept : ∀ i a, (entryAt (cleanTable table c) i).holds a = true →
      (entryAt table i).holds a = true ∧ (entryAt table i).meetsCam c = false := by
    intro i a ha
    rw [entryAt_cleanTable] at ha
    by_cases hm : (entryAt table i).meetsCam c = true
    · rw [if_pos hm, Region.absent_holds] at ha; cases ha
    · rw [if_neg hm] at ha; exact ⟨ha, Bool.eq_false_iff.mpr hm⟩
  refine ⟨fun i => ?_, fun i j a hi hj => happart i j a (hkept i a hi).1 (hkept j a hj).1, fun i a hi => ?_⟩
  · rw [entryAt_cleanTable]
    split
    · trivial
    · exact hfits i
  · obtain ⟨ha, hm⟩ := hkept i a hi
    refine ⟨(haway i a ha).1, fun c' hc => ?_⟩
    obtain rfl := Option.some.inj hc
    refine decide_eq_false fun hcam => ?_
    exact Bool.eq_false_iff.mp hm (rangesMeet_iff.mpr ⟨a, Region.holds_iff.mp ha, hcam⟩)

/-- A descriptor that passes Table 56's geometry has the geometry of Table 62. -/
theorem Region.fits_of_goodGeometry {r : Region} (h : badGeometry r = false) : r.Fits := by
  have hextent : ∀ b n, ¬badExtent b n = true → b % 4096 = 0 ∧ 0 < n ∧ n % 4096 = 0 ∧ b + n ≤ 2 ^ 32 := by
    intro b n hb
    rw [badExtent_iff] at hb
    omega
  cases r with
  | absent => trivial
  | film f =>
    simp only [badGeometry, Bool.or_eq_false_iff, Bool.not_eq_false', decide_eq_true_eq] at h
    obtain ⟨h1, h2, h3, h4⟩ := hextent _ _ (Bool.eq_false_iff.mp h.1)
    exact ⟨h1, h2, h3, h4, h.2⟩
  | overlay o =>
    simp only [badGeometry, Bool.or_eq_false_iff, Bool.not_eq_false', decide_eq_true_eq] at h
    obtain ⟨h1, h2, h3, h4⟩ := hextent _ _ (Bool.eq_false_iff.mp h.1)
    exact ⟨h1, h2, h3, h4, h.2⟩
  | audio g =>
    simp only [badGeometry, Bool.or_eq_false_iff, Bool.not_eq_false', decide_eq_true_eq] at h
    obtain ⟨h1, h2, h3, h4⟩ := hextent _ _ (Bool.eq_false_iff.mp h.1)
    exact ⟨h1, h2, h3, h4, h.2⟩

/-- R169: a FULL load is accepted where each of its descriptors passes. -/
theorem checkLoad_none_descriptors {rd : Nat → Nat} {scope : Byte} {active : List Region} {cb : Nat}
    {cam : Option CamRegion} (h : checkLoad rd scope active cb cam = none) (hs : scope = 0) :
    ∀ i, i < 16 → DescGood rd cb cam i := by
  have hversion : VersionOk rd scope := by
    by_contra hv
    rw [checkLoad_version hv] at h
    cases h
  intro i
  induction i using Nat.strong_induction_on with
  | _ i ih =>
    intro hi
    obtain ⟨hkind, hgeometry, hoverlap⟩ :=
      checkLoad_descriptors (active := active) hversion hs hi fun j hj => ih j hj (Nat.lt_trans hj hi)
    simp only [h, reduceCtorEq, imp_false] at hkind hgeometry hoverlap
    exact ⟨hkind, hgeometry hkind, hoverlap hkind (hgeometry hkind)⟩

/-- The table that an accepted FULL load brings is sound. -/
theorem tableApart_readTable {rd : Nat → Nat} {cb : Nat} {cam : Option CamRegion}
    (h : ∀ i, i < 16 → DescGood rd cb cam i) : TableApart (readTable rd) cb cam := by
  have hbeyond : ∀ i, ¬i < 16 → entryAt (readTable rd) i = .absent := fun i hi =>
    entryAt_of_length (by simpa [readTable] using hi)
  have hholds : ∀ i a, (entryAt (readTable rd) i).holds a = true → i < 16 ∧ descHolds rd i a := by
    intro i a ha
    by_cases hi : i < 16
    · rw [entryAt_readTable rd hi] at ha
      exact ⟨hi, (descHolds_iff (FailsKind.le_three (h i hi).1)).mpr (Region.holds_iff.mp ha)⟩
    · rw [hbeyond i hi, Region.absent_holds] at ha; cases ha
  have hearlier : ∀ i j a, j < i → (entryAt (readTable rd) i).holds a = true →
      ¬(entryAt (readTable rd) j).holds a = true := by
    intro i j a hji hi hj
    obtain ⟨hi16, hia⟩ := hholds i a hi
    exact (h i hi16).2.2 (FailsOverlap_iff.mpr ⟨a, hia, .inl ⟨j, hji, (hholds j a hj).2⟩⟩)
  refine ⟨fun i => ?_, fun i j a hi hj => ?_, fun i a hi => ?_⟩
  · by_cases hi : i < 16
    · rw [entryAt_readTable rd hi]
      obtain ⟨hk, hg, -⟩ := h i hi
      exact Region.fits_of_goodGeometry (Bool.eq_false_iff.mpr (mt (badGeometry_iff (FailsKind.le_three hk)).mp hg))
    · rw [hbeyond i hi]; trivial
  · rcases Nat.lt_trichotomy i j with hij | hij | hij
    · exact absurd hi (hearlier j i a hij hj)
    · exact hij
    · exact absurd hj (hearlier i j a hij hi)
  · obtain ⟨hi16, hia⟩ := hholds i a hi
    have hno := mt FailsOverlap_iff.mpr (h i hi16).2.2
    refine ⟨fun hcb => hno ⟨a, hia, .inr (.inl hcb)⟩, fun c hc => decide_eq_false fun hcam => ?_⟩
    exact hno ⟨a, hia, .inr (.inr ⟨c, hc, hcam⟩)⟩

/-! ### Every row keeps the table sound -/

theorem execHostReset_path {s t : State} (h : exec .hostReset s = .next t) :
    t.path = s.path ∨ t.path = s.path.hostReset := by
  simp only [exec, execHostReset] at h
  (repeat' split at h) <;> (injection h with h; rw [← h])
  · exact .inl rfl
  · exact .inl rfl
  · exact .inr (by simp [State.applyHostReset])

theorem execCameraRegionDefine_path {s t : State} (h : exec .cameraRegionDefine s = .next t) :
    t.path = s.path ∨ ∃ c, t.path = { s.path with table := cleanTable s.path.table c, cam := some c } := by
  simp only [exec, execCameraRegionDefine] at h
  split at h <;> (injection h with h; rw [← h])
  · rw [State.startProfileBlocks_path, State.defineCamera_path]; exact .inr ⟨_, rfl⟩
  · exact .inl rfl

/-- A row that leaves the table, the camera region and the control block in their places keeps the table sound. -/
theorem TableSound.of_places {s t : State} (h : TableSound s) (htable : t.path.table = s.path.table)
    (hcb : t.boot.cbBase = s.boot.cbBase) (hcam : t.path.cam = s.path.cam) : TableSound t := by
  unfold TableSound
  rw [htable, hcb, hcam]
  exact h

theorem exec_tableSound {c : Instr} {s t : State} (hs : TableSound s) (hheld : HeldInReset s)
    (h : exec c s = .next t) : TableSound t := by
  have hboot : (∀ n, c ≠ .pornRelease n) → c ≠ .powerOnReset → t.boot.cbBase = s.boot.cbBase :=
    fun hn hr => exec_cbBase h hr hn
  cases c with
  | powerOnReset =>
    injection h with h
    exact h ▸ tableApart_empty _ _
  | pornRelease n =>
    simp only [exec, execPornRelease] at h
    split at h <;> (injection h with h; rw [← h])
    · rename_i hreset
      have htable : s.path.table = emptyTable := by rw [hheld hreset]; rfl
      unfold TableSound
      rw [State.setBoot_path, htable]
      exact tableApart_empty _ _
    · exact hs
  | hostReset =>
    rcases execHostReset_path h with e | e
    · exact hs.of_places (by rw [e]) (hboot (by simp) (by simp)) (by rw [e])
    · unfold TableSound
      rw [e]
      exact tableApart_empty _ _
  | cameraRegionDefine =>
    rcases execCameraRegionDefine_path h with e | ⟨c, e⟩
    · exact hs.of_places (by rw [e]) (hboot (by simp) (by simp)) (by rw [e])
    · unfold TableSound
      rw [e, hboot (by simp) (by simp)]
      exact TableApart.clean hs c
  | loadCheck =>
    have hcam := (exec_path h (by simp) (by simp)).1
    rcases execLoadCheck_table h with e | ⟨-, hscope, hv, e, -⟩
    · exact hs.of_places e (hboot (by simp) (by simp)) hcam
    · unfold TableSound
      rw [e, hboot (by simp) (by simp), hcam]
      exact tableApart_readTable (checkLoad_none_descriptors hv hscope)
  | _ =>
    exact hs.of_places (exec_table h (by simp) (by simp) (by simp) (by simp)) (hboot (by simp) (by simp))
      (exec_path h (by simp) (by simp)).1

theorem HeldInReset.setPending {s : State} (h : HeldInReset s) (l : List Instr) : HeldInReset (s.setPending l) :=
  fun hreset => (congrArg (·.setPending l) (h hreset)).trans rfl

/-- Settles O17: `exec_table` with the rows that change the table, and, for every step, `exec_tableSound`. -/
theorem tableChangesOnlyAt : Obligations.TableChangesOnlyAt := by
  unfold Obligations.TableChangesOnlyAt
  refine ⟨fun c s t h hne => ?_, fun s t ⟨hs, hheld⟩ h => ?_⟩
  · by_cases hreset : c = .powerOnReset
    · exact .inl hreset
    by_cases hhost : c = .hostReset
    · exact .inr (.inl hhost)
    by_cases hdefine : c = .cameraRegionDefine
    · exact .inr (.inr (.inl hdefine))
    by_cases hcheck : c = .loadCheck
    · subst hcheck
      obtain ⟨hc, hscope, -, -, hloaded⟩ := (execLoadCheck_table h).resolve_left hne
      exact .inr (.inr (.inr ⟨rfl, hc, hscope, hloaded⟩))
    · exact absurd (exec_table h hreset hhost hdefine hcheck) hne
  · unfold step at h
    split at h
    · injection h with h
      subst h
      refine hs.of_places (by rw [State.advance_path]) ?_ (by rw [State.advance_path])
      rw [s.advance_boot]; split <;> rfl
    · refine exec_tableSound ?_ (hheld.setPending _) h
      exact hs

end Sys2Proof.Machine
end

section
/-! PROOFS. Who is granted (R61). -/

namespace Sys2Proof.Machine

open Sys2Proof

/-- The order of R61: the requesters of the list who stand first and have their condition, or else the next. -/
theorem grantChoice_eq (asks urgent : Requester → Bool) (h l : Nat) :
    grantChoice asks urgent h l =
      if (asks .scanC && urgent .scanC) = true then some .scanC
      else if (asks .camera && urgent .camera) = true then some .camera
      else if 8 ≤ h ∧ asks .host = true then some .host
      else if (asks .audio && urgent .audio) = true then some .audio
      else if (asks .scanRl && urgent .scanRl) = true then some .scanRl
      else if (asks .scanRr && urgent .scanRr) = true then some .scanRr
      else if 64 ≤ l ∧ asks .load = true then some .load
      else [Requester.host, .scanC, .camera, .audio, .scanRl, .scanRr, .load].find? asks := by
  have hordinary : ∀ qs : List Requester,
      ((qs.map (fun q => (q, true))).find? (fun x => x.2 && asks x.1)).map (·.1) = qs.find? asks := by
    intro qs
    induction qs with
    | nil => rfl
    | cons q qs ih =>
      cases hq : asks q with
      | true => simp [hq]
      | false => simpa [hq] using ih
  have hnext : ∀ (q : Requester) (c : Bool) (xs : List (Requester × Bool)),
      (((q, c) :: xs).find? (fun x => x.2 && asks x.1)).map (·.1) =
        if (c && asks q) = true then some q else (xs.find? (fun x => x.2 && asks x.1)).map (·.1) := by
    intro q c xs
    cases hc : (c && asks q) <;> simp [hc]
  have hlist : grantList urgent h l =
      [(.scanC, urgent .scanC), (.camera, urgent .camera), (.host, decide (8 ≤ h)), (.audio, urgent .audio),
       (.scanRl, urgent .scanRl), (.scanRr, urgent .scanRr), (.load, decide (64 ≤ l))] ++
        [Requester.host, .scanC, .camera, .audio, .scanRl, .scanRr, .load].map (fun q => (q, true)) := rfl
  rw [grantChoice, hlist]
  simp only [List.cons_append, List.nil_append, hnext, hordinary, Bool.and_comm, Bool.and_eq_true, decide_eq_true_eq,
    and_comm]

/-- Settles O30: each clause is a branch of the order of R61. -/
theorem grantFollowsOrder : Obligations.GrantFollowsOrder := by
  unfold Obligations.GrantFollowsOrder
  intro asks urgent h l ready
  have hno : ∀ q, ready q = false → ¬(asks q && urgent q) = true := fun q hq => Bool.eq_false_iff.mp hq
  simp only [grantChoice_eq]
  refine ⟨fun hc => if_pos hc, fun hc hcam => ?_, fun hc hcam h8 hh => ?_, fun hc hcam hh => ?_⟩
  · rw [if_neg (hno _ hc)]; exact if_pos hcam
  · rw [if_neg (hno _ hc), if_neg (hno _ hcam)]; exact if_pos ⟨h8, hh⟩
  · rw [if_neg (hno _ hc), if_neg (hno _ hcam), if_neg hh]
    refine ⟨fun ha => if_pos ha, fun ha hl => ?_, fun ha hl hr => ?_, fun ha hl hr => ?_⟩
    · rw [if_neg (hno _ ha)]; exact if_pos hl
    · rw [if_neg (hno _ ha), if_neg (hno _ hl)]; exact if_pos hr
    · rw [if_neg (hno _ ha), if_neg (hno _ hl), if_neg (hno _ hr)]
      exact ⟨fun h64 => if_pos h64, fun h64 => if_neg h64⟩

end Sys2Proof.Machine
end

section
/-! PROOFS. The pieces of a request (R42, R43): the runs of its beats, what each piece is made of, and the zones of the
bytes (Table 16). -/

namespace Sys2Proof.Machine

open Sys2Proof

/-! ### Runs -/

section
variable {κ : Type}

/-- Where a run stands in the list it is a run of. -/
theorem flatMap_replicate_getElem {rs : List (κ × Nat)} {m n j : Nat} {k : κ} (h : rs[m]? = some (k, n)) (hj : j < n) :
    (rs.flatMap (fun x => List.replicate x.2 x.1))[((rs.take m).map (·.2)).sum + j]? = some k := by
  induction rs generalizing m with
  | nil => simp at h
  | cons r rs ih =>
    cases m with
    | zero =>
      obtain rfl : r = (k, n) := by simpa using h
      simp [List.getElem?_append_left, hj]
    | succ m =>
      have hrest := ih (m := m) (by simpa using h)
      rw [List.flatMap_cons, List.take_succ_cons, List.map_cons, List.sum_cons, Nat.add_assoc,
        List.getElem?_append_right (by simp), List.length_replicate, Nat.add_sub_cancel_left]
      exact hrest

variable [DecidableEq κ]

theorem keyRuns_sum (l : List κ) : ((keyRuns l).map (·.2)).sum = l.length := by
  have h := congrArg List.length (keyRuns_flatMap l)
  rw [List.length_flatMap] at h
  simpa using h

theorem keyRuns_getElem {l : List κ} {m n j : Nat} {k : κ} (h : (keyRuns l)[m]? = some (k, n)) (hj : j < n) :
    l[(((keyRuns l).take m).map (·.2)).sum + j]? = some k := by
  have := flatMap_replicate_getElem h hj
  rwa [keyRuns_flatMap] at this

/-- Neighbouring runs are of different elements. -/
theorem keyRuns_chain (l : List κ) : (keyRuns l).IsChain (fun x y => x.1 ≠ y.1) := by
  induction l with
  | nil => exact List.IsChain.nil
  | cons k ks ih =>
    unfold keyRuns
    cases h : keyRuns ks with
    | nil => exact List.IsChain.singleton _
    | cons x rest =>
      obtain ⟨k', n⟩ := x
      rw [h] at ih
      dsimp only
      split
      · cases rest with
        | nil => exact List.IsChain.singleton _
        | cons y rest =>
          rw [List.isChain_cons_cons] at ih ⊢
          exact ⟨‹k = k'› ▸ ih.1, ih.2⟩
      · exact List.isChain_cons_cons.mpr ⟨‹_›, ih⟩

end

/-! ### The pieces of a request (R42, R43) -/

/-- What must agree for neighbouring beats to stay together, beat by beat of a request. -/
def PathState.keys (p : PathState) (q : HostReq) : List (Zone × Nat) :=
  (List.range q.op.beats).map (fun i => p.cutKey (reqAddr q + 8 * i))

theorem PathState.classify_beyond {p : PathState} {q : HostReq} (h : reqBeyondTop q = true) : p.classify q = [] := if_pos h

theorem PathState.classify_within {p : PathState} {q : HostReq} (h : reqBeyondTop q = false) :
    p.classify q = p.mkPieces q 0 (keyRuns (p.keys q)) := if_neg (Bool.eq_false_iff.mp h)

theorem PathState.mkPieces_getElem (p : PathState) (q : HostReq) (rs : List ((Zone × Nat) × Nat)) (first m : Nat) :
    (p.mkPieces q first rs)[m]? =
      rs[m]?.map (fun r => p.mkPiece q r.1.1 (first + ((rs.take m).map (·.2)).sum) r.2) := by
  induction rs generalizing first m with
  | nil => rfl
  | cons r rs ih =>
    obtain ⟨⟨z, c⟩, n⟩ := r
    cases m with
    | zero => rfl
    | succ m =>
      rw [PathState.mkPieces, List.getElem?_cons_succ, List.getElem?_cons_succ, ih, List.take_succ_cons, List.map_cons,
        List.sum_cons, Nat.add_assoc]

theorem PathState.mkPieces_beats (p : PathState) (q : HostReq) (rs : List ((Zone × Nat) × Nat)) (first : Nat) :
    (p.mkPieces q first rs).map (fun x => x.burst.beats) = rs.map (·.2) := by
  induction rs generalizing first with
  | nil => rfl
  | cons r rs ih =>
    obtain ⟨⟨z, c⟩, n⟩ := r
    rw [PathState.mkPieces, List.map_cons, ih]
    rfl

/-- A run of the beats has their number of beats. -/
theorem PathState.classify_beats {p : PathState} {q : HostReq} (h : reqBeyondTop q = false) :
    (p.classify q).map (fun x => x.burst.beats) = (keyRuns (p.keys q)).map (·.2) := by
  rw [PathState.classify_within h, PathState.mkPieces_beats]

theorem PathState.keys_length (p : PathState) (q : HostReq) : (p.keys q).length = q.op.beats := by simp [PathState.keys]

theorem PathState.keys_getElem {p : PathState} {q : HostReq} {i : Nat} {k : Zone × Nat} (h : (p.keys q)[i]? = some k) :
    i < q.op.beats ∧ p.cutKey (reqAddr q + 8 * i) = k := by
  have hlt := (List.getElem?_eq_some_iff.mp h).1
  rw [PathState.keys_length] at hlt
  rw [PathState.keys, List.getElem?_map, List.getElem?_range hlt] at h
  exact ⟨hlt, Option.some.inj h⟩

/-- A piece of a request: one run of its beats that agree in their key `k`. -/
structure PathState.IsPiece (p : PathState) (q : HostReq) (k : Zone × Nat) (x : Piece) : Prop where
  made : x = p.mkPiece q k.1 x.first x.burst.beats
  pos : 1 ≤ x.burst.beats
  within : x.first + x.burst.beats ≤ q.op.beats
  key : ∀ j, j < x.burst.beats → p.cutKey (x.logical + 8 * j) = k

section
variable {p : PathState} {q : HostReq} {k : Zone × Nat} {x : Piece}

/-- The pieces of a request are its runs of equal keys, in their order. -/
theorem PathState.classify_getElem {m : Nat} (h : (p.classify q)[m]? = some x) :
    ∃ k, (keyRuns (p.keys q))[m]? = some (k, x.burst.beats) ∧
      x.first = (((p.classify q).take m).map (fun y => y.burst.beats)).sum ∧ p.IsPiece q k x := by
  cases htop : reqBeyondTop q with
  | true => rw [PathState.classify_beyond htop] at h; simp at h
  | false =>
    rw [PathState.classify_within htop, PathState.mkPieces_getElem, Option.map_eq_some_iff] at h
    obtain ⟨⟨k, n⟩, hrun, rfl⟩ := h
    have hat := fun j (hj : j < n) => PathState.keys_getElem (keyRuns_getElem hrun hj)
    have hpos : 1 ≤ n := keyRuns_pos _ _ (List.mem_of_getElem? hrun)
    refine ⟨k, hrun, ?_, rfl, hpos, ?_, fun j hj => ?_⟩
    · rw [List.map_take (l := p.classify q), PathState.classify_beats htop, ← List.map_take]
      exact Nat.zero_add _
    · have hlast := (hat (n - 1) (by omega)).1
      show 0 + (((keyRuns (p.keys q)).take m).map (·.2)).sum + n ≤ q.op.beats
      omega
    · rw [← (hat j hj).2]
      refine congrArg p.cutKey ?_
      show reqAddr q + 8 * (0 + _) + 8 * j = _
      omega

theorem PathState.classify_isPiece (h : x ∈ p.classify q) : ∃ k, p.IsPiece q k x := by
  obtain ⟨m, hm⟩ := List.mem_iff_getElem?.mp h
  obtain ⟨k, -, -, hx⟩ := PathState.classify_getElem hm
  exact ⟨k, hx⟩

section
variable (h : p.IsPiece q k x)
include h

theorem PathState.IsPiece.zone : x.zone = k.1 := by rw [h.made]; rfl
theorem PathState.IsPiece.desc : x.desc = p.descOf x.zone := by rw [h.made]; rfl
theorem PathState.IsPiece.logical : x.logical = reqAddr q + 8 * x.first := by rw [h.made]; rfl
theorem PathState.IsPiece.write : x.burst.write = reqIsWrite q := by rw [h.made]; rfl
theorem PathState.IsPiece.drop : x.drop = (reqIsWrite q && x.zone == .camera) := by rw [h.made]; rfl
theorem PathState.IsPiece.status : x.status = .unissued := by rw [h.made]; rfl
theorem PathState.IsPiece.err : x.err = false := by rw [h.made]; rfl

theorem PathState.IsPiece.place : piecePlace x.zone x.desc x.logical x.burst.beats = (x.burst.addr, x.reversed) := by
  rw [h.made]; rfl

theorem PathState.IsPiece.data :
    x.burst.data = outgoing (pieceSwz x.zone x.desc) x.reversed (((reqData q).drop x.first).take x.burst.beats) := by
  rw [h.made]; rfl

/-- Every beat of a piece lies in its zone. -/
theorem PathState.IsPiece.zoneAt {j : Nat} (hj : j < x.burst.beats) : p.zoneAt (x.logical + 8 * j) = x.zone :=
  (congrArg Prod.fst (h.key j hj)).trans h.zone.symm

/-- The row a beat of a piece lies in, where rows are cut. -/
theorem PathState.IsPiece.row {j : Nat} (hj : j < x.burst.beats) :
    cutRow x.desc x.zone (x.logical + 8 * j) = k.2 := by
  have hrow := congrArg Prod.snd (h.key j hj)
  rw [PathState.cutKey, h.zoneAt hj, ← h.desc] at hrow
  exact hrow

end

/-- A request below the top has a piece. -/
theorem PathState.classify_ne_nil (hwf : q.wf = true) (htop : reqBeyondTop q = false) : p.classify q ≠ [] := by
  intro hnil
  have hsum := keyRuns_sum (p.keys q)
  rw [← PathState.classify_beats htop, hnil, PathState.keys_length] at hsum
  have hpos : 1 ≤ q.op.beats := (of_decide_eq_true hwf).1
  exact absurd hsum (by simp; omega)

end

end Sys2Proof.Machine
end

section
/-! PROOFS. HOST_REQUEST: when the port accepts, how a request joins the queue, and the responses in their order (R38,
R40, R42 to R44). O24. -/

namespace Sys2Proof.Machine

open Sys2Proof

/-! ### Complete entries and the responses that leave (R40) -/

theorem HostEntry.complete_iff {e : HostEntry} : e.complete = true ↔ ∀ x ∈ e.pieces, x.status = .complete := by
  simp [HostEntry.complete]

theorem HostEntry.not_complete_iff {e : HostEntry} : e.complete = false ↔ ∃ x ∈ e.pieces, x.status ≠ .complete := by
  rw [← Bool.not_eq_true, HostEntry.complete_iff]
  push Not
  rfl

/-- A queue whose first entry is not complete stays as it is. -/
theorem drainQueue_of_head {es : List HostEntry} (h : ∀ e, es.head? = some e → e.complete = false) :
    drainQueue es = ([], es) := by
  cases es with
  | nil => rfl
  | cons e es => exact if_neg (Bool.eq_false_iff.mp (h e rfl))

theorem PathState.drain_of_head {p : PathState} (h : ∀ e, p.queue.head? = some e → e.complete = false) : p.drain = p := by
  rw [PathState.drain, drainQueue_of_head h, List.append_nil]

/-- The complete entries at the head leave, and no entry behind the first that is not complete (R40). -/
theorem PathState.drain_spec (p : PathState) :
    ∃ n, p.drain = { p with
                     queue := p.queue.drop n, sent := p.sent ++ (p.queue.take n).map HostEntry.response } ∧
      (∀ e ∈ p.queue.take n, ∀ x ∈ e.pieces, x.status = .complete) ∧
      (∀ e, (p.queue.drop n).head? = some e → ∃ x ∈ e.pieces, x.status ≠ .complete) := by
  obtain ⟨done, hsplit, hsent, hdone, hrest⟩ := drainQueue_spec p.queue
  have htake : p.queue.take done.length = done := by rw [hsplit, List.take_left]
  have hdrop : p.queue.drop done.length = (drainQueue p.queue).2 := by
    conv_lhs => rw [hsplit]
    exact List.drop_left
  refine ⟨done.length, ?_, ?_, ?_⟩
  · rw [htake, hdrop, ← hsent]; rfl
  · rw [htake]; exact fun e he => HostEntry.complete_iff.mp (hdone e he)
  · rw [hdrop]; exact fun e he => HostEntry.not_complete_iff.mp (hrest e he)

/-- What a response says of its request (R38, R40, R57). -/
theorem HostEntry.response_spec (e : HostEntry) :
    e.response.read = !reqIsWrite e.req ∧
      (e.response.ok = true ↔ e.pieces ≠ [] ∧ ∀ x ∈ e.pieces, x.err = false) ∧
      (e.pieces ≠ [] → reqIsWrite e.req = false → e.response.data = e.pieces.flatMap Piece.answer) := by
  refine ⟨rfl, ?_, fun hne hread => ?_⟩
  · simp [HostEntry.response]
  · have hempty : ¬e.pieces.isEmpty = true := by simpa using hne
    simp only [HostEntry.response, hread]
    exact (if_neg (by simp)).trans (if_neg hempty)

/-! ### A request accepted (R38, R42, R43) -/

/-- The entry of a request just accepted. -/
def PathState.entry (p : PathState) (q : HostReq) : HostEntry := { req := q, pieces := p.classify q }

/-- PATH with a request at the tail of its queue, the split counter raised. -/
def PathState.joined (p : PathState) (q : HostReq) : PathState :=
  { p with queue := p.queue ++ [p.entry q], split := satAdd p.split ((p.classify q).length - 1) }

theorem PathState.accept_eq (p : PathState) (q : HostReq) : p.accept q = (p.joined q).drain := rfl

theorem PathState.accept_frame (p : PathState) (q : HostReq) :
    p.accept q =
      { p with
        queue := (p.accept q).queue, sent := (p.accept q).sent,
        split := min (p.split + ((p.classify q).length - 1)) 65535 } := rfl

section
variable {p : PathState} {q : HostReq}

/-- A request below the top has a piece not yet issued. -/
theorem PathState.entry_not_complete (hwf : q.wf = true) (htop : reqBeyondTop q = false) :
    (p.entry q).complete = false := by
  obtain ⟨x, hx⟩ := List.exists_mem_of_ne_nil _ (PathState.classify_ne_nil (p := p) hwf htop)
  obtain ⟨k, hk⟩ := PathState.classify_isPiece hx
  exact HostEntry.not_complete_iff.mpr ⟨x, hx, by rw [hk.status]; simp⟩

/-- Behind a request that is not complete, and alone where it is not complete itself, a request waits in the queue. -/
theorem PathState.accept_waits (hhead : ∀ e, p.queue.head? = some e → e.complete = false)
    (halone : p.queue = [] → (p.entry q).complete = false) : p.accept q = p.joined q := by
  rw [PathState.accept_eq]
  refine PathState.drain_of_head fun e he => ?_
  cases hq : p.queue with
  | nil =>
    have hjoined : (p.joined q).queue = [p.entry q] := by rw [PathState.joined, hq]; rfl
    rw [hjoined, List.head?_cons] at he
    exact Option.some.inj he ▸ halone hq
  | cons f fs =>
    have hjoined : (p.joined q).queue = f :: (fs ++ [p.entry q]) := by rw [PathState.joined, hq]; rfl
    rw [hjoined, List.head?_cons] at he
    exact hhead e (by rw [hq]; exact he)

/-- R38: a request beyond the top that finds the queue empty gets its response at once. -/
theorem PathState.accept_beyond (htop : reqBeyondTop q = true) (hempty : p.queue = []) :
    (p.accept q).queue = [] ∧ (p.accept q).sent = p.sent ++ [(p.entry q).response] := by
  have hentry : (p.entry q).complete = true := by
    rw [HostEntry.complete_iff]
    intro x hx
    rw [PathState.entry, PathState.classify_beyond htop] at hx
    cases hx
  have hdrain : drainQueue (p.joined q).queue = ([(p.entry q).response], []) := by
    rw [PathState.joined, hempty]
    exact if_pos hentry
  rw [PathState.accept_eq, PathState.drain, hdrain]
  exact ⟨rfl, rfl⟩

end

/-! ### The row -/

theorem State.accepts_iff (s : State) :
    s.accepts = true ↔
      s.boot.startup ≠ .reset ∧ s.pins.hrstnLow = false ∧ s.path.queue.length < 8 ∧
        ¬(s.boot.asked = true ∧ s.boot.startup = .profileRead) := by
  have hdepth : decide (s.path.queue.length < Config.queueDepth) = true ↔ s.path.queue.length < 8 := decide_eq_true_iff
  have hasked : (!(s.boot.asked && s.boot.startup == .profileRead)) = true ↔
      ¬(s.boot.asked = true ∧ s.boot.startup = .profileRead) := by
    rw [Bool.not_eq_true', ← Bool.not_eq_true, Bool.and_eq_true, beq_iff_eq]
  rw [State.accepts, Bool.and_eq_true, Bool.and_eq_true, Bool.and_eq_true, bne_iff_ne, Bool.not_eq_true', hdepth, hasked,
    and_assoc, and_assoc]

/-- Settles O24: acceptance, the request's place in the queue, and the responses by the lemmas above. -/
theorem hostRequestAccepted : Obligations.HostRequestAccepted := by
  unfold Obligations.HostRequestAccepted
  refine ⟨fun s => ⟨s.accepts_iff, fun q hwf hacc => ?_⟩, fun q s hwf hacc => ?_, PathState.drain_spec,
    HostEntry.response_spec⟩
  · show execHostRequest q s = _
    rw [execHostRequest, if_pos hwf, hacc]
    rfl
  · refine ⟨s.setPath (s.path.accept q), ?_, rfl, s.path.accept_frame q, fun htop hhead => ?_, fun htop hempty => ?_,
      fun htop e he hc => ?_⟩
    · show execHostRequest q s = _
      rw [execHostRequest, if_pos hwf, if_pos hacc]
    · rw [State.setPath_path, PathState.accept_waits hhead fun _ => PathState.entry_not_complete hwf htop]
      exact ⟨rfl, rfl⟩
    · obtain ⟨hqueue, hsent⟩ := PathState.accept_beyond htop hempty
      refine ⟨hqueue, _, hsent, ?_, rfl⟩
      rw [HostEntry.response, PathState.entry, PathState.classify_beyond htop]
      rfl
    · have hne : s.path.queue ≠ [] := by rintro hnil; rw [hnil] at he; cases he
      have hwaits : s.path.accept q = s.path.joined q :=
        PathState.accept_waits (fun f hf => by rw [he] at hf; exact Option.some.inj hf ▸ hc) fun hnil => absurd hnil hne
      rw [State.setPath_path, hwaits, PathState.joined, PathState.entry, PathState.classify_beyond htop]
      exact ⟨rfl, rfl⟩

end Sys2Proof.Machine
end

section
/-! PROOFS. The zone of every byte (Table 16, R42), and the pieces of a request against the zones and the rows (R43). O25. -/

namespace Sys2Proof.Machine

open Sys2Proof

/-! ### The entry that holds a byte -/

theorem findRegion_some {a n i : Nat} {table : List Region} {r : Region} (h : findRegion a n table = some (i, r)) :
    n ≤ i ∧ entryAt table (i - n) = r ∧ r.holds a = true := by
  induction table generalizing n with
  | nil => cases h
  | cons t ts ih =>
    unfold findRegion at h
    split at h
    · cases h
      exact ⟨Nat.le_refl _, by rw [Nat.sub_self]; rfl, ‹_›⟩
    · obtain ⟨hle, hentry, hholds⟩ := ih h
      obtain ⟨m, rfl⟩ := Nat.exists_eq_add_of_le hle
      refine ⟨by omega, ?_, hholds⟩
      rw [Nat.add_assoc, Nat.add_comm 1 m, Nat.add_sub_cancel_left]
      rw [Nat.add_sub_cancel_left] at hentry
      exact hentry

theorem findRegion_none {a n : Nat} {table : List Region} (h : ∀ i, (entryAt table i).holds a = false) :
    findRegion a n table = none := by
  induction table generalizing n with
  | nil => rfl
  | cons t ts ih =>
    have ht : t.holds a = false := h 0
    unfold findRegion
    rw [if_neg (Bool.eq_false_iff.mp ht)]
    exact ih fun i => h (i + 1)

/-- Where one entry alone holds a byte, it is the entry found. -/
theorem findRegion_unique {a i : Nat} {table : List Region} (h : (entryAt table i).holds a = true)
    (hone : ∀ j, (entryAt table j).holds a = true → j = i) : findRegion a 0 table = some (i, entryAt table i) := by
  cases hf : findRegion a 0 table with
  | some x =>
    obtain ⟨j, r⟩ := x
    obtain ⟨-, hentry, hholds⟩ := findRegion_some hf
    rw [Nat.sub_zero] at hentry
    subst hentry
    rw [hone j hholds]
  | none =>
    have hnone : ∀ (n : Nat) (table : List Region) (i : Nat), (entryAt table i).holds a = true →
        findRegion a n table ≠ none := by
      intro n table
      induction table generalizing n with
      | nil => intro i hi; rw [entryAt_of_length (Nat.zero_le _), Region.absent_holds] at hi; cases hi
      | cons t ts ih =>
        intro i hi
        unfold findRegion
        split
        · simp
        · cases i with
          | zero => exact absurd hi ‹_›
          | succ i => exact ih _ i hi
    exact absurd hf (hnone 0 table i h)

/-! ### The zone of a byte (Table 16) -/

/-- The camera region is defined and holds the byte. -/
def PathState.inCamera (p : PathState) (a : Nat) : Prop := ∃ c, p.cam = some c ∧ c.base ≤ a ∧ a < c.base + 4 * c.slotBytes

theorem CamRegion.holds_iff {c : CamRegion} {a : Nat} :
    c.holds a = true ↔ c.base ≤ a ∧ a < c.base + 4 * c.slotBytes := decide_eq_true_iff

section
variable {p : PathState} {a : Nat}

theorem PathState.inCamera_iff :
    p.inCamera a ↔
      (match p.cam with
       | some c => c.holds a
       | none => false) = true := by
  unfold PathState.inCamera
  cases p.cam with
  | none => simp
  | some c => simp [CamRegion.holds_iff]

theorem PathState.zoneAt_camera (h : p.inCamera a) : p.zoneAt a = .camera := if_pos (PathState.inCamera_iff.mp h)

theorem PathState.zoneAt_table (h : ¬p.inCamera a) :
    p.zoneAt a =
      match findRegion a 0 p.table with
      | some (i, r) => regionZone r i a
      | none => .plain := if_neg (mt PathState.inCamera_iff.mpr h)

theorem PathState.zoneAt_plain (h : ¬p.inCamera a) (hno : ∀ i, (entryAt p.table i).holds a = false) :
    p.zoneAt a = .plain := by
  rw [PathState.zoneAt_table h, findRegion_none hno]

theorem PathState.zoneAt_entry {i : Nat} (h : ¬p.inCamera a) (hi : (entryAt p.table i).holds a = true)
    (hone : ∀ j, (entryAt p.table j).holds a = true → j = i) : p.zoneAt a = regionZone (entryAt p.table i) i a := by
  rw [PathState.zoneAt_table h, findRegion_unique hi hone]

end

theorem Film.slotBytes_bounds (f : Film) :
    f.slotBytes % 4096 = 0 ∧ f.width * 4 * f.height + 16 ≤ f.slotBytes ∧
      f.slotBytes < f.width * 4 * f.height + 16 + 4096 := by
  rw [Film.slotBytes_eq]
  omega

section
variable {f : Film} {i a : Nat}

/-- A byte of buffer `b` lies in its pixel area or in its tag-and-rest area. -/
theorem filmZone_buffer {b : Nat} (hb : b < f.count) (hlo : f.bufBase b ≤ a) (hhi : a < f.bufBase (b + 1)) :
    filmZone f i a = if a < f.bufBase b + f.width * 4 * f.height then .filmPixel i b else .filmTag i b := by
  unfold Film.bufBase at hlo hhi ⊢
  rw [Nat.add_mul, Nat.one_mul] at hhi
  have hdiv : (a - f.base) / f.slotBytes = b := Nat.div_eq_of_lt_le (by omega) (by rw [Nat.add_mul, Nat.one_mul]; omega)
  have hmod : (a - f.base) % f.slotBytes = a - (f.base + b * f.slotBytes) := by
    have := Nat.mod_add_div (a - f.base) f.slotBytes
    rw [hdiv, Nat.mul_comm] at this
    omega
  have hpixel : a - (f.base + b * f.slotBytes) < f.pixelBytes ↔ a < f.base + b * f.slotBytes + f.width * 4 * f.height := by
    unfold Film.pixelBytes; omega
  unfold filmZone
  simp only [hdiv, hmod, if_pos hb, hpixel]

/-- A byte beyond the buffers lies in the remainder. -/
theorem filmZone_rest (h : f.base + f.count * f.slotBytes ≤ a) : filmZone f i a = .filmRest i := by
  obtain ⟨-, hpos, -⟩ := f.slotBytes_bounds
  have hdiv : f.count ≤ (a - f.base) / f.slotBytes := (Nat.le_div_iff_mul_le (by omega)).mpr (by omega)
  unfold filmZone
  exact if_neg (by omega)

end

/-! ### The zone of a piece -/

/-- The zones of a region name its entry. -/
theorem Zone.index_of {z : Zone} {i : Nat}
    (h : (∃ b, z = .filmPixel i b ∨ z = .filmTag i b) ∨ z = .filmRest i ∨ z = .overlayPixel i ∨ z = .overlayRest i ∨
      z = .audioRing i ∨ z = .audioRest i) : z.index = some i := by
  rcases h with ⟨b, rfl | rfl⟩ | rfl | rfl | rfl | rfl | rfl <;> rfl

theorem PathState.descOf_index {p : PathState} {z : Zone} {i : Nat} (h : z.index = some i) :
    p.descOf z = entryAt p.table i := by
  unfold PathState.descOf; rw [h]

/-- A FILM pixel area whose row ends are cut (R43). -/
def Film.mirrored (f : Film) : Prop := f.orient = .mirrorX ∨ f.orient = .mirrorY

theorem cutRow_mirrored {f : Film} {i b a : Nat} (h : f.mirrored) :
    cutRow (.film f) (.filmPixel i b) a = (a - f.bufBase b) / (f.width * 4) := if_pos h

/-- Beats of one zone are cut apart at the row ends of a mirrored pixel area alone. -/
theorem cutRow_ne {r : Region} {z : Zone} {a a' : Nat} (h : cutRow r z a ≠ cutRow r z a') :
    ∃ f i b, r = .film f ∧ z = .filmPixel i b ∧ f.mirrored := by
  unfold cutRow at h
  split at h
  · rename_i f i b
    refine ⟨f, i, b, rfl, rfl, ?_⟩
    by_contra hm
    exact h ((if_neg hm).trans (if_neg hm).symm)
  · exact absurd rfl h

/-- The last beat of a piece and the first of the next differ in their key. -/
theorem PathState.classify_neighbours {p : PathState} {q : HostReq} {n : Nat} {x y : Piece}
    (hx : (p.classify q)[n]? = some x) (hy : (p.classify q)[n + 1]? = some y) :
    ∃ j, j < x.burst.beats ∧ y.logical - 8 = x.logical + 8 * j ∧
      (x.zone ≠ y.zone ∨ cutRow y.desc y.zone (x.logical + 8 * j) ≠ cutRow y.desc y.zone y.logical) := by
  obtain ⟨k, hrun, hfirst, hk⟩ := PathState.classify_getElem hx
  obtain ⟨k', hrun', hfirst', hk'⟩ := PathState.classify_getElem hy
  have hnext : y.first = x.first + x.burst.beats := by
    rw [hfirst', hfirst, List.take_add_one, hx]
    simp
  have hpos := hk.pos
  have hlast : x.burst.beats - 1 < x.burst.beats := by omega
  refine ⟨x.burst.beats - 1, hlast, by rw [hk'.logical, hk.logical, hnext]; omega, ?_⟩
  by_contra hsame
  push Not at hsame
  obtain ⟨hzone, hrow⟩ := hsame
  have hchain := List.isChain_iff_getElem.mp (keyRuns_chain (p.keys q)) n (List.getElem?_eq_some_iff.mp hrun').1
  rw [(List.getElem?_eq_some_iff.mp hrun).2, (List.getElem?_eq_some_iff.mp hrun').2] at hchain
  refine hchain (Prod.ext ?_ ?_)
  · rw [← hk.zone, ← hk'.zone, hzone]
  · rw [← hk.row hlast, ← hk'.row (j := 0) hk'.pos, hk.desc, hzone, ← hk'.desc]
    exact hrow

/-- Settles O25: the pieces are the runs of equal keys, and the zone of a byte is that of the entry that holds it. -/
theorem piecesCoverRequest : Obligations.PiecesCoverRequest := by
  unfold Obligations.PiecesCoverRequest
  refine ⟨fun p q hwf htop => ?_, fun p a => ?_, fun a => ?_⟩
  · intro xs mirrored row
    refine ⟨?_, fun n x hx => ?_, fun x hx => ?_, fun n x y hx hy => ?_⟩
    · show ((p.classify q).map (fun x => x.burst.beats)).sum = _
      rw [PathState.classify_beats htop, keyRuns_sum, PathState.keys_length]
    · obtain ⟨k, -, hfirst, -⟩ := PathState.classify_getElem hx
      exact hfirst
    · obtain ⟨k, hk⟩ := PathState.classify_isPiece hx
      refine ⟨hk.pos, hk.within, hk.logical, fun j hj => hk.zoneAt hj,
        fun i hi => hk.desc.trans (PathState.descOf_index (Zone.index_of hi)), ?_⟩
      rintro f b ⟨i, hz, hentry, hm⟩ j hj
      have hdesc : x.desc = .film f := by rw [hk.desc, hz, PathState.descOf_index rfl, hentry]
      have hrow : ∀ j, j < x.burst.beats → row f b (x.logical + 8 * j) = k.2 := by
        intro j hj
        rw [← hk.row hj, hdesc, hz, cutRow_mirrored hm]
      exact (hrow j hj).trans (hrow 0 hk.pos).symm
    · obtain ⟨k', hk'⟩ := PathState.classify_isPiece (List.mem_of_getElem? hy)
      obtain ⟨j, -, hlast, hne | hne⟩ := PathState.classify_neighbours hx hy
      · exact .inl hne
      · obtain ⟨f, i, b, hdesc, hz, hm⟩ := cutRow_ne hne
        have hentry : entryAt p.table i = .film f := by
          rw [← hdesc, hk'.desc, hz, PathState.descOf_index rfl]
        refine .inr ⟨f, b, ⟨i, hz, hentry, hm⟩, ?_⟩
        rw [hdesc, hz, cutRow_mirrored hm, cutRow_mirrored hm, ← hlast] at hne
        exact hne
  · intro inCamera
    refine ⟨PathState.zoneAt_camera, PathState.zoneAt_plain, fun hout i hi hone => ?_⟩
    have hzone := PathState.zoneAt_entry hout hi hone
    have hlo := (Region.holds_iff.mp hi).1
    refine ⟨fun f hf => ?_, fun o ho => ?_, fun g hg => ?_⟩
    · rw [hf] at hzone
      exact ⟨fun b hb hfrom hto => hzone.trans (filmZone_buffer hb hfrom hto), fun h => hzone.trans (filmZone_rest h)⟩
    · rw [ho] at hzone hlo
      have hpixel : a - o.base < o.pixelBytes ↔ a < o.base + o.width * 4 * o.height :=
        Nat.sub_lt_iff_lt_add' hlo
      simp only [hzone, regionZone, hpixel]
    · rw [hg] at hzone hlo
      have hblock : a - g.base < 1024 * g.n ↔ a < g.base + 1024 * g.n := Nat.sub_lt_iff_lt_add' hlo
      simp only [hzone, regionZone, hblock]
  · exact ⟨Region.absent_holds a, fun f => ⟨Region.holds_iff, f.slotBytes_bounds⟩, fun o => Region.holds_iff,
      fun g => Region.holds_iff⟩

end Sys2Proof.Machine
end

section
/-! PROOFS. The orientation of a FILM pixel area (R47 to R49): where a byte and a piece are placed, and that neither leaves
the pixel area. -/

namespace Sys2Proof.Machine

open Sys2Proof

/-! ### The mapping of an orientation (R47) -/

/-- R47: the row that a row is mapped to. -/
def Film.mappedRow (f : Film) (r : Nat) : Nat :=
  if f.orient = .mirrorY ∨ f.orient = .rotate180 then f.height - 1 - r else r

/-- R47: the column that a column is mapped to. -/
def Film.mappedCol (f : Film) (c : Nat) : Nat :=
  if f.orient = .mirrorX ∨ f.orient = .rotate180 then f.width - 1 - c else c

section
variable {f : Film}

theorem Film.mappedRow_lt {r : Nat} (h : r < f.height) : f.mappedRow r < f.height := by
  unfold Film.mappedRow; split <;> omega

theorem Film.mappedCol_lt {c : Nat} (h : c < f.width) : f.mappedCol c < f.width := by
  unfold Film.mappedCol; split <;> omega

theorem Film.mappedRow_mappedRow {r : Nat} (h : r < f.height) : f.mappedRow (f.mappedRow r) = r := by
  unfold Film.mappedRow; split <;> omega

theorem Film.mappedCol_mappedCol {c : Nat} (h : c < f.width) : f.mappedCol (f.mappedCol c) = c := by
  unfold Film.mappedCol; split <;> omega

/-- A byte of a pixel area stands in a row, a column and a byte of a pixel. -/
theorem Film.offset_split {o : Nat} (h : o < f.width * 4 * f.height) :
    ∃ r c b, r < f.height ∧ c < f.width ∧ b < 4 ∧ o = f.width * 4 * r + (c * 4 + b) := by
  have hpos : 0 < f.width * 4 := Nat.pos_of_mul_pos_right (Nat.zero_lt_of_lt h)
  have hrest := Nat.mod_lt o hpos
  refine ⟨o / (f.width * 4), o % (f.width * 4) / 4, o % (f.width * 4) % 4, Nat.div_lt_of_lt_mul h, by omega, by omega, ?_⟩
  rw [Nat.div_add_mod', Nat.div_add_mod]

/-- The row, the column and the byte of a place. -/
theorem Film.offset_parts {r c b : Nat} (hc : c < f.width) (hb : b < 4) :
    (f.width * 4 * r + (c * 4 + b)) / (f.width * 4) = r ∧ (f.width * 4 * r + (c * 4 + b)) % (f.width * 4) = c * 4 + b ∧
      (f.width * 4 * r + (c * 4 + b)) % 4 = b := by
  have hlt : c * 4 + b < f.width * 4 := by omega
  refine ⟨?_, ?_, ?_⟩
  · rw [Nat.mul_add_div (by omega), Nat.div_eq_of_lt hlt, Nat.add_zero]
  · rw [Nat.mul_add_mod, Nat.mod_eq_of_lt hlt]
  · rw [Nat.mul_right_comm, Nat.mul_comm, Nat.mul_add_mod]
    omega

theorem Film.place_lt {r c b : Nat} (hr : r < f.height) (hc : c < f.width) (hb : b < 4) :
    f.width * 4 * r + (c * 4 + b) < f.width * 4 * f.height := by
  have hrow : f.width * 4 * (r + 1) ≤ f.width * 4 * f.height := Nat.mul_le_mul_left _ hr
  rw [Nat.mul_add, Nat.mul_one] at hrow
  omega

theorem physicalOffset_place {r c b : Nat} (hc : c < f.width) (hb : b < 4) :
    physicalOffset f (f.width * 4 * r + (c * 4 + b)) = f.width * 4 * f.mappedRow r + (f.mappedCol c * 4 + b) := by
  obtain ⟨hdiv, hmod, hbyte⟩ := Film.offset_parts (r := r) hc hb
  have hcol : (c * 4 + b) / 4 = c := by omega
  unfold physicalOffset Film.stride
  simp only [hdiv, hmod, hbyte, hcol]
  rw [Nat.add_assoc, Nat.mul_comm]
  rfl

theorem physicalOffset_lt {o : Nat} (h : o < f.width * 4 * f.height) : physicalOffset f o < f.width * 4 * f.height := by
  obtain ⟨r, c, b, hr, hc, hb, rfl⟩ := Film.offset_split h
  rw [physicalOffset_place hc hb]
  exact Film.place_lt (Film.mappedRow_lt hr) (Film.mappedCol_lt hc) hb

theorem physicalOffset_physicalOffset {o : Nat} (h : o < f.width * 4 * f.height) :
    physicalOffset f (physicalOffset f o) = o := by
  obtain ⟨r, c, b, hr, hc, hb, rfl⟩ := Film.offset_split h
  rw [physicalOffset_place hc hb, physicalOffset_place (Film.mappedCol_lt hc) hb, Film.mappedRow_mappedRow hr,
    Film.mappedCol_mappedCol hc]

/-! ### Where a piece is placed (R48, R49) -/

theorem reversesBeats_iff : reversesBeats f = true ↔ f.orient = .mirrorX ∨ f.orient = .rotate180 := by
  simp [reversesBeats]

/-- R48, R49: the place of a piece begins at its first beat, or at its last one's second word. -/
theorem physicalStart_eq {o n : Nat} (hn : 1 ≤ n) :
    physicalStart f o n = physicalOffset f (o + if reversesBeats f = true then 8 * n - 4 else 0) := by
  unfold physicalStart
  split
  · rw [Nat.add_sub_assoc (by omega)]
  · rfl

/-- The second word of a beat stands in the beat's row. -/
theorem Film.row_secondWord {v : Nat} (hwidth : f.width % 2 = 0) (halign : v % 8 = 0) (hpos : 0 < f.width * 4) :
    (v + 4) / (f.width * 4) = v / (f.width * 4) := by
  have hdvd : 8 ∣ f.width * 4 := by omega
  have hmod : v % (f.width * 4) % 8 = 0 := by rw [Nat.mod_mod_of_dvd _ hdvd, halign]
  have hlt := Nat.mod_lt v hpos
  have hsplit : v + 4 = f.width * 4 * (v / (f.width * 4)) + (v % (f.width * 4) + 4) := by
    rw [← Nat.add_assoc, Nat.div_add_mod]
  have hrest : (v % (f.width * 4) + 4) / (f.width * 4) = 0 := Nat.div_eq_of_lt (by omega)
  rw [hsplit, Nat.mul_add_div hpos, hrest, Nat.add_zero]

/-- A piece within a pixel area, in one row where R48 cuts it there, is placed within the pixel area. -/
theorem physicalStart_within {o n : Nat} (hn : 1 ≤ n) (hwidth : f.width % 2 = 0) (halign : o % 8 = 0)
    (hin : o + 8 * n ≤ f.width * 4 * f.height)
    (hrow : f.mirrored → (o + 8 * (n - 1)) / (f.width * 4) = o / (f.width * 4)) :
    physicalStart f o n + 8 * n ≤ f.width * 4 * f.height := by
  obtain ⟨r, c, b, hr, hc, hb, ho⟩ := Film.offset_split (f := f) (o := o) (by omega)
  obtain ⟨r', c', b', hr', hc', hb', hw⟩ := Film.offset_split (f := f) (o := o + (8 * n - 4)) (by omega)
  obtain ⟨hdiv, -, hbyte⟩ := Film.offset_parts (f := f) (r := r) hc hb
  obtain ⟨hdiv', -, hbyte'⟩ := Film.offset_parts (f := f) (r := r') hc' hb'
  have hsame : f.mirrored → r' = r := by
    intro hm
    have hlast := Film.row_secondWord (f := f) (v := o + 8 * (n - 1)) hwidth (by omega) (by omega)
    have hword : o + 8 * (n - 1) + 4 = o + (8 * n - 4) := by omega
    rw [hword, hrow hm, hw, ho, hdiv, hdiv'] at hlast
    exact hlast
  have hsum : ∀ k, k < f.height →
      f.width * 4 * f.height = f.width * 4 * (f.height - 1 - k) + f.width * 4 * k + f.width * 4 := by
    intro k hk
    rw [← Nat.mul_add, ← Nat.mul_succ]
    congr 1
    omega
  have htop := hsum r hr
  have htop' := hsum r' hr'
  rw [physicalStart_eq hn]
  cases horient : f.orient with
  | normal =>
    have hrev : ¬reversesBeats f = true := by rw [reversesBeats_iff, horient]; simp
    rw [if_neg hrev, Nat.add_zero, ho, physicalOffset_place hc hb, Film.mappedRow, Film.mappedCol, horient]
    simp only [reduceCtorEq, or_self, if_false]
    omega
  | mirrorX =>
    have hrev : reversesBeats f = true := by rw [reversesBeats_iff, horient]; simp
    rw [if_pos hrev, hw, physicalOffset_place hc' hb', Film.mappedRow, Film.mappedCol, horient]
    simp only [reduceCtorEq, or_self, or_false, if_true, if_false]
    obtain rfl := hsame (.inl horient)
    omega
  | mirrorY =>
    have hrev : ¬reversesBeats f = true := by rw [reversesBeats_iff, horient]; simp
    rw [if_neg hrev, Nat.add_zero, ho, physicalOffset_place hc hb, Film.mappedRow, Film.mappedCol, horient]
    simp only [reduceCtorEq, or_self, or_false, if_true, if_false]
    obtain rfl := hsame (.inr horient)
    omega
  | rotate180 =>
    have hrev : reversesBeats f = true := by rw [reversesBeats_iff, horient]; simp
    rw [if_pos hrev, hw, physicalOffset_place hc' hb', Film.mappedRow, Film.mappedCol, horient]
    simp only [or_true, if_true]
    omega

end

/-! ### The pieces of a FILM pixel area -/

/-- A byte's zone is a buffer's pixel area where a FILM entry has it there (Table 16). -/
theorem PathState.zoneAt_filmPixel {p : PathState} {a i b : Nat} (h : p.zoneAt a = .filmPixel i b) :
    ∃ f, entryAt p.table i = .film f ∧ b < f.count ∧ f.bufBase b ≤ a ∧ a < f.bufBase b + f.width * 4 * f.height := by
  by_cases hin : p.inCamera a
  · rw [PathState.zoneAt_camera hin] at h; cases h
  rw [PathState.zoneAt_table hin] at h
  cases hfind : findRegion a 0 p.table with
  | none => rw [hfind] at h; cases h
  | some x =>
    obtain ⟨j, r⟩ := x
    obtain ⟨-, hentry, hholds⟩ := findRegion_some hfind
    rw [hfind] at h
    rw [Nat.sub_zero] at hentry
    cases r with
    | absent => cases h
    | overlay o => simp only [regionZone] at h; split at h <;> cases h
    | audio g => simp only [regionZone] at h; split at h <;> cases h
    | film f =>
      simp only [regionZone, filmZone] at h
      split at h
      · split at h
        · rename_i hcount hpixel
          injection h with hi hb
          subst hi hb
          have hbase : f.base ≤ a := (Region.holds_iff.mp hholds).1
          have hsplit := Nat.div_add_mod' (a - f.base) f.slotBytes
          unfold Film.pixelBytes at hpixel
          unfold Film.bufBase
          exact ⟨f, hentry, hcount, by omega, by omega⟩
        · cases h
      · cases h

/-- The descriptor and the place of a piece in a pixel area. -/
theorem PathState.IsPiece.film {p : PathState} {q : HostReq} {k : Zone × Nat} {x : Piece} {i b : Nat} {f : Film}
    (h : p.IsPiece q k x) (hz : x.zone = .filmPixel i b) (hf : entryAt p.table i = .film f) :
    x.desc = .film f ∧ x.burst.addr = f.bufBase b + physicalStart f (x.logical - f.bufBase b) x.burst.beats ∧
      x.reversed = reversesBeats f := by
  have hdesc : x.desc = .film f := by rw [h.desc, hz, PathState.descOf_index rfl, hf]
  have hplace := h.place
  rw [hz, hdesc] at hplace
  exact ⟨hdesc, (congrArg Prod.fst hplace).symm, (congrArg Prod.snd hplace).symm⟩

/-- Outside the FILM pixel areas a piece is placed where it is addressed. -/
theorem PathState.IsPiece.plainPlace {p : PathState} {q : HostReq} {k : Zone × Nat} {x : Piece} (h : p.IsPiece q k x)
    (hz : ∀ i b, x.zone ≠ .filmPixel i b) : x.reversed = false ∧ x.burst.addr = x.logical := by
  have hplace := h.place
  unfold piecePlace at hplace
  split at hplace
  · exact absurd ‹x.zone = _› (hz _ _)
  · injection hplace with haddr hrev
    exact ⟨hrev.symm, haddr.symm⟩

/-- The burst of a piece in a pixel area stays in the pixel area (R47 to R49). -/
theorem PathState.IsPiece.burst_within {p : PathState} {q : HostReq} {k : Zone × Nat} {x : Piece} {i b : Nat} {f : Film}
    (h : p.IsPiece q k x) (hz : x.zone = .filmPixel i b) (hf : entryAt p.table i = .film f)
    (hbase : f.base % 8 = 0) (hwidth : f.width % 2 = 0) :
    b < f.count ∧ f.bufBase b ≤ x.burst.addr ∧
      x.burst.addr + 8 * x.burst.beats ≤ f.bufBase b + f.width * 4 * f.height := by
  obtain ⟨hdesc, haddr, -⟩ := h.film hz hf
  have hpos := h.pos
  have hbeat : ∀ j, j < x.burst.beats →
      b < f.count ∧ f.bufBase b ≤ x.logical + 8 * j ∧ x.logical + 8 * j < f.bufBase b + f.width * 4 * f.height := by
    intro j hj
    obtain ⟨f', hf', hrest⟩ := PathState.zoneAt_filmPixel ((h.zoneAt hj).trans hz)
    obtain rfl : f = f' := Region.film.inj (hf.symm.trans hf')
    exact hrest
  obtain ⟨hcount, hlo, -⟩ := hbeat 0 hpos
  obtain ⟨-, -, hhi⟩ := hbeat (x.burst.beats - 1) (by omega)
  have hslot : b * f.slotBytes % 8 = 0 := by
    have hdvd : 8 ∣ f.slotBytes := by have := f.slotBytes_bounds.1; omega
    exact Nat.mod_eq_zero_of_dvd (hdvd.mul_left b)
  have hpixels : f.width * 4 * f.height % 8 = 0 := by
    have hdvd : 8 ∣ f.width * 4 := by omega
    exact Nat.mod_eq_zero_of_dvd (hdvd.mul_right _)
  have hbuf : f.bufBase b % 8 = 0 := by unfold Film.bufBase; omega
  have hlogical : x.logical % 8 = 0 := by rw [h.logical, reqAddr]; omega
  have hwithin := physicalStart_within (f := f) (o := x.logical - f.bufBase b) hpos hwidth (by omega) (by omega)
    fun hm => by
      have hrow : ∀ j, j < x.burst.beats → (x.logical - f.bufBase b + 8 * j) / (f.width * 4) = k.2 := by
        intro j hj
        have hj' := (hbeat 0 hpos).2.1
        rw [← h.row hj, hdesc, hz, cutRow_mirrored hm]
        congr 1
        omega
      have hfirst := hrow 0 hpos
      rw [Nat.mul_zero, Nat.add_zero] at hfirst
      exact (hrow _ (by omega)).trans hfirst.symm
  rw [haddr]
  exact ⟨hcount, by omega, by omega⟩

end Sys2Proof.Machine
end

section
/-! PROOFS. Where host writes go: the pieces marked for dropping, and the bursts of the others (R42, R51). O26. -/

namespace Sys2Proof.Machine

open Sys2Proof

section
variable {p : PathState} {q : HostReq} {k : Zone × Nat} {x : Piece}

/-- R51: the pieces dropped are the write pieces of the camera zone. -/
theorem PathState.IsPiece.drop_iff (h : p.IsPiece q k x) : x.drop = true ↔ x.burst.write = true ∧ x.zone = .camera := by
  rw [h.drop, h.write, Bool.and_eq_true, beq_iff_eq]

/-- A beat that is not of the camera zone shares no byte with a camera region of whole beats. -/
theorem CamRegion.holds_false_of_beat {c : CamRegion} {v a : Nat} (hcam : p.cam = some c) (hzone : p.zoneAt v ≠ .camera)
    (hbase : c.base % 8 = 0) (hslot : c.slotBytes % 8 = 0) (halign : v % 8 = 0) (hlo : v ≤ a) (hhi : a < v + 8) :
    c.holds a = false := by
  have hout : ¬(c.base ≤ v ∧ v < c.base + 4 * c.slotBytes) := fun hin =>
    hzone (PathState.zoneAt_camera ⟨c, hcam, hin.1, hin.2⟩)
  refine decide_eq_false fun hin => hout ?_
  omega

/-- Outside the FILM pixel areas a write that is not dropped goes where it is addressed, past the camera region. -/
theorem PathState.IsPiece.misses_camera {c : CamRegion} {a : Nat} (h : p.IsPiece q k x) (hcam : p.cam = some c)
    (hbase : c.base % 8 = 0) (hslot : c.slotBytes % 8 = 0) (hzone : x.zone ≠ .camera)
    (hplain : ∀ i b, x.zone ≠ .filmPixel i b) (hlo : x.burst.addr ≤ a) (hhi : a < x.burst.addr + 8 * x.burst.beats) :
    c.holds a = false := by
  obtain ⟨-, haddr⟩ := h.plainPlace hplain
  have hlogical : x.logical % 8 = 0 := by rw [h.logical, reqAddr]; omega
  rw [haddr] at hlo hhi
  exact CamRegion.holds_false_of_beat (v := x.logical + 8 * ((a - x.logical) / 8)) hcam
    (by rw [h.zoneAt (by omega)]; exact hzone) hbase hslot (by omega) (by omega) (by omega)

/-- A write in a FILM pixel area stays in its region, which shares no byte with the camera region. -/
theorem PathState.IsPiece.film_misses_camera {c : CamRegion} {a i b cb : Nat} (h : p.IsPiece q k x)
    (hcam : p.cam = some c) (hz : x.zone = .filmPixel i b) (hapart : TableApart p.table cb p.cam)
    (hlo : x.burst.addr ≤ a) (hhi : a < x.burst.addr + 8 * x.burst.beats) : c.holds a = false := by
  obtain ⟨hfits, -, haway⟩ := hapart
  obtain ⟨f, hf, -⟩ := PathState.zoneAt_filmPixel ((h.zoneAt h.pos).trans hz)
  have hfit := hfits i
  rw [hf] at hfit
  obtain ⟨hbase, -, -, -, hwidth, -, -, -, -, -, hsize⟩ := hfit
  obtain ⟨hcount, hfrom, hto⟩ := h.burst_within hz hf (by omega) hwidth
  have hbuffers : (b + 1) * f.slotBytes ≤ f.count * f.slotBytes := Nat.mul_le_mul_right _ hcount
  have hpixels := f.slotBytes_bounds.2.1
  rw [Nat.add_mul, Nat.one_mul] at hbuffers
  unfold Film.bufBase at hfrom hto
  refine (haway i a ?_).2 c hcam
  rw [hf]
  exact Region.holds_iff.mpr (show f.base ≤ a ∧ a < f.base + f.size by omega)

end

/-- Settles O26: a write that is not dropped is in a FILM pixel area, and stays there, or goes where it is addressed. -/
theorem hostWritesMissCameraRegion : Obligations.HostWritesMissCameraRegion := by
  unfold Obligations.HostWritesMissCameraRegion
  refine ⟨fun p q c hcam hbase hslot x hx hwrite hdrop hapart a hlo hhi => ?_, fun p q x hx => ?_⟩
  · obtain ⟨k, hk⟩ := PathState.classify_isPiece hx
    have hzone : x.zone ≠ .camera := fun hz => Bool.eq_false_iff.mp hdrop (hk.drop_iff.mpr ⟨hwrite, hz⟩)
    by_cases hz : ∃ i b, x.zone = .filmPixel i b
    · obtain ⟨i, b, hz⟩ := hz
      obtain ⟨cb, happart⟩ := hapart i b hz
      exact hk.film_misses_camera hcam hz happart hlo hhi
    · push Not at hz
      exact hk.misses_camera hcam hbase hslot hzone hz hlo hhi
  · obtain ⟨k, hk⟩ := PathState.classify_isPiece hx
    exact ⟨by rw [hk.write], hk.drop_iff⟩

end Sys2Proof.Machine
end

section
/-! PROOFS. Swizzle and orientation undo themselves, and a piece carries its request's beats so changed (R45 to R50,
Table 17). O27. -/

namespace Sys2Proof.Machine

open Sys2Proof

/-! ### The bits of a byte (Table 17, flags R and N) -/

theorem reverseByte_getLsbD (b : Byte) {i : Nat} (hi : i < 8) : (reverseByte b).getLsbD i = b.getLsbD (7 - i) := by
  unfold reverseByte
  simp only [BitVec.getLsbD_append, BitVec.getLsbD_extractLsb']
  interval_cases i <;> simp

theorem reverseByte_reverseByte (b : Byte) : reverseByte (reverseByte b) = b := by
  refine BitVec.eq_of_getLsbD_eq fun i hi => ?_
  rw [reverseByte_getLsbD _ hi, reverseByte_getLsbD _ (by omega)]
  congr 1
  omega

theorem reverseByte_not (b : Byte) : reverseByte (~~~b) = ~~~reverseByte b := by
  refine BitVec.eq_of_getLsbD_eq fun i hi => ?_
  have hi' : 7 - i < 8 := by omega
  rw [reverseByte_getLsbD _ hi, BitVec.getLsbD_not, BitVec.getLsbD_not, reverseByte_getLsbD _ hi, decide_eq_true hi,
    decide_eq_true hi']

/-! ### A swizzle set moves the bytes and changes each (Table 17) -/

/-- Flags H and B: where the bytes go. -/
def Swz.move {α : Type} (s : Swz) (q : Quad α) : Quad α :=
  (if s.b = true then swapBytes else id) ((if s.h = true then swapHalves else id) q)

/-- Flags R and N: what becomes of each byte, `fR` and `fN` being what they do to one. -/
def Swz.change {α : Type} (s : Swz) (fR fN : α → α) (x : α) : α :=
  (if s.n = true then fN else id) ((if s.r = true then fR else id) x)

section
variable {α β : Type} {fR fN : α → α} (s : Swz) (q : Quad α)

theorem swizzleQuad_eq : swizzleQuad fR fN s q = Quad.map (s.change fR fN) (s.move q) := by
  unfold swizzleQuad Swz.change Swz.move
  dsimp only
  split_ifs <;> rfl

theorem Swz.move_map (g : α → β) : s.move (Quad.map g q) = Quad.map g (s.move q) := by
  unfold Swz.move
  split_ifs <;> rfl

theorem Swz.move_move : s.move (s.move q) = q := by
  unfold Swz.move
  split_ifs <;> rfl

variable {s}

theorem Swz.change_change (hR : ∀ x, fR (fR x) = x) (hN : ∀ x, fN (fN x) = x) (hRN : ∀ x, fR (fN x) = fN (fR x)) (x : α) :
    s.change fR fN (s.change fR fN x) = x := by
  unfold Swz.change
  split_ifs <;> simp [hR, hN, hRN]

/-- A swizzle set undoes itself. -/
theorem swizzleQuad_swizzleQuad (hR : ∀ x, fR (fR x) = x) (hN : ∀ x, fN (fN x) = x) (hRN : ∀ x, fR (fN x) = fN (fR x)) :
    swizzleQuad fR fN s (swizzleQuad fR fN s q) = q := by
  rw [swizzleQuad_eq, swizzleQuad_eq, Swz.move_map, Swz.move_move]
  have hid : ∀ x, s.change fR fN (s.change fR fN x) = x := Swz.change_change hR hN hRN
  simp only [Quad.map, hid]

/-- What is read of the elements may be read before the swizzle. -/
theorem swizzleQuad_map {gR gN : β → β} (g : α → β) (hR : ∀ x, g (fR x) = gR (g x)) (hN : ∀ x, g (fN x) = gN (g x)) :
    swizzleQuad gR gN s (Quad.map g q) = Quad.map g (swizzleQuad fR fN s q) := by
  have hchange : ∀ x, s.change gR gN (g x) = g (s.change fR fN x) := by
    intro x
    unfold Swz.change
    split_ifs <;> simp [hR, hN]
  rw [swizzleQuad_eq, swizzleQuad_eq, Swz.move_map]
  simp only [Quad.map, hchange]

end

/-! ### Beats swizzled and put in reverse order (R45 to R50) -/

/-- R46: a read is swizzled as the write's bytes are. -/
theorem swizzleRead_bytes (s : Swz) (x : WBeat) :
    swizzleRead s (Beat.map (·.byte) x) = Beat.map (·.byte) (swizzleWrite s x) := by
  unfold swizzleRead swizzleWrite Beat.map
  rw [Beat.mk.injEq]
  exact ⟨swizzleQuad_map _ _ (fun _ => rfl) (fun _ => rfl), swizzleQuad_map _ _ (fun _ => rfl) (fun _ => rfl)⟩

theorem swizzleRead_swizzleRead (s : Swz) (b : RBeat) : swizzleRead s (swizzleRead s b) = b := by
  have hquad := fun q : Quad Byte => swizzleQuad_swizzleQuad (s := s) q reverseByte_reverseByte
    (fun x => BitVec.not_not) reverseByte_not
  unfold swizzleRead
  rw [hquad, hquad]

theorem swizzleRead_swizzleWrite_strobed (s : Swz) (b : RBeat) :
    swizzleRead s (Beat.map (·.byte) (swizzleWrite s (strobed b))) = b := by
  rw [← swizzleRead_bytes]
  exact swizzleRead_swizzleRead s b

/-- Table 17: a set does its flags' work one after another. -/
theorem swizzleQuad_flags {α : Type} (fR fN : α → α) (h b r n : Bool) (q : Quad α) :
    swizzleQuad fR fN ⟨h, b, r, n⟩ q =
      swizzleQuad fR fN ⟨false, false, false, n⟩ (swizzleQuad fR fN ⟨false, false, r, false⟩
        (swizzleQuad fR fN ⟨false, b, false, false⟩ (swizzleQuad fR fN ⟨h, false, false, false⟩ q))) := rfl

/-- A host read returns what the host wrote. -/
theorem incoming_outgoing (w : Swz) (reversed : Bool) (data : List RBeat) :
    incoming w reversed ((outgoing w reversed (data.map strobed)).map (Beat.map (·.byte))) = data := by
  have hback : ∀ b : RBeat, swizzleRead w (Beat.map (·.byte) (swizzleWrite w (strobed b))) = b := swizzleRead_swizzleWrite_strobed w
  have hswap : ∀ b : RBeat, swizzleRead w (swapWords (Beat.map (·.byte) (swapWords (swizzleWrite w (strobed b))))) = b :=
    hback
  cases reversed with
  | false =>
    simp only [incoming, outgoing, Bool.false_eq_true, if_false, List.map_map, Function.comp_def, hback, List.map_id']
  | true =>
    simp only [incoming, outgoing, if_true, List.map_map, List.map_reverse, List.reverse_reverse, Function.comp_def, hswap,
      List.map_id']

/-- The element of a reversed list that mirrors the `k`-th. -/
theorem getElem_map_reverse {α β : Type} {l : List α} {k : Nat} {a : α} (h : l[k]? = some a) (f : α → β) :
    (l.map f).reverse[l.length - 1 - k]? = some (f a) := by
  have hk := (List.getElem?_eq_some_iff.mp h).1
  rw [List.getElem?_reverse (by rw [List.length_map]; omega), List.length_map, List.getElem?_map]
  have hindex : l.length - 1 - (l.length - 1 - k) = k := by omega
  rw [hindex, h]
  rfl

/-- R48, R49: beats in reverse order, each with its two words exchanged. -/
theorem outgoing_reversed (w : Swz) (data : List WBeat) :
    outgoing w true data = (data.map (fun b => swapWords (swizzleWrite w b))).reverse := by
  rw [outgoing, List.map_map]
  rfl

/-- R50: the reversal undone on a read. -/
theorem incoming_reversed (w : Swz) (read : List RBeat) :
    incoming w true read = (read.map (fun b => swizzleRead w (swapWords b))).reverse := by
  rw [incoming, if_pos rfl, ← List.map_reverse, List.map_map, ← List.map_reverse]
  rfl

/-- No flag, and beats not reversed: nothing is changed (R45). -/
theorem swizzleRead_none (b : RBeat) : swizzleRead ⟨false, false, false, false⟩ b = b := rfl
theorem swizzleWrite_none (b : WBeat) : swizzleWrite ⟨false, false, false, false⟩ b = b := rfl

theorem outgoing_none (data : List WBeat) : outgoing ⟨false, false, false, false⟩ false data = data :=
  (List.map_congr_left fun b _ => swizzleWrite_none b).trans (List.map_id' data)

theorem incoming_none (data : List RBeat) : incoming ⟨false, false, false, false⟩ false data = data :=
  (List.map_congr_left fun b _ => swizzleRead_none b).trans (List.map_id' data)

/-! ### The swizzle set of a piece -/

theorem pieceSwz_outside {z : Zone} {r : Region} (hfilm : ∀ i b, z ≠ .filmPixel i b) (hoverlay : ∀ i, z ≠ .overlayPixel i) :
    pieceSwz z r = ⟨false, false, false, false⟩ := by
  unfold pieceSwz
  split
  · exact absurd rfl (hfilm _ _)
  · exact absurd rfl (hoverlay _)
  · rfl

/-- R47, orientation by orientation. -/
theorem physicalOffset_orient (f : Film) (o : Nat) :
    physicalOffset f o =
      (match f.orient with
       | .normal => o / (f.width * 4) * (f.width * 4) + o % (f.width * 4) / 4 * 4
       | .mirrorX => o / (f.width * 4) * (f.width * 4) + (f.width - 1 - o % (f.width * 4) / 4) * 4
       | .mirrorY => (f.height - 1 - o / (f.width * 4)) * (f.width * 4) + o % (f.width * 4) / 4 * 4
       | .rotate180 => (f.height - 1 - o / (f.width * 4)) * (f.width * 4) + (f.width - 1 - o % (f.width * 4) / 4) * 4) +
        o % 4 := by
  unfold physicalOffset Film.stride
  cases f.orient <;> rfl

/-- Settles O27: swizzle and orientation by their laws, and the pieces by what each is made of. -/
theorem pixelAreaMapsInvert : Obligations.PixelAreaMapsInvert := by
  unfold Obligations.PixelAreaMapsInvert
  refine ⟨incoming_outgoing, fun w data read => ?_, fun f o ho => ?_, fun x h b r n => ?_, fun p q x hx => ?_⟩
  · refine ⟨rfl, rfl, ?_, ?_, fun k b hb => ?_, fun k b hb => ?_⟩
    · rw [outgoing_reversed]; simp
    · rw [incoming_reversed]; simp
    · rw [outgoing_reversed]; exact getElem_map_reverse hb _
    · rw [incoming_reversed]; exact getElem_map_reverse hb _
  · exact ⟨physicalOffset_lt ho, physicalOffset_physicalOffset ho, physicalOffset_orient f o⟩
  · intro one
    have hreverse : ∀ l : Lane, (⟨reverseByte l.byte, l.strobe⟩ : Lane).strobe = l.strobe ∧
        ∀ i, i < 8 → (reverseByte l.byte).getLsbD i = l.byte.getLsbD (7 - i) :=
      fun l => ⟨rfl, fun i hi => reverseByte_getLsbD _ hi⟩
    have hnegate : ∀ l : Lane, (⟨~~~l.byte, l.strobe⟩ : Lane).strobe = l.strobe ∧
        ∀ i, i < 8 → (~~~l.byte).getLsbD i = !l.byte.getLsbD i :=
      fun l => ⟨rfl, fun i hi => by rw [BitVec.getLsbD_not, decide_eq_true hi, Bool.true_and]⟩
    have hzip : ∀ (g : Lane → Lane) (P : Lane × Lane → Prop) (q : Quad Lane), (∀ l, P (g l, l)) →
        ∀ y ∈ [g q.b0, g q.b1, g q.b2, g q.b3].zip [q.b0, q.b1, q.b2, q.b3], P y := by
      intro g P q hP
      simp [hP]
    refine ⟨fun q => ⟨rfl, rfl, hzip (fun l => { l with byte := reverseByte l.byte }) _ q hreverse,
      hzip (fun l => { l with byte := ~~~l.byte }) _ q hnegate⟩, ?_, swizzleRead_bytes _ _⟩
    show (⟨_, _⟩ : WBeat) = _
    rw [Beat.mk.injEq]
    exact ⟨swizzleQuad_flags _ _ h b r n x.lo, swizzleQuad_flags _ _ h b r n x.hi⟩
  · obtain ⟨k, hk⟩ := PathState.classify_isPiece hx
    refine ⟨hk.write, hk.data, fun i b f hz hf => ?_, fun i v hz hv => ?_, hk.plainPlace, fun hfilm hoverlay => ?_⟩
    · obtain ⟨hdesc, haddr, hrev⟩ := hk.film hz hf
      refine ⟨by rw [hz, hdesc]; rfl, by rw [hrev, reversesBeats_iff], ?_⟩
      rw [haddr, physicalStart_eq hk.pos, hrev]
    · have hdesc : x.desc = .overlay v := by rw [hk.desc, hz, PathState.descOf_index rfl, hv]
      rw [hz, hdesc]; rfl
    · obtain ⟨hrev, -⟩ := hk.plainPlace hfilm
      have hswz := pieceSwz_outside (r := x.desc) hfilm hoverlay
      refine ⟨hswz, ?_, fun data => ?_⟩
      · rw [hk.data, hswz, hrev, outgoing_none]
      · rw [hswz, hrev, incoming_none]

end Sys2Proof.Machine
end

section
/-! PROOFS. The notices of a write piece, zone by zone (R52, R53, R55, R56, Table 20). -/

namespace Sys2Proof.Machine

open Sys2Proof

/-! ### By zone -/

section
variable {p : PathState} {cb : Nat} {q : HostReq} {x : Piece}

theorem PathState.noticesOf_ok (hwrite : reqIsWrite q = true) (data : List RBeat) :
    p.noticesOf cb q x (.ok data) = p.notices cb q x := if_pos hwrite

theorem PathState.noticesOf_none {r : Reply} (h : r = .error ∨ reqIsWrite q = false) : p.noticesOf cb q x r = [] := by
  cases r with
  | error => rfl
  | ok data => exact if_neg (Bool.eq_false_iff.mp (h.resolve_left (by simp)))

theorem PathState.notices_plain (hz : x.zone = .plain) :
    p.notices cb q x = (x.logicalBeats q).flatMap (fun y => plainNotice cb y.1 y.2) := by
  simp only [PathState.notices, hz]

theorem PathState.notices_filmPixel {i b : Nat} (hz : x.zone = .filmPixel i b) :
    p.notices cb q x = if entryAt p.table i = x.desc then [.filmPixel i b] else [] := by
  simp only [PathState.notices, hz, Zone.index, beq_iff_eq]

theorem PathState.notices_filmTag {i b : Nat} {f : Film} (hz : x.zone = .filmTag i b) (hd : x.desc = .film f) :
    p.notices cb q x = tagNotice f i b (entryAt p.table i == .film f) (x.logicalBeats q) := by
  simp only [PathState.notices, hz, hd, Zone.index]

theorem PathState.notices_audioRing {i : Nat} {g : AudioRing} (hz : x.zone = .audioRing i) (hd : x.desc = .audio g) :
    p.notices cb q x = if entryAt p.table i = .audio g then audioNotices g i (x.logicalBeats q) else [] := by
  simp only [PathState.notices, hz, hd, Zone.index, beq_iff_eq]

/-- The zones whose writes concern nobody. -/
theorem PathState.notices_unheeded
    (hz : x.zone = .camera ∨ (∃ i, x.zone = .filmRest i) ∨ (∃ i, x.zone = .overlayPixel i) ∨ (∃ i, x.zone = .overlayRest i) ∨
      ∃ i, x.zone = .audioRest i) : p.notices cb q x = [] := by
  rcases hz with hz | ⟨i, hz⟩ | ⟨i, hz⟩ | ⟨i, hz⟩ | ⟨i, hz⟩ <;> simp only [PathState.notices, hz]

end

/-! ### A tag area (R55) -/

section
variable {f : Film} {i b : Nat} {stands : Bool} {beats : List (Nat × WBeat)}

theorem tagNotice_whole (h : ∀ l ∈ tagLanes f b beats, l.strobe = true) :
    tagNotice f i b stands beats = if stands = true then [.filmTag i b ((tagLanes f b beats).map (·.byte))] else [] :=
  if_pos (List.all_eq_true.mpr h)

theorem tagNotice_part (h : ∃ l ∈ tagLanes f b beats, l.strobe = true) (hnot : ∃ l ∈ tagLanes f b beats, l.strobe = false) :
    tagNotice f i b stands beats = [.partialWrite] := by
  obtain ⟨l, hl, hoff⟩ := hnot
  have hall : ¬(tagLanes f b beats).all (·.strobe) = true := fun ha => by
    rw [List.all_eq_true.mp ha l hl] at hoff; cases hoff
  exact (if_neg hall).trans (if_pos (List.any_eq_true.mpr h))

theorem tagNotice_nothing (h : ∀ l ∈ tagLanes f b beats, l.strobe = false) : tagNotice f i b stands beats = [] := by
  have hany : ¬(tagLanes f b beats).any (·.strobe) = true := by
    rw [List.any_eq_true]
    rintro ⟨l, hl, hon⟩
    rw [h l hl] at hon; cases hon
  have hall : ¬(tagLanes f b beats).all (·.strobe) = true := by
    rw [List.all_eq_true]
    intro ha
    have hmem : laneAt beats (f.bufBase b + f.pixelBytes + 0) ∈ tagLanes f b beats :=
      List.mem_map.mpr ⟨0, List.mem_range.mpr (by decide), rfl⟩
    have hon := ha _ hmem
    rw [h _ hmem] at hon; cases hon
  exact (if_neg hall).trans (if_neg hany)

end

/-! ### The blocks of a ring (R56) -/

/-- The beats of a write piece stand 8 bytes apart from its logical address on. -/
theorem Piece.logicalBeats_getElem {x : Piece} {q : HostReq} {n : Nat} {y : Nat × WBeat}
    (h : (x.logicalBeats q)[n]? = some y) : y.1 = x.logical + 8 * n := by
  rw [Piece.logicalBeats, List.getElem?_mapIdx, Option.map_eq_some_iff] at h
  obtain ⟨b, -, rfl⟩ := h
  rfl

/-- A lane among the last four bytes of its block is in the second word of the block's last beat. -/
theorem blockEnd_iff {base a k j : Nat} (hbase : base % 8 = 0) (ha : a % 8 = 0) (hle : base ≤ a) (hk : k < 8) :
    (a + k - base) / 1024 = j ∧ 1020 ≤ (a + k - base) % 1024 ↔
      (a - base) / 1024 = j ∧ (a - base) % 1024 = 1016 ∧ 4 ≤ k := by
  omega

/-- The lanes of a beat's second word. -/
theorem Beat.hi_strobed_iff {b : WBeat} :
    ((Beat.toList b).drop 4).any (·.strobe) = true ↔ ∃ k, 4 ≤ k ∧ k < 8 ∧ (Beat.nth b k).strobe = true := by
  constructor
  · intro h
    simp only [Beat.toList, List.drop_succ_cons, List.drop_zero, List.any_cons, List.any_nil, Bool.or_false,
      Bool.or_eq_true] at h
    rcases h with h | h | h | h
    · exact ⟨4, by omega, by omega, h⟩
    · exact ⟨5, by omega, by omega, h⟩
    · exact ⟨6, by omega, by omega, h⟩
    · exact ⟨7, by omega, by omega, h⟩
  · rintro ⟨k, h4, h8, h⟩
    have hmem : Beat.nth b k ∈ (Beat.toList b).drop 4 := by
      interval_cases k <;> simp [Beat.toList, Beat.nth, Quad.nth]
    exact List.any_eq_true.mpr ⟨_, hmem, h⟩

/-- R56: the end mark of a block's notice. -/
def blockEnds (g : AudioRing) (beats : List (Nat × WBeat)) (j : Nat) : Bool :=
  beats.any (fun x =>
    (x.1 - g.base) / 1024 == j && (x.1 - g.base) % 1024 == 1016 && ((Beat.toList x.2).drop 4).any (·.strobe))

theorem blockEnds_iff {g : AudioRing} {beats : List (Nat × WBeat)} {j : Nat} (hbase : g.base % 8 = 0)
    (hbeats : ∀ y ∈ beats, g.base ≤ y.1 ∧ y.1 % 8 = 0) :
    blockEnds g beats j = true ↔ ∃ y ∈ beats, ∃ k, k < 8 ∧ (Beat.nth y.2 k).strobe = true ∧
      (y.1 + k - g.base) / 1024 = j ∧ 1020 ≤ (y.1 + k - g.base) % 1024 := by
  rw [blockEnds, List.any_eq_true]
  refine exists_congr fun y => and_congr_right fun hy => ?_
  obtain ⟨hle, halign⟩ := hbeats y hy
  rw [Bool.and_eq_true, Bool.and_eq_true, beq_iff_eq, beq_iff_eq, Beat.hi_strobed_iff]
  constructor
  · rintro ⟨⟨hblock, hend⟩, k, h4, h8, hon⟩
    exact ⟨k, h8, hon, (blockEnd_iff hbase halign hle h8).mpr ⟨hblock, hend, h4⟩⟩
  · rintro ⟨k, h8, hon, hplace⟩
    obtain ⟨hblock, hend, h4⟩ := (blockEnd_iff hbase halign hle h8).mp hplace
    exact ⟨⟨hblock, hend⟩, k, h4, h8, hon⟩

/-- R56: one notice for each block touched, ascending, with its end mark. -/
theorem audioNotices_spec {g : AudioRing} {i : Nat} {x : Piece} {q : HostReq} (hbase : g.base % 8 = 0)
    (hle : g.base ≤ x.logical) (halign : x.logical % 8 = 0) :
    ∃ js : List Nat, js.Pairwise (· < ·) ∧ (∀ j, j ∈ js ↔ ∃ y ∈ x.logicalBeats q, (y.1 - g.base) / 1024 = j) ∧
      audioNotices g i (x.logicalBeats q) =
        js.map (fun j => .audioBlock i j (blockEnds g (x.logicalBeats q) j)) := by
  have hat : ∀ {n : Nat} {y : Nat × WBeat}, (x.logicalBeats q)[n]? = some y → y.1 = x.logical + 8 * n :=
    Piece.logicalBeats_getElem
  generalize x.logicalBeats q = beats at hat ⊢
  cases hlast : beats.getLast? with
  | none =>
    rw [List.getLast?_eq_none_iff] at hlast
    subst hlast
    exact ⟨[], List.Pairwise.nil, by simp, rfl⟩
  | some z =>
    cases hhead : beats.head? with
    | none =>
      rw [List.head?_eq_none_iff] at hhead
      subst hhead
      cases hlast
    | some a =>
      have ha : a.1 = x.logical := hat (n := 0) (by rw [← List.head?_eq_getElem?, hhead])
      have hz : z.1 = x.logical + 8 * (beats.length - 1) := hat (by rw [← List.getLast?_eq_getElem?, hlast])
      have hlen : 0 < beats.length := List.length_pos_of_ne_nil (by rintro rfl; cases hhead)
      refine ⟨(List.range ((z.1 - g.base) / 1024 + 1 - (a.1 - g.base) / 1024)).map (fun k => (a.1 - g.base) / 1024 + k),
        ?_, fun j => ?_, ?_⟩
      · exact List.pairwise_map.mpr (List.pairwise_lt_range.imp fun h => by omega)
      · simp only [List.mem_map, List.mem_range]
        constructor
        · rintro ⟨k, hk, rfl⟩
          -- the block's first beat, or the piece's where the block is the first one
          have hn : ((g.base + 1024 * ((a.1 - g.base) / 1024 + k)) - x.logical) / 8 < beats.length := by omega
          refine ⟨beats[_]'hn, List.getElem_mem hn, ?_⟩
          rw [hat (List.getElem?_eq_getElem hn)]
          omega
        · rintro ⟨y, hy, rfl⟩
          obtain ⟨n, hn⟩ := List.mem_iff_getElem?.mp hy
          have hlt := (List.getElem?_eq_some_iff.mp hn).1
          have hy1 := hat hn
          exact ⟨(y.1 - g.base) / 1024 - (a.1 - g.base) / 1024, by omega, by omega⟩
      · unfold audioNotices
        rw [hhead, hlast, List.map_map]
        rfl

/-! ### A block write at AUD (R83, R91) -/

/-- R91: a ring record with its newly due prefetch. -/
def RingRecord.withDue (r : RingRecord) : RingRecord :=
  match r.newlyDue with
  | none => r
  | some j => { r with prefetch := some (Prefetch.fresh j) }

theorem RingRecord.withDue_frame (r : RingRecord) : r.withDue = { r with prefetch := r.withDue.prefetch } := by
  unfold RingRecord.withDue; split <;> rfl

theorem RingRecord.newlyDue_of_filled {r : RingRecord} {j : Nat} (hidle : r.prefetch = none) (htarget : r.target = some j)
    (hfilled : r.block j = .filled) : r.newlyDue = some j := by
  simp only [RingRecord.newlyDue, hidle, htarget, if_pos hfilled]

theorem RingRecord.withDue_of_newlyDue {r : RingRecord} {j : Nat} (h : r.newlyDue = some j) :
    r.withDue.prefetch = some (Prefetch.fresh j) := by
  simp only [RingRecord.withDue, h]

section
variable {a : AudState} {k i : Seat} {r : RingRecord}

theorem AudState.makeDue_stream (h : (Pair.get a.streams k).ring = some r) :
    Pair.get (a.makeDue k).streams k = { Pair.get a.streams k with ring := some r.withDue } := by
  cases hdue : r.newlyDue with
  | none =>
    simp only [AudState.makeDue, RingRecord.withDue, h, hdue]
    rw [← h]
  | some j => simp only [AudState.makeDue, RingRecord.withDue, h, hdue, Pair.get_set_self]

theorem AudState.makeDue_other (h : i ≠ k) : Pair.get (a.makeDue k).streams i = Pair.get a.streams i := by
  dsimp only [AudState.makeDue]
  split
  · rfl
  · split
    · rfl
    · exact Pair.get_set_ne _ _ h

theorem AudState.due_makeDue (h : i ∈ a.due) : i ∈ (a.makeDue k).due := by
  dsimp only [AudState.makeDue]
  split
  · exact h
  · split
    · exact h
    · exact List.mem_append_left _ h

theorem AudState.makeDue_due {j : Nat} (h : (Pair.get a.streams k).ring = some r) (hdue : r.newlyDue = some j) :
    k ∈ (a.makeDue k).due := by
  simp only [AudState.makeDue, h, hdue]
  exact List.mem_append_right _ (List.mem_singleton_self k)

end

/-- R83: the ring record of a stream that takes a block write: an EMPTY block whose end is written is FILLED. -/
def RingRecord.written (r : RingRecord) (j : Nat) (e : Bool) : RingRecord :=
  { r with blocks := if r.block j = .empty ∧ e = true then r.blocks.set j .filled else r.blocks }

/-- R83: a write of a block that plays, or whose prefetch has begun, is late. -/
theorem Stream.blockWrite_eq {st : Stream} {r : RingRecord} (h : st.ring = some r) (j : Nat) (e : Bool) :
    st.blockWrite r j e =
      { st with ring := some (r.written j e),
                lateWrites := if r.block j = .playing ∨ (r.block j = .filled ∧ r.fetchBegun j = true) then
                  min (st.lateWrites + 1) 65535 else st.lateWrites } := by
  cases hb : r.block j with
  | empty => cases e <;> simp [Stream.blockWrite, RingRecord.written, hb, ← h]
  | filled => cases hf : r.fetchBegun j <;> simp [Stream.blockWrite, RingRecord.written, hb, hf, ← h, satInc]
  | playing => simp [Stream.blockWrite, RingRecord.written, hb, ← h, satInc]

/-- R83, R91: what a block write notice makes of a stream, and when it makes the stream's prefetch due. -/
def BlockWritten (st st' : Stream) (i j : Nat) (e : Bool) (due : Prop) : Prop :=
  (st.ring = none ∨ st.phase = .stopped → st' = st) ∧
  (∀ r, st.ring = some r → st.phase ≠ .stopped →
    (r.idx ≠ i → st' = st) ∧
    (r.idx = i → j < r.blocks.length →
      ∃ r', st' = { st with
                    ring := some r',
                    lateWrites := if r.block j = .playing ∨ (r.block j = .filled ∧ r.fetchBegun j = true) then
                      min (st.lateWrites + 1) 65535 else st.lateWrites } ∧
        r' = { r with
               blocks := if r.block j = .empty ∧ e = true then r.blocks.set j .filled else r.blocks,
               prefetch := r'.prefetch } ∧
        (r.prefetch = none → r.target = some j → r'.block j = .filled →
          r'.prefetch = some { block := j, granted := 0, back := 0, err := false, data := [] } ∧ due)))

theorem BlockWritten.imp {st st' : Stream} {i j : Nat} {e : Bool} {due due' : Prop} (h : BlockWritten st st' i j e due)
    (himp : due → due') : BlockWritten st st' i j e due' := by
  refine ⟨h.1, fun r hr hp => ⟨(h.2 r hr hp).1, fun hi hj => ?_⟩⟩
  obtain ⟨r', hst, hr', hdue⟩ := (h.2 r hr hp).2 hi hj
  exact ⟨r', hst, hr', fun h1 h2 h3 => ⟨(hdue h1 h2 h3).1, himp (hdue h1 h2 h3).2⟩⟩

section
variable {a : AudState} {k l : Seat} {i j : Nat} {e : Bool}

theorem AudState.streamWrite_self :
    BlockWritten (Pair.get a.streams k) (Pair.get (a.streamWrite k i j e).streams k) i j e
      (k ∈ (a.streamWrite k i j e).due) := by
  cases hr : (Pair.get a.streams k).ring with
  | none =>
    have hsame : a.streamWrite k i j e = a := by simp only [AudState.streamWrite, hr]
    rw [hsame]
    exact ⟨fun _ => rfl, fun r h => by rw [hr] at h; cases h⟩
  | some r =>
    by_cases hhit : r.idx = i ∧ (Pair.get a.streams k).phase ≠ .stopped
    · have hself := Pair.get_set_self a.streams k ((Pair.get a.streams k).blockWrite r j e)
      have hring : ((Pair.get a.streams k).blockWrite r j e).ring = some (r.written j e) := by
        rw [Stream.blockWrite_eq hr]
      have hwrite : a.streamWrite k i j e =
          AudState.makeDue { a with streams := Pair.set a.streams k ((Pair.get a.streams k).blockWrite r j e) } k := by
        simp only [AudState.streamWrite, hr, if_pos hhit]
      rw [← hself] at hring
      have hstream := (AudState.makeDue_stream (a := { a with streams := Pair.set a.streams k _ }) hring).trans
        (congrArg (fun st : Stream => { st with ring := some (r.written j e).withDue }) hself)
      rw [← hwrite] at hstream
      refine ⟨fun h => ?_, fun r₀ h _ => ⟨fun hi => ?_, fun _ _ => ?_⟩⟩
      · rw [hr] at h
        exact absurd (h.resolve_left (by simp)) hhit.2
      · rw [hr] at h
        cases h
        exact absurd hhit.1 hi
      · rw [hr] at h
        cases h
        refine ⟨(r.written j e).withDue, ?_, RingRecord.withDue_frame _, fun hidle htarget hfilled => ?_⟩
        · rw [hstream, Stream.blockWrite_eq hr]
        · have hblock : (r.written j e).block j = .filled := by
            rw [RingRecord.withDue_frame] at hfilled
            exact hfilled
          have hdue : (r.written j e).newlyDue = some j := RingRecord.newlyDue_of_filled hidle htarget hblock
          rw [hwrite]
          exact ⟨RingRecord.withDue_of_newlyDue hdue, AudState.makeDue_due hring hdue⟩
    · have hsame : a.streamWrite k i j e = a := by simp only [AudState.streamWrite, hr, if_neg hhit]
      rw [hsame]
      refine ⟨fun _ => rfl, fun r₀ h hp => ⟨fun _ => rfl, fun hi => ?_⟩⟩
      rw [hr] at h
      cases h
      exact absurd ⟨hi, hp⟩ hhit

theorem AudState.streamWrite_other (h : l ≠ k) :
    Pair.get (a.streamWrite k i j e).streams l = Pair.get a.streams l := by
  dsimp only [AudState.streamWrite]
  split
  · rfl
  · split
    · exact (AudState.makeDue_other h).trans (Pair.get_set_ne _ _ h)
    · rfl

theorem AudState.due_streamWrite (h : l ∈ a.due) : l ∈ (a.streamWrite k i j e).due := by
  dsimp only [AudState.streamWrite]
  split
  · exact h
  · split
    · exact AudState.due_makeDue h
    · exact h

/-- R83: each stream takes the notice by itself. -/
theorem AudState.blockWrite_stream :
    BlockWritten (Pair.get a.streams k) (Pair.get (a.blockWrite i j e).streams k) i j e (k ∈ (a.blockWrite i j e).due) := by
  unfold AudState.blockWrite
  cases k with
  | left =>
    rw [AudState.streamWrite_other (l := .left) (by decide)]
    exact AudState.streamWrite_self.imp AudState.due_streamWrite
  | right =>
    have h := AudState.streamWrite_self (a := a.streamWrite .left i j e) (k := .right) (i := i) (j := j) (e := e)
    rwa [AudState.streamWrite_other (l := .right) (by decide)] at h

end

/-! ### The two commands -/

theorem exec_hostPieceDrop {s : State} {x : Piece} (hturn : s.path.turn = some x) (hdrop : x.drop = true) :
    exec .hostPieceDrop s = .next
      ((s.setPath (PathState.drain
        { s.path with
          queue := mapFirstPiece Piece.isUnissued (fun p => { p with status := .complete }) s.path.queue,
          dropped := satInc s.path.dropped })).raise .writeDropped) := by
  show execHostPieceDrop s = _
  simp only [execHostPieceDrop, hturn, if_pos hdrop]

/-- The completion of a discarded piece arrives and is discarded (R41). -/
theorem exec_hostPieceComplete_dead {r : Reply} {s : State} {f : Flight} (hdue : s.dueFlight = some f)
    (hown : f.owner = .host) (hwf : r.wfBurst = true) (hdead : f.live = false) :
    exec (.hostPieceComplete r) s = .next s.popFlight := by
  show execHostPieceComplete r s = _
  simp only [execHostPieceComplete, hdue, hown, hdead, if_pos hwf, if_true, Bool.false_eq_true, if_false]

theorem exec_hostPieceComplete_live {r : Reply} {s : State} {f : Flight} {e : HostEntry} {x : Piece}
    (hdue : s.dueFlight = some f) (hown : f.owner = .host) (hwf : r.wfBurst = true) (hlive : f.live = true)
    (hpiece : firstPiece Piece.isIssued s.path.queue = some (e, x)) (hreply : r.wf x.replyBeats = true) :
    exec (.hostPieceComplete r) s = .next
      ((s.popFlight.setPath (PathState.drain
        { s.path with queue := mapFirstPiece Piece.isIssued (fun y => y.finish r) s.path.queue })).notify
          (s.path.noticesOf s.boot.cbBase e.req x r)) := by
  show execHostPieceComplete r s = _
  simp only [execHostPieceComplete, hdue, hown, hlive, hpiece, if_pos hwf, if_pos hreply, if_true]
  rfl

/-- Settles O28: each command's arm in turn, then the notices zone by zone, then AUD stream by stream. -/
theorem hostPieceRows : Obligations.HostPieceRows := by
  unfold Obligations.HostPieceRows
  refine ⟨fun s x hturn hdrop => exec_hostPieceDrop hturn hdrop, fun r s f hdue hown hwf => ⟨?_, ?_⟩,
    fun p cb q x data hwrite => ?_, fun s => ⟨rfl, fun _ _ => rfl, rfl⟩, fun s i j e => ?_⟩
  · exact fun hdead => exec_hostPieceComplete_dead hdue hown hwf hdead
  · intro e x hlive hpiece hreply t
    have hexec : exec (.hostPieceComplete r) s = .next (t.notify (s.path.noticesOf s.boot.cbBase e.req x r)) :=
      exec_hostPieceComplete_live hdue hown hwf hlive hpiece hreply
    refine ⟨hexec, fun hnone => ?_, ?_⟩
    · rw [hexec, PathState.noticesOf_none hnone]
      rfl
    · rw [State.notify_table]
      rfl
  · intro ns beats
    have hns : ns = p.notices cb q x := PathState.noticesOf_ok hwrite data
    refine ⟨fun hz => ?_, fun i b hz => ?_, fun i b f hz hd => ?_, fun i g hz hd => ⟨fun hgone => ?_, ?_⟩, fun hz => ?_⟩
    · exact hns.trans (PathState.notices_plain hz)
    · exact hns.trans (PathState.notices_filmPixel hz)
    · have htag := hns.trans (PathState.notices_filmTag hz hd)
      refine ⟨fun hall => ?_, fun hsome hnot => ?_, fun hnone => ?_⟩
      · rw [htag, tagNotice_whole hall]
        simp only [beq_iff_eq]
        rfl
      · exact htag.trans (tagNotice_part hsome hnot)
      · exact htag.trans (tagNotice_nothing hnone)
    · rw [hns, PathState.notices_audioRing hz hd, if_neg hgone]
    · intro hstands hbase hle halign
      obtain ⟨js, hasc, hmem, hnotices⟩ := audioNotices_spec (i := i) (q := q) hbase hle halign
      have hjs : ns = js.map (fun j => .audioBlock i j (blockEnds g beats j)) := by
        rw [hns, PathState.notices_audioRing hz hd, if_pos hstands, hnotices]
      refine ⟨js, hasc, hmem, by rw [hjs, List.length_map], fun m j hm => ⟨blockEnds g beats j, ?_, ?_⟩⟩
      · rw [hjs, List.getElem?_map, hm]
        rfl
      · refine blockEnds_iff hbase fun y hy => ?_
        obtain ⟨n, hn⟩ := List.mem_iff_getElem?.mp hy
        have hat := Piece.logicalBeats_getElem hn
        omega
    · exact hns.trans (PathState.notices_unheeded hz)
  · exact ⟨_, rfl, rfl, fun k => AudState.blockWrite_stream⟩

end Sys2Proof.Machine
end

section
/-! PROOFS. The watched words of the control block: their notices, and what LOAD does with a generation and an acknowledge
(R53, R54, R166, R175). -/

namespace Sys2Proof.Machine

open Sys2Proof

/-! ### The notices (R53, Table 60, Table 61) -/

section
variable {cb off : Nat} {b : WBeat} {n : Notice}

theorem plainNotice_whole (hw : watchedNotice off b = some n) (hall : (Beat.toList b).all (·.strobe) = true) :
    plainNotice cb (cb + off) b = [n] := by
  simp only [plainNotice, Nat.le_add_right, if_true, Nat.add_sub_cancel_left, hw, hall]

theorem plainNotice_part (hw : watchedNotice off b = some n) (hany : (Beat.toList b).any (·.strobe) = true)
    (hall : (Beat.toList b).all (·.strobe) = false) : plainNotice cb (cb + off) b = [.partialWrite] := by
  simp only [plainNotice, Nat.le_add_right, if_true, Nat.add_sub_cancel_left, hw, hall, hany, Bool.false_eq_true, if_false]

theorem plainNotice_unstrobed (hw : watchedNotice off b = some n) (hany : (Beat.toList b).any (·.strobe) = false) :
    plainNotice cb (cb + off) b = [] := by
  have hall : (Beat.toList b).all (·.strobe) = false := by
    rw [Beat.toList, List.any_cons, Bool.or_eq_false_iff] at hany
    rw [Beat.toList, List.all_cons, hany.1, Bool.false_and]
  simp only [plainNotice, Nat.le_add_right, if_true, Nat.add_sub_cancel_left, hw, hall, hany, Bool.false_eq_true, if_false]

theorem plainNotice_unwatched (hw : watchedNotice off b = none) : plainNotice cb (cb + off) b = [] := by
  simp only [plainNotice, Nat.le_add_right, if_true, Nat.add_sub_cancel_left, hw]

theorem plainNotice_below {a : Nat} (h : a < cb) : plainNotice cb a b = [] := by
  simp only [plainNotice, Nat.not_le.mpr h, if_false]

/-- The slot words stand 8 bytes apart. -/
theorem watchedNotice_slot {j : Nat} (hj : j < 4) :
    watchedNotice (0x040 + 8 * j) b =
      some (.chimeWrite j (b.lo.b1.byte ++ b.lo.b0.byte) b.lo.b2.byte.toNat b.lo.b3.byte.toNat) := by
  interval_cases j <;> rfl

theorem watchedNotice_some
    (h : off = 0x008 ∨ off = 0x010 ∨ off = 0x040 ∨ off = 0x048 ∨ off = 0x050 ∨ off = 0x058) :
    ∃ n, watchedNotice off b = some n := by
  rcases h with rfl | rfl | rfl | rfl | rfl | rfl <;> exact ⟨_, rfl⟩

theorem watchedNotice_none (hgen : off ≠ 0x008) (hack : off ≠ 0x010) (h0 : off ≠ 0x040) (h1 : off ≠ 0x048)
    (h2 : off ≠ 0x050) (h3 : off ≠ 0x058) : watchedNotice off b = none := by
  simp only [watchedNotice, hgen, hack, h0, h1, h2, h3, or_self, if_false]

end

/-! ### A generation write (R166) -/

section
variable {l : LoadState} {gen : Word} {scope : Byte}

theorem LoadState.read_fields (l : LoadState) (gen : Word) (scope : Byte) :
    (l.read gen scope).phase = .loading ∧ (l.read gen scope).loadGen = gen ∧ (l.read gen scope).loadScope = scope ∧
      (l.read gen scope).latestGen = l.latestGen ∧ (l.read gen scope).staged = [] := by
  unfold LoadState.read
  rw [LoadState.present_eq]
  exact ⟨rfl, rfl, rfl, rfl, rfl⟩

theorem LoadState.generation_begins (hbegun : l.begun = true) (hidle : l.phase = .idle) (hnew : gen ≠ l.loaded)
    (hnot : gen ≠ l.refused) :
    l.generation gen scope = LoadState.read { l with latestGen := gen, latestScope := scope } gen scope :=
  if_pos ⟨hbegun, hidle, hnew, hnot⟩

end

/-! ### An acknowledge (R175) -/

/-- The low ten bits of the acknowledge word leave a set of causes. -/
theorem getLsbD_and_not_low (c : BitVec 10) (w : Word) {i : Nat} (hi : i < 10) :
    (c &&& ~~~ (w.extractLsb' 0 10)).getLsbD i = (c.getLsbD i && !w.getLsbD i) := by
  simp [hi]

end Sys2Proof.Machine
end

section
/-! PROOFS. CHIME's requests, cancels and slot commands, case by case (R152 to R155, R158, R159, R162). -/

namespace Sys2Proof.Machine

open Sys2Proof

/-! ### Results (R162) -/

theorem hasSlot_iff {ss : List Source} : hasSlot ss = true ↔ ∃ j, Source.slot j ∈ ss := by
  rw [hasSlot, List.any_eq_true]
  constructor
  · rintro ⟨x, hx, h⟩
    cases x with
    | slot j => exact ⟨j, hx⟩
    | cond k => cases h
    | reverse => cases h
  · rintro ⟨j, hj⟩
    exact ⟨_, hj, rfl⟩

theorem setSlotResults_other {ss : List Source} {j : Nat} (h : Source.slot j ∉ ss) (r : SlotResult) :
    ∀ res : List SlotResult, (setSlotResults ss r res)[j]? = res[j]? := by
  induction ss with
  | nil => exact fun _ => rfl
  | cons x xs ih =>
    intro res
    obtain ⟨hx, hxs⟩ := not_or.mp (fun hm => h (List.mem_cons.mpr hm))
    refine (ih hxs _).trans ?_
    cases x with
    | slot i => exact List.getElem?_set_ne (fun hij => hx (congrArg Source.slot hij.symm))
    | cond k => rfl
    | reverse => rfl

theorem setSlotResults_named {ss : List Source} {j : Nat} (h : Source.slot j ∈ ss) (r : SlotResult) :
    ∀ res : List SlotResult, j < res.length → (setSlotResults ss r res)[j]? = some r := by
  induction ss with
  | nil => cases h
  | cons x xs ih =>
    intro res hj
    by_cases hxs : Source.slot j ∈ xs
    · refine ih hxs _ ?_
      cases x with
      | slot i => exact (List.length_set ..).symm ▸ hj
      | cond k => exact hj
      | reverse => exact hj
    · obtain rfl := (List.mem_cons.mp h).resolve_right hxs
      exact (setSlotResults_other hxs r _).trans (List.getElem?_set_self hj)

/-! ### The three collections (R152) -/

theorem ChimeState.entries_any (c : ChimeState) (t : ChimeEntry → Bool) :
    (c.playing.any t || c.stack.any t || c.waiting.any t) = c.entries.any t := by
  unfold ChimeState.entries
  cases c.playing <;> simp [Bool.or_assoc]

theorem ChimeState.holds_iff {c : ChimeState} {pat : Nat} : c.holds pat = true ↔ ∃ e ∈ c.entries, e.pattern = pat := by
  rw [ChimeState.holds, ChimeState.entries_any, List.any_eq_true]
  simp only [beq_iff_eq]

theorem ChimeState.isSourceOf_iff {c : ChimeState} {src : Source} {pat : Nat} :
    c.isSourceOf src pat = true ↔ ∃ e ∈ c.entries, e.pattern = pat ∧ src ∈ e.sources := by
  rw [ChimeState.isSourceOf, ChimeState.entries_any, List.any_eq_true]
  simp only [Bool.and_eq_true, beq_iff_eq, decide_eq_true_eq]

/-- R153: behind every entry of equal or higher priority. -/
theorem insertWaiting_eq (e : ChimeEntry) (xs : List ChimeEntry) :
    insertWaiting e xs =
      xs.takeWhile (fun x => e.priority ≤ x.priority) ++ e :: xs.dropWhile (fun x => e.priority ≤ x.priority) := by
  induction xs with
  | nil => rfl
  | cons x xs ih =>
    by_cases h : e.priority ≤ x.priority
    · simp only [insertWaiting, if_pos h, ih, List.takeWhile_cons, List.dropWhile_cons, decide_eq_true h, if_true,
        List.cons_append]
    · simp only [insertWaiting, if_neg h, List.takeWhile_cons, List.dropWhile_cons, decide_eq_false h,
        Bool.false_eq_true, if_false, List.nil_append]

/-! ### Where a request goes (R152, R153, R159) -/

section
variable {c : ChimeState} {pats : List Pattern} {depth pat : Nat} {src : Source} {e old : ChimeEntry}

theorem ChimeState.place_idle (h : c.phase = .idle) : c.place pats depth e = (c.start pats e, false) := by
  simp only [ChimeState.place, h]

theorem ChimeState.place_preempts (h : c.phase ≠ .idle) (hp : c.playing = some old) (hlt : old.priority < e.priority) :
    c.place pats depth e = c.preempt pats depth old e := by
  cases hph : c.phase with
  | idle => exact absurd hph h
  | playing => simp only [ChimeState.place, hph, hp, if_pos hlt]
  | switching => simp only [ChimeState.place, hph, hp, if_pos hlt]

theorem ChimeState.place_lesser (h : c.phase ≠ .idle) (hle : ∀ old, c.playing = some old → e.priority ≤ old.priority) :
    c.place pats depth e =
      if 8 ≤ c.waiting.length then
        ({ c with results := setSlotResults e.sources .refused c.results }, hasSlot e.sources)
      else ({ c with waiting := insertWaiting e c.waiting }, false) := by
  cases hp : c.playing with
  | none =>
    cases hph : c.phase with
    | idle => exact absurd hph h
    | playing => simp only [ChimeState.place, hph, hp]
    | switching => simp only [ChimeState.place, hph, hp]
  | some old =>
    have hnot : ¬old.priority < e.priority := Nat.not_lt.mpr (hle old hp)
    cases hph : c.phase with
    | idle => exact absurd hph h
    | playing => simp only [ChimeState.place, hph, hp, if_neg hnot]
    | switching => simp only [ChimeState.place, hph, hp, if_neg hnot]

theorem ChimeState.place_waits (h : c.phase ≠ .idle) (hle : ∀ old, c.playing = some old → e.priority ≤ old.priority)
    (hroom : c.waiting.length < 8) :
    c.place pats depth e = ({ c with waiting := insertWaiting e c.waiting }, false) :=
  (ChimeState.place_lesser h hle).trans (if_neg (Nat.not_le.mpr hroom))

theorem ChimeState.place_refused (h : c.phase ≠ .idle) (hle : ∀ old, c.playing = some old → e.priority ≤ old.priority)
    (hfull : 8 ≤ c.waiting.length) :
    c.place pats depth e = ({ c with results := setSlotResults e.sources .refused c.results }, hasSlot e.sources) :=
  (ChimeState.place_lesser h hle).trans (if_pos hfull)

end

/-- CHIME with an arrival number used up (R153). -/
def ChimeState.numbered (c : ChimeState) : ChimeState := { c with nextArrival := c.nextArrival + 1 }

/-- The entry a request makes (R152, R153). -/
def ChimeState.asked (c : ChimeState) (pats : List Pattern) (src : Source) (pat : Nat) : ChimeEntry :=
  { pattern := pat, priority := (patternAt pats pat).priority, sources := [src], resume := none, arrival := c.nextArrival }

section
variable {s : State} {src : Source} {pat : Nat}

theorem State.takeChime_quiet (s : State) (c : ChimeState) : s.takeChime (c, false) = s.setChime c := rfl

theorem State.takeChime_result (s : State) (c : ChimeState) :
    s.takeChime (c, true) = (s.setChime c).raise .chimeResult := rfl

theorem State.chimeRequest_joins (h : ∃ e ∈ s.chime.entries, e.pattern = pat) :
    s.chimeRequest src pat = s.setChime (s.chime.join src pat) := by
  rw [State.chimeRequest, ChimeState.request, if_pos (ChimeState.holds_iff.mpr h), State.takeChime_quiet]

theorem State.chimeRequest_places (h : ∀ e ∈ s.chime.entries, e.pattern ≠ pat) :
    s.chimeRequest src pat =
      s.takeChime (s.chime.numbered.place s.patterns s.stackDepth
        (s.chime.asked s.patterns src pat)) := by
  have hnot : ¬s.chime.holds pat = true := fun hh => by
    obtain ⟨e, he, hep⟩ := ChimeState.holds_iff.mp hh
    exact h e he hep
  rw [State.chimeRequest, ChimeState.request, if_neg hnot]
  rfl

end

/-! ### A request in the machine (R153, R158, R159) -/

section
variable {s : State} {src : Source} {pat : Nat}

/-- R153: from IDLE the request sounds at once. -/
theorem State.chimeRequest_idle (hnew : ∀ e ∈ s.chime.entries, e.pattern ≠ pat) (hidle : s.chime.phase = .idle) :
    s.chimeRequest src pat =
      s.setChime
        (s.chime.numbered.start s.patterns (s.chime.asked s.patterns src pat)) := by
  rw [State.chimeRequest_places hnew, ChimeState.place_idle (c := s.chime.numbered) hidle, State.takeChime_quiet]

/-- R159: a request preempts a playing entry of lesser priority. -/
theorem State.chimeRequest_preempts {old : ChimeEntry} (hnew : ∀ e ∈ s.chime.entries, e.pattern ≠ pat)
    (hbusy : s.chime.phase ≠ .idle) (hp : s.chime.playing = some old)
    (hlt : old.priority < (s.chime.asked s.patterns src pat).priority) :
    s.chimeRequest src pat =
      s.takeChime (s.chime.numbered.preempt s.patterns s.stackDepth old
        (s.chime.asked s.patterns src pat)) := by
  rw [State.chimeRequest_places hnew, ChimeState.place_preempts (c := s.chime.numbered) hbusy hp hlt]

/-- R153: a request waits where no entry of lesser priority plays. -/
theorem State.chimeRequest_waits (hnew : ∀ e ∈ s.chime.entries, e.pattern ≠ pat) (hbusy : s.chime.phase ≠ .idle)
    (hle : ∀ old, s.chime.playing = some old → (s.chime.asked s.patterns src pat).priority ≤ old.priority)
    (hroom : s.chime.waiting.length < 8) :
    s.chimeRequest src pat =
      s.setChime
        { s.chime.numbered with waiting := insertWaiting (s.chime.asked s.patterns src pat) s.chime.waiting } := by
  rw [State.chimeRequest_places hnew, ChimeState.place_waits (c := s.chime.numbered) hbusy hle hroom, State.takeChime_quiet]
  rfl

/-- R153, R162: where 8 wait the request is refused. -/
theorem State.chimeRequest_refused (hnew : ∀ e ∈ s.chime.entries, e.pattern ≠ pat) (hbusy : s.chime.phase ≠ .idle)
    (hle : ∀ old, s.chime.playing = some old → (s.chime.asked s.patterns src pat).priority ≤ old.priority)
    (hfull : 8 ≤ s.chime.waiting.length) :
    s.chimeRequest src pat =
      s.takeChime
        ({ s.chime.numbered with results := setSlotResults [src] .refused s.chime.results }, hasSlot [src]) := by
  rw [State.chimeRequest_places hnew, ChimeState.place_refused (c := s.chime.numbered) hbusy hle hfull]
  rfl

/-- R158: a switch that begins in PLAYING begins a fade; in SWITCHING the fade goes on. -/
theorem ChimeState.preempt_chime {c : ChimeState} {pats : List Pattern} {depth : Nat} {old new : ChimeEntry}
    (hbusy : c.phase ≠ .idle) :
    (c.preempt pats depth old new).1 =
      { c with
        phase := .switching, playing := some new,
        stack := c.stack.drop (if depth ≤ c.stack.length then c.stack.take 1 else []).length ++
          [{ old with
             resume := some (if c.phase = .playing then { step := c.step, passes := c.passes }
               else old.resume.getD { step := 0, passes := (patternAt pats old.pattern).fullPasses }) }],
        fade := if c.phase = .playing then some { pattern := old.pattern, step := c.step, m := 0, e0 := c.lastEnv }
          else c.fade,
        results := (c.preempt pats depth old new).1.results } := by
  unfold ChimeState.preempt
  by_cases hph : c.phase = .playing
  · simp only [if_pos hph]
    rfl
  · have hsw : c.phase = .switching := by
      cases h : c.phase with
      | idle => exact absurd h hbusy
      | playing => exact absurd h hph
      | switching => rfl
    simp only [if_neg hph]
    rw [← hsw]

/-- R159, R162: the results of the entry a full stack loses. -/
theorem ChimeState.preempt_results (c : ChimeState) (pats : List Pattern) (depth : Nat) (old new : ChimeEntry) :
    (c.preempt pats depth old new).1.results =
        setSlotResults ((if depth ≤ c.stack.length then c.stack.take 1 else []).flatMap (·.sources)) .lost c.results ∧
      (c.preempt pats depth old new).2 =
        hasSlot ((if depth ≤ c.stack.length then c.stack.take 1 else []).flatMap (·.sources)) := by
  refine ⟨?_, rfl⟩
  unfold ChimeState.preempt
  by_cases hph : c.phase = .playing
  · simp only [if_pos hph]
    rfl
  · simp only [if_neg hph]

theorem State.takeChime_load (s : State) {x : ChimeState × Bool} :
    (x.2 = true → (s.takeChime x).load = { s.load with causes := withCause s.load.causes .chimeResult }) ∧
      (x.2 = false → (s.takeChime x).load = s.load) := by
  refine ⟨fun h => ?_, fun h => ?_⟩ <;> rw [State.takeChime, h] <;> rfl

theorem State.takeChime_frame (s : State) (x : ChimeState × Bool) :
    s.takeChime x = { s with chime := (s.takeChime x).chime, load := (s.takeChime x).load } := by
  unfold State.takeChime
  split <;> rfl

end

/-! ### Cancels (R155, R158) -/

theorem ChimeEntry.keeping_ne_eq (src : Source) :
    ChimeEntry.keeping (· != src) = fun e =>
      if src ∉ e.sources then some e
      else if e.sources.filter (· != src) = [] then none else some { e with sources := e.sources.filter (· != src) } := by
  funext e
  rw [ChimeEntry.keeping_without]
  by_cases h : src ∈ e.sources
  · rw [if_pos h, if_neg (not_not_intro h)]
    simp only [ChimeEntry.without, List.isEmpty_iff]
  · rw [if_neg h, if_pos h]

theorem ChimeState.cancel_fades {c : ChimeState} {src : Source} {e : ChimeEntry} (hph : c.phase = .playing)
    (hp : c.playing = some e) (hgone : e.keeping (· != src) = none) :
    c.cancel src =
      { c with
        phase := .switching, playing := none, stack := c.stack.filterMap (ChimeEntry.keeping (· != src)),
        waiting := c.waiting.filterMap (ChimeEntry.keeping (· != src)),
        fade := some { pattern := e.pattern, step := c.step, m := 0, e0 := c.lastEnv } } := by
  have hw := ChimeState.cancel_withdrawn c src
  obtain ⟨hphase, hfade⟩ := hw.fades e hph hp hgone
  rw [hw.frame, hphase, hfade, hp, Option.bind_some, hgone]

theorem ChimeState.cancel_stays {c : ChimeState} {src : Source}
    (h : c.phase ≠ .playing ∨ ¬∃ e, c.playing = some e ∧ e.keeping (· != src) = none) :
    c.cancel src =
      { c with
        playing := c.playing.bind (ChimeEntry.keeping (· != src)),
        stack := c.stack.filterMap (ChimeEntry.keeping (· != src)),
        waiting := c.waiting.filterMap (ChimeEntry.keeping (· != src)) } := by
  have hw := ChimeState.cancel_withdrawn c src
  obtain ⟨hphase, hfade⟩ := hw.stays (h.imp_right fun hn e he hk => hn ⟨e, he, hk⟩)
  rw [hw.frame, hphase, hfade]

theorem ChimeState.cancel_results (c : ChimeState) (src : Source) : (c.cancel src).results = c.results := by
  rw [(ChimeState.cancel_withdrawn c src).frame]

/-! ### Slot commands (R154, R162) -/

section
variable {c : ChimeState} {pats : List Pattern} {depth j action pat : Nat}

theorem playable_iff : playable pats pat = true ↔ pat ≤ 15 ∧ (patternAt pats pat).count ≠ 0 := by
  rw [playable, Bool.and_eq_true, decide_eq_true_eq, decide_eq_true_eq]

theorem ChimeState.command_refused
    (h : c.started = false ∨ (action ≠ 1 ∧ action ≠ 2) ∨ 15 < pat ∨ (action = 1 ∧ (patternAt pats pat).count = 0)) :
    c.command pats depth j action pat = (c.setResult j .refused, true) := by
  unfold ChimeState.command
  cases hs : c.started with
  | false => rfl
  | true =>
    rw [Bool.not_true, if_neg Bool.false_ne_true]
    replace h := h.resolve_left (by rw [hs]; decide)
    by_cases h1 : action = 1
    · have hnot : ¬playable pats pat = true := by
        rw [playable_iff]; omega
      rw [if_pos h1, if_neg hnot]
    · rw [if_neg h1]
      by_cases h2 : action = 2
      · have hbig : 15 < pat := by omega
        rw [if_pos h2, if_pos hbig]
      · rw [if_neg h2]

theorem ChimeState.command_plays (hs : c.started = true) (hpat : pat ≤ 15) (hcount : (patternAt pats pat).count ≠ 0) :
    c.command pats depth j 1 pat = ChimeState.request ((c.cancel (.slot j)).setResult j .blank) pats depth (.slot j) pat := by
  simp only [ChimeState.command, hs, playable_iff.mpr ⟨hpat, hcount⟩, Bool.not_true, Bool.false_eq_true, if_false, if_true]

theorem ChimeState.command_cancels (hs : c.started = true) (hpat : pat ≤ 15) :
    c.command pats depth j 2 pat =
      if c.isSourceOf (.slot j) pat = true then ((c.cancel (.slot j)).setResult j .cancelled, true) else (c, false) := by
  simp only [ChimeState.command, hs, Nat.not_lt.mpr hpat, Bool.not_true, Bool.false_eq_true, if_false, if_true,
    Nat.reduceEqDiff]

end

/-! ### A slot word written (R154) -/

section
variable {s : State} {j action pat : Nat} {seqNo : BitVec 16}

/-- The state with a slot's shadow taken. -/
def State.shadowed (s : State) (j : Nat) (seqNo : BitVec 16) : State :=
  { s with path := { s.path with shadows := s.path.shadows.set j seqNo } }

theorem State.chimeWrite_same (h : s.path.shadows.getD j 0 = seqNo) :
    s.notice (.chimeWrite j seqNo action pat) = s := if_pos h

theorem State.chimeWrite_command (h : s.path.shadows.getD j 0 ≠ seqNo) :
    s.notice (.chimeWrite j seqNo action pat) =
      (s.shadowed j seqNo).takeChime (s.chime.command s.patterns s.stackDepth j action pat) := if_neg h

theorem State.chimeWrite_refused (h : s.path.shadows.getD j 0 ≠ seqNo)
    (hbad : s.chime.started = false ∨ (action ≠ 1 ∧ action ≠ 2) ∨ 15 < pat ∨
      (action = 1 ∧ (patternAt s.patterns pat).count = 0)) :
    s.notice (.chimeWrite j seqNo action pat) =
      ((s.shadowed j seqNo).setChime (s.chime.setResult j .refused)).raise .chimeResult := by
  rw [State.chimeWrite_command h, ChimeState.command_refused hbad, State.takeChime_result]

theorem State.chimeWrite_plays (h : s.path.shadows.getD j 0 ≠ seqNo) (hs : s.chime.started = true) (hpat : pat ≤ 15)
    (hcount : (patternAt s.patterns pat).count ≠ 0) :
    s.notice (.chimeWrite j seqNo 1 pat) =
      ((s.shadowed j seqNo).setChime ((s.chime.cancel (.slot j)).setResult j .blank)).chimeRequest (.slot j) pat := by
  rw [State.chimeWrite_command h, ChimeState.command_plays hs hpat hcount]
  rfl

theorem State.chimeWrite_cancels (h : s.path.shadows.getD j 0 ≠ seqNo) (hs : s.chime.started = true) (hpat : pat ≤ 15)
    (hsource : ∃ e ∈ s.chime.entries, e.pattern = pat ∧ Source.slot j ∈ e.sources) :
    s.notice (.chimeWrite j seqNo 2 pat) =
      ((s.shadowed j seqNo).setChime ((s.chime.cancel (.slot j)).setResult j .cancelled)).raise .chimeResult := by
  rw [State.chimeWrite_command h, ChimeState.command_cancels hs hpat, if_pos (ChimeState.isSourceOf_iff.mpr hsource),
    State.takeChime_result]

/-- A cancel of a pattern that the slot does not sound does nothing but take the shadow. -/
theorem State.chimeWrite_ignored (h : s.path.shadows.getD j 0 ≠ seqNo) (hs : s.chime.started = true) (hpat : pat ≤ 15)
    (hnot : ¬∃ e ∈ s.chime.entries, e.pattern = pat ∧ Source.slot j ∈ e.sources) :
    s.notice (.chimeWrite j seqNo 2 pat) = s.shadowed j seqNo := by
  rw [State.chimeWrite_command h, ChimeState.command_cancels hs hpat,
    if_neg (fun hh => hnot (ChimeState.isSourceOf_iff.mp hh)), State.takeChime_quiet]
  rfl

end

/-! ### The statement's parts -/

/-- R162: the host slots of the entry a preemption loses, in the results and in the cause set. -/
theorem State.takeChime_lost (s : State) {x : ChimeState × Bool} {lost : List ChimeEntry}
    (hresults : x.1.results = setSlotResults (lost.flatMap (·.sources)) .lost s.chime.results)
    (hflag : x.2 = hasSlot (lost.flatMap (·.sources))) :
    (∀ j, (∃ e ∈ lost, Source.slot j ∈ e.sources) →
      (j < s.chime.results.length → (s.takeChime x).chime.results[j]? = some .lost) ∧
        (s.takeChime x).load = { s.load with causes := s.load.causes ||| 0x010#10 }) ∧
    (∀ j, (∀ e ∈ lost, Source.slot j ∉ e.sources) → (s.takeChime x).chime.results[j]? = s.chime.results[j]?) ∧
    ((∀ j, ∀ e ∈ lost, Source.slot j ∉ e.sources) → (s.takeChime x).load = s.load) := by
  rw [State.takeChime_chime, hresults]
  refine ⟨fun j hj => ?_, fun j hj => ?_, fun hnone => ?_⟩
  · have hmem : Source.slot j ∈ lost.flatMap (·.sources) := List.mem_flatMap.mpr hj
    exact ⟨setSlotResults_named hmem _ _, s.takeChime_load.1 (hflag.trans (hasSlot_iff.mpr ⟨j, hmem⟩))⟩
  · refine setSlotResults_other (fun hmem => ?_) _ _
    obtain ⟨e, he, hje⟩ := List.mem_flatMap.mp hmem
    exact hj e he hje
  · refine s.takeChime_load.2 (hflag.trans (Bool.eq_false_iff.mpr fun hh => ?_))
    obtain ⟨j, hj⟩ := hasSlot_iff.mp hh
    obtain ⟨e, he, hje⟩ := List.mem_flatMap.mp hj
    exact hnone j e he hje

/-- Settles O29, one owner after another: the notice a beat gives, LOAD's generation and acknowledge, the slot commands,
and CHIME's requests and cancels. -/
theorem watchedWordsAct : Obligations.WatchedWordsAct := by
  unfold Obligations.WatchedWordsAct
  refine ⟨fun cb b => ⟨fun hall => ⟨?_, ?_, fun j hj => ?_⟩, fun off hoff => ?_, fun a ha => plainNotice_below ha, ?_⟩,
    ⟨fun s gen scope hbegun hidle hnew hnot => ?_, fun s w => ?_⟩, fun s j seqNo action pat => ?_, fun s src pat => ?_,
    fun s src => ?_⟩
  · exact plainNotice_whole rfl hall
  · exact plainNotice_whole rfl hall
  · rw [Nat.add_assoc]
    exact plainNotice_whole (watchedNotice_slot hj) hall
  · obtain ⟨n, hn⟩ := watchedNotice_some (b := b) hoff
    exact ⟨plainNotice_part hn, plainNotice_unstrobed hn⟩
  · exact fun off hgen hack h0 h1 h2 h3 => plainNotice_unwatched (watchedNotice_none hgen hack h0 h1 h2 h3)
  · refine ⟨_, rfl, rfl, ?_⟩
    show (s.load.generation gen scope).phase = _ ∧ (s.load.generation gen scope).loadGen = _ ∧
      (s.load.generation gen scope).loadScope = _ ∧ (s.load.generation gen scope).latestGen = _ ∧
      (s.load.generation gen scope).staged = _ ∧ (_ → _ → (s.load.generation gen scope).slot = _)
    rw [LoadState.generation_begins hbegun hidle hnew hnot]
    obtain ⟨hphase, hgen, hscope, hlatest, hstaged⟩ :=
      LoadState.read_fields { s.load with latestGen := gen, latestScope := scope } gen scope
    exact ⟨hphase, hgen, hscope, hlatest, hstaged, fun hs hr => LoadState.present_first hs hr rfl rfl rfl⟩
  · refine ⟨_, rfl, rfl, fun i hi => ⟨getLsbD_and_not_low _ w hi, getLsbD_and_not_low _ w hi, fun r hr => ?_⟩, rfl, rfl,
      rfl, rfl⟩
    exact ⟨_, congrArg (Option.map _) hr, getLsbD_and_not_low _ w hi⟩
  · refine ⟨State.chimeWrite_same, fun h => ?_⟩
    intro u result isSource
    refine ⟨State.chimeWrite_refused h, fun hs hact hpat hcount => ?_, fun hs hact hpat => ⟨fun hsrc => ?_, fun hno => ?_⟩⟩
    · subst hact
      rw [State.chimeWrite_plays h hs hpat hcount, ChimeState.setResult, ChimeState.cancel_results]
      rfl
    · subst hact
      rw [State.chimeWrite_cancels h hs hpat hsrc, ChimeState.setResult, ChimeState.cancel_results]
      rfl
    · subst hact
      exact State.chimeWrite_ignored h hs hpat hno
  · intro c full n join t
    refine ⟨State.chimeRequest_joins, fun hnew => ⟨State.chimeRequest_idle hnew, fun old hbusy hp hlt => ?_,
      fun hbusy hle => ⟨fun hroom => ?_, fun hfull => ⟨fun j hj => ?_, fun hj => ?_⟩⟩⟩⟩
    · intro point lost
      have ht : t = s.takeChime _ := State.chimeRequest_preempts hnew hbusy hp hlt
      obtain ⟨hresults, hflag⟩ := ChimeState.preempt_results s.chime.numbered s.patterns s.stackDepth old n
      rw [ht]
      refine ⟨State.takeChime_frame _ _, ?_, State.takeChime_lost s hresults hflag⟩
      rw [State.takeChime_chime]
      exact ChimeState.preempt_chime (c := s.chime.numbered) hbusy
    · refine (State.chimeRequest_waits hnew hbusy hle hroom).trans ?_
      rw [insertWaiting_eq]
      rfl
    · subst hj
      exact State.chimeRequest_refused hnew hbusy hle hfull
    · refine (State.chimeRequest_refused hnew hbusy hle hfull).trans ?_
      cases src with
      | slot j => exact absurd rfl (hj j)
      | cond k => rfl
      | reverse => rfl
  · intro c strip gone
    have hstrip : ChimeEntry.keeping (· != src) = strip := ChimeEntry.keeping_ne_eq src
    refine ⟨fun hph e hp hnone => ?_, fun hstay => ?_⟩
    · rw [State.chimeCancel, ChimeState.cancel_fades hph hp (by rw [hstrip]; exact hnone), hstrip]
      rfl
    · rw [State.chimeCancel, ChimeState.cancel_stays (by rw [hstrip]; exact hstay), hstrip]
      rfl

end Sys2Proof.Machine
end

section
/-! PROOFS. A film buffer set (R63 to R73): its buffers one by one, what a film write and a selection do to each of
them, and that all of them keep the set sound (R67). -/

namespace Sys2Proof.Machine

open Sys2Proof

/-! ### The buffers of a set -/

theorem BufSet.buf_setBuf_self {b : BufSet} {i : Nat} (h : i < b.bufs.length) (x : FilmBuf) :
    (b.setBuf i x).buf i = x := by
  simp [BufSet.buf, BufSet.setBuf, h]

theorem BufSet.buf_setBuf_ne (b : BufSet) {i j : Nat} (h : j ≠ i) (x : FilmBuf) : (b.setBuf i x).buf j = b.buf j := by
  simp [BufSet.buf, BufSet.setBuf, List.getElem?_set_ne (Ne.symm h)]

/-- A buffer that the set does not have reads as a free one. -/
theorem BufSet.buf_beyond {b : BufSet} {i : Nat} (h : b.bufs.length ≤ i) : b.buf i = FilmBuf.fresh := by
  simp [BufSet.buf, h]

theorem BufSet.lt_of_buf_ne_fresh {b : BufSet} {i : Nat} (h : b.buf i ≠ FilmBuf.fresh) : i < b.bufs.length :=
  Nat.lt_of_not_le fun hle => h (BufSet.buf_beyond hle)

theorem BufSet.lt_of_phase {b : BufSet} {i : Nat} (h : (b.buf i).phase ≠ .free) : i < b.bufs.length :=
  BufSet.lt_of_buf_ne_fresh fun hf => h (congrArg FilmBuf.phase hf)

/-- Freeing a buffer, whether the set has it or not. -/
theorem BufSet.buf_setBuf_fresh (b : BufSet) (i j : Nat) :
    (b.setBuf i FilmBuf.fresh).buf j = if j = i then FilmBuf.fresh else b.buf j := by
  by_cases hj : j = i
  · subst hj
    rw [if_pos rfl]
    by_cases hlt : j < b.bufs.length
    · exact BufSet.buf_setBuf_self hlt _
    · exact BufSet.buf_beyond (by simpa [BufSet.setBuf] using hlt)
  · rw [if_neg hj, BufSet.buf_setBuf_ne b hj]

theorem BufSet.buf_foldl_fresh (l : List Nat) (j : Nat) : ∀ b : BufSet,
    (l.foldl (fun (x : BufSet) i => x.setBuf i FilmBuf.fresh) b).buf j = if j ∈ l then FilmBuf.fresh else b.buf j := by
  induction l with
  | nil => intro b; simp
  | cons i l ih =>
    intro b
    rw [List.foldl_cons, ih, BufSet.buf_setBuf_fresh]
    by_cases hl : j ∈ l <;> by_cases hj : j = i <;> simp [hl, hj]

theorem BufSet.length_foldl_fresh (l : List Nat) : ∀ b : BufSet,
    (l.foldl (fun (x : BufSet) i => x.setBuf i FilmBuf.fresh) b).bufs.length = b.bufs.length := by
  induction l with
  | nil => intro b; rfl
  | cons i l ih => intro b; rw [List.foldl_cons, ih]; exact List.length_set

/-! ### The SHOWN buffer (R67) -/

theorem BufSet.phase_of_shown {b : BufSet} {i : Nat} (h : b.shown = some i) : (b.buf i).phase = .shown := by
  obtain ⟨hlt, hphase, -⟩ := List.findIdx?_eq_some_iff_getElem.mp h
  simpa [BufSet.buf, hlt] using hphase

theorem BufSet.phase_of_shown_none {b : BufSet} (h : b.shown = none) (i : Nat) : (b.buf i).phase ≠ .shown := by
  intro hi
  have hlt : i < b.bufs.length := BufSet.lt_of_phase (by rw [hi]; decide)
  have hphase := List.findIdx?_eq_none_iff.mp h b.bufs[i] (List.getElem_mem hlt)
  simp [BufSet.buf, hlt] at hi
  simp [hi] at hphase

theorem BufSet.hide_buf (b : BufSet) (j : Nat) :
    b.hide.buf j = if b.shown = some j then FilmBuf.fresh else b.buf j := by
  unfold BufSet.hide
  cases h : b.shown with
  | none => rfl
  | some i => exact (BufSet.buf_setBuf_fresh b i j).trans (by simp [eq_comm])

theorem BufSet.hide_length (b : BufSet) : b.hide.bufs.length = b.bufs.length := by
  unfold BufSet.hide
  cases b.shown with
  | none => rfl
  | some i => exact List.length_set

theorem BufSet.hide_ready (b : BufSet) : b.hide.ready = b.ready := by
  unfold BufSet.hide
  cases b.shown <;> rfl

/-! ### Soundness without the range of the buffers -/

/-- R63: a buffer has a tag record exactly while it is READY or SHOWN. -/
def FilmBuf.Tagged (x : FilmBuf) : Prop := x.tag.isSome ↔ x.phase = .ready ∨ x.phase = .shown

theorem FilmBuf.fresh_tagged : FilmBuf.fresh.Tagged := by simp [FilmBuf.Tagged, FilmBuf.fresh]

/-- The buffers beyond the set read as free ones, so R67 need not name the range. -/
theorem BufSet.sound_iff {b : BufSet} : b.Sound ↔
    (∀ i j, (b.buf i).phase = .shown → (b.buf j).phase = .shown → i = j) ∧
      (∀ i, i ∈ b.ready ↔ (b.buf i).phase = .ready) ∧ b.ready.Nodup ∧ ∀ i, (b.buf i).Tagged := by
  have inside : ∀ {i} {p : BufPhase}, (b.buf i).phase = p → p ≠ .free → i < b.bufs.length :=
    fun h hp => BufSet.lt_of_phase (h ▸ hp)
  constructor
  · rintro ⟨hone, hready, hnodup, htag⟩
    refine ⟨fun i j hi hj => hone i j (inside hi nofun) (inside hj nofun) hi hj,
      fun i => (hready i).trans ⟨And.right, fun h => ⟨inside h nofun, h⟩⟩, hnodup, fun i => ?_⟩
    by_cases hlt : i < b.bufs.length
    · exact htag i hlt
    · rw [BufSet.buf_beyond (Nat.le_of_not_lt hlt)]; exact FilmBuf.fresh_tagged
  · rintro ⟨hone, hready, hnodup, htag⟩
    exact ⟨fun i j _ _ => hone i j, fun i => (hready i).trans ⟨fun h => ⟨inside h nofun, h⟩, And.right⟩, hnodup,
      fun i _ => htag i⟩

section
variable {b : BufSet} (hs : b.Sound)
include hs

theorem BufSet.Sound.shown_unique {i j : Nat} (hi : (b.buf i).phase = .shown) (hj : (b.buf j).phase = .shown) : i = j :=
  (BufSet.sound_iff.mp hs).1 i j hi hj

theorem BufSet.Sound.mem_ready {i : Nat} : i ∈ b.ready ↔ (b.buf i).phase = .ready := (BufSet.sound_iff.mp hs).2.1 i

theorem BufSet.Sound.not_mem_ready {i : Nat} (h : (b.buf i).phase ≠ .ready) : i ∉ b.ready :=
  fun hi => h (hs.mem_ready.mp hi)

theorem BufSet.Sound.nodup : b.ready.Nodup := (BufSet.sound_iff.mp hs).2.2.1

theorem BufSet.Sound.tagged (i : Nat) : (b.buf i).Tagged := (BufSet.sound_iff.mp hs).2.2.2 i

theorem BufSet.Sound.shown_eq {i : Nat} (hi : (b.buf i).phase = .shown) : b.shown = some i := by
  cases h : b.shown with
  | none => exact absurd hi (BufSet.phase_of_shown_none h i)
  | some j => rw [hs.shown_unique (BufSet.phase_of_shown h) hi]

/-- A set stays sound when one buffer is replaced by a tagged one that is SHOWN only if no other is, and the queue
follows it. -/
theorem BufSet.Sound.replace {c : BufSet} {i : Nat} (hothers : ∀ j, j ≠ i → c.buf j = b.buf j)
    (hone : (c.buf i).phase = .shown → ∀ j, j ≠ i → (b.buf j).phase ≠ .shown)
    (hready : ∀ j, j ∈ c.ready ↔ if j = i then (c.buf i).phase = .ready else j ∈ b.ready)
    (hnodup : c.ready.Nodup) (htag : (c.buf i).Tagged) : c.Sound := by
  refine BufSet.sound_iff.mpr ⟨fun j k hj hk => ?_, fun j => (hready j).trans ?_, hnodup, fun j => ?_⟩
  · by_cases hji : j = i <;> by_cases hki : k = i
    · rw [hji, hki]
    · subst hji; exact absurd (hothers k hki ▸ hk) (hone hj k hki)
    · subst hki; exact absurd (hothers j hji ▸ hj) (hone hk j hji)
    · exact hs.shown_unique (hothers j hji ▸ hj) (hothers k hki ▸ hk)
  · by_cases hji : j = i
    · rw [if_pos hji, hji]
    · rw [if_neg hji, hothers j hji]; exact hs.mem_ready
  · by_cases hji : j = i
    · exact hji ▸ htag
    · rw [hothers j hji]; exact hs.tagged j

end

/-- R67 does not speak of the show count. -/
theorem BufSet.Sound.shows {b : BufSet} (hs : b.Sound) (n : Nat) : ({ b with shows := n } : BufSet).Sound := hs

theorem BufSet.fresh_sound (f : Film) : (BufSet.fresh f).Sound := by
  have hbuf : ∀ i, (BufSet.fresh f).buf i = FilmBuf.fresh := by
    intro i
    simp only [BufSet.buf, BufSet.fresh, List.getD_eq_getElem?_getD, List.getElem?_replicate]
    split <;> rfl
  refine BufSet.sound_iff.mpr ⟨fun i j hi => ?_, fun i => ?_, List.nodup_nil, fun i => ?_⟩
  · rw [hbuf] at hi; cases hi
  · rw [hbuf]; simp [BufSet.fresh, FilmBuf.fresh]
  · rw [hbuf]; exact FilmBuf.fresh_tagged

/-- R68: a set that ceases to be presented. -/
theorem BufSet.Sound.hide {b : BufSet} (hs : b.Sound) : b.hide.Sound := by
  cases h : b.shown with
  | none => rw [show b.hide = { b with shows := 0 } by simp [BufSet.hide, h]]; exact hs.shows 0
  | some i =>
    have hself : b.hide.buf i = FilmBuf.fresh := by rw [b.hide_buf, if_pos h]
    have hnot : i ∉ b.ready := hs.not_mem_ready (by rw [BufSet.phase_of_shown h]; nofun)
    refine hs.replace (i := i) (fun j hj => ?_) (fun hi => ?_) (fun j => ?_) (b.hide_ready ▸ hs.nodup) ?_
    · rw [b.hide_buf, if_neg (by rw [h]; simpa using Ne.symm hj)]
    · rw [hself] at hi; cases hi
    · rw [b.hide_ready, hself]
      split
      · next hj => simp [hj, hnot, FilmBuf.fresh]
      · rfl
    · rw [hself]; exact FilmBuf.fresh_tagged

/-! ### Film pixel writes (R65) -/

section
variable {b : BufSet} {i : Nat}

theorem BufSet.pixelWrite_free (h : (b.buf i).phase = .free) :
    b.pixelWrite i = b.setBuf i { phase := .filling, tag := none } := by
  unfold BufSet.pixelWrite; rw [h]

theorem BufSet.pixelWrite_filling (h : (b.buf i).phase = .filling) : b.pixelWrite i = b := by
  unfold BufSet.pixelWrite; rw [h]

theorem BufSet.pixelWrite_ready (h : (b.buf i).phase = .ready) :
    b.pixelWrite i = (b.unqueue i).setBuf i { phase := .filling, tag := none } := by
  unfold BufSet.pixelWrite; rw [h]

theorem BufSet.pixelWrite_shown (h : (b.buf i).phase = .shown) : b.pixelWrite i = b := by
  unfold BufSet.pixelWrite; rw [h]

theorem BufSet.pixelWrite_buf_ne (b : BufSet) {i j : Nat} (hj : j ≠ i) : (b.pixelWrite i).buf j = b.buf j := by
  cases h : (b.buf i).phase with
  | free => rw [BufSet.pixelWrite_free h, BufSet.buf_setBuf_ne _ hj]
  | filling => rw [BufSet.pixelWrite_filling h]
  | ready => rw [BufSet.pixelWrite_ready h, BufSet.buf_setBuf_ne _ hj]; rfl
  | shown => rw [BufSet.pixelWrite_shown h]

/-- A FREE or READY buffer of the set starts to be filled, without a tag record. -/
theorem BufSet.pixelWrite_fills (hlt : i < b.bufs.length) (h : (b.buf i).phase = .free ∨ (b.buf i).phase = .ready) :
    (b.pixelWrite i).buf i = { phase := .filling, tag := none } := by
  rcases h with h | h
  · rw [BufSet.pixelWrite_free h]; exact BufSet.buf_setBuf_self hlt _
  · rw [BufSet.pixelWrite_ready h]; exact BufSet.buf_setBuf_self hlt _

theorem BufSet.pixelWrite_beyond (h : b.bufs.length ≤ i) : b.pixelWrite i = b := by
  rw [BufSet.pixelWrite_free (by rw [BufSet.buf_beyond h]; rfl), BufSet.setBuf, List.set_eq_of_length_le h]

end

theorem BufSet.Sound.pixelWrite {b : BufSet} (hs : b.Sound) (i : Nat) : (b.pixelWrite i).Sound := by
  by_cases hlt : i < b.bufs.length
  · have fills : (b.buf i).phase = .free ∨ (b.buf i).phase = .ready → (b.pixelWrite i).ready = b.ready.filter (· != i) →
        (b.pixelWrite i).Sound := by
      intro hphase hready
      have hself := BufSet.pixelWrite_fills hlt hphase
      refine hs.replace (i := i) (fun j hj => b.pixelWrite_buf_ne hj) (fun h => ?_) (fun j => ?_)
        (hready ▸ hs.nodup.filter _) ?_
      · rw [hself] at h; cases h
      · rw [hready, hself]
        by_cases hj : j = i <;> simp [hj]
      · rw [hself]; simp [FilmBuf.Tagged]
    cases h : (b.buf i).phase with
    | free =>
      refine fills (.inl h) ?_
      have hnot : i ∉ b.ready := hs.not_mem_ready (by rw [h]; nofun)
      rw [BufSet.pixelWrite_free h]
      refine (List.filter_eq_self.mpr fun j hj => ?_).symm
      simpa using fun e : j = i => hnot (e ▸ hj)
    | ready => exact fills (.inr h) (by rw [BufSet.pixelWrite_ready h]; rfl)
    | filling => rwa [BufSet.pixelWrite_filling h]
    | shown => rwa [BufSet.pixelWrite_shown h]
  · rwa [BufSet.pixelWrite_beyond (Nat.le_of_not_lt hlt)]

/-! ### Film tag writes (R66) -/

section
variable {b : BufSet} {i : Nat} (t : TagRecord)

theorem BufSet.tagWrite_kept (h : (b.buf i).phase = .shown ∨ b.bufs.length ≤ i) : b.tagWrite i t = b := by
  refine if_neg fun hn => ?_
  rcases h with h | h
  · exact hn.1 h
  · exact Nat.not_lt.mpr h hn.2

theorem BufSet.tagWrite_queues (h : (b.buf i).phase ≠ .shown) (hlt : i < b.bufs.length) :
    b.tagWrite i t =
      { (b.unqueue i).setBuf i { phase := .ready, tag := some t } with ready := b.ready.filter (· != i) ++ [i] } :=
  if_pos ⟨h, hlt⟩

theorem BufSet.tagWrite_buf_self (h : (b.buf i).phase ≠ .shown) (hlt : i < b.bufs.length) :
    (b.tagWrite i t).buf i = { phase := .ready, tag := some t } := by
  rw [BufSet.tagWrite_queues t h hlt]
  exact BufSet.buf_setBuf_self (b := b.unqueue i) hlt _

theorem BufSet.tagWrite_buf_ne (b : BufSet) {i j : Nat} (hj : j ≠ i) : (b.tagWrite i t).buf j = b.buf j := by
  by_cases h : (b.buf i).phase = .shown ∨ b.bufs.length ≤ i
  · rw [BufSet.tagWrite_kept t h]
  · obtain ⟨hphase, hlt⟩ := not_or.mp h
    rw [BufSet.tagWrite_queues t hphase (Nat.lt_of_not_le hlt)]
    exact BufSet.buf_setBuf_ne (b.unqueue i) hj _

theorem BufSet.Sound.tagWrite (hs : b.Sound) (i : Nat) (t : TagRecord) : (b.tagWrite i t).Sound := by
  by_cases h : (b.buf i).phase = .shown ∨ b.bufs.length ≤ i
  · rwa [BufSet.tagWrite_kept t h]
  · obtain ⟨hphase, hlt⟩ := not_or.mp h
    have hself := BufSet.tagWrite_buf_self t hphase (Nat.lt_of_not_le hlt)
    have hready : (b.tagWrite i t).ready = b.ready.filter (· != i) ++ [i] := by
      rw [BufSet.tagWrite_queues t hphase (Nat.lt_of_not_le hlt)]
    refine hs.replace (i := i) (fun j hj => b.tagWrite_buf_ne t hj) (fun h => ?_) (fun j => ?_) ?_ ?_
    · rw [hself] at h; cases h
    · rw [hready, hself]
      by_cases hj : j = i <;> simp [hj]
    · rw [hready]
      exact (hs.nodup.filter _).append (List.nodup_singleton i) (by simp)
    · rw [hself]; simp [FilmBuf.Tagged]

end

/-! ### The candidate (R70, R71) -/

theorem BufSet.candidate_none_iff {b : BufSet} {st : Stream} :
    b.candidate st = none ↔ ∀ i ∈ b.ready, eligible st (b.buf i) = false := by
  simp [BufSet.candidate]

theorem BufSet.candidate_split {b : BufSet} {st : Stream} {c : Nat} (h : b.candidate st = some c) :
    ∃ pre post, b.ready = pre ++ c :: post ∧ eligible st (b.buf c) = true ∧
      ∀ i ∈ post, eligible st (b.buf i) = false := by
  obtain ⟨hc, post, pre, hready, hpost⟩ := List.find?_eq_some_iff_append.mp h
  refine ⟨pre.reverse, post.reverse, ?_, hc, fun i hi => by simpa using hpost i (List.mem_reverse.mp hi)⟩
  simpa using congrArg List.reverse hready

theorem eligible_iff {st : Stream} {x : FilmBuf} {tag : TagRecord} (h : x.tag = some tag) :
    eligible st x = true ↔ ∀ n, tag.sync = some n → st.phase = .playing → n ≤ st.blockSeq := by
  unfold eligible
  rw [h]
  cases hsync : tag.sync with
  | none => simp [hsync]
  | some n => simp [hsync, ← imp_iff_not_or]

theorem isLate_iff {st : Stream} {x : FilmBuf} {tag : TagRecord} (h : x.tag = some tag) :
    isLate st x = true ↔ ∃ n, tag.sync = some n ∧ st.phase = .playing ∧ n + 2 < st.blockSeq := by
  unfold isLate
  rw [h]
  cases hsync : tag.sync with
  | none => simp [hsync]
  | some n => simp [hsync]

/-! ### The flip (R71) -/

/-- A list without repetition, cut at one of its elements. -/
theorem takeWhile_dropWhile_of_nodup {pre post : List Nat} {c : Nat} (h : (pre ++ c :: post).Nodup) :
    (pre ++ c :: post).takeWhile (· != c) = pre ∧ ((pre ++ c :: post).dropWhile (· != c)).drop 1 = post := by
  have hpre : ∀ i ∈ pre, (i != c) = true := fun i hi => by
    have hne : i ≠ c := by
      rintro rfl
      exact List.disjoint_of_nodup_append h hi (by simp)
    simpa using hne
  rw [List.takeWhile_append_of_pos hpre, List.dropWhile_append_of_pos hpre]
  simp

section
variable {b : BufSet} {c : Nat} {pre post : List Nat}

theorem BufSet.flip_buf_self (hlt : c < b.bufs.length) : (b.flip c).buf c = { phase := .shown, tag := (b.buf c).tag } :=
  BufSet.buf_setBuf_self (by rw [BufSet.length_foldl_fresh, BufSet.hide_length]; exact hlt) _

theorem BufSet.flip_buf_ne (b : BufSet) {c i : Nat} (h : i ≠ c) :
    (b.flip c).buf i =
      if i ∈ b.ready.takeWhile (· != c) ∨ b.shown = some i then FilmBuf.fresh else b.buf i := by
  refine (BufSet.buf_setBuf_ne _ h _).trans ?_
  rw [BufSet.buf_foldl_fresh, BufSet.hide_buf]
  by_cases hi : i ∈ b.ready.takeWhile (· != c) <;> simp [hi]

/-- The queue behind the candidate. -/
theorem BufSet.Sound.flip_ready (hs : b.Sound) (h : b.ready = pre ++ c :: post) :
    b.ready.takeWhile (· != c) = pre ∧ (b.flip c).ready = post := by
  have := takeWhile_dropWhile_of_nodup (h ▸ hs.nodup)
  rw [← h] at this
  exact this

section
variable (hs : b.Sound) (h : b.ready = pre ++ c :: post)
include hs h

theorem BufSet.Sound.phase_candidate : (b.buf c).phase = .ready := hs.mem_ready.mp (by rw [h]; simp)

theorem BufSet.Sound.flip_shown : (b.flip c).buf c = { phase := .shown, tag := (b.buf c).tag } :=
  BufSet.flip_buf_self (BufSet.lt_of_phase (by rw [hs.phase_candidate h]; nofun))

theorem BufSet.Sound.flip_ahead {i : Nat} (hi : i ∈ pre) : (b.flip c).buf i = FilmBuf.fresh := by
  have hne : i ≠ c := by
    rintro rfl
    exact List.disjoint_of_nodup_append (h ▸ hs.nodup) hi (by simp)
  rw [b.flip_buf_ne hne, (hs.flip_ready h).1, if_pos (.inl hi)]

theorem BufSet.Sound.flip_hidden {i : Nat} (hi : b.shown = some i) : (b.flip c).buf i = FilmBuf.fresh := by
  have hne : i ≠ c := by
    rintro rfl
    exact nomatch (hs.phase_candidate h).symm.trans (BufSet.phase_of_shown hi)
  rw [b.flip_buf_ne hne, if_pos (.inr hi)]

/-- The buffers that are neither shown nor in the queue up to the candidate are left as they are. -/
theorem BufSet.Sound.flip_rest {i : Nat} (hpre : i ∉ pre) (hc : i ≠ c) (hi : (b.buf i).phase ≠ .shown) :
    (b.flip c).buf i = b.buf i := by
  rw [b.flip_buf_ne hc, (hs.flip_ready h).1, if_neg]
  rintro (hin | hin)
  · exact hpre hin
  · exact hi (BufSet.phase_of_shown hin)

theorem BufSet.Sound.flip_behind {i : Nat} (hi : i ∈ post) : (b.flip c).buf i = b.buf i := by
  have hnodup := h ▸ hs.nodup
  have hready : (b.buf i).phase = .ready := hs.mem_ready.mp (by rw [h]; simp [hi])
  have hpre : i ∉ pre := fun hpre => List.disjoint_of_nodup_append hnodup hpre (by simp [hi])
  refine hs.flip_rest h hpre ?_ (by rw [hready]; nofun)
  rintro rfl
  exact (List.nodup_cons.mp hnodup.of_append_right).1 hi

/-- What a flip leaves of every buffer: the candidate is SHOWN, and another is FREE or as it was and not SHOWN. -/
theorem BufSet.Sound.flip_cases (i : Nat) :
    (i = c ∧ (b.flip c).buf i = { phase := .shown, tag := (b.buf c).tag }) ∨
      (i ∉ post ∧ (b.flip c).buf i = FilmBuf.fresh) ∨
      (i ∉ pre ∧ i ≠ c ∧ (b.buf i).phase ≠ .shown ∧ (b.flip c).buf i = b.buf i) := by
  have hnodup := h ▸ hs.nodup
  by_cases hc : i = c
  · exact .inl ⟨hc, by rw [hc]; exact hs.flip_shown h⟩
  · by_cases hpre : i ∈ pre
    · exact .inr (.inl ⟨fun hpost => List.disjoint_of_nodup_append hnodup hpre (by simp [hpost]), hs.flip_ahead h hpre⟩)
    · by_cases hi : (b.buf i).phase = .shown
      · have hnot : i ∉ b.ready := hs.not_mem_ready (by rw [hi]; nofun)
        exact .inr (.inl ⟨fun hpost => hnot (by rw [h]; simp [hpost]), hs.flip_hidden h (hs.shown_eq hi)⟩)
      · exact .inr (.inr ⟨hpre, hc, hi, hs.flip_rest h hpre hc hi⟩)

theorem BufSet.Sound.flip : (b.flip c).Sound := by
  have hnodup : (c :: post).Nodup := (h ▸ hs.nodup).of_append_right
  have only : ∀ i, ((b.flip c).buf i).phase = .shown → i = c := by
    intro i hi
    rcases hs.flip_cases h i with ⟨hc, -⟩ | ⟨-, e⟩ | ⟨-, -, hn, e⟩
    · exact hc
    · rw [e] at hi; cases hi
    · rw [e] at hi; exact absurd hi hn
  refine BufSet.sound_iff.mpr ⟨fun i j hi hj => (only i hi).trans (only j hj).symm, fun i => ?_, ?_, fun i => ?_⟩
  · rw [(hs.flip_ready h).2]
    rcases hs.flip_cases h i with ⟨hc, e⟩ | ⟨hpost, e⟩ | ⟨hpre, hc, -, e⟩
    · subst hc; rw [e]; simp [(List.nodup_cons.mp hnodup).1]
    · rw [e]; simp [hpost, FilmBuf.fresh]
    · rw [e, ← hs.mem_ready, h]; simp [hpre, hc]
  · rw [(hs.flip_ready h).2]; exact hnodup.of_cons
  · rcases hs.flip_cases h i with ⟨hc, e⟩ | ⟨-, e⟩ | ⟨-, -, -, e⟩
    · rw [e]
      have htag : (b.buf c).tag.isSome := (hs.tagged c).mpr (.inl (hs.phase_candidate h))
      simp [FilmBuf.Tagged, htag]
    · rw [e]; exact FilmBuf.fresh_tagged
    · rw [e]; exact hs.tagged i

end

end

/-! ### The selection (R69, R71, R72) -/

/-- R69: a SHOWN frame has not had its minimum shows, the present one counted. -/
def BufSet.Held (b : BufSet) : Prop :=
  ∃ i tag, b.shown = some i ∧ (b.buf i).tag = some tag ∧ min (b.shows + 1) 255 < tag.minShows

theorem BufSet.not_held_iff {b : BufSet} :
    ¬ b.Held ↔ ∀ i tag, b.shown = some i → (b.buf i).tag = some tag → tag.minShows ≤ min (b.shows + 1) 255 := by
  simp only [BufSet.Held, not_exists, not_and, Nat.not_lt]

/-- R69: a show of the SHOWN frame counted. -/
def BufSet.shownAgain (b : BufSet) : BufSet := if b.shown.isSome then { b with shows := min (b.shows + 1) 255 } else b

theorem BufSet.shownAgain_some {b : BufSet} {i : Nat} (h : b.shown = some i) :
    b.shownAgain = { b with shows := min (b.shows + 1) 255 } := by simp [BufSet.shownAgain, h]

theorem BufSet.shownAgain_none {b : BufSet} (h : b.shown = none) : b.shownAgain = b := by simp [BufSet.shownAgain, h]

/-- R72: the frame shown again is counted unless its tag holds it. -/
def BufSet.repeats (b : BufSet) : Bool := (b.shown.bind fun i => (b.buf i).tag).elim false fun tag => !tag.hold

section
variable (b : BufSet) (n : Nat)

theorem BufSet.shown_shows : ({ b with shows := n } : BufSet).shown = b.shown := rfl

theorem BufSet.buf_shows (i : Nat) : ({ b with shows := n } : BufSet).buf i = b.buf i := rfl

theorem BufSet.candidate_shows (st : Stream) : ({ b with shows := n } : BufSet).candidate st = b.candidate st := rfl

theorem BufSet.hide_shows : ({ b with shows := n } : BufSet).hide = b.hide := by
  unfold BufSet.hide
  rw [BufSet.shown_shows]
  cases b.shown <;> rfl

theorem BufSet.flip_shows (c : Nat) : ({ b with shows := n } : BufSet).flip c = b.flip c := by
  simp only [BufSet.flip, BufSet.hide_shows, BufSet.buf_shows]

end

section
variable {b : BufSet} {st : Stream}

theorem BufSet.select_held (h : b.Held) :
    b.select st =
      { set := { b with shows := min (b.shows + 1) 255 }, flipped := false, dropped := 0, repeated := false,
        late := false } := by
  obtain ⟨i, tag, hi, htag, hlt⟩ := h
  simp [BufSet.select, BufSet.shown_shows, BufSet.buf_shows, hi, htag, hlt]

section
variable (h : ¬ b.Held)
include h

/-- Without a frame that is held, the candidate decides. -/
theorem BufSet.select_free :
    b.select st = (b.candidate st).elim
      { set := b.shownAgain, flipped := false, dropped := 0, repeated := b.repeats, late := false }
      (fun c =>
        { set := b.flip c, flipped := true, dropped := (b.ready.takeWhile (· != c)).length, repeated := false,
          late := isLate st (b.buf c) }) := by
  unfold BufSet.select BufSet.shownAgain BufSet.repeats
  cases hc : b.candidate st <;> cases hi : b.shown with
  | none => simp [hi, hc]
  | some i =>
    cases htag : (b.buf i).tag with
    | none => simp [BufSet.shown_shows, BufSet.buf_shows, BufSet.candidate_shows, BufSet.flip_shows, hi, hc, htag]
    | some tag =>
      have hshows := Nat.not_lt.mpr (BufSet.not_held_iff.mp h i tag hi htag)
      simp [BufSet.shown_shows, BufSet.buf_shows, BufSet.candidate_shows, BufSet.flip_shows, hi, hc, htag, hshows]

theorem BufSet.select_flips {c : Nat} (hc : b.candidate st = some c) :
    b.select st =
      { set := b.flip c, flipped := true, dropped := (b.ready.takeWhile (· != c)).length, repeated := false,
        late := isLate st (b.buf c) } := by
  rw [BufSet.select_free h, hc]; rfl

theorem BufSet.select_repeats (hc : b.candidate st = none) :
    b.select st = { set := b.shownAgain, flipped := false, dropped := 0, repeated := b.repeats, late := false } := by
  rw [BufSet.select_free h, hc]; rfl

end

end

theorem BufSet.Sound.shownAgain {b : BufSet} (hs : b.Sound) : b.shownAgain.Sound := by
  unfold BufSet.shownAgain
  split
  · exact hs.shows _
  · exact hs

theorem BufSet.Sound.select {b : BufSet} (hs : b.Sound) (st : Stream) : (b.select st).set.Sound := by
  by_cases h : b.Held
  · rw [BufSet.select_held h]; exact hs.shows _
  · cases hc : b.candidate st with
    | none => rw [BufSet.select_repeats h hc]; exact hs.shownAgain
    | some c =>
      obtain ⟨pre, post, hready, -⟩ := BufSet.candidate_split hc
      rw [BufSet.select_flips h hc]; exact hs.flip hready

end Sys2Proof.Machine
end

section
/-! PROOFS. Film writes in the machine (R64 to R66, R80), the tag record (Table 65), and what the film buffers do.
O40. -/

namespace Sys2Proof.Machine

open Sys2Proof

/-! ### The tag record (R64, Table 65) -/

/-- Four bytes as a word, the first the least significant. -/
theorem word_toNat (b0 b1 b2 b3 : Byte) :
    (b3 ++ b2 ++ b1 ++ b0).toNat = b0.toNat + 256 * (b1.toNat + 256 * (b2.toNat + 256 * b3.toNat)) := by
  have append : ∀ {n : Nat} (x : BitVec n) (y : Byte), (x ++ y).toNat = y.toNat + 256 * x.toNat := by
    intro n x y
    rw [BitVec.toNat_append, ← Nat.shiftLeft_add_eq_or_of_lt y.isLt, Nat.shiftLeft_eq]
    omega
  rw [append, append, append]

theorem fieldLE_word {rd : Nat → Nat} {o : Nat} {b0 b1 b2 b3 : Byte} (h0 : rd o = b0.toNat) (h1 : rd (o + 1) = b1.toNat)
    (h2 : rd (o + 2) = b2.toNat) (h3 : rd (o + 3) = b3.toNat) : fieldLE rd o 4 = (b3 ++ b2 ++ b1 ++ b0).toNat := by
  rw [word_toNat]
  simp [fieldLE, Nat.add_assoc, h0, h1, h2, h3]

section
variable (b0 b1 b2 b3 b4 b5 b6 b7 b8 b9 : Byte) (rest : List Byte)

theorem readTag_fields :
    readTag ([b0, b1, b2, b3, b4, b5, b6, b7, b8, b9] ++ rest) =
      { seqNo := b3 ++ b2 ++ b1 ++ b0,
        sync := if b7 ++ b6 ++ b5 ++ b4 = 0xFFFFFFFF#32 then none else some (b7 ++ b6 ++ b5 ++ b4).toNat,
        minShows := max 1 (min 8 b8.toNat), hold := b9.getLsbD 0 } := by
  obtain ⟨bytes, hbytes⟩ : ∃ l, l = [b0, b1, b2, b3, b4, b5, b6, b7, b8, b9] ++ rest := ⟨_, rfl⟩
  have hseq : fieldLE (fun i => (bytes.getD i 0).toNat) 0 4 = (b3 ++ b2 ++ b1 ++ b0).toNat := by
    subst hbytes; exact fieldLE_word rfl rfl rfl rfl
  have hsync : fieldLE (fun i => (bytes.getD i 0).toNat) 4 4 = (b7 ++ b6 ++ b5 ++ b4).toNat := by
    subst hbytes; exact fieldLE_word rfl rfl rfl rfl
  have hshows : (bytes.getD 8 0).toNat = b8.toNat := by rw [hbytes]; rfl
  have hhold : (bytes.getD 9 0).toNat.testBit 0 = b9.getLsbD 0 := by rw [hbytes]; rfl
  have hnone : (b7 ++ b6 ++ b5 ++ b4).toNat = 0xFFFFFFFF ↔ b7 ++ b6 ++ b5 ++ b4 = 0xFFFFFFFF#32 :=
    (BitVec.toNat_inj (y := 0xFFFFFFFF#32))
  rw [← hbytes]
  simp only [readTag, hseq, hsync, hshows, hhold, hnone, TagRecord.mk.injEq, and_true, true_and]
  refine ⟨by rw [BitVec.ofNat_toNat, BitVec.setWidth_eq], ?_⟩
  split <;> omega

end

/-! ### Notices of film writes in the machine (R65, R66, R80) -/

/-- R80: the counters of a rear display after a film pixel write on a buffer that was `x`. -/
def RearState.pixelCounted (r : RearState) (x : FilmBuf) : RearState :=
  { r with
    reclaimed := if x.phase = .ready then satInc r.reclaimed else r.reclaimed
    torn := if x.phase = .shown then satInc r.torn else r.torn }

/-- R80: the counters of a rear display after a film tag write on a buffer that was `x`. -/
def RearState.tagCounted (r : RearState) (x : FilmBuf) : RearState :=
  { r with torn := if x.phase = .shown then satInc r.torn else r.torn }

section
variable {s : State} {i : Nat}

theorem State.filmPixelWrite_none (h : s.setAt i = none) (j : Nat) : s.filmPixelWrite i j = s := by
  unfold State.filmPixelWrite; rw [h]

theorem State.filmTagWrite_none (h : s.setAt i = none) (j : Nat) (bytes : List Byte) :
    s.filmTagWrite i j bytes = s := by
  unfold State.filmTagWrite; rw [h]

variable {b : BufSet} (h : s.setAt i = some b)
include h

theorem State.filmPixelWrite_some (j : Nat) :
    s.filmPixelWrite i j =
      (s.putSet i (b.pixelWrite j)).setRear b.seat ((s.rearOf b.seat).pixelCounted (b.buf j)) := by
  unfold State.filmPixelWrite RearState.pixelCounted
  rw [h]
  cases hp : (b.buf j).phase <;> simp [hp]

theorem State.filmTagWrite_some (j : Nat) (bytes : List Byte) :
    s.filmTagWrite i j bytes =
      (s.putSet i (b.tagWrite j (readTag bytes))).setRear b.seat ((s.rearOf b.seat).tagCounted (b.buf j)) := by
  unfold State.filmTagWrite RearState.tagCounted
  rw [h]
  by_cases hp : (b.buf j).phase = .shown <;> simp [hp]

/-- Replacing one set and one rear display's own part leaves everything else. -/
theorem State.putSet_setRear_only (c : BufSet) (k : Seat) (r : RearState) {t : State}
    (ht : t = (s.putSet i c).setRear k r) :
    t = { s with sets := t.sets, rear := t.rear } ∧ t.setAt i = some c ∧ (∀ j, j ≠ i → t.setAt j = s.setAt j) ∧
      (∀ j, j ≠ k → t.rearOf j = s.rearOf j) ∧ t.rearOf k = r := by
  subst ht
  exact ⟨rfl, State.setAt_putSet_self h c, fun j hj => State.setAt_putSet_ne s c hj,
    fun j hj => State.rearOf_setRear_ne _ _ hj, State.rearOf_setRear_self _ _ _⟩

end

/-! ### The rules of a film buffer -/

/-- R69: a held frame is shown once more. -/
theorem BufSet.select_holds {b : BufSet} (st : Stream) {i : Nat} {tag : TagRecord} (hi : b.shown = some i)
    (htag : (b.buf i).tag = some tag) (hlt : min (b.shows + 1) 255 < tag.minShows) :
    (b.select st).flipped = false ∧ (b.select st).dropped = 0 ∧ (b.select st).repeated = false ∧
      (b.select st).late = false ∧ (b.select st).set = { b with shows := min (b.shows + 1) 255 } := by
  rw [BufSet.select_held ⟨i, tag, hi, htag, hlt⟩]
  exact ⟨rfl, rfl, rfl, rfl, rfl⟩

/-- R71: where no frame is held, the candidate is shown and the queue is cut behind it. -/
theorem BufSet.Sound.select_candidate {b : BufSet} (hs : b.Sound) {st : Stream} {c : Nat} (hc : b.candidate st = some c)
    (hheld : ¬ b.Held) :
    (b.select st).flipped = true ∧ (b.select st).repeated = false ∧ eligible st (b.buf c) = true ∧
      ((b.select st).set.buf c).phase = .shown ∧ ((b.select st).set.buf c).tag = (b.buf c).tag ∧
      (b.select st).set.shows = 0 ∧ b.ready = b.ready.takeWhile (· != c) ++ c :: (b.select st).set.ready ∧
      (b.select st).dropped = (b.ready.takeWhile (· != c)).length ∧
      (∀ i ∈ (b.select st).set.ready, (b.select st).set.buf i = b.buf i ∧ eligible st (b.buf i) = false) ∧
      (∀ i ∈ b.ready.takeWhile (· != c), (b.select st).set.buf i = FilmBuf.fresh) ∧
      (∀ i, b.shown = some i → (b.select st).set.buf i = FilmBuf.fresh) := by
  obtain ⟨pre, post, hready, hel, hpost⟩ := BufSet.candidate_split hc
  obtain ⟨hahead, hbehind⟩ := hs.flip_ready hready
  have hself := hs.flip_shown hready
  rw [BufSet.select_flips hheld hc]
  refine ⟨rfl, rfl, hel, congrArg FilmBuf.phase hself,
    (congrArg FilmBuf.tag hself : ((b.flip c).buf c).tag = _), rfl, ?_, rfl, fun i hi => ?_,
    fun i hi => hs.flip_ahead hready (hahead ▸ hi), fun i hi => hs.flip_hidden hready hi⟩
  · show b.ready = _ ++ c :: (b.flip c).ready
    rw [hahead, hbehind]; exact hready
  · have hi : i ∈ post := hbehind ▸ hi
    exact ⟨hs.flip_behind hready hi, hpost i hi⟩

/-- R72: with nothing shown and nothing eligible the selection does nothing. -/
theorem BufSet.select_nothing {b : BufSet} {st : Stream} (hi : b.shown = none) (hc : b.candidate st = none) :
    (b.select st).set = b ∧ (b.select st).flipped = false ∧ (b.select st).dropped = 0 ∧
      (b.select st).repeated = false ∧ (b.select st).late = false := by
  have hheld : ¬ b.Held := BufSet.not_held_iff.mpr fun i _ h => by rw [hi] at h; cases h
  rw [BufSet.select_repeats hheld hc, BufSet.shownAgain_none hi, BufSet.repeats, hi]
  exact ⟨rfl, rfl, rfl, rfl, rfl⟩

/-- R73: the frame shown now is late. -/
theorem BufSet.select_late {b : BufSet} {st : Stream} {c : Nat} {tag : TagRecord} (htag : (b.buf c).tag = some tag)
    (hc : b.candidate st = some c) (hheld : ¬ b.Held) :
    (b.select st).late = true ↔ ∃ n, tag.sync = some n ∧ st.phase = .playing ∧ n + 2 < st.blockSeq := by
  rw [BufSet.select_flips hheld hc]
  exact isLate_iff htag

/-- R72: a frame that has had its minimum shows is shown again where none follows. -/
theorem BufSet.select_again {b : BufSet} {st : Stream} {i : Nat} {tag : TagRecord} (hi : b.shown = some i)
    (htag : (b.buf i).tag = some tag) (hc : b.candidate st = none) (hle : tag.minShows ≤ min (b.shows + 1) 255) :
    (b.select st).flipped = false ∧ (b.select st).dropped = 0 ∧ (b.select st).repeated = !tag.hold ∧
      (b.select st).late = false ∧ (b.select st).set = { b with shows := min (b.shows + 1) 255 } := by
  have hheld : ¬ b.Held := BufSet.not_held_iff.mpr fun j u hj hu => by
    rw [hi] at hj; cases hj
    rw [htag] at hu; cases hu
    exact hle
  rw [BufSet.select_repeats hheld hc, BufSet.shownAgain_some hi, BufSet.repeats, hi, Option.bind_some, htag]
  exact ⟨rfl, rfl, rfl, rfl, rfl⟩

/-- Settles O40: the selection, the candidate, the tag's conditions, the writes on a set, their notices, the tag
record. -/
theorem filmBufferRules : Obligations.FilmBufferRules := by
  unfold Obligations.FilmBufferRules
  refine ⟨fun b st hs => ⟨fun i tag => BufSet.select_holds st, fun c hc hfree => ?_⟩, fun b st => ⟨?_, ?_, ?_⟩,
    fun b st c tag htag => ⟨eligible_iff htag, fun hc hfree => ?_, fun i hi hic hc hle => ?_⟩,
    fun b i tag hs hlt => ⟨fun h => ⟨?_, ?_⟩, BufSet.pixelWrite_filling, fun h => ⟨?_, ?_, ?_⟩, fun h => ⟨?_, ?_⟩,
      fun h => ⟨?_, ?_⟩, fun j hj => ⟨b.pixelWrite_buf_ne hj, b.tagWrite_buf_ne tag hj⟩⟩,
    fun s i j bytes => ⟨fun h => ⟨State.filmPixelWrite_none h j, State.filmTagWrite_none h j bytes⟩,
      fun b h => ⟨?_, ?_⟩⟩,
    fun b0 b1 b2 b3 b4 b5 b6 b7 b8 b9 rest => ?_⟩
  · exact hs.select_candidate hc (BufSet.not_held_iff.mpr hfree)
  · exact BufSet.candidate_none_iff
  · exact BufSet.select_nothing
  · exact fun c => BufSet.candidate_split
  · exact BufSet.select_late htag hc (BufSet.not_held_iff.mpr hfree)
  · subst hic; exact BufSet.select_again hi htag hc hle
  · rw [BufSet.pixelWrite_fills hlt (.inl h)]
  · rw [BufSet.pixelWrite_free h]; rfl
  · rw [BufSet.pixelWrite_fills hlt (.inr h)]
  · rw [BufSet.pixelWrite_fills hlt (.inr h)]
  · rw [BufSet.pixelWrite_ready h]; rfl
  · exact BufSet.pixelWrite_shown h
  · exact BufSet.tagWrite_kept tag (.inl h)
  · exact BufSet.tagWrite_buf_self tag h hlt
  · rw [BufSet.tagWrite_queues tag h hlt]
  · exact ⟨_, rfl, State.putSet_setRear_only h _ _ _ (State.filmPixelWrite_some h j)⟩
  · exact ⟨_, rfl, State.putSet_setRear_only h _ _ _ (State.filmTagWrite_some h j bytes)⟩
  · rw [readTag_fields]; exact ⟨rfl, rfl, rfl, rfl⟩

end Sys2Proof.Machine
end

section
/-! PROOFS. Every film set stays sound at every step (R63, R67, R68, R77). O10. -/

namespace Sys2Proof.Machine

open Sys2Proof

/-! ### The operations on the sets -/

theorem SetsSound.congr {s t : State} (hs : SetsSound s) (h : t.sets = s.sets) : SetsSound t :=
  fun i b hb => hs i b (State.setAt_congr h i ▸ hb)

theorem SetsSound.putSet {s : State} {i : Nat} {b c : BufSet} (hs : SetsSound s) (h : s.setAt i = some b)
    (hc : c.Sound) : SetsSound (s.putSet i c) := by
  intro j d hd
  by_cases hj : j = i
  · subst hj
    rw [State.setAt_putSet_self h] at hd
    injection hd with hd
    exact hd ▸ hc
  · exact hs j d (State.setAt_putSet_ne s c hj ▸ hd)

theorem SetsSound.filmPixelWrite {s : State} (hs : SetsSound s) (i j : Nat) : SetsSound (s.filmPixelWrite i j) := by
  cases h : s.setAt i with
  | none => rwa [State.filmPixelWrite_none h]
  | some b => rw [State.filmPixelWrite_some h]; exact hs.putSet h ((hs i b h).pixelWrite j)

theorem SetsSound.filmTagWrite {s : State} (hs : SetsSound s) (i j : Nat) (bytes : List Byte) :
    SetsSound (s.filmTagWrite i j bytes) := by
  cases h : s.setAt i with
  | none => rwa [State.filmTagWrite_none h]
  | some b => rw [State.filmTagWrite_some h]; exact hs.putSet h ((hs i b h).tagWrite j _)

/-- Of the notices, those of film writes alone act on the sets (Table 20). -/
theorem SetsSound.notice {s : State} (hs : SetsSound s) (n : Notice) : SetsSound (s.notice n) := by
  cases n with
  | filmPixel i j => exact hs.filmPixelWrite i j
  | filmTag i j bytes => exact hs.filmTagWrite i j bytes
  | chimeWrite j seqNo action pattern => exact hs.congr (State.chimeWrite_sets ..)
  | generation gen scope => exact hs
  | acknowledge w => exact hs
  | audioBlock i j e => exact hs
  | partialWrite => exact hs

theorem SetsSound.notify (ns : List Notice) : ∀ {s : State}, SetsSound s → SetsSound (s.notify ns) := by
  induction ns with
  | nil => exact fun h => h
  | cons n ns ih => exact fun h => ih (h.notice n)

theorem SetsSound.changePresented {s : State} (hs : SetsSound s) (k : Seat) (now : Option Nat) :
    SetsSound (s.changePresented k now) := by
  unfold State.changePresented
  refine SetsSound.congr ?_ (State.setRear_sets _ _ _)
  split
  · split
    · exact hs
    · split
      · next b hb => exact hs.putSet hb (hs _ b hb).hide
      · exact hs
  · exact hs

theorem SetsSound.selectFilm {s : State} (hs : SetsSound s) (k : Seat) : SetsSound (s.selectFilm k).1 := by
  have hchanged := hs.changePresented k (s.presentedNow k)
  cases h : s.presentedNow k with
  | none => rw [State.selectFilm_none h]; exact h ▸ hchanged
  | some i =>
    obtain ⟨b, hb⟩ := State.presentedNow_isSome h
    rw [State.selectFilm_some h hb]
    have hkept := (s.changePresented_setAt_kept k (some i) (.inr rfl)).trans hb
    exact (h ▸ hchanged : SetsSound (s.changePresented k (some i))).putSet hkept ((hs i b hb).select _)

/-- R77: a set is kept as it was or made anew. -/
theorem SetsSound.remake {s t : State} (hs : SetsSound s) {old new : List Region}
    (h : t.sets = remakeSets old new s.sets) : SetsSound t := by
  intro i b hb
  rw [State.setAt, h] at hb
  by_cases hi : i < 16
  · by_cases hn : ∃ f, entryAt new i = .film f
    · obtain ⟨f, hf⟩ := hn
      by_cases ho : entryAt old i = .film f
      · rw [remakeSets_kept old new s.sets hi hf ho] at hb
        exact hs i b hb
      · rw [remakeSets_fresh old new s.sets hi hf ho] at hb
        injection hb with hb
        exact hb ▸ BufSet.fresh_sound f
    · rw [remakeSets_gone old new s.sets hi (not_exists.mp hn)] at hb
      cases hb
  · rw [remakeSets, List.getElem?_eq_none (by simpa using hi)] at hb
    cases hb

theorem SetsSound.of_none {s : State} (h : s.sets = noSets) : SetsSound s := by
  intro i b hb
  rw [State.setAt, h, noSets, List.getElem?_replicate] at hb
  split at hb <;> cases hb

/-! ### The rows -/

theorem execHostReset_setsSound {s t : State} (hs : SetsSound s) (h : execHostReset s = .next t) : SetsSound t := by
  unfold execHostReset at h
  dsimp only at h
  split at h
  · injection h with h; exact h ▸ hs
  · split at h <;> injection h with h
    · exact h ▸ hs
    · obtain ⟨-, -, -, hsets, -⟩ := (s.setPins { s.pins with hrstnLow := true }).applyHostReset_blocks
      exact h ▸ .of_none hsets

theorem execCameraRegionDefine_setsSound {s t : State} (hs : SetsSound s) (h : execCameraRegionDefine s = .next t) :
    SetsSound t := by
  unfold execCameraRegionDefine at h
  dsimp only at h
  split at h <;> injection h with h
  · subst h
    exact (hs.remake (State.defineCamera_sets s _)).congr (State.startProfileBlocks_sets _ _)
  · exact h ▸ hs

/-- A completed piece acts on the sets by its notices alone. -/
theorem execHostPieceComplete_notifies {s t : State} {r : Reply} (h : execHostPieceComplete r s = .next t) :
    ∃ (u : State) (ns : List Notice), u.sets = s.sets ∧ t = u.notify ns := by
  unfold execHostPieceComplete at h
  dsimp only at h
  (repeat' split at h) <;> first | (injection h with h; subst h) | cases h
  · refine ⟨_, _, ?_, rfl⟩
    rfl
  all_goals
    refine ⟨_, [], ?_, rfl⟩
    rfl

theorem execLoadCheck_setsSound {s t : State} (hs : SetsSound s) (h : execLoadCheck s = .next t) : SetsSound t := by
  unfold execLoadCheck at h
  split at h <;> injection h with h
  · have hover : SetsSound s.handOver := by
      by_cases hscope : s.load.loadScope = 0
      · exact hs.remake (by rw [State.handOver_sets, State.tableTaken_full hscope, State.swapTable_sets_eq])
      · exact hs.congr (State.handOver_scenes hscope).2.1
    obtain ⟨l, e | e⟩ := s.endChecking_cases
    · rw [← h, e]; exact hover
    · rw [← h, e]; exact hs
  · exact h ▸ hs

theorem execRearBlankEvent_setsSound {s t : State} {k : Seat} (hs : SetsSound s)
    (h : execRearBlankEvent k s = .next t) : SetsSound t := by
  by_cases hrun : ∃ tm, s.timing (.rear k) = some tm ∧ (s.display (.rear k)).running = true
  · obtain ⟨tm, htm, hrun⟩ := hrun
    rw [execRearBlankEvent_eq htm hrun] at h
    injection h with h
    have hline : SetsSound (s.rearLine k tm.ha) := fun i b hb => hs i b (s.rearLine_setAt k tm.ha i ▸ hb)
    exact h ▸ (hline.selectFilm k).congr (State.latchFrame_sets _ _ _ _)
  · unfold execRearBlankEvent at h
    split at h
    · next tm htm =>
      rw [if_neg fun hr => hrun ⟨tm, htm, hr⟩] at h
      injection h with h
      exact h ▸ hs
    · injection h with h; exact h ▸ hs

theorem exec_setsSound {c : Instr} {s t : State} (hs : SetsSound s) (h : exec c s = .next t) : SetsSound t := by
  cases c with
  | powerOnReset => injection h with h; exact h ▸ .of_none rfl
  | hostReset => exact execHostReset_setsSound hs h
  | cameraRegionDefine => exact execCameraRegionDefine_setsSound hs h
  | hostPieceComplete r =>
    obtain ⟨u, ns, hu, rfl⟩ := execHostPieceComplete_notifies h
    exact (hs.congr hu).notify ns
  | loadCheck => exact execLoadCheck_setsSound hs h
  | rearBlankEvent k => exact execRearBlankEvent_setsSound hs h
  | _ => exact hs.congr (by rw [exec_frame h]; rfl)

/-- Settles O10: the queue and a tick leave the sets, and every row keeps them sound. -/
theorem stepKeepsSets : Obligations.StepKeepsSets := fun _ _ hs =>
  step_keeps (P := SetsSound) (fun _ _ h => h) (fun s h => h.congr (s.advance_sets 1)) (fun _ _ _ => exec_setsSound) hs

end Sys2Proof.Machine
end

section
/-! PROOFS. An output frame, the tone and its envelope, the samples of a stream, and the duck gain (R87, R94, R96, R97,
R149, R150, R156, R158, R161). O47. -/

namespace Sys2Proof.Machine

open Sys2Proof

/-! ### The mixing sums (R97) -/

theorem sat16_eq (x : Int) : sat16 x = if x < -32768 then -32768 else if 32767 < x then 32767 else x := by
  unfold sat16 clampInt; split_ifs <;> omega

theorem sat16_range (x : Int) : -32768 ≤ sat16 x ∧ sat16 x ≤ 32767 := by
  unfold sat16 clampInt; omega

theorem MixState.mix_headphones (m : MixState) (x0 x1 : Pair Int) (ch : Int × Bool) :
    (m.mix x0 x1 ch).hpL = ⟨headSample x0.l m.v.l (if ch.2 = true then ch.1 else 0),
      headSample x0.r m.v.l (if ch.2 = true then ch.1 else 0)⟩ ∧
    (m.mix x0 x1 ch).hpR = ⟨headSample x1.l m.v.r (if ch.2 = true then ch.1 else 0),
      headSample x1.r m.v.r (if ch.2 = true then ch.1 else 0)⟩ := ⟨rfl, rfl⟩

theorem MixState.mix_silent {m : MixState} (h : m.route = .silent) (x0 x1 : Pair Int) (ch : Int × Bool) :
    (m.mix x0 x1 ch).cabin = ⟨sat16 ch.1, sat16 ch.1⟩ := by
  simp [MixState.mix, cabinSample, h]

theorem MixState.mix_stream {m : MixState} {k : Seat} (h : m.route = .stream k) (x0 x1 : Pair Int) (ch : Int × Bool) :
    (m.mix x0 x1 ch).cabin = ⟨cabinSample (Pair.get ⟨x0, x1⟩ k).l m.vc m.gain ch.1,
      cabinSample (Pair.get ⟨x0, x1⟩ k).r m.vc m.gain ch.1⟩ := by
  cases k <;> simp only [MixState.mix, h, Pair.get]

/-- The six samples of an output frame (R97). -/
def OutFrame.samples (o : OutFrame) : List Int := [o.hpL.l, o.hpL.r, o.hpR.l, o.hpR.r, o.cabin.l, o.cabin.r]

theorem MixState.mix_range (m : MixState) (x0 x1 : Pair Int) (ch : Int × Bool) :
    ∀ y ∈ (m.mix x0 x1 ch).samples, -32768 ≤ y ∧ y ≤ 32767 := by
  simp [OutFrame.samples, MixState.mix, headSample, cabinSample, sat16_range]

/-! ### The tone and its envelope (R149, R150) -/

/-- Of two numbers without a sign, the rounded quotient is the quotient of the dividend raised by half the divisor. -/
theorem roundDiv_natCast (n d : Nat) : roundDiv n d = ((2 * n + d) / (2 * d) : Nat) := by
  have hsign : ¬ ((n : Int).sign * (d : Int).sign < 0) :=
    Int.not_lt.mpr (Int.mul_nonneg (Int.sign_nonneg_iff.mpr n.cast_nonneg) (Int.sign_nonneg_iff.mpr d.cast_nonneg))
  simp only [roundDiv, if_neg hsign, Int.natAbs_natCast]

theorem phaseStep_eq (tone : Nat) : phaseStep tone = (tone * 2 ^ 24 + 24000) / 48000 := by
  have hround : roundDiv (tone * 2 ^ 24) 48000 = ((2 * (tone * 2 ^ 24) + 48000) / (2 * 48000) : Nat) := by
    exact_mod_cast roundDiv_natCast (tone * 2 ^ 24) 48000
  rw [phaseStep, hround, Int.toNat_natCast]
  omega

theorem nextAcc_eq (st : ChimeStep) (acc : Nat) :
    nextAcc st acc = if st.tone = 0 then acc else (acc + (st.tone * 2 ^ 24 + 24000) / 48000) % 2 ^ 24 := by
  rw [nextAcc, phaseStep_eq]

/-- A part of a whole, in 256ths. -/
theorem scaled_le {n a : Nat} (h : n ≤ a) : 256 * n / a ≤ 256 :=
  Nat.div_le_of_le_mul (by omega)

section
variable {st : ChimeStep} {n : Nat}

theorem envelope_attack (h : n < st.attack * 48) (hr : n + st.release * 48 < st.frames) :
    envelope st n = 256 * n / (st.attack * 48) := by
  simp only [envelope, if_pos h, if_neg fun c : _ ∧ _ => absurd c.1 (Nat.not_le.mpr hr)]
  exact Nat.min_eq_left (scaled_le h.le)

theorem envelope_held (h : st.attack * 48 ≤ n) (hr : n + st.release * 48 < st.frames) : envelope st n = 256 := by
  simp only [envelope, if_neg (Nat.not_lt.mpr h), if_neg fun c : _ ∧ _ => absurd c.1 (Nat.not_le.mpr hr), Nat.min_self]

/-- A frame in the release has a release to be in. -/
theorem release_pos (hn : n < st.frames) (hr : st.frames ≤ n + st.release * 48) :
    st.frames ≤ n + st.release * 48 ∧ 0 < st.release * 48 := by omega

theorem envelope_release (hn : n < st.frames) (h : st.attack * 48 ≤ n) (hr : st.frames ≤ n + st.release * 48) :
    envelope st n = 256 * (st.frames - n) / (st.release * 48) := by
  simp only [envelope, if_neg (Nat.not_lt.mpr h), if_pos (release_pos hn hr)]
  exact Nat.min_eq_right (scaled_le (by omega))

theorem envelope_both (hn : n < st.frames) (h : n < st.attack * 48) (hr : st.frames ≤ n + st.release * 48) :
    envelope st n = min (256 * n / (st.attack * 48)) (256 * (st.frames - n) / (st.release * 48)) := by
  simp only [envelope, if_pos h, if_pos (release_pos hn hr)]

end

/-! ### What CHIME hands over, and where it goes (R156, R158, R161) -/

section
variable {c : ChimeState} {pats : List Pattern}

theorem ChimeState.sample_idle (h : c.phase = .idle) : c.sample pats = (0, false) := by
  simp only [ChimeState.sample, h]

theorem ChimeState.advance_idle (h : c.phase = .idle) : c.advance pats = c := by
  simp only [ChimeState.advance, h]

theorem ChimeState.sample_playing {e : ChimeEntry} (h : c.phase = .playing) (he : c.playing = some e) :
    c.sample pats =
      (toneSample ((patternAt pats e.pattern).stepAt c.step) c.acc
        (envelope ((patternAt pats e.pattern).stepAt c.step) c.frame), (patternAt pats e.pattern).headphones != 0) := by
  simp only [ChimeState.sample, h, he]

theorem ChimeState.advance_playing {e : ChimeEntry} (h : c.phase = .playing) (he : c.playing = some e) :
    c.advance pats =
      { c with
        frame := c.frame + 1, acc := nextAcc ((patternAt pats e.pattern).stepAt c.step) c.acc,
        lastEnv := envelope ((patternAt pats e.pattern).stepAt c.step) c.frame } := by
  simp only [ChimeState.advance, h, he]

theorem ChimeState.sample_switching {f : Fade} (h : c.phase = .switching) (hf : c.fade = some f) :
    c.sample pats =
      (toneSample ((patternAt pats f.pattern).stepAt f.step) c.acc (fadeEnvelope f.e0 f.m),
        (patternAt pats f.pattern).headphones != 0) := by
  simp only [ChimeState.sample, h, hf]

theorem ChimeState.advance_switching {f : Fade} (h : c.phase = .switching) (hf : c.fade = some f) :
    c.advance pats =
      { c with
        fade := some { f with m := min (f.m + 1) 240 },
        acc := nextAcc ((patternAt pats f.pattern).stepAt f.step) c.acc } := by
  simp only [ChimeState.advance, h, hf]

end

/-! ### The samples of a stream (R94) -/

theorem signed16_bytes (lo hi : Byte) : signed16 (lo.toNat + 256 * hi.toNat) = (hi ++ lo).toInt := by
  have happ : (hi ++ lo).toNat = lo.toNat + 256 * hi.toNat := by
    rw [BitVec.toNat_append, ← Nat.shiftLeft_add_eq_or_of_lt lo.isLt, Nat.shiftLeft_eq]; omega
  rw [BitVec.toInt_eq_toNat_cond, happ, signed16]
  split_ifs <;> omega

theorem sampleAt_eq (play : List RBeat) (off : Nat) :
    sampleAt play off = signed16 (beatsByte play off + 256 * beatsByte play (off + 1)) := by
  simp [sampleAt, fieldLE]

theorem beatsByte_none {play : List RBeat} {i : Nat} (h : play[i / 8]? = none) : beatsByte play i = 0 := by
  simp only [beatsByte, h]

theorem beatsByte_some {play : List RBeat} {i : Nat} {b : RBeat} (h : play[i / 8]? = some b) :
    beatsByte play i = (Beat.nth b i).toNat := by
  simp only [beatsByte, h]

/-- A beat holds two sample pairs: bytes 4f to 4f + 3 lie in one of its halves. -/
theorem Beat.nth_pair {α : Type} (b : Beat α) (f : Nat) :
    Beat.nth b (4 * f) = (if f % 2 = 0 then b.lo else b.hi).b0 ∧
    Beat.nth b (4 * f + 1) = (if f % 2 = 0 then b.lo else b.hi).b1 ∧
    Beat.nth b (4 * f + 2) = (if f % 2 = 0 then b.lo else b.hi).b2 ∧
    Beat.nth b (4 * f + 3) = (if f % 2 = 0 then b.lo else b.hi).b3 := by
  have half : ∀ i, i < 4 → ((4 * f + i) % 8 < 4 ↔ f % 2 = 0) := fun i hi => by omega
  have place : ∀ i, i < 4 → (4 * f + i) % 4 = i := fun i hi => by omega
  have nth : ∀ i, i < 4 → Beat.nth b (4 * f + i) = Quad.nth (if f % 2 = 0 then b.lo else b.hi) i := fun i hi => by
    simp only [Beat.nth, Quad.nth, half i hi, place i hi, Nat.mod_eq_of_lt hi]
    split <;> rfl
  exact ⟨nth 0 (by omega), nth 1 (by omega), nth 2 (by omega), nth 3 (by omega)⟩

theorem Stream.samples_playing {st : Stream} {r : RingRecord} (h : st.phase = .playing) (hr : st.ring = some r)
    (f : Nat) : st.samples f = ⟨sampleAt r.play (4 * f), sampleAt r.play (4 * f + 2)⟩ := by
  simp only [Stream.samples, h, hr]

theorem Stream.samples_rest {st : Stream} (h : st.phase ≠ .playing ∨ st.ring = none) (f : Nat) :
    st.samples f = ⟨0, 0⟩ := by
  unfold Stream.samples
  split
  · next r hp hr => simp [hp, hr] at h
  · rfl

theorem samples_none {play : List RBeat} {f : Nat} (h : play[f / 2]? = none) :
    sampleAt play (4 * f) = 0 ∧ sampleAt play (4 * f + 2) = 0 := by
  have zero : ∀ i, i < 4 → beatsByte play (4 * f + i) = 0 := fun i hi =>
    beatsByte_none (by rwa [show (4 * f + i) / 8 = f / 2 by omega])
  simp only [sampleAt_eq, Nat.add_assoc]
  rw [zero 1 (by omega), zero 2 (by omega), zero 3 (by omega), show beatsByte play (4 * f) = 0 from zero 0 (by omega)]
  decide

theorem samples_some {play : List RBeat} {f : Nat} {b : RBeat} (h : play[f / 2]? = some b) :
    sampleAt play (4 * f) =
        ((if f % 2 = 0 then b.lo else b.hi).b1 ++ (if f % 2 = 0 then b.lo else b.hi).b0).toInt ∧
      sampleAt play (4 * f + 2) =
        ((if f % 2 = 0 then b.lo else b.hi).b3 ++ (if f % 2 = 0 then b.lo else b.hi).b2).toInt := by
  have byte : ∀ i, i < 4 → beatsByte play (4 * f + i) = (Beat.nth b (4 * f + i)).toNat := fun i hi =>
    beatsByte_some (by rwa [show (4 * f + i) / 8 = f / 2 by omega])
  obtain ⟨h0, h1, h2, h3⟩ := Beat.nth_pair b f
  simp only [sampleAt_eq, Nat.add_assoc]
  rw [byte 1 (by omega), byte 2 (by omega), byte 3 (by omega),
    show beatsByte play (4 * f) = (Beat.nth b (4 * f)).toNat from byte 0 (by omega), h0, h1, h2, h3]
  exact ⟨signed16_bytes _ _, signed16_bytes _ _⟩

/-! ### The rows -/

/-- The samples an output frame sends (R97). -/
def State.frameOut (s : State) : OutFrame :=
  s.mix.mix (s.aud.streams.l.samples s.aud.phase) (s.aud.streams.r.samples s.aud.phase) (s.chime.sample s.patterns)

/-- The machine after an output frame (R87, R96, R161). -/
def State.frameSent (s : State) : State :=
  { s with
    mix := { s.mix with out := some s.frameOut, ramp := (s.mix.ramp + 1) % 8 }
    aud := { s.aud with phase := (s.aud.phase + 1) % 256, lastFrame := s.aud.phase == 255, sub := 0 }
    chime := s.chime.advance s.patterns }

theorem exec_outputFrame {s : State} (hc : s.aud.clock = true) : exec .outputFrame s = .next s.frameSent := by
  change execOutputFrame s = _
  rw [execOutputFrame, if_pos hc]; rfl

theorem exec_duckStep {s : State} (hc : s.aud.clock = true) :
    exec .duckStep s = .next (s.setMix { s.mix with ramp := 0, gain := duckStep s.mix.gain s.duckTarget }) := by
  change execDuckStep s = _
  rw [execDuckStep, if_pos hc]

theorem State.duckTarget_eq (s : State) :
    s.duckTarget =
      if s.rvc.phase ≠ .off ∧ s.mix.mute = true then 0
      else if s.chime.phase = .idle then 256 else min 256 s.mix.duck := by
  simp [State.duckTarget, State.reversing]

/-- Settles O47: each row by its equation, the mixing sums by route, CHIME by its phase, the envelope by the part of
the step that the frame falls in. -/
theorem audioFrameRows : Obligations.AudioFrameRows := by
  refine ⟨fun s hc => ?_, fun s hc => ?_, fun st f => ?_, fun st acc env => ?_, fun st n => ?_⟩
  · have hsat : sat16 = fun x => if x < -32768 then -32768 else if 32767 < x then 32767 else x := funext sat16_eq
    refine ⟨s.frameSent, s.frameOut, exec_outputFrame hc, rfl, rfl, rfl, ⟨?_, ?_, fun hr => ?_, fun k hr => ?_⟩,
      fun h => ⟨ChimeState.advance_idle h, ChimeState.sample_idle h⟩,
      fun e h he => ⟨ChimeState.sample_playing h he, ?_⟩, fun f h hf => ⟨ChimeState.sample_switching h hf, ?_⟩,
      MixState.mix_range _ _ _ _⟩
    · rw [State.frameOut, (MixState.mix_headphones _ _ _ _).1]
      simp only [headSample, hsat]
    · rw [State.frameOut, (MixState.mix_headphones _ _ _ _).2]
      simp only [headSample, hsat]
    · rw [State.frameOut, MixState.mix_silent hr, hsat]
    · rw [State.frameOut, MixState.mix_stream hr]
      cases k <;> simp only [cabinSample, hsat, Pair.get]
    · rw [← nextAcc_eq]; exact ChimeState.advance_playing h he
    · rw [← nextAcc_eq]; exact ChimeState.advance_switching h hf
  · rw [exec_duckStep hc, State.duckTarget_eq]; rfl
  · refine ⟨fun h => Stream.samples_rest h f, fun r h hr => ⟨fun hb => ?_, fun b hb => ?_⟩⟩
    · rw [Stream.samples_playing h hr, (samples_none hb).1, (samples_none hb).2]
    · rw [Stream.samples_playing h hr, (samples_some hb).1, (samples_some hb).2]
  · exact ⟨fun h => if_pos h, fun h => if_neg h⟩
  · exact fun hn => ⟨envelope_held, envelope_attack, envelope_release hn, envelope_both hn⟩

end Sys2Proof.Machine
end

section
/-! PROOFS. A block boundary, stream by stream (R87 to R91, R93), and the completion of a prefetch burst. O48, O49. -/

namespace Sys2Proof.Machine

open Sys2Proof

/-! ### Rings (R82, R88, R91) -/

theorem RingRecord.succ_eq_mod {r : RingRecord} {j : Nat} (h : j < r.desc.n) : r.succ j = (j + 1) % r.desc.n := by
  unfold RingRecord.succ
  split
  · next hlt => rw [Nat.mod_eq_of_lt hlt]
  · next hge => rw [show j + 1 = r.desc.n by omega, Nat.mod_self]

/-- R88: primed is FILLED from a block on, in ring order. -/
theorem RingRecord.primed_iff (r : RingRecord) (c : Nat) :
    ∀ j, j < r.desc.n → (r.primed c j = true ↔ ∀ m, m < c → r.block ((j + m) % r.desc.n) = .filled) := by
  induction c with
  | zero => exact fun j _ => by simp [RingRecord.primed]
  | succ c ih =>
    intro j hj
    have hsucc : r.succ j < r.desc.n := by
      rw [r.succ_eq_mod hj]; exact Nat.mod_lt _ (by omega)
    have hplace : ∀ m, (r.succ j + m) % r.desc.n = (j + (m + 1)) % r.desc.n := fun m => by
      rw [r.succ_eq_mod hj, Nat.mod_add_mod, Nat.add_assoc, Nat.add_comm 1 m]
    simp only [RingRecord.primed, Bool.and_eq_true, beq_iff_eq, ih _ hsucc, hplace, Nat.forall_lt_succ_left, Nat.add_zero,
      Nat.mod_eq_of_lt hj]

theorem RingRecord.fetched_iff {r : RingRecord} {j : Nat} :
    r.fetched j = true ↔ ∃ f, r.prefetch = some f ∧ f.block = j ∧ f.back = 8 := by
  unfold RingRecord.fetched
  cases r.prefetch <;> simp

theorem RingRecord.block_of_getElem? {r : RingRecord} {j : Nat} {b : BlockPhase} (h : r.blocks[j]? = some b) :
    r.block j = b := by
  simp [RingRecord.block, h]

/-- A FILLED block is a block of the ring: beyond its blocks a ring reads EMPTY. -/
theorem RingRecord.lt_of_filled {r : RingRecord} {j : Nat} (h : r.block j = .filled) : j < r.blocks.length := by
  by_contra hge
  rw [RingRecord.block, List.getD_eq_default _ _ (Nat.not_lt.mp hge)] at h
  cases h

/-- R89: the ring when the playing block has finished. -/
def RingRecord.finish (r : RingRecord) (p : Nat) : RingRecord := { r with blocks := r.blocks.set p .empty }

/-- R90: the ring that has run dry, waiting for block `j`. -/
def RingRecord.dry (r : RingRecord) (j : Nat) : RingRecord := { r with playing := none, awaited := some j, play := [] }

theorem RingRecord.finish_block_self {r : RingRecord} {p : Nat} (h : p < r.blocks.length) :
    (r.finish p).block p = .empty := by
  simp [RingRecord.finish, RingRecord.block, h]

theorem RingRecord.finish_block_ne (r : RingRecord) {p j : Nat} (h : j ≠ p) : (r.finish p).block j = r.block j := by
  simp [RingRecord.finish, RingRecord.block, List.getElem?_set_ne h.symm]

theorem RingRecord.playBlock_block_self {r : RingRecord} {j : Nat} (h : j < r.blocks.length) :
    (r.playBlock j).block j = .playing := by
  simp [RingRecord.playBlock, RingRecord.block, h]

theorem RingRecord.playBlock_block_ne (r : RingRecord) {i j : Nat} (h : i ≠ j) :
    (r.playBlock j).block i = r.block i := by
  simp [RingRecord.playBlock, RingRecord.block, List.getElem?_set_ne h.symm]

/-- R91, R93: what was fetched is played, nothing after an error. -/
theorem RingRecord.playBlock_play {r : RingRecord} {f : Prefetch} (h : r.prefetch = some f) (j : Nat) :
    (r.playBlock j).play = if f.err = true then [] else f.data := by
  simp only [RingRecord.playBlock, h]

/-! ### The prefetch that becomes due (R91) -/

/-- R91: the prefetch kept, or the one that becomes due where none is kept and the block is FILLED. -/
def RingRecord.fetchFor (r : RingRecord) (n : Nat) : Option Prefetch → Option Prefetch
  | some f => some f
  | none => if r.block n = .filled then some (Prefetch.fresh n) else none

theorem RingRecord.newlyDue_idle {r : RingRecord} {n : Nat} (h : r.newlyDue = some n) : r.prefetch = none := by
  cases hf : r.prefetch with
  | none => rfl
  | some f => simp [RingRecord.newlyDue, hf] at h

theorem RingRecord.target_awaited {r : RingRecord} {n : Nat} (hplay : r.playing = none) (h : r.awaited = some n) :
    r.target = some n := by
  rw [RingRecord.target, hplay]; exact h

theorem RingRecord.withDue_prefetch {r : RingRecord} {n : Nat} (h : r.target = some n) :
    r.withDue.prefetch = r.fetchFor n r.prefetch := by
  unfold RingRecord.withDue
  cases hf : r.prefetch with
  | some f => simp [RingRecord.newlyDue, RingRecord.fetchFor, hf]
  | none => by_cases hb : r.block n = .filled <;> simp [RingRecord.newlyDue, RingRecord.fetchFor, hf, h, hb]

theorem RingRecord.withDue_eq {r : RingRecord} {n : Nat} (h : r.target = some n) :
    r.withDue = { r with prefetch := r.fetchFor n r.prefetch } := by
  rw [r.withDue_frame, r.withDue_prefetch h]

/-- The stream of a ring whose newly due prefetch has been added. -/
def Stream.withDue (st : Stream) : Stream := { st with ring := st.ring.map RingRecord.withDue }

/-- Whether a stream's prefetch becomes due. -/
def Stream.comesDue (st : Stream) : Bool := st.ring.any (·.newlyDue.isSome)

theorem Stream.withDue_of_ring {st : Stream} {r : RingRecord} (h : st.ring = some r) :
    st.withDue = { st with ring := some r.withDue } := by
  rw [Stream.withDue, h]; rfl

theorem AudState.makeDue_self (a : AudState) (k : Seat) :
    Pair.get (a.makeDue k).streams k = (Pair.get a.streams k).withDue := by
  cases h : (Pair.get a.streams k).ring with
  | none => simp only [AudState.makeDue, Stream.withDue, h, Option.map_none]; rw [← h]
  | some r => rw [AudState.makeDue_stream h, Stream.withDue, h]; rfl

theorem AudState.makeDue_queue (a : AudState) (k : Seat) :
    (a.makeDue k).due = a.due ++ [k].filter (fun _ => (Pair.get a.streams k).comesDue) := by
  cases hr : (Pair.get a.streams k).ring with
  | none => simp [AudState.makeDue, Stream.comesDue, hr]
  | some r => cases hd : r.newlyDue <;> simp [AudState.makeDue, Stream.comesDue, hr, hd]

theorem AudState.makeDue_phase (a : AudState) (k : Seat) : (a.makeDue k).phase = a.phase := by
  dsimp only [AudState.makeDue]
  split
  · rfl
  · split <;> rfl

/-- R91: behind a block that begins to play, the prefetch of the next block is due if that block is FILLED. -/
theorem RingRecord.playBlock_withDue (r : RingRecord) (j : Nat) :
    (r.playBlock j).withDue = { r.playBlock j with prefetch := (r.playBlock j).fetchFor (r.succ j) none } :=
  RingRecord.withDue_eq rfl

/-- R90, R91: a ring that has run dry has the prefetch of the awaited block due if that block is FILLED. -/
theorem RingRecord.dry_withDue (r : RingRecord) (j : Nat) :
    (r.dry j).withDue = { r.dry j with prefetch := (r.dry j).fetchFor j r.prefetch } :=
  RingRecord.withDue_eq rfl

/-! ### One stream at a boundary (R88 to R90) -/

/-- A stream after a block boundary, with the prefetch that becomes due. -/
def Stream.atBoundary (st : Stream) : Stream := st.boundary.1.withDue

section
variable {st : Stream} {r : RingRecord} {p j : Nat}

theorem Stream.boundary_noRing (h : st.ring = none) : st.boundary = (st, false) := by
  simp only [Stream.boundary, h]

theorem Stream.boundary_starts (hp : st.phase = .priming) (hr : st.ring = some r) (hj : r.awaited = some j)
    (hprimed : r.primed r.prime j = true) (hf : r.fetched j = true) :
    st.boundary = ({ st with phase := .playing, ring := some (r.playBlock j) }, false) := by
  simp [Stream.boundary, hp, hr, hj, hprimed, hf]

theorem Stream.boundary_primes (hp : st.phase = .priming) (hr : st.ring = some r) (hj : r.awaited = some j)
    (h : r.primed r.prime j = false ∨ r.fetched j = false) : st.boundary = (st, false) := by
  rcases h with h | h <;> simp [Stream.boundary, hp, hr, hj, h]

theorem Stream.boundary_returns (hp : st.phase = .underrun) (hr : st.ring = some r) (hj : r.awaited = some j)
    (hseq : st.blockSeq ≠ 4294967295) (hb : r.block j = .filled) (hf : r.fetched j = true) :
    st.boundary = ({ st with phase := .playing, ring := some (r.playBlock j) }, false) := by
  simp [Stream.boundary, hp, hr, hj, Config.lastBlockSeq, hseq, hb, hf]

theorem Stream.boundary_waits (hp : st.phase = .underrun) (hr : st.ring = some r) (hj : r.awaited = some j)
    (h : st.blockSeq = 4294967295 ∨ r.block j ≠ .filled ∨ r.fetched j = false) : st.boundary = (st, false) := by
  rcases h with h | h | h <;> simp [Stream.boundary, hp, hr, hj, Config.lastBlockSeq, h]

theorem Stream.boundary_advances (hp : st.phase = .playing) (hr : st.ring = some r) (hplay : r.playing = some p)
    (hseq : min (st.blockSeq + 1) 4294967295 ≠ 4294967295) (hne : r.succ p ≠ p) (hb : r.block (r.succ p) = .filled)
    (hf : r.fetched (r.succ p) = true) :
    st.boundary =
      ({ st with blockSeq := min (st.blockSeq + 1) 4294967295, ring := some ((r.finish p).playBlock (r.succ p)) },
        false) := by
  rw [← r.finish_block_ne hne] at hb
  simp only [Stream.boundary, hp, hr, hplay]
  exact if_pos ⟨hseq, hb, hf⟩

theorem Stream.boundary_underruns (hp : st.phase = .playing) (hr : st.ring = some r) (hplay : r.playing = some p)
    (hlen : p < r.blocks.length)
    (h : min (st.blockSeq + 1) 4294967295 = 4294967295 ∨ r.succ p = p ∨ r.block (r.succ p) ≠ .filled ∨
      r.fetched (r.succ p) = false) :
    st.boundary =
      ({ st with
         phase := .underrun, blockSeq := min (st.blockSeq + 1) 4294967295, underruns := satInc st.underruns,
         ring := some ((r.finish p).dry (r.succ p)) }, true) := by
  have hstop : ¬ (min (st.blockSeq + 1) 4294967295 ≠ 4294967295 ∧ (r.finish p).block (r.succ p) = .filled ∧
      r.fetched (r.succ p) = true) := by
    rintro ⟨hseq, hb, hf⟩
    have hne : r.succ p ≠ p := fun e => by
      rw [e, r.finish_block_self hlen] at hb; cases hb
    rw [r.finish_block_ne hne] at hb
    rcases h with h | h | h | h
    · exact hseq h
    · exact hne h
    · exact h hb
    · rw [h] at hf; cases hf
  simp only [Stream.boundary, hp, hr, hplay]
  exact if_neg hstop

theorem Stream.atBoundary_noRing (h : st.ring = none) : st.atBoundary = st := by
  rw [Stream.atBoundary, Stream.boundary_noRing h, Stream.withDue, h, Option.map_none, ← h]

/-- R91: what a boundary makes of a stream, with the prefetch that becomes due behind it. -/
theorem Stream.atBoundary_eq {st' : Stream} {b : Bool} (h : st.boundary = (st', b)) (hr : st'.ring = some r) :
    st.atBoundary = { st' with ring := some r.withDue } := by
  rw [Stream.atBoundary, h, Stream.withDue_of_ring hr]

/-- A boundary keeps a stream's prefetch, or takes one that has finished. -/
theorem Stream.boundary_prefetch (hr : st.ring = some r) :
    ∃ r', st.boundary.1.ring = some r' ∧
      (r'.prefetch = r.prefetch ∨ (r'.prefetch = none ∧ ∃ j, r.fetched j = true)) := by
  simp only [Stream.boundary, hr]
  split
  · split
    · next j _ _ h => exact ⟨_, rfl, .inr ⟨rfl, j, (Bool.and_eq_true _ _ ▸ h).2⟩⟩
    · exact ⟨_, hr, .inl rfl⟩
  · split
    · next j _ _ h => exact ⟨_, rfl, .inr ⟨rfl, j, h.2.2⟩⟩
    · exact ⟨_, hr, .inl rfl⟩
  · split
    · next h => exact ⟨_, rfl, .inr ⟨rfl, _, h.2.2⟩⟩
    · exact ⟨_, rfl, .inl rfl⟩
  · exact ⟨_, hr, .inl rfl⟩

/-- R91: the prefetch a stream keeps has changed into another exactly where one becomes due: a finished one that was
taken has 8 bursts back, a fresh one none. -/
theorem Stream.comesDue_iff (st : Stream) :
    st.boundary.1.comesDue = true ↔
      (st.atBoundary.ring.bind (·.prefetch)).isSome = true ∧
        st.atBoundary.ring.bind (·.prefetch) ≠ st.ring.bind (·.prefetch) := by
  cases hr : st.ring with
  | none => simp [Stream.atBoundary, Stream.withDue, Stream.comesDue, Stream.boundary_noRing hr, hr]
  | some r =>
    obtain ⟨r', hr', hpre⟩ := Stream.boundary_prefetch hr
    rw [Stream.atBoundary, Stream.withDue_of_ring hr', Stream.comesDue, hr']
    simp only [Option.any_some, Option.bind_some]
    cases hdue : r'.newlyDue with
    | none =>
      have hkept : r'.withDue = r' := by simp only [RingRecord.withDue, hdue]
      rw [hkept]
      rcases hpre with h | ⟨h, -⟩ <;> simp [h]
    | some n =>
      have hidle := RingRecord.newlyDue_idle hdue
      rw [RingRecord.withDue_of_newlyDue hdue]
      refine ⟨fun _ => ⟨rfl, fun h => ?_⟩, fun _ => rfl⟩
      rcases hpre with hsame | ⟨-, j, hf⟩
      · rw [← hsame, hidle] at h; cases h
      · obtain ⟨f, hf, -, hback⟩ := RingRecord.fetched_iff.mp hf
        rw [hf] at h
        injection h with h
        rw [← h] at hback
        cases hback

end

/-! ### Both streams (R87, R90, R91) -/

theorem AudState.streamBoundary_self (a : AudState) (k : Seat) :
    Pair.get (a.streamBoundary k).1.streams k = (Pair.get a.streams k).atBoundary := by
  rw [AudState.streamBoundary, AudState.makeDue_self, Pair.get_set_self]; rfl

theorem AudState.streamBoundary_other (a : AudState) {i k : Seat} (h : i ≠ k) :
    Pair.get (a.streamBoundary k).1.streams i = Pair.get a.streams i := by
  rw [AudState.streamBoundary, AudState.makeDue_other h]; exact Pair.get_set_ne _ _ h

theorem AudState.streamBoundary_due (a : AudState) (k : Seat) :
    (a.streamBoundary k).1.due = a.due ++ [k].filter (fun _ => (Pair.get a.streams k).boundary.1.comesDue) := by
  rw [AudState.streamBoundary, AudState.makeDue_queue, Pair.get_set_self]

theorem AudState.streamBoundary_phase (a : AudState) (k : Seat) : (a.streamBoundary k).1.phase = a.phase :=
  AudState.makeDue_phase _ _

/-- AUD as the boundary finds it: the next frame has phase 0. -/
def AudState.atPhaseZero (a : AudState) : AudState := { a with phase := 0, lastFrame := false }

/-- AUD after a block boundary, stream 0's taken first. -/
def AudState.boundary (a : AudState) : AudState := ((a.atPhaseZero.streamBoundary .left).1.streamBoundary .right).1

theorem AudState.boundary_stream (a : AudState) (k : Seat) :
    Pair.get a.boundary.streams k = (Pair.get a.streams k).atBoundary := by
  unfold AudState.boundary
  cases k with
  | left => rw [AudState.streamBoundary_other _ (by decide), AudState.streamBoundary_self]; rfl
  | right => rw [AudState.streamBoundary_self, AudState.streamBoundary_other _ (by decide)]; rfl

theorem AudState.boundary_due (a : AudState) :
    a.boundary.due = a.due ++ [Seat.left, .right].filter (fun k => (Pair.get a.streams k).boundary.1.comesDue) := by
  rw [AudState.boundary, AudState.streamBoundary_due, AudState.streamBoundary_due,
    AudState.streamBoundary_other _ (by decide), List.append_assoc]
  exact congrArg (a.due ++ ·)
    (List.filter_append (p := fun k => (Pair.get a.streams k).boundary.1.comesDue) [.left] [.right]).symm

theorem AudState.boundary_phase (a : AudState) : a.boundary.phase = 0 := by
  rw [AudState.boundary, AudState.streamBoundary_phase, AudState.streamBoundary_phase]; rfl

/-- The machine after a block boundary (R87 to R91). -/
def State.atBoundary (s : State) : State :=
  ((s.setAud s.aud.boundary).noteUnderrun (Pair.get s.aud.streams .left).boundary.2).noteUnderrun
    (Pair.get s.aud.streams .right).boundary.2

theorem exec_blockBoundary {s : State} (hc : s.aud.clock = true) : exec .blockBoundary s = .next s.atBoundary := by
  have hright : Pair.get (s.aud.atPhaseZero.streamBoundary .left).1.streams .right = Pair.get s.aud.streams .right :=
    AudState.streamBoundary_other _ (by decide)
  rw [State.atBoundary, ← hright]
  exact if_pos hc

theorem State.atBoundary_aud (s : State) : s.atBoundary.aud = s.aud.boundary := by
  simp [State.atBoundary]

theorem State.noteUnderrun_raises (s : State) : (s.noteUnderrun true).load.causes.getLsbD 5 = true := by
  simp [State.noteUnderrun, withCause, Cause.mask, Cause.bit]

theorem State.noteUnderrun_keeps {s : State} (h : s.load.causes.getLsbD 5 = true) (b : Bool) :
    (s.noteUnderrun b).load.causes.getLsbD 5 = true := by
  cases b with
  | false => exact h
  | true => exact s.noteUnderrun_raises

/-- R90: AUDIO_UNDERRUN is raised if either stream underruns. -/
theorem State.atBoundary_raises {s : State} {k : Seat} (h : (Pair.get s.aud.streams k).boundary.2 = true) :
    s.atBoundary.load.causes.getLsbD 5 = true := by
  unfold State.atBoundary
  cases k with
  | left => rw [h]; exact State.noteUnderrun_keeps (State.noteUnderrun_raises _) _
  | right => rw [h]; exact State.noteUnderrun_raises _

/-! ### The row -/

/-- Settles O48: both streams by `Stream.atBoundary`; a PLAYING stream by whether its successor can play, a PRIMING one
and one in UNDERRUN by whether the awaited block can. -/
theorem blockBoundaryTaken : Obligations.BlockBoundaryTaken := by
  intro s hc kept next after
  have hstream : ∀ k, Pair.get s.atBoundary.aud.streams k = (Pair.get s.aud.streams k).atBoundary := fun k => by
    rw [State.atBoundary_aud, AudState.boundary_stream]
  refine ⟨s.atBoundary, exec_blockBoundary hc, execBlockBoundary_frame (exec_blockBoundary hc), ?_, ?_,
    fun k r p hp hr hplay hlen => ?_, fun k r j hp hr hj hlen => ?_, fun k r j hp hr hj hlen => ?_, fun k hr => ?_,
    fun r c j => ⟨fun hj => r.primed_iff c j hj, RingRecord.fetched_iff, fun b => RingRecord.block_of_getElem?⟩⟩
  · rw [State.atBoundary_aud, AudState.boundary_phase]
  · rw [State.atBoundary_aud, AudState.boundary_due]
    congr 2
    funext k
    rw [Bool.eq_iff_iff, Stream.comesDue_iff, Bool.and_eq_true, decide_eq_true_eq, ← hstream]
  · rw [hstream]
    intro st' j
    by_cases hstop : min ((Pair.get s.aud.streams k).blockSeq + 1) 4294967295 = 4294967295 ∨ j = p ∨ r.block j ≠ .filled ∨
        r.fetched j = false
    · have hdry := Stream.boundary_underruns hp hr hplay hlen hstop
      have hst : st' = _ := Stream.atBoundary_eq hdry rfl
      rw [hst, RingRecord.dry_withDue]
      refine ⟨_, rfl, rfl, fun hseq hne hb hf => absurd hstop (by simp [hseq, hne, hb, hf]), fun _ => ?_⟩
      exact ⟨rfl, rfl, rfl, RingRecord.finish_block_self hlen, rfl, rfl, rfl,
        State.atBoundary_raises (congrArg Prod.snd hdry)⟩
    · obtain ⟨hseq, hne, hb, hf⟩ : min ((Pair.get s.aud.streams k).blockSeq + 1) 4294967295 ≠ 4294967295 ∧ j ≠ p ∧
          r.block j = .filled ∧ r.fetched j = true := by simpa using hstop
      have hst : st' = _ := Stream.atBoundary_eq (Stream.boundary_advances hp hr hplay hseq hne hb hf) rfl
      have hjlen : j < (r.finish p).blocks.length := RingRecord.lt_of_filled ((r.finish_block_ne hne).trans hb)
      rw [hst, RingRecord.playBlock_withDue]
      refine ⟨_, rfl, rfl, fun _ _ _ _ => ⟨hp, rfl, ?_, ?_, rfl, fun f hf => ?_, rfl⟩, fun h => absurd h hstop⟩
      · exact (RingRecord.playBlock_block_ne _ hne.symm).trans (RingRecord.finish_block_self hlen)
      · exact RingRecord.playBlock_block_self hjlen
      · exact RingRecord.playBlock_play (r := r.finish p) hf j
  · rw [hstream]
    refine ⟨fun hprimed hf => ?_, fun hwait => ?_⟩
    · rw [Stream.atBoundary_eq (Stream.boundary_starts hp hr hj hprimed hf) rfl, RingRecord.playBlock_withDue]
      exact ⟨_, rfl, rfl, rfl, RingRecord.playBlock_block_self hlen, rfl, fun f hf => RingRecord.playBlock_play hf j, rfl⟩
    · rw [Stream.atBoundary_eq (Stream.boundary_primes hp hr hj hwait) hr]
      exact ⟨hp, rfl, fun hnone => congrArg some (RingRecord.withDue_eq (RingRecord.target_awaited hnone hj))⟩
  · rw [hstream]
    intro st st'
    by_cases hwait : st.blockSeq = 4294967295 ∨ r.block j ≠ .filled ∨ r.fetched j = false
    · have hst : st' = _ := Stream.atBoundary_eq (Stream.boundary_waits hp hr hj hwait) hr
      rw [hst]
      refine ⟨rfl, rfl, rfl, fun hseq hb hf => absurd hwait (by simp [hseq, hb, hf]), fun _ => ⟨_, rfl, hp, ?_, ?_, ?_⟩⟩
      · rw [r.withDue_frame]; exact hj
      · rw [r.withDue_frame]
      · exact fun hnone => RingRecord.withDue_eq (RingRecord.target_awaited hnone hj)
    · obtain ⟨hseq, hb, hf⟩ : st.blockSeq ≠ 4294967295 ∧ r.block j = .filled ∧ r.fetched j = true := by simpa using hwait
      have hst : st' = _ := Stream.atBoundary_eq (Stream.boundary_returns hp hr hj hseq hb hf) rfl
      rw [hst, RingRecord.playBlock_withDue]
      exact ⟨rfl, rfl, rfl, fun _ _ _ => ⟨_, rfl, rfl, rfl, rfl, rfl, fun f hf => RingRecord.playBlock_play hf j, rfl⟩,
        fun h => absurd h hwait⟩
  · rw [hstream, Stream.atBoundary_noRing hr]

/-! ### A prefetch burst's completion (R91, R93) -/

/-- A prefetch with one more burst back: its data joins what has been read, an error marks it. -/
def Prefetch.withReply (p : Prefetch) : Reply → Prefetch
  | .ok data => { p with back := p.back + 1, data := p.data ++ data }
  | .error => { p with back := p.back + 1, err := true }

theorem Stream.burstBack_eq {st : Stream} {r : RingRecord} {p : Prefetch} (hr : st.ring = some r)
    (hp : r.prefetch = some p) (reply : Reply) :
    st.burstBack reply = { st with ring := some { r with prefetch := some (p.withReply reply) } } := by
  cases reply <;> simp only [Stream.burstBack, hr, hp, Prefetch.withReply]

/-- AUD with a prefetch burst back in stream `k`. -/
def AudState.burstBack (a : AudState) (k : Seat) (reply : Reply) : AudState :=
  { a with streams := Pair.set a.streams k ((Pair.get a.streams k).burstBack reply) }

section
variable {s : State} {f : Flight} {k : Seat}

theorem exec_audioBurstComplete_ok (hf : s.dueFlight = some f) (ho : f.owner = .audio k) (hlive : f.live = true)
    {data : List RBeat} (hlen : data.length = 16) :
    exec (.audioBurstComplete (.ok data)) s = .next (s.popFlight.setAud (s.aud.burstBack k (.ok data))) := by
  change execAudioBurstComplete _ s = _
  simp only [execAudioBurstComplete, Reply.wf, hlen, decide_true, if_true, hf, ho, hlive]
  rfl

theorem exec_audioBurstComplete_error (hf : s.dueFlight = some f) (ho : f.owner = .audio k) (hlive : f.live = true) :
    exec (.audioBurstComplete .error) s = .next (s.popFlight.setAud (s.aud.burstBack k .error)).countFetchError := by
  change execAudioBurstComplete _ s = _
  simp only [execAudioBurstComplete, Reply.wf, if_true, hf, ho, hlive]
  rfl

theorem exec_audioBurstComplete_dead (hf : s.dueFlight = some f) (ho : f.owner = .audio k) (hdead : f.live = false)
    {reply : Reply} (hwf : reply.wf 16 = true) : exec (.audioBurstComplete reply) s = .next s.popFlight := by
  change execAudioBurstComplete _ s = _
  simp [execAudioBurstComplete, hwf, hf, ho, hdead]

end

/-- Settles O49: a live burst by its reply, a dead one by the flight alone. -/
theorem audioBurstCompleted : Obligations.AudioBurstCompleted := by
  intro s f k hf ho
  refine ⟨fun hlive r p hr hp => ⟨fun data hlen => ?_, ?_⟩,
    fun hdead reply hwf => exec_audioBurstComplete_dead hf ho hdead hwf⟩
  · refine ⟨_, exec_audioBurstComplete_ok hf ho hlive hlen, rfl, rfl, ?_⟩
    exact (Pair.get_set_self _ _ _).trans (Stream.burstBack_eq hr hp _)
  · refine ⟨_, exec_audioBurstComplete_error hf ho hlive, rfl, rfl, rfl, ?_⟩
    exact (Pair.get_set_self _ _ _).trans (Stream.burstBack_eq hr hp _)

end Sys2Proof.Machine
end

section
/-! PROOFS. The camera slots and the arrival list (R104): what the operations of CAM make of each slot, which slot a blank
event shows, and that the slots and the list go on agreeing. -/

namespace Sys2Proof.Machine

open Sys2Proof

/-! ### Slot by slot (R104) -/

theorem slots_getD_set {l : List CamSlot} {k : Nat} (hk : k < l.length) (x : CamSlot) (j : Nat) :
    (l.set k x).getD j .empty = if j = k then x else l.getD j .empty := by
  simp only [List.getD_eq_getElem?_getD, List.getElem?_set]
  grind

/-- A slot beyond the four reads as EMPTY, so that emptying it makes no difference. -/
theorem slots_getD_set_empty (l : List CamSlot) (k j : Nat) :
    (l.set k .empty).getD j .empty = if j = k then .empty else l.getD j .empty := by
  simp only [List.getD_eq_getElem?_getD, List.getElem?_set]
  grind

theorem CamState.slot_lt {c : CamState} {k : Nat} (h : c.slot k ≠ .empty) : k < c.slots.length := by
  by_contra hk
  exact h (by rw [CamState.slot, List.getD_eq_default _ _ (by omega)])

theorem slots_findIdx?_some {l : List CamSlot} {x : CamSlot} {k : Nat} (h : l.findIdx? (· == x) = some k) :
    k < l.length ∧ l.getD k .empty = x := by
  obtain ⟨hk, hx, -⟩ := List.findIdx?_eq_some_iff_getElem.mp h
  exact ⟨hk, (List.getD_eq_getElem _ _ hk).trans (beq_iff_eq.mp hx)⟩

theorem CamState.shown_slot {c : CamState} {k : Nat} (h : c.shown = some k) : c.slot k = .showing :=
  (slots_findIdx?_some h).2

theorem CamState.shown_none {c : CamState} : c.shown = none ↔ ∀ k, c.slot k ≠ .showing := by
  unfold CamState.shown
  rw [List.findIdx?_eq_none_iff]
  constructor
  · intro h k hk
    have hlt : k < c.slots.length := CamState.slot_lt (by rw [hk]; nofun)
    have hx : c.slots[k] = .showing := (List.getD_eq_getElem _ _ hlt).symm.trans hk
    exact absurd (h _ (List.getElem_mem hlt)) (by simp [hx])
  · intro h x hx
    obtain ⟨k, hlt, rfl⟩ := List.getElem_of_mem hx
    have hk : c.slot k = c.slots[k] := List.getD_eq_getElem _ _ hlt
    simpa using fun e => h k (hk.trans e)

/-- At most one slot is SHOWING, so it is the one found. -/
theorem CamState.Sound.shown_eq {c : CamState} (hc : c.Sound) {k : Nat} (h : c.slot k = .showing) : c.shown = some k := by
  obtain ⟨-, hone, -⟩ := hc
  cases hs : c.shown with
  | none => exact absurd h (CamState.shown_none.mp hs k)
  | some j => rw [hone j k (CamState.shown_slot hs) h]

theorem CamState.Sound.writing_slot {c : CamState} (hc : c.Sound) {w : Writing} (hw : c.writing = some w) :
    c.slot w.slot = .writing := by
  obtain ⟨-, -, hwriting, -⟩ := hc
  exact (hwriting w.slot).mpr (by rw [hw]; rfl)

theorem CamState.Sound.writing_lt {c : CamState} (hc : c.Sound) {w : Writing} (hw : c.writing = some w) : w.slot < 4 := by
  have hslot := hc.writing_slot hw
  obtain ⟨hlength, -⟩ := hc
  exact hlength ▸ CamState.slot_lt (by rw [hslot]; nofun)

/-! ### A frame begun, rejected and completed (R101, R104, R105) -/

/-- The slots, the list and the slot of the frame being stored are all that the agreement is about. -/
theorem CamState.Sound.congr {c c' : CamState} (hc : c.Sound) (hslots : c'.slots = c.slots)
    (harrivals : c'.arrivals = c.arrivals) (hwriting : c'.writing.map (·.slot) = c.writing.map (·.slot)) : c'.Sound := by
  unfold CamState.Sound CamState.slot
  rw [hslots, harrivals, hwriting]
  exact hc

theorem CamState.Sound.reject {c : CamState} (hc : c.Sound) {w : Writing} (hw : c.writing = some w) : (c.reject w).Sound := by
  have hslot : ∀ j, (c.reject w).slot j = if j = w.slot then .empty else c.slot j := slots_getD_set_empty _ _
  have hold := hc.writing_slot hw
  obtain ⟨hlength, hone, hwriting, hlist, hnodup⟩ := hc
  simp only [hw, Option.map_some, Option.some.injEq] at hwriting
  refine ⟨List.length_set.trans hlength, ?_, fun k => ?_, fun k => ?_, hnodup⟩
  · simp only [hslot]; grind
  · rw [hslot]; show _ ↔ none = some k; grind
  · rw [hslot]; show k ∈ c.arrivals ↔ _; grind

theorem CamState.Sound.complete {c : CamState} (hc : c.Sound) {w : Writing} (hw : c.writing = some w) :
    (c.complete w).Sound := by
  have hold := hc.writing_slot hw
  have hslot : ∀ j, (c.complete w).slot j = if j = w.slot then .complete else c.slot j :=
    slots_getD_set (CamState.slot_lt (by rw [hold]; nofun)) _
  obtain ⟨hlength, hone, hwriting, hlist, hnodup⟩ := hc
  simp only [hw, Option.map_some, Option.some.injEq] at hwriting
  have hnew : w.slot ∉ c.arrivals := by rw [hlist, hold]; simp
  refine ⟨List.length_set.trans hlength, ?_, fun k => ?_, fun k => ?_, ?_⟩
  · simp only [hslot]; grind
  · rw [hslot]; show _ ↔ none = some k; grind
  · rw [hslot]; show k ∈ c.arrivals ++ [w.slot] ↔ _; grind
  · exact List.nodup_append.mpr ⟨hnodup, List.nodup_singleton _, by grind⟩

/-- The slot picked for a new frame is EMPTY, or COMPLETE where none is. -/
theorem CamState.pick_slot {c : CamState} {k : Nat} (h : c.pick = some k) :
    (k < c.slots.length ∧ c.slot k = .empty) ∨ (k ∈ c.arrivals ∧ c.slot k = .complete) := by
  unfold CamState.pick at h
  split at h
  · rename_i j hj
    obtain rfl := Option.some.inj h
    exact .inl (slots_findIdx?_some hj)
  · exact .inr ⟨List.mem_of_find?_eq_some h, by simpa using List.find?_some h⟩

theorem CamState.Sound.store {c : CamState} (hc : c.Sound) (hw : c.writing = none) {k : Nat} (hk : c.pick = some k) :
    (c.store k).Sound := by
  have hlt : k < c.slots.length := by
    rcases CamState.pick_slot hk with ⟨hlt, -⟩ | ⟨-, h⟩
    · exact hlt
    · exact CamState.slot_lt (by rw [h]; nofun)
  have hslot : ∀ j, (c.store k).slot j = if j = k then .writing else c.slot j := slots_getD_set hlt _
  obtain ⟨hlength, hone, hwriting, hlist, hnodup⟩ := hc
  simp only [hw, Option.map_none] at hwriting
  refine ⟨List.length_set.trans hlength, ?_, fun j => ?_, fun j => ?_, hnodup.filter _⟩
  · simp only [hslot]; grind
  · rw [hslot]; show _ ↔ some k = some j; grind
  · rw [hslot]; show j ∈ c.arrivals.filter (· != k) ↔ _; grind

/-! ### The slots at a blank event (R106) -/

/-- Freeing slots one by one changes the slots alone. -/
theorem foldl_setSlot_empty (ks : List Nat) :
    ∀ c : CamState, ks.foldl (fun (x : CamState) k => x.setSlot k .empty) c =
      { c with slots := ks.foldl (fun l k => l.set k .empty) c.slots } := by
  induction ks with
  | nil => exact fun _ => rfl
  | cons k ks ih => exact fun c => ih _

theorem foldl_set_empty_getD (ks : List Nat) :
    ∀ (l : List CamSlot) (j : Nat), (ks.foldl (fun l k => l.set k .empty) l).getD j .empty =
      if j ∈ ks then .empty else l.getD j .empty := by
  induction ks with
  | nil => simp
  | cons k ks ih =>
    intro l j
    rw [List.foldl_cons, ih, slots_getD_set_empty]
    grind

theorem foldl_set_empty_length (ks : List Nat) :
    ∀ l : List CamSlot, (ks.foldl (fun l k => l.set k .empty) l).length = l.length := by
  induction ks with
  | nil => exact fun _ => rfl
  | cons k ks ih => exact fun l => (ih _).trans List.length_set

/-- CAM with slot `j` SHOWING: the slots and the list change, and nothing else. -/
theorem CamState.showSlot_eq (c : CamState) (j : Nat) :
    c.showSlot j =
      { c with slots := (c.showSlot j).slots, arrivals := c.arrivals.dropWhile (· != j) } := by
  unfold CamState.showSlot
  dsimp only
  rw [foldl_setSlot_empty]
  rfl

theorem CamState.showSlot_slots (c : CamState) (j : Nat) :
    (c.showSlot j).slots =
      ((c.arrivals.takeWhile (· != j)).foldl (fun l k => l.set k .empty) c.slots).set j .showing := by
  unfold CamState.showSlot
  dsimp only
  rw [foldl_setSlot_empty]
  rfl

/-- R106: slot `j` becomes SHOWING and every slot ahead of it in the list EMPTY. -/
theorem CamState.showSlot_slot {c : CamState} {j : Nat} (hj : j < c.slots.length) (i : Nat) :
    (c.showSlot j).slot i =
      if i = j then .showing else if i ∈ c.arrivals.takeWhile (· != j) then .empty else c.slot i := by
  rw [CamState.slot, CamState.showSlot_slots, slots_getD_set (by rw [foldl_set_empty_length]; exact hj),
    foldl_set_empty_getD]
  rfl

theorem CamState.hideSlot_none {c : CamState} (h : c.shown = none) : c.hideSlot = c := by
  unfold CamState.hideSlot; rw [h]

theorem CamState.hideSlot_some {c : CamState} {k : Nat} (h : c.shown = some k) :
    c.hideSlot = { c with slots := c.slots.set k .empty, arrivals := c.arrivals.filter (· != k) } := by
  unfold CamState.hideSlot; rw [h]; rfl

/-- R106: in HOST_VIEW a SHOWING slot becomes EMPTY and leaves the list. -/
theorem CamState.Sound.hideSlot_spec {c : CamState} (hc : c.Sound) :
    (∀ i, c.hideSlot.slot i = if c.slot i = .showing then .empty else c.slot i) ∧
      c.hideSlot.arrivals = c.arrivals.filter (fun i => c.slot i != .showing) := by
  cases hs : c.shown with
  | none =>
    have hno := CamState.shown_none.mp hs
    rw [CamState.hideSlot_none hs]
    refine ⟨fun i => (if_neg (hno i)).symm, (List.filter_eq_self.mpr fun i _ => ?_).symm⟩
    simpa using hno i
  | some k =>
    have hk : ∀ i, c.slot i = .showing ↔ i = k :=
      fun i => ⟨fun h => (Option.some.inj (hs.symm.trans (hc.shown_eq h))).symm, fun h => h ▸ CamState.shown_slot hs⟩
    rw [CamState.hideSlot_some hs]
    refine ⟨fun i => ?_, List.filter_congr fun i _ => ?_⟩
    · simp only [hk]; exact slots_getD_set_empty _ _ _
    · have := hk i
      grind

/-- The entries of the list behind the SHOWING slot; all of them where none is SHOWING. -/
def CamState.later (c : CamState) : List Nat :=
  match c.shown with
  | some k => (c.arrivals.dropWhile (· != k)).drop 1
  | none => c.arrivals

theorem CamState.laterComplete_eq (c : CamState) :
    c.laterComplete = c.later.reverse.find? (fun k => c.slot k == .complete) := rfl

theorem CamState.later_of_append {c : CamState} {k : Nat} {pre post : List Nat} (hk : c.shown = some k)
    (hsplit : c.arrivals = pre ++ k :: post) (hpre : k ∉ pre) : c.later = post := by
  unfold CamState.later
  rw [hk]
  dsimp only
  rw [hsplit, List.dropWhile_append_of_pos (by grind), List.dropWhile_cons_of_neg (by simp)]
  rfl

/-- The last of a list that a test picks. -/
theorem find?_reverse_iff {p : Nat → Bool} {l : List Nat} {j : Nat} :
    l.reverse.find? p = some j ↔ p j = true ∧ ∃ pre post, l = pre ++ j :: post ∧ ∀ i ∈ post, ¬p i = true := by
  rw [List.find?_eq_some_iff_append]
  refine and_congr_right fun _ => ⟨fun ⟨as, bs, h, has⟩ => ⟨bs.reverse, as.reverse, ?_, by simpa using has⟩,
    fun ⟨pre, post, h, hpost⟩ => ⟨post.reverse, pre.reverse, by simp [h], by simpa using hpost⟩⟩
  have := congrArg List.reverse h
  simpa using this

/-- R106: the newest COMPLETE slot later in the list than the SHOWING one, or of the whole list where none is SHOWING. -/
theorem CamState.Sound.laterComplete_iff {c : CamState} (hc : c.Sound) (j : Nat) :
    c.laterComplete = some j ↔
      c.slot j = .complete ∧ ∃ pre post, c.arrivals = pre ++ j :: post ∧ (∀ i ∈ post, c.slot i ≠ .complete) ∧
        ((∀ k, c.slot k ≠ .showing) ∨ ∃ k ∈ pre, c.slot k = .showing) := by
  rw [CamState.laterComplete_eq, find?_reverse_iff]
  simp only [beq_iff_eq]
  refine and_congr_right fun _ => ?_
  cases hs : c.shown with
  | none =>
    have hno := CamState.shown_none.mp hs
    have hlater : c.later = c.arrivals := by unfold CamState.later; rw [hs]
    rw [hlater]
    exact ⟨fun ⟨pre, post, h, hpost⟩ => ⟨pre, post, h, hpost, .inl hno⟩, fun ⟨pre, post, h, hpost, _⟩ => ⟨pre, post, h, hpost⟩⟩
  | some k =>
    have hk := CamState.shown_slot hs
    have hmem : k ∈ c.arrivals := by
      obtain ⟨-, -, -, hlist, -⟩ := hc
      exact (hlist k).mpr (.inr hk)
    constructor
    · rintro ⟨pre, post, hsplit, hpost⟩
      obtain ⟨ahead, behind, hlist, hahead⟩ := List.eq_append_cons_of_mem hmem
      rw [CamState.later_of_append hs hlist hahead] at hsplit
      exact ⟨ahead ++ k :: pre, post, by rw [hlist, hsplit]; simp, hpost, .inr ⟨k, by simp, hk⟩⟩
    · rintro ⟨pre, post, hsplit, hpost, hno | ⟨i, hi, hshow⟩⟩
      · exact absurd hk (hno k)
      · obtain rfl : i = k := Option.some.inj ((hc.shown_eq hshow).symm.trans hs)
        obtain ⟨ahead, between, rfl, hahead⟩ := List.eq_append_cons_of_mem hi
        refine ⟨between, post, CamState.later_of_append hs ?_ hahead, hpost⟩
        rw [hsplit]; simp

theorem CamState.Sound.showSlot {c : CamState} (hc : c.Sound) {j : Nat} (hj : c.laterComplete = some j) :
    (c.showSlot j).Sound := by
  obtain ⟨hcomplete, pre, post, hsplit, -, hshown⟩ := (hc.laterComplete_iff j).mp hj
  obtain ⟨hlength, hone, hwriting, hlist, hnodup⟩ := hc
  rw [hsplit] at hnodup
  have hjpre : j ∉ pre := fun h => (List.nodup_append.mp hnodup).2.2 j h j List.mem_cons_self rfl
  have hjpost : j ∉ post ∧ post.Nodup := List.nodup_cons.mp (List.nodup_append.mp hnodup).2.1
  have hahead : c.arrivals.takeWhile (· != j) = pre := by
    rw [hsplit, List.takeWhile_append_of_pos (by grind), List.takeWhile_cons_of_neg (by simp), List.append_nil]
  have hrest : (c.showSlot j).arrivals = j :: post := by
    rw [CamState.showSlot_eq]
    show c.arrivals.dropWhile (· != j) = _
    rw [hsplit, List.dropWhile_append_of_pos (by grind), List.dropWhile_cons_of_neg (by simp)]
  have hslot : ∀ i, (c.showSlot j).slot i = if i = j then .showing else if i ∈ pre then .empty else c.slot i := by
    intro i
    rw [CamState.showSlot_slot (CamState.slot_lt (by rw [hcomplete]; nofun)), hahead]
  have hmem : ∀ i, i ∈ pre ∨ i = j ∨ i ∈ post ↔ c.slot i = .complete ∨ c.slot i = .showing := by
    intro i; rw [← hlist i, hsplit]; simp
  refine ⟨?_, ?_, fun i => ?_, fun i => ?_, ?_⟩
  · rw [CamState.showSlot_slots, List.length_set, foldl_set_empty_length]; exact hlength
  · simp only [hslot]; grind
  · rw [hslot, CamState.showSlot_eq]; show _ ↔ c.writing.map (·.slot) = some i; grind
  · rw [hslot, hrest]
    have hdisjoint := (List.nodup_append.mp hnodup).2.2
    grind
  · rw [hrest]; exact (List.nodup_append.mp hnodup).2.1

theorem CamState.Sound.hideSlot {c : CamState} (hc : c.Sound) : c.hideSlot.Sound := by
  obtain ⟨hslot, harrivals⟩ := hc.hideSlot_spec
  have hframe : c.hideSlot.slots.length = c.slots.length ∧ c.hideSlot.writing = c.writing := by
    cases hs : c.shown with
    | none => rw [CamState.hideSlot_none hs]; exact ⟨rfl, rfl⟩
    | some k => rw [CamState.hideSlot_some hs]; exact ⟨List.length_set, rfl⟩
  obtain ⟨hlength, hone, hwriting, hlist, hnodup⟩ := hc
  refine ⟨hframe.1.trans hlength, ?_, fun k => ?_, fun k => ?_, harrivals ▸ hnodup.filter _⟩
  · simp only [hslot]; grind
  · rw [hslot, hframe.2]; grind
  · rw [hslot, harrivals]; grind

/-- A blank event changes the slots and the arrival list alone. -/
theorem CamState.blank_eq (c : CamState) (view : View) (fresh : Bool) :
    (c.blank view fresh).1 =
      { c with slots := (c.blank view fresh).1.slots, arrivals := (c.blank view fresh).1.arrivals } := by
  unfold CamState.blank
  cases view with
  | host =>
    show c.hideSlot = { c with slots := c.hideSlot.slots, arrivals := c.hideSlot.arrivals }
    cases hs : c.shown with
    | none => rw [CamState.hideSlot_none hs]
    | some k => rw [CamState.hideSlot_some hs]
  | rear =>
    dsimp only
    split
    · split
      · rename_i j hj
        show c.showSlot j = { c with slots := (c.showSlot j).slots, arrivals := (c.showSlot j).arrivals }
        rw [CamState.showSlot_eq]
      · rfl
    · rfl

theorem CamState.Sound.blank {c : CamState} (hc : c.Sound) (view : View) (fresh : Bool) : (c.blank view fresh).1.Sound := by
  unfold CamState.blank
  cases view with
  | host => exact hc.hideSlot
  | rear =>
    dsimp only
    split
    · split
      · rename_i j hj
        exact hc.showSlot hj
      · exact hc
    · exact hc

end Sys2Proof.Machine
end

section
/-! PROOFS. What a row can make of CAM, said once (`CamStep`), and that every step keeps the camera slots and the arrival
list (R99 to R106). -/

namespace Sys2Proof.Machine

open Sys2Proof

/-! ### The ways a row changes CAM -/

/-- What a row other than power-on reset can leave of CAM in the state `s`. -/
inductive CamStep (s : State) : CamState → Prop
  /-- The slots, the list and the frame being stored stay; bursts may have been granted. -/
  | outside (c : CamState)
      (hframe : c = { s.cam with
        phase := c.phase, period := c.period, reported := c.reported, buf := c.buf, bursts := c.bursts,
        received := c.received, rejected := c.rejected })
      (hbursts : c.bursts ⊆ s.cam.bursts) : CamStep s c
  /-- A frame begins in the slot picked for it (R104). -/
  | begun (k : Nat) (c : CamState) (hw : s.cam.writing = none) (hk : s.cam.pick = some k) (hp : s.cam.phase ≠ .idle)
      (hframe : c = { s.cam.store k with
        phase := c.phase, period := c.period, reported := c.reported, received := c.received }) : CamStep s c
  /-- The slots at a centre blank event (R106). -/
  | blanked (view : View) (fresh : Bool) : CamStep s (s.cam.blank view fresh).1
  /-- A line of the frame being stored begins (R101). -/
  | lineBegun (w : Writing) (p : CameraProfile) (hw : s.cam.writing = some w) (hp : s.camProfile = some p)
      (hlines : w.lines < p.height) :
      CamStep s { s.cam with writing := some { w with lines := w.lines + 1, col := 0, lineOpen := true } }
  /-- A pixel joins the line buffer, with the burst that it completes (R100). -/
  | pixel (w : Writing) (p : CameraProfile) (buf : List Word) (hw : s.cam.writing = some w) (hp : s.camProfile = some p)
      (hopen : w.lineOpen = true) (hcol : w.col < p.width) :
      CamStep s
        { s.cam with
          buf := buf, bursts := s.cam.bursts ++ burstAt p w.slot (w.lines - 1) w.col,
          writing := some { w with
            col := w.col + 1, outstanding := w.outstanding + (burstAt p w.slot (w.lines - 1) w.col).length } }
  /-- The frame being stored goes on: its line ends, its check is passed, or a burst of it is back. -/
  | goneOn (w w' : Writing) (hw : s.cam.writing = some w) (hslot : w'.slot = w.slot) (hlines : w'.lines = w.lines)
      (hopen : w'.lineOpen = true → w.lineOpen = true) : CamStep s { s.cam with writing := some w' }
  /-- The frame being stored is rejected (R101). -/
  | rejected (w : Writing) (hw : s.cam.writing = some w) : CamStep s (s.cam.reject w)
  /-- The frame being stored completes (R105). -/
  | completed (w : Writing) (hw : s.cam.writing = some w) : CamStep s (s.cam.complete w)

theorem CamStep.kept (s : State) : CamStep s s.cam := .outside s.cam rfl (List.Subset.refl _)

theorem CamStep.of_eq {s : State} {c c' : CamState} (h : CamStep s c) (e : c' = c) : CamStep s c' := e ▸ h

/-- R103: a frame-valid rise in the camera state moves the state and the period alone. -/
theorem CamState.rise_eq (c : CamState) :
    c.rise = { c with phase := c.rise.phase, period := c.rise.period, reported := c.rise.reported } := by
  unfold CamState.rise; split <;> rfl

theorem CamState.pick_congr {c d : CamState} (hs : d.slots = c.slots) (ha : d.arrivals = c.arrivals) : d.pick = c.pick := by
  unfold CamState.pick CamState.slot; rw [hs, ha]

theorem State.advance_camStep (s : State) (n : Nat) : CamStep s (s.advance n).cam :=
  .outside _ (by rw [s.advance_cam]) (by rw [s.advance_cam]; exact List.Subset.refl _)

/-- R102, R104: a frame-valid rise begins a frame in the slot picked, or leaves the slots. -/
theorem CamState.newFrame_camStep {s : State} {c : CamState} (hp : s.cam.phase ≠ .idle)
    (hc : c = { s.cam with phase := c.phase, period := c.period, reported := c.reported }) : CamStep s c.newFrame := by
  have hw : c.writing = s.cam.writing := by rw [hc]
  have hpick : ({ c with received := satInc c.received } : CamState).pick = s.cam.pick :=
    CamState.pick_congr (by rw [hc]) (by rw [hc])
  have hbursts : c.bursts = s.cam.bursts := by rw [hc]
  unfold CamState.newFrame
  dsimp only
  split
  · exact .outside _ (by rw [hc]) (hbursts ▸ List.Subset.refl _)
  · rename_i hnone
    rw [hpick]
    split
    · rename_i k hk
      exact .begun k _ (hw ▸ hnone) hk hp (by rw [hc]; rfl)
    · exact .outside _ (by rw [hc]) (hbursts ▸ List.Subset.refl _)

theorem State.checkFrame_camStep {s : State} {p : CameraProfile} {w : Writing} (hw : s.cam.writing = some w) :
    CamStep s (s.checkFrame p { w with lineOpen := false }).cam := by
  unfold State.checkFrame
  split
  · exact .rejected w hw
  · split
    · exact .completed w hw
    · exact .goneOn w _ hw rfl rfl nofun

/-- R100: a grant takes CAMERA's oldest burst, and nothing else of CAM. -/
theorem State.grant_camStep (s : State) (q : Requester) (b : Burst) : CamStep s (s.grant q b).cam := by
  rw [State.grant_cam]
  split
  · exact .outside _ rfl (List.drop_subset _ _)
  · exact .kept s

theorem execCentreBlankEvent_camStep {s t : State} (h : execCentreBlankEvent s = .next t) : CamStep s t.cam := by
  unfold execCentreBlankEvent at h
  split at h
  · split at h <;> (injection h with h; rw [← h])
    · rw [State.reportDue_cam, State.setGuide_cam, State.latchFrame_cam, State.setCentre_cam]
      unfold State.cameraWork
      dsimp only
      rw [State.blankTransition_cam, State.setCam_cam, State.setView_cam, State.adoptStaged_cam]
      exact .blanked _ _
    · exact .kept s
  · injection h with h; rw [← h]; exact .kept s

/-- R44, R185: the entry to RUNNING, where it happens, as the camera sees it. -/
theorem exec_cameraRegionDefine_cases {s t : State} (h : exec .cameraRegionDefine s = .next t) :
    t = s ∨ (s.boot.startup = .profileRead ∧ ∃ p, t.boot.profile = some p ∧
      t.path.cam = some { base := p.cam.base, slotBytes := p.cam.slotBytes } ∧
      t.cam = { s.cam with phase := .noSignal, reported := 0, period := none }) := by
  obtain ⟨-, hnone, hdefine⟩ := cameraRegionDefined
  cases hmay : s.mayDefine with
  | false =>
    rw [(hnone s).2 hmay] at h
    injection h with h
    exact .inl h.symm
  | true =>
    obtain ⟨u, -, hexec, -, hboot, hpath, -, hcam, -⟩ := hdefine s hmay
    rw [hexec] at h
    injection h with h
    subst h
    exact .inr ⟨State.mayDefine_startup hmay, _, by rw [hboot], by rw [hpath], hcam⟩

/-- Every row but power-on reset changes CAM in one of these ways. -/
theorem exec_camStep {c : Instr} {s t : State} (h : exec c s = .next t) (hreset : c ≠ .powerOnReset) :
    CamStep s t.cam := by
  cases c with
  | powerOnReset => exact absurd rfl hreset
  | clockCheckEnd e =>
    simp only [exec, execClockCheckEnd] at h
    split at h
    · split at h <;> (injection h with h; rw [← h])
      · rw [State.startReferenceBlocks_cam]; exact s.advance_camStep e
      · exact s.advance_camStep e
    · injection h with h; rw [← h]; exact .kept s
  | cameraRegionDefine =>
    rcases exec_cameraRegionDefine_cases h with rfl | ⟨-, p, -, -, hcam⟩
    · exact .kept _
    · exact .outside _ (by rw [hcam]) (by rw [hcam]; exact List.Subset.refl _)
  | arbGrant =>
    simp only [exec, execArbGrant] at h
    (repeat' split at h) <;> (injection h with h; rw [← h])
    · exact s.grant_camStep _ _
    all_goals exact .kept s
  | burstHandoverDone =>
    simp only [exec, execBurstHandoverDone] at h
    split at h <;> (injection h with h; rw [← h])
    · exact .outside _ rfl (List.Subset.refl _)
    · exact .kept s
  | centreBlankEvent => exact execCentreBlankEvent_camStep h
  | cameraFrameStart e =>
    simp only [exec, execCameraFrameStart] at h
    split at h <;> (injection h with h; rw [← h])
    · exact s.advance_camStep e
    · rename_i hp
      refine CamState.newFrame_camStep (by rw [s.advance_cam] at hp; exact hp) ?_
      rw [CamState.rise_eq, s.advance_cam]
  | cameraLineStart =>
    simp only [exec, execCameraLineStart] at h
    split at h
    · rename_i w p hw hp
      (repeat' split at h) <;> (injection h with h; rw [← h])
      · exact .kept s
      · exact .rejected w hw
      · exact .lineBegun w p hw hp (by omega)
    · injection h with h; rw [← h]; exact .kept s
  | cameraPixel rgb =>
    simp only [exec, execCameraPixel] at h
    split at h
    · rename_i w p hw hp
      split at h <;> (injection h with h; rw [← h])
      · rename_i hopen
        unfold State.takePixel
        split
        · exact .rejected w hw
        · exact .pixel w p _ hw hp hopen (by omega)
      · exact .kept s
    · injection h with h; rw [← h]; exact .kept s
  | cameraLineEnd =>
    simp only [exec, execCameraLineEnd] at h
    split at h
    · rename_i w p hw hp
      split at h <;> (injection h with h; rw [← h])
      · unfold State.endCameraLine
        split
        · exact .rejected w hw
        · exact .goneOn w _ hw rfl rfl nofun
      · exact .kept s
    · injection h with h; rw [← h]; exact .kept s
  | cameraFrameEnd =>
    simp only [exec, execCameraFrameEnd] at h
    split at h
    · rename_i w p hw hp
      (repeat' split at h) <;> (injection h with h; rw [← h])
      · exact .kept s
      · exact .rejected w hw
      · exact State.checkFrame_camStep hw
    · injection h with h; rw [← h]; exact .kept s
  | cameraBurstComplete err =>
    simp only [exec, execCameraBurstComplete] at h
    split at h
    · split at h
      · split at h
        · rename_i w hw
          (repeat' split at h) <;> (injection h with h; rw [← h])
          · exact .kept s
          · exact .rejected w hw
          · exact .completed w hw
          · exact .goneOn w _ hw rfl rfl id
        · injection h with h; rw [← h]; exact .kept s
      · injection h with h; rw [← h]; exact .kept s
    · injection h with h; rw [← h]; exact .kept s
  | cameraLoss =>
    simp only [exec, execCameraLoss] at h
    split at h <;> (injection h with h; rw [← h])
    · exact .outside _ rfl (List.Subset.refl _)
    · exact .kept s
  | _ => exact CamStep.of_eq (.kept s) (congrArg (·.cam) (exec_frame h))

/-! ### R104 at every step -/

theorem CamStep.sound {s : State} {c : CamState} (h : CamStep s c) (hs : s.cam.Sound) : c.Sound := by
  cases h with
  | outside _ hframe => exact hs.congr (by rw [hframe]) (by rw [hframe]) (by rw [hframe])
  | begun k _ hw hk _ hframe => exact (hs.store hw hk).congr (by rw [hframe]) (by rw [hframe]) (by rw [hframe])
  | blanked view fresh => exact hs.blank view fresh
  | lineBegun w p hw => exact hs.congr rfl rfl (by rw [hw]; rfl)
  | pixel w p buf hw => exact hs.congr rfl rfl (by rw [hw]; rfl)
  | goneOn w w' hw hslot => exact hs.congr rfl rfl (by rw [hw]; exact congrArg some hslot)
  | rejected w hw => exact hs.reject hw
  | completed w hw => exact hs.complete hw

theorem CamState.init_sound : CamState.init.Sound := by
  have hslot : ∀ k, CamState.init.slot k = .empty := fun k =>
    (List.getD_eq_getElem?_getD ..).trans (List.getElem?_getD_replicate_default_eq _ 4 k)
  refine ⟨rfl, fun j k h => ?_, fun k => ?_, fun k => ?_, List.nodup_nil⟩
  · rw [hslot] at h; cases h
  · rw [hslot]; exact ⟨nofun, nofun⟩
  · rw [hslot]; exact ⟨nofun, by rintro (h | h) <;> cases h⟩

theorem exec_cameraSound {c : Instr} {s t : State} (hs : CameraSound s) (h : exec c s = .next t) : CameraSound t := by
  by_cases hreset : c = .powerOnReset
  · subst hreset
    injection h with h
    exact h ▸ CamState.init_sound
  · exact (exec_camStep h hreset).sound hs

theorem stepKeepsCameraSound {s t : State} (hs : CameraSound s) (h : step s = .next t) : CameraSound t :=
  step_keeps (P := CameraSound) (fun _ _ hq => hq) (fun s hq => (s.advance_camStep 1).sound hq)
    (fun _ _ _ hq he => exec_cameraSound hq he) hs h

end Sys2Proof.Machine
end

section
/-! PROOFS. The granted bursts over a row (R59): each was granted before, or is the one that a grant makes; and that every
write of the 630's own keeps to its place (R100, R179). -/

namespace Sys2Proof.Machine

open Sys2Proof

/-! ### Bursts granted before -/

/-- Every burst of `after` is one of `before`, of the same owner. -/
def CarriedFrom (before after : List Flight) : Prop :=
  ∀ f ∈ after, ∃ g ∈ before, g.owner = f.owner ∧ g.burst = f.burst

theorem CarriedFrom.refl (fl : List Flight) : CarriedFrom fl fl := fun f hf => ⟨f, hf, rfl, rfl⟩

theorem CarriedFrom.of_eq {fl fl' : List Flight} (h : fl' = fl) : CarriedFrom fl fl' := h ▸ .refl fl

theorem CarriedFrom.trans {a b c : List Flight} (hab : CarriedFrom a b) (hbc : CarriedFrom b c) : CarriedFrom a c := by
  intro f hf
  obtain ⟨g, hg, ho, hb⟩ := hbc f hf
  obtain ⟨g', hg', ho', hb'⟩ := hab g hg
  exact ⟨g', hg', ho'.trans ho, hb'.trans hb⟩

theorem CarriedFrom.map {m : Flight → Flight} (h : ∀ f, (m f).owner = f.owner ∧ (m f).burst = f.burst) (fl : List Flight) :
    CarriedFrom fl (fl.map m) := by
  intro f hf
  obtain ⟨g, hg, rfl⟩ := List.mem_map.mp hf
  exact ⟨g, hg, (h g).1.symm, (h g).2.symm⟩

theorem CarriedFrom.kill (p : Owner → Bool) (fl : List Flight) : CarriedFrom fl (killFlights p fl) :=
  .map (fun f => by split <;> exact ⟨rfl, rfl⟩) fl

theorem CarriedFrom.tail (fl : List Flight) : CarriedFrom fl fl.tail :=
  fun f hf => ⟨f, List.mem_of_mem_tail hf, rfl, rfl⟩

theorem AbandonsPrefetches.carried {gone : Seat → Bool} {s t : State} (h : AbandonsPrefetches gone s t) :
    CarriedFrom s.arb.flights t.arb.flights := by
  obtain ⟨-, -, harb⟩ := h
  rw [harb]
  exact .map (fun f => by split <;> exact ⟨rfl, rfl⟩) _

theorem State.rejectFrame_carried (s : State) (w : Writing) : CarriedFrom s.arb.flights (s.rejectFrame w).arb.flights :=
  CarriedFrom.kill (fun o => match o with | .camera _ => true | _ => false) s.arb.flights

theorem State.popFlight_carried (s : State) : CarriedFrom s.arb.flights s.popFlight.arb.flights := .tail _

theorem State.takePixel_carried (s : State) (p : CameraProfile) (w : Writing) (rgb : BitVec 24) :
    CarriedFrom s.arb.flights (s.takePixel p w rgb).arb.flights := by
  unfold State.takePixel
  split
  · exact s.rejectFrame_carried _
  · exact .refl _

theorem State.endCameraLine_carried (s : State) (p : CameraProfile) (w : Writing) :
    CarriedFrom s.arb.flights (s.endCameraLine p w).arb.flights := by
  unfold State.endCameraLine
  split
  · exact s.rejectFrame_carried _
  · exact .refl _

theorem State.checkFrame_carried (s : State) (p : CameraProfile) (w : Writing) :
    CarriedFrom s.arb.flights (s.checkFrame p w).arb.flights := by
  unfold State.checkFrame
  split
  · exact s.rejectFrame_carried _
  · split <;> exact .refl _

/-- R59: every granted burst was granted before, or the row grants it to a requester that presents it. -/
theorem exec_flights {c : Instr} {s t : State} (h : exec c s = .next t) (hreset : c ≠ .powerOnReset) :
    CarriedFrom s.arb.flights t.arb.flights ∨ ∃ q b, s.presents q = some b ∧ t = s.grant q b := by
  cases c with
  | powerOnReset => exact absurd rfl hreset
  | hostReset =>
    refine .inl ?_
    simp only [exec, execHostReset] at h
    (repeat' split at h) <;> (injection h with h; rw [← h])
    · exact .refl _
    · exact .refl _
    · have harb : ∀ u : State, u.applyHostReset.arb = u.arb.hostReset := by intro u; simp [State.applyHostReset]
      rw [harb, ArbState.hostReset_eq]
      refine .map (fun f => ?_) _
      exact ⟨rfl, rfl⟩
  | cameraRegionDefine =>
    refine .inl ?_
    simp only [exec, execCameraRegionDefine] at h
    split at h <;> (injection h with h; rw [← h])
    · rw [State.startProfileBlocks_arb]; exact (s.defineCamera_abandons _).carried
    · exact .refl _
  | arbGrant =>
    simp only [exec, execArbGrant] at h
    split at h
    · split at h
      · split at h <;> (injection h with h)
        · rename_i q _ _ b hb
          exact .inr ⟨q, b, hb, h.symm⟩
        · exact .inl (h ▸ .refl _)
      · injection h with h; exact .inl (h ▸ .refl _)
    · injection h with h; exact .inl (h ▸ .refl _)
  | burstHandoverDone =>
    refine .inl ?_
    simp only [exec, execBurstHandoverDone] at h
    split at h <;> (injection h with h; rw [← h])
    · exact CarriedFrom.map (m := fun g => { g with handed := true }) (fun _ => ⟨rfl, rfl⟩) _
    · exact .refl _
  | hostPieceComplete r =>
    refine .inl ?_
    simp only [exec, execHostPieceComplete] at h
    (repeat' split at h) <;> first | (injection h with h; rw [← h]) | cases h
    · rw [State.notify_arb]; exact s.popFlight_carried
    all_goals first | exact s.popFlight_carried | exact .refl _
  | loadReadBurstComplete r | loadRereadComplete r | reportBurstComplete r | audioBurstComplete r =>
    refine .inl ?_
    simp only [exec, execLoadReadBurstComplete, execLoadRereadComplete, execReportBurstComplete,
      execAudioBurstComplete] at h
    (repeat' split at h) <;> first | (injection h with h; rw [← h]) | cases h
    all_goals first | exact s.popFlight_carried | exact .refl _
  | loadCheck =>
    refine .inl ?_
    simp only [exec, execLoadCheck] at h
    split at h <;> (injection h with h; rw [← h])
    · obtain ⟨l, e | e⟩ := s.endChecking_cases <;> rw [e]
      · obtain ⟨gone, -, habandons⟩ := s.handOver_abandons
        exact habandons.carried
      · exact .refl _
    · exact .refl _
  | scanBurstComplete d r =>
    refine .inl ?_
    simp only [exec, execScanBurstComplete] at h
    (repeat' split at h) <;> first | (injection h with h; rw [← h]) | cases h
    · rw [State.refill_arb, State.scanBack_arb]; exact s.popFlight_carried
    all_goals first | exact s.popFlight_carried | exact .refl _
  | cameraLineStart =>
    refine .inl ?_
    simp only [exec, execCameraLineStart] at h
    (repeat' split at h) <;> (injection h with h; rw [← h])
    all_goals first | exact .refl _ | exact s.rejectFrame_carried _
  | cameraPixel rgb =>
    refine .inl ?_
    simp only [exec, execCameraPixel] at h
    (repeat' split at h) <;> (injection h with h; rw [← h])
    · exact s.takePixel_carried _ _ _
    all_goals exact .refl _
  | cameraLineEnd =>
    refine .inl ?_
    simp only [exec, execCameraLineEnd] at h
    (repeat' split at h) <;> (injection h with h; rw [← h])
    · exact s.endCameraLine_carried _ _
    all_goals exact .refl _
  | cameraFrameEnd =>
    refine .inl ?_
    simp only [exec, execCameraFrameEnd] at h
    (repeat' split at h) <;> (injection h with h; rw [← h])
    · exact .refl _
    · exact s.rejectFrame_carried _
    · exact s.checkFrame_carried _ _
    · exact .refl _
  | cameraBurstComplete err =>
    refine .inl ?_
    simp only [exec, execCameraBurstComplete] at h
    (repeat' split at h) <;> (injection h with h; rw [← h])
    · exact s.popFlight_carried
    · exact s.popFlight_carried.trans (State.rejectFrame_carried s.popFlight.countFetchError _)
    all_goals first | exact s.popFlight_carried | exact .refl _
  | _ => exact .inl (.of_eq (congrArg (·.arb.flights) (exec_frame h)))

/-! ### What is presented keeps to its place -/

theorem Display.presents_read {x : Display} {b : Burst} (h : x.presents = some b) : b.write = false := by
  cases hq : x.req with
  | none => rw [Display.presents_none hq] at h; cases h
  | some q =>
    rw [Display.presents_some hq] at h
    split at h
    · cases h
    · injection h with h; rw [← h]

theorem AudState.presents_read {a : AudState} {x : Seat × Burst} (h : a.presents = some x) : x.2.write = false := by
  unfold AudState.presents at h
  (repeat' split at h) <;> first | (injection h with h; rw [← h]) | cases h

/-- R33, R91: no requester but HOST, CAMERA and LOAD writes. -/
theorem State.presents_write {s : State} {q : Requester} {b : Burst} (h : s.presents q = some b) (hw : b.write = true) :
    q = .host ∨ q = .camera ∨ q = .load := by
  have hdisplay : ∀ x : Display, x.presents ≠ some b := fun x hx => by simp [Display.presents_read hx] at hw
  cases q with
  | host => exact .inl rfl
  | camera => exact .inr (.inl rfl)
  | load => exact .inr (.inr rfl)
  | scanC => exact absurd h (hdisplay _)
  | scanRl => exact absurd h (hdisplay _)
  | scanRr => exact absurd h (hdisplay _)
  | audio =>
    obtain ⟨x, hx, rfl⟩ := Option.map_eq_some_iff.mp h
    simp [AudState.presents_read hx] at hw

/-- R59, Table 16: the bursts of CAM's that wait lie in the camera region. -/
def CamState.BurstsPlaced (c : CamState) (region : Option CamRegion) : Prop :=
  ∀ b ∈ c.bursts, ∃ r, region = some r ∧ r.base ≤ b.addr ∧ b.addr + 4 * b.npix ≤ r.base + 4 * r.slotBytes

/-- R100: a burst of two pixels a beat lies where its pixels do. -/
theorem State.presents_camera {s : State} (hs : s.cam.BurstsPlaced s.path.cam) {b : Burst}
    (h : s.presents .camera = some b) : s.InCamera b := by
  change s.cam.presents s.arb.handing = some b at h
  cases hb : s.cam.bursts with
  | nil => rw [CamState.presents_nil hb] at h; cases h
  | cons x xs =>
    rw [CamState.presents_cons hb] at h
    injection h with h
    obtain ⟨r, hr, hlow, hhigh⟩ := hs x (by rw [hb]; exact List.mem_cons_self)
    subst h
    refine ⟨rfl, r, hr, hlow, ?_⟩
    show x.addr + 8 * (x.npix / 2) ≤ _
    omega

/-- R178, R179: what LOAD writes is one of the eight bursts of the status page. -/
theorem State.presents_load {s : State} (hs : SlotSound s) {b : Burst} (h : s.presents .load = some b) :
    (∃ i, s.load.slot = some (.reportBurst i) ∧ s.InStatusPage b) ∨
      ((s.ownerOf .load = .loadRead ∨ s.ownerOf .load = .loadReread) ∧ b.write = false) := by
  change s.load.presents s.boot.cbBase = some b at h
  obtain ⟨⟨hreport, -⟩, -⟩ := hs
  cases hslot : s.load.slot with
  | none => rw [LoadState.presents_none _ hslot] at h; cases h
  | some w =>
    cases w with
    | readBurst i =>
      rw [LoadState.presents_readBurst _ hslot] at h
      injection h with h
      exact .inr ⟨.inl (by simp only [State.ownerOf, hslot]; rfl), by rw [← h]⟩
    | reread =>
      rw [LoadState.presents_reread _ hslot] at h
      injection h with h
      exact .inr ⟨.inr (by simp only [State.ownerOf, hslot]; rfl), by rw [← h]⟩
    | reportBurst i =>
      obtain ⟨hi, r, hr, -⟩ := hreport i hslot
      rw [LoadState.presents_reportBurst _ hslot hr] at h
      injection h with h
      refine .inl ⟨i, rfl, ?_⟩
      subst h
      refine ⟨?_, ?_⟩
      · show s.boot.cbBase + 0x800 ≤ s.boot.cbBase + 0x800 + 128 * i
        omega
      · show s.boot.cbBase + 0x800 + 128 * i + 8 * 16 ≤ s.boot.cbBase + 0x800 + 0x400
        omega

end Sys2Proof.Machine
end

section
/-! PROOFS. Where the 630 itself writes (R59, R100, R179): the invariant in its parts, each part over a row, and O11. -/

namespace Sys2Proof.Machine

open Sys2Proof

/-! ### The parts of the invariant -/

/-- R44, R100: the camera region is the profile's. -/
def RegionPlaced (profile : Option Profile) (region : Option CamRegion) : Prop :=
  ∀ c, region = some c → ∃ p, profile = some p ∧ c = { base := p.cam.base, slotBytes := p.cam.slotBytes }

/-- R101: the frame being stored keeps within the lines of the camera. -/
def CamState.FramePlaced (c : CamState) (profile : Option Profile) (region : Option CamRegion) : Prop :=
  ∀ w, c.writing = some w → ∃ p r, profile = some p ∧ region = some r ∧ w.lines ≤ p.cam.height ∧
    (w.lineOpen = true → 1 ≤ w.lines)

/-- R59: a granted burst of CAMERA's lies in the camera region, a report's in the status page, and no other is a write
but HOST's. -/
def State.Places (s : State) (f : Flight) : Prop :=
  (∀ n, f.owner = .camera n → s.InCamera f.burst) ∧ (f.owner = .report → s.InStatusPage f.burst) ∧
    (f.owner ≠ .host → f.owner ≠ .report → (∀ n, f.owner ≠ .camera n) → f.burst.write = false)

theorem writesPlaced_iff {s : State} :
    WritesPlaced s ↔
      RegionPlaced s.boot.profile s.path.cam ∧ (s.cam.phase ≠ .idle → s.path.cam.isSome = true) ∧
        s.cam.FramePlaced s.boot.profile s.path.cam ∧ s.cam.BurstsPlaced s.path.cam ∧
        ∀ f ∈ s.arb.flights, s.Places f := Iff.rfl

/-! ### The bursts of a frame (Table 16, R100) -/

theorem le_roundup {m : Nat} (hm : 0 < m) (x : Nat) : x ≤ roundup x m := by
  have := Nat.div_add_mod (x + m - 1) m
  have := Nat.mod_lt (x + m - 1) hm
  unfold roundup
  rw [Nat.mul_comm]
  omega

/-- R100: a pixel within the camera's size, in one of the four slots, completes a burst within the camera region. -/
theorem burstAt_placed {p : CameraProfile} {slot row col : Nat} (hslot : slot < 4) (hrow : row < p.height)
    (hcol : col < p.width) {b : CamBurst} (hb : b ∈ burstAt p slot row col) :
    p.base ≤ b.addr ∧ b.addr + 4 * b.npix ≤ p.base + 4 * p.slotBytes := by
  have hsize : p.width * p.height * 4 ≤ p.slotBytes := le_roundup (by decide) _
  have hslots : slot * p.slotBytes ≤ 3 * p.slotBytes := Nat.mul_le_mul_right _ (by omega)
  have hrows : (row + 1) * (p.width * 4) ≤ p.width * p.height * 4 :=
    calc (row + 1) * (p.width * 4) ≤ p.height * (p.width * 4) := Nat.mul_le_mul_right _ hrow
      _ = p.width * p.height * 4 := by ring
  rw [Nat.succ_mul] at hrows
  unfold burstAt at hb
  split at hb
  · obtain rfl := List.mem_singleton.mp hb
    exact ⟨by dsimp only; omega, by dsimp only; omega⟩
  · cases hb

theorem State.camProfile_iff {s : State} {p : CameraProfile} :
    s.camProfile = some p ↔ ∃ q, s.boot.profile = some q ∧ q.cam = p := by
  unfold State.camProfile
  cases s.boot.profile <;> simp

/-! ### CAM over a row -/

/-- R101: the lines of the frame being stored stay within the camera's, whatever the row. -/
theorem CamStep.framePlaced {s : State} {c : CamState} (h : CamStep s c) (hs : WritesPlaced s) :
    c.FramePlaced s.boot.profile s.path.cam := by
  obtain ⟨hregion, hphase, hframe, -, -⟩ := writesPlaced_iff.mp hs
  have keep : ∀ {w : Writing}, s.cam.writing = some w → ∃ p r, s.boot.profile = some p ∧ s.path.cam = some r ∧
      w.lines ≤ p.cam.height ∧ (w.lineOpen = true → 1 ≤ w.lines) := fun hw => hframe _ hw
  intro w' hw'
  cases h with
  | outside _ he => rw [he] at hw'; exact keep hw'
  | begun k _ hw hk hp he =>
    obtain ⟨r, hr⟩ := Option.isSome_iff_exists.mp (hphase hp)
    obtain ⟨p, hprofile, -⟩ := hregion r hr
    rw [he] at hw'
    obtain rfl := Option.some.inj hw'
    exact ⟨p, r, hprofile, hr, Nat.zero_le _, nofun⟩
  | blanked view fresh =>
    rw [CamState.blank_eq] at hw'
    exact keep hw'
  | lineBegun w p hw hp hlines =>
    obtain ⟨q, r, hq, hr, -, -⟩ := keep hw
    obtain ⟨q', hq', rfl⟩ := State.camProfile_iff.mp hp
    obtain rfl : q' = q := Option.some.inj (hq'.symm.trans hq)
    obtain rfl := Option.some.inj hw'
    exact ⟨q', r, hq, hr, hlines, fun _ => Nat.le_add_left 1 _⟩
  | pixel w p buf hw =>
    obtain ⟨q, r, hq, hr, hlines, hopen⟩ := keep hw
    obtain rfl := Option.some.inj hw'
    exact ⟨q, r, hq, hr, hlines, hopen⟩
  | goneOn w _ hw _ hlines hopen =>
    obtain ⟨q, r, hq, hr, hle, hge⟩ := keep hw
    obtain rfl := Option.some.inj hw'
    exact ⟨q, r, hq, hr, hlines ▸ hle, fun ho => hlines ▸ hge (hopen ho)⟩
  | rejected w hw => cases hw'
  | completed w hw => cases hw'

/-- R59, R100: the bursts that wait stay in the camera region, whatever the row. -/
theorem CamStep.burstsPlaced {s : State} {c : CamState} (h : CamStep s c) (hs : WritesPlaced s) (hc : CameraSound s) :
    c.BurstsPlaced s.path.cam := by
  obtain ⟨hregion, -, hframe, hbursts, -⟩ := writesPlaced_iff.mp hs
  intro b hb
  cases h with
  | outside _ he hsub => exact hbursts b (hsub hb)
  | begun k _ hw hk hp he => rw [he] at hb; exact hbursts b hb
  | blanked view fresh => rw [CamState.blank_eq] at hb; exact hbursts b hb
  | lineBegun w p hw hp hlines => exact hbursts b hb
  | pixel w p buf hw hp hopen hcol =>
    obtain ⟨q, r, hq, hr, hle, hge⟩ := hframe w hw
    obtain ⟨q', hq', rfl⟩ := State.camProfile_iff.mp hp
    obtain rfl : q' = q := Option.some.inj (hq'.symm.trans hq)
    rcases List.mem_append.mp hb with hb | hb
    · exact hbursts b hb
    · obtain ⟨p, hprofile, rfl⟩ := hregion r hr
      obtain rfl : p = q' := Option.some.inj (hprofile.symm.trans hq)
      have := hge hopen
      exact ⟨_, hr, burstAt_placed (hc.writing_lt hw) (by omega) hcol hb⟩
  | goneOn w _ hw => exact hbursts b hb
  | rejected w hw => cases hb
  | completed w hw => exact hbursts b hb

/-! ### The granted bursts over a row -/

theorem State.Places.carried {s t : State} (hcam : ∀ r, s.path.cam = some r → t.path.cam = some r)
    (hcb : t.boot.cbBase = s.boot.cbBase) {f g : Flight} (ho : g.owner = f.owner) (hb : g.burst = f.burst)
    (h : s.Places g) : t.Places f := by
  obtain ⟨hcamera, hreport, hread⟩ := h
  rw [ho, hb] at hcamera hreport hread
  refine ⟨fun n hn => ?_, fun hr => ?_, hread⟩
  · obtain ⟨hw, r, hr, hin⟩ := hcamera n hn
    exact ⟨hw, r, hcam r hr, hin⟩
  · unfold State.InStatusPage
    rw [hcb]
    exact hreport hr

/-- R59: the burst that a grant makes is in its place. -/
theorem State.grant_places {s : State} (hs : s.cam.BurstsPlaced s.path.cam) (hl : SlotSound s) {q : Requester} {b : Burst}
    (h : s.presents q = some b) : s.Places { owner := s.ownerOf q, live := true, handed := false, burst := b } := by
  have other : (∀ n, s.ownerOf q ≠ .camera n) → s.ownerOf q ≠ .report → (s.ownerOf q ≠ .host → b.write = false) →
      s.Places { owner := s.ownerOf q, live := true, handed := false, burst := b } :=
    fun hc hr hw => ⟨fun n hn => absurd hn (hc n), fun hn => absurd hn hr, fun hh _ _ => hw hh⟩
  have hread : q ≠ .host → q ≠ .camera → q ≠ .load → b.write = false := by
    intro h1 h2 h3
    cases hw : b.write with
    | false => rfl
    | true =>
      rcases State.presents_write h hw with e | e | e
      · exact absurd e h1
      · exact absurd e h2
      · exact absurd e h3
  cases q with
  | host => exact other nofun nofun fun hh => absurd rfl hh
  | scanC => exact other nofun nofun fun _ => hread nofun nofun nofun
  | scanRl => exact other nofun nofun fun _ => hread nofun nofun nofun
  | scanRr => exact other nofun nofun fun _ => hread nofun nofun nofun
  | audio =>
    have howner : ∃ k, s.ownerOf .audio = .audio k := by unfold State.ownerOf; dsimp only; split <;> exact ⟨_, rfl⟩
    obtain ⟨k, hk⟩ := howner
    exact other (by rw [hk]; nofun) (by rw [hk]; nofun) fun _ => hread nofun nofun nofun
  | camera =>
    have howner : ∃ n, s.ownerOf .camera = .camera n := by unfold State.ownerOf; dsimp only; split <;> exact ⟨_, rfl⟩
    obtain ⟨n, hn⟩ := howner
    exact ⟨fun _ _ => State.presents_camera hs h, fun hr => absurd (hn.symm.trans hr) nofun, fun _ _ hc => absurd hn (hc n)⟩
  | load =>
    rcases State.presents_load hl h with ⟨i, hslot, hpage⟩ | ⟨howner, hwrite⟩
    · have howner : s.ownerOf .load = .report := by simp only [State.ownerOf, hslot]; rfl
      exact ⟨fun n hn => absurd (howner.symm.trans hn) nofun, fun _ => hpage, fun _ hr => absurd howner hr⟩
    · rcases howner with e | e <;> exact other (by rw [e]; nofun) (by rw [e]; nofun) fun _ => hwrite

/-- R59: where the camera region and the control block keep their places, every granted burst keeps to its own. -/
theorem exec_places {c : Instr} {s t : State} (h : exec c s = .next t) (hreset : c ≠ .powerOnReset)
    (hs : s.cam.BurstsPlaced s.path.cam) (hf : ∀ f ∈ s.arb.flights, s.Places f) (hl : SlotSound s)
    (hcam : ∀ r, s.path.cam = some r → t.path.cam = some r) (hcb : t.boot.cbBase = s.boot.cbBase) :
    ∀ f ∈ t.arb.flights, t.Places f := by
  intro f hft
  rcases exec_flights h hreset with hcarried | ⟨q, b, hb, rfl⟩
  · obtain ⟨g, hg, ho, hburst⟩ := hcarried f hft
    exact (hf g hg).carried hcam hcb ho hburst
  · rcases List.mem_append.mp hft with hf' | hf'
    · exact (hf f hf').carried hcam hcb rfl rfl
    · obtain rfl := List.mem_singleton.mp hf'
      exact (State.grant_places hs hl hb).carried hcam hcb rfl rfl

/-! ### Every step -/

/-- A machine that has granted nothing and stores no frame writes nothing. -/
theorem WritesPlaced.of_none {s : State} (hregion : RegionPlaced s.boot.profile s.path.cam)
    (hphase : s.cam.phase ≠ .idle → s.path.cam.isSome = true) (hw : s.cam.writing = none) (hb : s.cam.bursts = [])
    (hf : ∀ f ∈ s.arb.flights, s.Places f) : WritesPlaced s :=
  writesPlaced_iff.mpr ⟨hregion, hphase, fun _ h => absurd (hw.symm.trans h) nofun,
    fun _ h => absurd (hb ▸ h) List.not_mem_nil, hf⟩

theorem State.powerOn_writesPlaced (pins : Pins) (l : List Instr) : WritesPlaced (State.powerOn pins l) :=
  .of_none nofun (fun h => absurd rfl h) rfl rfl nofun

/-- R44: at the definition of the region CAM has stored nothing, and no burst of CAM's is granted. -/
theorem exec_cameraRegionDefine_writesPlaced {s t : State} (h : exec .cameraRegionDefine s = .next t)
    (hs : WritesPlaced s) (hbefore : BeforeRunning s) (hl : SlotSound s) : WritesPlaced t := by
  rcases exec_cameraRegionDefine_cases h with rfl | ⟨hstart, p, hprofile, hcam, hc⟩
  · exact hs
  obtain ⟨-, -, hframe, hbursts, hflights⟩ := writesPlaced_iff.mp hs
  obtain ⟨-, hnone, -⟩ := hbefore (by rw [hstart]; nofun)
  have hw : s.cam.writing = none := by
    cases hw : s.cam.writing with
    | none => rfl
    | some w =>
      obtain ⟨-, r, -, hr, -⟩ := hframe w hw
      rw [hnone] at hr; cases hr
  have hb : s.cam.bursts = [] := List.eq_nil_iff_forall_not_mem.mpr fun b hb => by
    obtain ⟨r, hr, -⟩ := hbursts b hb
    rw [hnone] at hr; cases hr
  have hcb := exec_cbBase h nofun nofun
  refine .of_none (fun c h => ?_) (fun _ => by rw [hcam]; rfl) (by rw [hc]; exact hw) (by rw [hc]; exact hb) fun f hf => ?_
  · rw [hcam] at h
    exact ⟨p, hprofile, (Option.some.inj h).symm⟩
  · exact exec_places h nofun hbursts hflights hl (fun r hr => by rw [hnone] at hr; cases hr) hcb f hf

/-- R180: the control block is placed while nothing is granted. -/
theorem exec_cbBase_or_idle {c : Instr} {s t : State} (hheld : HeldInReset s) (h : exec c s = .next t)
    (hreset : c ≠ .powerOnReset) : t.boot.cbBase = s.boot.cbBase ∨ t.arb.flights = [] := by
  by_cases hrelease : ∃ n, c = .pornRelease n
  · obtain ⟨n, rfl⟩ := hrelease
    simp only [exec, execPornRelease] at h
    split at h <;> (injection h with h; rw [← h])
    · rename_i hstart
      right
      rw [State.setBoot_arb, hheld hstart]; rfl
    · exact .inl rfl
  · exact .inl (exec_cbBase h hreset (not_exists.mp hrelease))

/-- R59, R100, R179: whatever the row, what the 630 writes of its own keeps to its place. -/
theorem exec_writesPlaced {c : Instr} {s t : State} (hs : WritesPlaced s) (hc : CameraSound s) (hl : SlotSound s)
    (hbefore : BeforeRunning s) (hheld : HeldInReset s) (h : exec c s = .next t) : WritesPlaced t := by
  by_cases hreset : c = .powerOnReset
  · subst hreset
    injection h with h
    exact h ▸ State.powerOn_writesPlaced _ _
  by_cases hdefine : c = .cameraRegionDefine
  · subst hdefine
    exact exec_cameraRegionDefine_writesPlaced h hs hbefore hl
  obtain ⟨hregion, hphase, -, hbursts, hflights⟩ := writesPlaced_iff.mp hs
  have hcam : t.path.cam = s.path.cam := (exec_path h hreset hdefine).1
  have hprofile : t.boot.profile = s.boot.profile := exec_profile h hreset hdefine
  have hmoved := exec_camStep h hreset
  refine writesPlaced_iff.mpr ⟨by rw [hcam, hprofile]; exact hregion, fun hp => ?_,
    by rw [hcam, hprofile]; exact hmoved.framePlaced hs, by rw [hcam]; exact hmoved.burstsPlaced hs hc, ?_⟩
  · rw [hcam]
    exact hphase fun hidle => hp (exec_camIdle h hreset hdefine hidle)
  · rcases exec_cbBase_or_idle hheld h hreset with hcb | hnone
    · exact exec_places h hreset hbursts hflights hl (fun r hr => hcam.trans hr) hcb
    · rw [hnone]; nofun

/-- A reference tick moves no burst and no place. -/
theorem WritesPlaced.advance {s : State} (hs : WritesPlaced s) (n : Nat) : WritesPlaced (s.advance n) := by
  obtain ⟨hregion, hphase, hframe, hbursts, hflights⟩ := writesPlaced_iff.mp hs
  have hboot : (s.advance n).boot.profile = s.boot.profile ∧ (s.advance n).boot.cbBase = s.boot.cbBase := by
    rw [s.advance_boot]; split <;> exact ⟨rfl, rfl⟩
  refine writesPlaced_iff.mpr ?_
  rw [hboot.1, s.advance_path, s.advance_cam, s.advance_arb]
  exact ⟨hregion, hphase, hframe, hbursts, fun f hf =>
    (hflights f hf).carried (fun r hr => (congrArg PathState.cam (s.advance_path n)).trans hr) hboot.2 rfl rfl⟩

/-- R59: what is presented is in its place too, so that its grant finds it there. -/
theorem presents_placed {s : State} (hs : WritesPlaced s) (hl : SlotSound s) :
    (∀ q b, s.presents q = some b → b.write = true → q = .host ∨ q = .camera ∨ q = .load) ∧
      (∀ b, s.presents .camera = some b → s.InCamera b) ∧
      (∀ b, s.presents .load = some b → b.write = true → s.InStatusPage b) := by
  obtain ⟨-, -, -, hbursts, -⟩ := writesPlaced_iff.mp hs
  refine ⟨fun q b h hw => State.presents_write h hw, fun b h => State.presents_camera hbursts h, fun b h hw => ?_⟩
  rcases State.presents_load hl h with ⟨-, -, hpage⟩ | ⟨-, hread⟩
  · exact hpage
  · rw [hread] at hw; cases hw

/-- Settles O11: the slots by `CamStep.sound`, the writes by their parts (`exec_writesPlaced`), what is presented by
`presents_placed`. -/
theorem stepKeepsCamera : Obligations.StepKeepsCamera := by
  refine ⟨fun s t hs h => stepKeepsCameraSound hs h, fun s t ⟨hs, hc, hl, hbefore, hheld⟩ h => ?_,
    fun s ⟨hs, hl⟩ => presents_placed hs hl⟩
  unfold step at h
  split at h
  · injection h with h
    subst h
    exact hs.advance 1
  · rename_i rest _
    exact exec_writesPlaced (s := s.setPending rest) hs hc hl hbefore (hheld.setPending rest) h

end Sys2Proof.Machine
end

section
/-! PROOFS. RVC's changes of state (R107 to R118): what each leaves in RVC, in the cause set and in the blocks it tells,
and the rows that make them. -/

namespace Sys2Proof.Machine

open Sys2Proof

/-! ### A new RVC state (R118) -/

theorem State.rvcEnter_load (s : State) (r : RvcState) :
    (s.rvcEnter r).load =
      { s.load with causes := s.load.causes ||| (if r.phase = .lost then 0x00C#10 else 0x004#10) } := by
  unfold State.rvcEnter
  dsimp only
  split
  · show ({ s.load with causes := s.load.causes ||| 0x004#10 ||| 0x008#10 } : LoadState) = _
    rw [BitVec.or_assoc]; rfl
  · rfl

/-- R118: a new RVC state moves RVC and raises REVERSE_CHANGE, and CAMERA_LOST with it where the state is LOST. -/
theorem State.rvcEnter_eq (s : State) (r : RvcState) :
    s.rvcEnter r =
      { s with
        rvc := r
        load := { s.load with
          causes := s.load.causes ||| (if r.phase = .lost then 0x00C#10 else 0x004#10) } } := by
  rw [← State.rvcEnter_load]
  unfold State.rvcEnter
  dsimp only
  split <;> rfl

/-- R174: a cause in the set stays in it while others are raised. -/
theorem State.takeChime_raised {s : State} {i : Nat} (h : s.load.causes.getLsbD i = true) (x : ChimeState × Bool) :
    (s.takeChime x).load.causes.getLsbD i = true := by
  unfold State.takeChime
  dsimp only
  split
  · simp [withCause, h]
  · exact h

theorem State.reverseChime_raised {s : State} {i : Nat} (h : s.load.causes.getLsbD i = true) :
    s.reverseChime.load.causes.getLsbD i = true := by
  unfold State.reverseChime
  split
  · split
    · exact State.takeChime_raised h _
    · exact h
  · exact h

theorem State.rvcEnter_raised (s : State) (r : RvcState) : (s.rvcEnter r).load.causes.getLsbD 2 = true := by
  rw [State.rvcEnter_load]
  split <;> simp

/-! ### Leaving OFF and entering it (R16, R27, R109, R115, R117) -/

/-- The machine as RVC leaves OFF, before the reverse chime is requested. -/
def State.offLeft (s : State) : State :=
  (s.rvcEnter { s.rvc with phase := .engaging, engage := some s.engageTime }).dropHeld.keepWindow

theorem State.leaveOff_eq (s : State) : s.leaveOff = s.offLeft.reverseChime := rfl

theorem State.keepWindow_eq (s : State) :
    s.keepWindow = { s with centre := { s.centre with keepWindow := s.centre.keepWindow || s.centre.view == .host } } := by
  unfold State.keepWindow
  by_cases hv : s.centre.view = .host
  · rw [if_pos hv, hv, beq_self_eq_true, Bool.or_true]; rfl
  · rw [if_neg hv, beq_eq_false_iff_ne.mpr hv, Bool.or_false]

theorem State.offLeft_eq (s : State) :
    s.offLeft =
      { s with
        rvc := { s.rvc with phase := .engaging, engage := some s.engageTime }
        load := { s.load with causes := s.load.causes ||| 0x004#10 }
        bl := { s.bl with c := { s.bl.c with held := none } }
        centre := { s.centre with keepWindow := s.centre.keepWindow || s.centre.view == .host } } := by
  unfold State.offLeft
  rw [State.keepWindow_eq, State.rvcEnter_eq]
  rfl

/-- R117: the reverse chime is requested where CHIME has started and the profile names a pattern that is not empty. -/
theorem State.reverseChime_requests {s : State} {p : Profile} (hp : s.boot.profile = some p) (hs : s.chime.started = true)
    (hpat : p.rev.chime ≤ 15) (hcount : (patternAt s.patterns p.rev.chime).count ≠ 0) :
    s.reverseChime = s.chimeRequest .reverse p.rev.chime := by
  unfold State.reverseChime
  rw [hp]
  exact if_pos (by rw [hs, playable_iff.mpr ⟨hpat, hcount⟩]; rfl)

theorem State.reverseChime_silent {s : State}
    (h : s.boot.profile = none ∨ s.chime.started = false ∨ ∃ p, s.boot.profile = some p ∧
      (15 < p.rev.chime ∨ (patternAt s.patterns p.rev.chime).count = 0)) : s.reverseChime = s := by
  unfold State.reverseChime
  split
  · rename_i p hp
    refine if_neg fun hplay => ?_
    rw [Bool.and_eq_true, playable_iff] at hplay
    obtain ⟨hstarted, hle, hcount⟩ := hplay
    rcases h with h | h | ⟨q, hq, h⟩
    · rw [hp] at h; cases h
    · rw [hstarted] at h; cases h
    · obtain rfl : q = p := Option.some.inj (hq.symm.trans hp)
      rcases h with h | h
      · omega
      · exact hcount h
  · rfl

theorem State.leaveOff_bl (s : State) : s.leaveOff.bl = { s.bl with c := { s.bl.c with held := none } } := by
  rw [State.leaveOff_eq, State.reverseChime_bl, State.offLeft_eq]

theorem State.leaveOff_centre (s : State) :
    s.leaveOff.centre = { s.centre with keepWindow := s.centre.keepWindow || s.centre.view == .host } := by
  rw [State.leaveOff_eq, State.reverseChime_centre, State.offLeft_eq]

theorem State.leaveOff_raised (s : State) : s.leaveOff.load.causes.getLsbD 2 = true := by
  rw [State.leaveOff_eq]
  exact State.reverseChime_raised (by rw [State.offLeft_eq]; simp)

/-- R16: out of OFF the centre duty in effect is no lower than the profile's reverse duty. -/
theorem State.dutyInEffect_reversing {s : State} (h : s.rvc.phase ≠ .off) :
    s.dutyInEffect .centre = max s.bl.c.base s.reverseDuty :=
  if_pos (by simpa [State.reversing] using h)

/-- R16: with the entry to OFF a started centre channel holds the duty in effect. -/
theorem State.holdCentre_bl {s : State} (hs : s.bl.c.started = true) (h : s.rvc.phase ≠ .off) :
    s.holdCentre.bl = { s.bl with c := { s.bl.c with held := some (max s.bl.c.base s.reverseDuty) } } := by
  rw [← State.dutyInEffect_reversing h]
  have hpwm : (s.pwm .centre).started = true := hs
  unfold State.holdCentre
  rw [if_pos hpwm]; rfl

theorem State.enterOff_load (s : State) :
    s.enterOff.load = { s.load with causes := s.load.causes ||| 0x004#10 } := by
  unfold State.enterOff
  dsimp only
  rw [State.chimeCancel_load, State.rvcEnter_load, State.holdCentre_load]; rfl

theorem State.enterOff_bl (s : State) : s.enterOff.bl = s.holdCentre.bl := by
  unfold State.enterOff
  dsimp only
  rw [State.chimeCancel_bl, State.rvcEnter_bl]

theorem State.enterOff_chime (s : State) : s.enterOff.chime = (s.chimeCancel .reverse).chime := by
  unfold State.enterOff State.chimeCancel
  dsimp only
  rw [State.setChime_chime, State.rvcEnter_chime, State.holdCentre_chime]; rfl

/-! ### The debounced level (R107, R109, R113) -/

/-- The machine with the level of REVIN taken. -/
def State.levelTaken (s : State) : State := s.setRvc { s.rvc with debounce := none, taken := s.pins.revin }

theorem State.takeLevel_same {s : State} (h : s.pins.revin = s.rvc.taken) :
    s.takeLevel = s.setRvc { s.rvc with debounce := none } := if_pos h

theorem State.takeLevel_on {s : State} (hpin : s.pins.revin = true) (ht : s.rvc.taken = false) :
    s.takeLevel = s.levelTaken.reverseOn := by
  unfold State.takeLevel
  rw [if_neg (by rw [hpin, ht]; nofun)]
  exact if_pos hpin

theorem State.takeLevel_off {s : State} (hpin : s.pins.revin = false) (ht : s.rvc.taken = true) :
    s.takeLevel = s.levelTaken.reverseOff := by
  unfold State.takeLevel
  rw [if_neg (by rw [hpin, ht]; nofun)]
  exact if_neg (by rw [hpin]; nofun)

theorem State.reverseOn_off {s : State} (h : s.rvc.phase = .off) : s.reverseOn = s.leaveOff := by
  unfold State.reverseOn; rw [h]

theorem State.reverseOn_releasing {s : State} (h : s.rvc.phase = .releasing) :
    s.reverseOn = s.rvcEnter { s.rvc with phase := if s.rvc.fresh = true then .showing else .lost, release := none } := by
  unfold State.reverseOn; rw [h]

/-- R113: the event reverse off begins the release where the camera view is engaged, shown or lost. -/
theorem State.reverseOff_begins {s : State} (h : s.rvc.phase = .engaging ∨ s.rvc.phase = .showing ∨ s.rvc.phase = .lost) :
    s.reverseOff = s.beginRelease := by
  unfold State.reverseOff
  rcases h with h | h | h <;> rw [h]

/-! ### Where the RVC state changes -/

/-- `t` has the RVC state of `s`, or REVERSE_CHANGE raised (R118). -/
def Announced (s t : State) : Prop := t.rvc.phase = s.rvc.phase ∨ t.load.causes.getLsbD 2 = true

theorem State.enterOff_announced (s : State) : Announced s s.enterOff := .inr (by rw [State.enterOff_load]; simp)

theorem State.reverseOn_announced (s : State) : Announced s s.reverseOn := by
  unfold State.reverseOn
  split
  · exact .inr s.leaveOff_raised
  · exact .inr (s.rvcEnter_raised _)
  all_goals exact .inl rfl

theorem State.beginRelease_announced (s : State) : Announced s s.beginRelease := by
  unfold State.beginRelease
  split
  · exact s.enterOff_announced
  · exact .inr (s.rvcEnter_raised _)

theorem State.reverseOff_announced (s : State) : Announced s s.reverseOff := by
  unfold State.reverseOff
  split
  · exact .inl rfl
  · exact .inl rfl
  all_goals exact s.beginRelease_announced

theorem State.takeLevel_announced (s : State) : Announced s s.takeLevel := by
  unfold State.takeLevel
  split
  · exact .inl rfl
  · dsimp only
    split
    · exact State.reverseOn_announced (s.setRvc _)
    · exact State.reverseOff_announced (s.setRvc _)

theorem State.blankTransition_announced (s : State) (made shown : Bool) :
    Announced s (s.blankTransition made shown) := by
  unfold State.blankTransition
  split
  · split
    · exact .inr (s.rvcEnter_raised _)
    · exact .inl rfl
  · split
    · exact .inr (s.rvcEnter_raised _)
    · exact .inl rfl
  all_goals exact .inl rfl

/-- A report that falls due leaves the cause set. -/
theorem State.reportDue_causes (s : State) : s.reportDue.load.causes = s.load.causes := by
  unfold State.reportDue
  split
  · split
    · rfl
    · dsimp only
      rw [State.setLoad_load, LoadState.present_eq]; rfl
  · rfl

theorem State.cameraWork_announced (s : State) : Announced s s.cameraWork :=
  State.blankTransition_announced (s.setCam _) _ _

/-- A centre blank event before the camera work: the staged scene is adopted and the view set (R4, R7). -/
def State.viewSet (s : State) (ha : Nat) : State :=
  ((s.setDisplay .centre (s.disp.c.atLine ha true)).adoptStaged .centre).setView

section
variable (s : State) (ha : Nat)

theorem State.viewSet_rvc : (s.viewSet ha).rvc = s.rvc := by
  rw [State.viewSet, State.setView_rvc, State.adoptStaged_rvc]; rfl

theorem State.viewSet_load : (s.viewSet ha).load = s.load := by
  rw [State.viewSet, State.setView_load, State.adoptStaged_load]; rfl

theorem State.centreLatched_rvc : (s.centreLatched ha).rvc = (s.viewSet ha).cameraWork.rvc := by
  rw [State.centreLatched, State.latchFrame_rvc]; rfl

theorem State.centreLatched_load : (s.centreLatched ha).load = (s.viewSet ha).cameraWork.load := by
  rw [State.centreLatched, State.latchFrame_load]; rfl

end

theorem execCentreBlankEvent_cases {s t : State} (h : execCentreBlankEvent s = .next t) :
    t = s ∨ ∃ ha g, t = ((s.centreLatched ha).setGuide g).reportDue := by
  unfold execCentreBlankEvent at h
  split at h
  · split at h <;> (injection h with h)
    · exact .inr ⟨_, _, h.symm⟩
    · exact .inl h.symm
  · injection h with h; exact .inl h.symm

theorem execCentreBlankEvent_announced {s t : State} (h : execCentreBlankEvent s = .next t) : Announced s t := by
  rcases execCentreBlankEvent_cases h with rfl | ⟨ha, g, rfl⟩
  · exact .inl rfl
  · have hwork := (s.viewSet ha).cameraWork_announced
    unfold Announced at hwork ⊢
    rw [State.reportDue_rvc, State.setGuide_rvc, State.centreLatched_rvc, State.reportDue_causes, State.setGuide_load,
      State.centreLatched_load]
    rwa [State.viewSet_rvc] at hwork

/-- Settles O15: the rows that move the RVC state say so, the others leave it. -/
theorem rvcStateChangesOnlyAt : Obligations.RvcStateChangesOnlyAt := by
  intro c s t h hne
  have announced : Announced s t → t.load.causes.getLsbD 2 = true := fun ha => ha.resolve_left hne
  have kept : t.rvc.phase = s.rvc.phase → c = .powerOnReset ∨ (∃ e, c = .clockCheckEnd e) ∨
      ((c = .centreBlankEvent ∨ c = .revinChange ∨ c = .debounceExpiry ∨ c = .engageTimerExpiry ∨
          c = .freezeTimerExpiry ∨ c = .releaseTimerExpiry) ∧ t.load.causes.getLsbD 2 = true) := fun he => absurd he hne
  cases c with
  | powerOnReset => exact .inl rfl
  | clockCheckEnd e => exact .inr (.inl ⟨e, rfl⟩)
  | centreBlankEvent =>
    exact .inr (.inr ⟨.inl rfl, announced (execCentreBlankEvent_announced h)⟩)
  | revinChange =>
    refine .inr (.inr ⟨.inr (.inl rfl), announced ?_⟩)
    simp only [exec, execRevinChange] at h
    (repeat' split at h) <;> (injection h with h; rw [← h])
    · exact State.takeLevel_announced (s.setPins _)
    all_goals exact .inl rfl
  | debounceExpiry =>
    refine .inr (.inr ⟨.inr (.inr (.inl rfl)), announced ?_⟩)
    simp only [exec, execDebounceExpiry] at h
    split at h <;> (injection h with h; rw [← h])
    · exact s.takeLevel_announced
    · exact .inl rfl
  | engageTimerExpiry =>
    refine .inr (.inr ⟨.inr (.inr (.inr (.inl rfl))), announced ?_⟩)
    simp only [exec, execEngageTimerExpiry] at h
    (repeat' split at h) <;> (injection h with h; rw [← h])
    · exact .inr (s.rvcEnter_raised _)
    all_goals exact .inl rfl
  | freezeTimerExpiry =>
    refine .inr (.inr ⟨.inr (.inr (.inr (.inr (.inl rfl)))), announced ?_⟩)
    simp only [exec, execFreezeTimerExpiry] at h
    (repeat' split at h) <;> (injection h with h; rw [← h])
    · exact .inr (s.rvcEnter_raised _)
    all_goals exact .inl rfl
  | releaseTimerExpiry =>
    refine .inr (.inr ⟨.inr (.inr (.inr (.inr (.inr rfl)))), announced ?_⟩)
    simp only [exec, execReleaseTimerExpiry] at h
    (repeat' split at h) <;> (injection h with h; rw [← h])
    · exact s.enterOff_announced
    all_goals exact .inl rfl
  | tbTick =>
    refine kept ?_
    simp only [exec, execTbTick] at h
    (repeat' split at h) <;> (injection h with h; subst h; rfl)
  | cameraFrameEnd =>
    have hcheck : ∀ p w, (s.checkFrame p w).rvc.phase = s.rvc.phase := by
      intro p w; unfold State.checkFrame; (repeat' split) <;> rfl
    refine kept ?_
    simp only [exec, execCameraFrameEnd] at h
    (repeat' split at h) <;> (injection h with h; rw [← h])
    · rfl
    · exact hcheck _ _
  | cameraBurstComplete err =>
    refine kept ?_
    simp only [exec, execCameraBurstComplete] at h
    (repeat' split at h) <;> (injection h with h; subst h; rfl)
  | _ => exact kept (congrArg (·.rvc.phase) (exec_frame h))

end Sys2Proof.Machine
end

section
/-! PROOFS. REVIN_CHANGE and the four timers of RVC, row by row (R16, R107 to R118). O56. -/

namespace Sys2Proof.Machine

open Sys2Proof

/-! ### The times in use (R108) -/

theorem State.rvcTimes_profile {s : State} {p : Profile} (hp : s.boot.profile = some p) :
    s.debounceTime = p.rev.debounce ∧ s.engageTime = p.rev.engage ∧ s.freezeTime = p.rev.freeze ∧
      s.releaseTime = p.rev.release := by
  unfold State.debounceTime State.engageTime State.freezeTime State.releaseTime
  rw [hp]; exact ⟨rfl, rfl, rfl, rfl⟩

theorem State.rvcTimes_fixed {s : State} (hp : s.boot.profile = none) :
    s.debounceTime = 20 ∧ s.engageTime = 1000 ∧ s.freezeTime = 1000 ∧ s.releaseTime = 0 := by
  unfold State.debounceTime State.engageTime State.freezeTime State.releaseTime
  rw [hp]; exact ⟨rfl, rfl, rfl, rfl⟩

/-! ### The rows where their timer runs -/

theorem exec_debounceExpiry {s : State} (h : s.rvc.debounce.isSome = true) :
    exec .debounceExpiry s = .next s.takeLevel := by
  obtain ⟨n, hn⟩ := Option.isSome_iff_exists.mp h
  change execDebounceExpiry s = _
  unfold execDebounceExpiry; rw [hn]

theorem exec_revinChange {s : State} (hs : s.rvc.started = true) (ht : s.debounceTime ≠ 0) :
    exec .revinChange s =
      .next { s with
              pins := { s.pins with revin := !s.pins.revin }
              rvc := { s.rvc with debounce := some s.debounceTime } } :=
  (if_pos hs).trans (if_neg ht)

/-- R107: with a time of 0 the debounce timer expires at the change itself. -/
theorem exec_revinChange_zero {s : State} (hs : s.rvc.started = true) (ht : s.debounceTime = 0) :
    exec .revinChange s =
      exec .debounceExpiry
        { s with
          pins := { s.pins with revin := !s.pins.revin }, rvc := { s.rvc with debounce := some 0 } } :=
  ((if_pos hs).trans (if_pos ht)).trans (exec_debounceExpiry (s := { s with
      pins := { s.pins with revin := !s.pins.revin }, rvc := { s.rvc with debounce := some 0 } }) rfl).symm

theorem exec_engageTimerExpiry {s : State} (h : s.rvc.engage.isSome = true) (hp : s.rvc.phase = .engaging) :
    exec .engageTimerExpiry s = .next (s.rvcEnter { s.rvc with phase := .lost, engage := none }) := by
  obtain ⟨n, hn⟩ := Option.isSome_iff_exists.mp h
  change execEngageTimerExpiry s = _
  unfold execEngageTimerExpiry; rw [hn]; exact if_pos hp

theorem exec_freezeTimerExpiry {s : State} (h : s.rvc.freeze.isSome = true) :
    exec .freezeTimerExpiry s =
      .next (if s.rvc.phase = .showing then s.rvcEnter { s.rvc with phase := .lost, fresh := false, freeze := none }
        else s.setRvc { s.rvc with fresh := false, freeze := none }) := by
  obtain ⟨n, hn⟩ := Option.isSome_iff_exists.mp h
  change execFreezeTimerExpiry s = _
  unfold execFreezeTimerExpiry; rw [hn]; exact (apply_ite Host.Outcome.next _ _ _).symm

theorem exec_releaseTimerExpiry {s : State} (h : s.rvc.release.isSome = true) (hp : s.rvc.phase = .releasing) :
    exec .releaseTimerExpiry s = .next s.enterOff := by
  obtain ⟨n, hn⟩ := Option.isSome_iff_exists.mp h
  change execReleaseTimerExpiry s = _
  unfold execReleaseTimerExpiry; rw [hn]; exact if_pos hp

/-! ### The level taken (R107, R109, R113) -/

/-- R109, R117: reverse on in OFF. -/
theorem debounceExpiry_leavesOff {s : State} (hd : s.rvc.debounce.isSome = true) (hpin : s.pins.revin = true)
    (ht : s.rvc.taken = false) (hp : s.rvc.phase = .off) :
    ∃ t, exec .debounceExpiry s = .next t ∧
      t = { s with rvc := t.rvc, bl := t.bl, centre := t.centre, chime := t.chime, load := t.load } ∧
      t.rvc = { s.rvc with debounce := none, taken := true, phase := .engaging, engage := some s.engageTime } ∧
      t.bl = { s.bl with c := { s.bl.c with held := none } } ∧ t.load.causes.getLsbD 2 = true ∧
      t.centre = { s.centre with keepWindow := s.centre.keepWindow || s.centre.view == .host } ∧
      (∀ p, s.boot.profile = some p → s.chime.started = true → p.rev.chime ≤ 15 →
        (patternAt s.patterns p.rev.chime).count ≠ 0 →
        t.chime = (s.chimeRequest .reverse p.rev.chime).chime) ∧
      (s.boot.profile = none ∨ s.chime.started = false ∨ (∃ p, s.boot.profile = some p ∧
          (15 < p.rev.chime ∨ (patternAt s.patterns p.rev.chime).count = 0)) →
        t.chime = s.chime ∧ t.load = { s.load with causes := s.load.causes ||| 0x004#10 }) := by
  have hlevel : s.takeLevel = s.levelTaken.leaveOff := by
    rw [State.takeLevel_on hpin ht]; exact State.reverseOn_off hp
  have hexec : exec .debounceExpiry s = .next s.levelTaken.leaveOff := by rw [exec_debounceExpiry hd, hlevel]
  have hleft := s.levelTaken.offLeft_eq
  refine ⟨_, hexec, exec_frame (c := .debounceExpiry) hexec, ?_, s.levelTaken.leaveOff_bl, s.levelTaken.leaveOff_raised,
    s.levelTaken.leaveOff_centre, fun p hprofile hs hle hcount => ?_, fun h => ?_⟩
  · rw [State.leaveOff_rvc, State.levelTaken, hpin]; rfl
  · have hboot : s.levelTaken.offLeft.boot = s.boot := by rw [hleft]; rfl
    have hpats : s.levelTaken.offLeft.patterns = s.patterns := by unfold State.patterns; rw [hboot]
    have hdepth : s.levelTaken.offLeft.stackDepth = s.stackDepth := by unfold State.stackDepth; rw [hboot]
    have hchime : s.levelTaken.offLeft.chime = s.chime := by rw [hleft]; rfl
    rw [State.leaveOff_eq, State.reverseChime_requests (by rw [hboot]; exact hprofile) (by rw [hchime]; exact hs) hle
      (by rw [hpats]; exact hcount), State.chimeRequest, State.chimeRequest, State.takeChime_chime, State.takeChime_chime,
      hpats, hdepth, hchime]
  · have hsilent : s.levelTaken.leaveOff = s.levelTaken.offLeft := by
      rw [State.leaveOff_eq]
      refine State.reverseChime_silent ?_
      rw [hleft]
      exact h
    rw [hsilent, hleft]
    exact ⟨rfl, rfl⟩

/-- R113: reverse off where the release has a time. -/
theorem debounceExpiry_releases {s : State} (hd : s.rvc.debounce.isSome = true) (hpin : s.pins.revin = false)
    (ht : s.rvc.taken = true) (hp : s.rvc.phase = .engaging ∨ s.rvc.phase = .showing ∨ s.rvc.phase = .lost)
    (hr : s.releaseTime ≠ 0) :
    exec .debounceExpiry s =
      .next { s with
              rvc := { s.rvc with
                       debounce := none, taken := false, phase := .releasing, engage := none,
                       release := some s.releaseTime }
              load := { s.load with causes := s.load.causes ||| 0x004#10 } } := by
  have hlevel : s.takeLevel = s.levelTaken.beginRelease := by
    rw [State.takeLevel_off hpin ht]; exact State.reverseOff_begins hp
  have hbegin : s.levelTaken.beginRelease = s.levelTaken.rvcEnter _ := if_neg hr
  rw [exec_debounceExpiry hd, hlevel, hbegin, State.rvcEnter_eq, State.levelTaken, hpin]
  rfl

/-- R113, R115: reverse off with a release time of 0. -/
theorem debounceExpiry_entersOff {s : State} (hd : s.rvc.debounce.isSome = true) (hpin : s.pins.revin = false)
    (ht : s.rvc.taken = true) (hp : s.rvc.phase = .engaging ∨ s.rvc.phase = .showing ∨ s.rvc.phase = .lost)
    (hr : s.releaseTime = 0) :
    ∃ t, exec .debounceExpiry s = .next t ∧
      t = { s with rvc := t.rvc, bl := t.bl, chime := t.chime, load := t.load } ∧
      t.rvc = { s.rvc with debounce := none, taken := false, phase := .off, engage := none, release := none } ∧
      t.load = { s.load with causes := s.load.causes ||| 0x004#10 } ∧
      t.chime = (s.chimeCancel .reverse).chime ∧
      (s.bl.c.started = true →
        t.bl = { s.bl with c := { s.bl.c with held := some (max s.bl.c.base s.reverseDuty) } }) := by
  have hlevel : s.takeLevel = s.levelTaken.enterOff := by
    rw [State.takeLevel_off hpin ht]
    exact (State.reverseOff_begins (s := s.levelTaken) hp).trans (if_pos hr)
  have hexec : exec .debounceExpiry s = .next s.levelTaken.enterOff := by rw [exec_debounceExpiry hd, hlevel]
  have hphase : s.levelTaken.rvc.phase ≠ .off := by
    change s.rvc.phase ≠ .off
    rcases hp with h | h | h <;> rw [h] <;> nofun
  refine ⟨_, hexec, ?_, ?_, s.levelTaken.enterOff_load, s.levelTaken.enterOff_chime, fun hs => ?_⟩
  · have hcentre : s.levelTaken.enterOff.centre = s.centre := by rw [State.enterOff_centre]; rfl
    have hframe := exec_frame (c := .debounceExpiry) hexec
    rw [State.framed, hcentre] at hframe
    exact hframe
  · rw [State.enterOff_rvc, State.levelTaken, hpin]; rfl
  · rw [State.enterOff_bl]
    exact State.holdCentre_bl (s := s.levelTaken) hs hphase

/-- R113: reverse on in RELEASING. -/
theorem debounceExpiry_returns {s : State} (hd : s.rvc.debounce.isSome = true) (hpin : s.pins.revin = true)
    (ht : s.rvc.taken = false) (hp : s.rvc.phase = .releasing) :
    ∃ t, exec .debounceExpiry s = .next t ∧ t = { s with rvc := t.rvc, load := t.load } ∧
      t.rvc = { s.rvc with
                debounce := none, taken := true, phase := if s.rvc.fresh = true then .showing else .lost,
                release := none } ∧
      t.load.causes.getLsbD 2 = true ∧ (s.rvc.fresh = false → t.load.causes.getLsbD 3 = true) := by
  have hlevel : s.takeLevel = s.levelTaken.rvcEnter
      { s.levelTaken.rvc with phase := if s.rvc.fresh = true then .showing else .lost, release := none } := by
    rw [State.takeLevel_on hpin ht]; exact State.reverseOn_releasing hp
  refine ⟨_, by rw [exec_debounceExpiry hd, hlevel], by rw [State.rvcEnter_eq]; rfl, ?_, State.rvcEnter_raised _ _,
    fun hf => ?_⟩
  · rw [State.rvcEnter_rvc, State.levelTaken, hpin]; rfl
  · rw [State.rvcEnter_load, hf]; simp

/-- R115, R16: the release timer expires. -/
theorem releaseTimerExpiry_entersOff {s : State} (hr : s.rvc.release.isSome = true) (hp : s.rvc.phase = .releasing) :
    ∃ t, exec .releaseTimerExpiry s = .next t ∧
      t = { s with rvc := t.rvc, bl := t.bl, chime := t.chime, load := t.load } ∧
      t.rvc = { s.rvc with phase := .off, engage := none, release := none } ∧
      t.load = { s.load with causes := s.load.causes ||| 0x004#10 } ∧
      t.chime = (s.chimeCancel .reverse).chime ∧
      (s.bl.c.started = true →
        t.bl = { s.bl with c := { s.bl.c with held := some (max s.bl.c.base s.reverseDuty) } } ∧
          t.dutyInEffect .centre = s.dutyInEffect .centre) := by
  have hexec := exec_releaseTimerExpiry hr hp
  have hphase : s.rvc.phase ≠ .off := by rw [hp]; nofun
  refine ⟨_, hexec, exec_frame (c := .releaseTimerExpiry) hexec, s.enterOff_rvc, s.enterOff_load, s.enterOff_chime,
    fun hs => ?_⟩
  have hbl := s.enterOff_bl.trans (State.holdCentre_bl hs hphase)
  refine ⟨hbl, ?_⟩
  have hoff : s.enterOff.reversing = false := by rw [State.reversing, State.enterOff_rvc]; rfl
  have hpwm : s.enterOff.pwm .centre = { s.bl.c with held := some (max s.bl.c.base s.reverseDuty) } := by
    rw [State.pwm, hbl]; rfl
  rw [State.dutyInEffect_reversing hphase, State.dutyInEffect, hoff, hpwm]
  rfl

/-! ### The rows -/

/-- Settles O56, row by row and event by event. -/
theorem reverseRows : Obligations.ReverseRows := by
  refine ⟨fun s => ⟨fun p hp => State.rvcTimes_profile hp, fun hp => State.rvcTimes_fixed hp⟩,
    fun s hs => ⟨exec_revinChange hs, fun hd hpin => ?_, debounceExpiry_leavesOff, exec_revinChange_zero hs,
      debounceExpiry_releases, debounceExpiry_entersOff, debounceExpiry_returns⟩,
    fun s hs => ?_, fun s => ⟨fun h hp => ?_, fun h hp => ?_, fun h hp => ?_, releaseTimerExpiry_entersOff⟩⟩
  · rw [exec_debounceExpiry hd, State.takeLevel_same hpin]; rfl
  · exact if_neg (by rw [hs]; nofun)
  · rw [exec_engageTimerExpiry h hp, State.rvcEnter_eq]; rfl
  · rw [exec_freezeTimerExpiry h, if_pos hp, State.rvcEnter_eq]; rfl
  · rw [exec_freezeTimerExpiry h, if_neg hp]; rfl

end Sys2Proof.Machine
end

section
/-! PROOFS. The rows of the camera port (R99 to R105): a frame begins, its lines and pixels, its end, the completions of
its bursts, and the loss of the signal. O53, O54, O55. -/

namespace Sys2Proof.Machine

open Sys2Proof

/-! ### A rejection (R101) -/

theorem State.rejectFrame_eq (s : State) (w : Writing) : s.rejectFrame w = s.withFrameRejected w := by
  have hdead : killFlights (fun o => match o with | .camera _ => true | _ => false) s.arb.flights =
      (s.withFrameRejected w).arb.flights :=
    List.map_congr_left fun f _ => by obtain ⟨o, l, h, b⟩ := f; cases o <;> rfl
  exact congrArg (fun fl => (s.setArb { s.arb with flights := fl }).setCam (s.cam.reject w)) hdead

/-! ### A frame begins (R99, R102 to R104) -/

theorem exec_cameraFrameStart_idle {e : Nat} {s : State} (h : s.cam.phase = .idle) :
    exec (.cameraFrameStart e) s = .next (s.advance e) :=
  if_pos (by rw [s.advance_cam]; exact h)

theorem exec_cameraFrameStart {e : Nat} {s : State} (h : s.cam.phase ≠ .idle) :
    exec (.cameraFrameStart e) s = .next ((s.advance e).setCam (s.advance e).cam.rise.newFrame) :=
  if_neg (by rw [s.advance_cam]; exact h)

theorem CamState.rise_noSignal {c : CamState} (h : c.phase = .noSignal) :
    c.rise = { c with phase := .receiving, period := some 0, reported := 0 } := by
  unfold CamState.rise; rw [h]

theorem CamState.rise_receiving {c : CamState} (h : c.phase = .receiving) :
    c.rise = { c with period := some 0, reported := c.period.getD 0 / 24 } := by
  unfold CamState.rise; rw [h]

/-- R103: with CAM started the state becomes RECEIVING and the measurement starts again. -/
theorem CamState.rise_started {c : CamState} (h : c.phase ≠ .idle) :
    c.rise = { c with phase := .receiving, period := some 0, reported := c.rise.reported } := by
  cases hp : c.phase with
  | idle => exact absurd hp h
  | noSignal => rw [CamState.rise_noSignal hp]
  | receiving => rw [CamState.rise_receiving hp, ← hp]

section
variable {c : CamState}

/-- R102, R104: what a frame-valid rise can move in the slots. -/
theorem CamState.newFrame_eq (c : CamState) :
    c.newFrame =
      { c with
        slots := c.newFrame.slots, arrivals := c.newFrame.arrivals, writing := c.newFrame.writing,
        received := min (c.received + 1) 65535, rejected := c.newFrame.rejected } := by
  unfold CamState.newFrame
  dsimp only
  split
  · rfl
  · split <;> rfl

theorem CamState.newFrame_busy {w : Writing} (hw : c.writing = some w) :
    c.newFrame = { c with received := satInc c.received, rejected := satInc c.rejected } := by
  unfold CamState.newFrame
  dsimp only
  rw [hw]

theorem CamState.newFrame_stored (hw : c.writing = none) {k : Nat} (hk : c.pick = some k) :
    c.newFrame = { c.store k with received := satInc c.received } := by
  have hk' : ({ c with received := satInc c.received } : CamState).pick = some k := hk
  unfold CamState.newFrame
  dsimp only
  rw [hk', hw]; rfl

theorem CamState.newFrame_skipped (hw : c.writing = none) (hk : c.pick = none) :
    c.newFrame = { c with received := satInc c.received } := by
  have hk' : ({ c with received := satInc c.received } : CamState).pick = none := hk
  unfold CamState.newFrame
  dsimp only
  rw [hk', hw]

theorem CamState.pick_empty {k : Nat} (h : c.slots.findIdx? (· == .empty) = some k) : c.pick = some k := by
  unfold CamState.pick; rw [h]

theorem CamState.pick_full (h : ∀ x ∈ c.slots, x ≠ .empty) :
    c.pick = c.arrivals.find? (fun k => c.slot k == .complete) := by
  have hnone : c.slots.findIdx? (· == .empty) = none :=
    List.findIdx?_eq_none_iff.mpr fun x hx => beq_eq_false_iff_ne.mpr (h x hx)
  unfold CamState.pick; rw [hnone]

theorem CamState.pick_oldest (h : ∀ x ∈ c.slots, x ≠ .empty) {pre post : List Nat} {k : Nat}
    (harrivals : c.arrivals = pre ++ k :: post) (hk : c.slot k = .complete) (hpre : ∀ i ∈ pre, c.slot i ≠ .complete) :
    c.pick = some k := by
  rw [CamState.pick_full h]
  exact List.find?_eq_some_iff_append.mpr ⟨beq_iff_eq.mpr hk, pre, post, harrivals, by simpa using hpre⟩

theorem CamState.pick_none (h : ∀ x ∈ c.slots, x ≠ .empty) (hlist : ∀ i ∈ c.arrivals, c.slot i ≠ .complete) :
    c.pick = none := by
  rw [CamState.pick_full h]
  exact List.find?_eq_none.mpr (by simpa using hlist)

end

/-- Settles O53: the reference ticks pass first (`State.advance_ticks`), then CAM hears the rise. -/
theorem cameraSignalRows : Obligations.CameraSignalRows := by
  refine ⟨fun e s h => ⟨_, s.advance_ticks e, exec_cameraFrameStart_idle h⟩, fun e s h => ?_, fun s h => if_pos h⟩
  obtain ⟨c, hc⟩ : ∃ c, c = (s.advance e).cam.rise := ⟨_, rfl⟩
  have hadv := s.advance_cam e
  have hrise : c = { s.cam with phase := .receiving, period := some 0, reported := c.reported } := by
    have hstarted : (s.advance e).cam.phase ≠ .idle := by rw [hadv]; exact h
    rw [hc, CamState.rise_started hstarted, hadv]
  have hw : c.writing = s.cam.writing := by rw [hrise]
  have hslots : c.slots = s.cam.slots := by rw [hrise]
  have harrivals : c.arrivals = s.cam.arrivals := by rw [hrise]
  have hslot : c.slot = s.cam.slot := by unfold CamState.slot; rw [hslots]
  have hrejected : c.rejected = s.cam.rejected := by rw [hrise]
  have hreported : c.newFrame.reported = c.reported := by rw [c.newFrame_eq]
  have hpick : c.pick = s.cam.pick := CamState.pick_congr hslots harrivals
  have hstored : ∀ k, s.cam.writing = none → s.cam.pick = some k →
      c.newFrame.slots = s.cam.slots.set k .writing ∧ c.newFrame.arrivals = s.cam.arrivals.filter (· != k) ∧
        c.newFrame.writing = some { slot := k, lines := 0, col := 0, lineOpen := false, passed := false,
                                    outstanding := 0 } ∧ c.newFrame.rejected = s.cam.rejected := by
    intro k hnone hk
    rw [CamState.newFrame_stored (hw.trans hnone) (hpick.trans hk), ← hslots, ← harrivals, ← hrejected]
    exact ⟨rfl, rfl, rfl, rfl⟩
  refine ⟨_, (s.advance e).setCam c.newFrame, s.advance_ticks e, by rw [exec_cameraFrameStart h, hc], rfl, ?_,
    fun hp => ?_, fun n hp hn => ?_, fun hbusy => ?_,
    ⟨fun k hnone hk => hstored k hnone (CamState.pick_empty hk),
      fun pre k post hnone hfull hsplit hk hpre => hstored k hnone (CamState.pick_oldest hfull hsplit hk hpre)⟩,
    fun hnone hfull hlist => ?_⟩
  · show c.newFrame = _
    rw [c.newFrame_eq, hrise]
    rfl
  · show c.newFrame.reported = 0
    rw [hreported, hc, CamState.rise_noSignal (by rw [hadv]; exact hp)]
  · show c.newFrame.reported = _
    rw [hreported, hc, CamState.rise_receiving (by rw [hadv]; exact hp), hadv, hn]
    rfl
  · obtain ⟨w, hbusy⟩ := Option.ne_none_iff_exists'.mp hbusy
    show c.newFrame.writing = _ ∧ c.newFrame.slots = _ ∧ c.newFrame.arrivals = _ ∧ c.newFrame.rejected = _
    rw [CamState.newFrame_busy (hw.trans hbusy)]
    exact ⟨hw, hslots, harrivals, by rw [← hrejected]; rfl⟩
  · show c.newFrame.slots = _ ∧ c.newFrame.arrivals = _ ∧ c.newFrame.writing = _ ∧ c.newFrame.rejected = _
    rw [CamState.newFrame_skipped (hw.trans hnone) (hpick.trans (CamState.pick_none hfull hlist))]
    exact ⟨hslots, harrivals, hw.trans hnone, hrejected⟩

/-! ### The lines and pixels of a frame (R99 to R101) -/

section
variable {s : State} {w : Writing} {p : CameraProfile} (hw : s.cam.writing = some w) (hp : s.camProfile = some p)
include hw hp

theorem exec_cameraLineStart (hpassed : w.passed = false) (hopen : w.lineOpen = false) :
    exec .cameraLineStart s =
      .next (if p.height ≤ w.lines then s.withFrameRejected w
        else { s with
               cam := { s.cam with writing := some { w with lines := w.lines + 1, col := 0, lineOpen := true } } }) := by
  change execCameraLineStart s = _
  unfold execCameraLineStart
  simp only [hw, hp, hpassed, hopen, State.rejectFrame_eq]
  exact (apply_ite Host.Outcome.next _ _ _).symm

theorem exec_cameraPixel (rgb : BitVec 24) (hopen : w.lineOpen = true) :
    exec (.cameraPixel rgb) s = .next (s.takePixel p w rgb) := by
  change execCameraPixel rgb s = _
  unfold execCameraPixel
  rw [hw, hp]
  exact if_pos hopen

theorem exec_cameraLineEnd (hopen : w.lineOpen = true) :
    exec .cameraLineEnd s =
      .next (if w.col < p.width then s.withFrameRejected w
        else { s with cam := { s.cam with writing := some { w with lineOpen := false } } }) := by
  change execCameraLineEnd s = _
  unfold execCameraLineEnd
  rw [hw, hp, ← State.rejectFrame_eq]
  exact if_pos hopen

end

theorem State.takePixel_rejects {s : State} {w : Writing} {p : CameraProfile} (rgb : BitVec 24)
    (h : p.width ≤ w.col ∨ 2048 ≤ s.cam.buf.length) : s.takePixel p w rgb = s.withFrameRejected w :=
  (if_pos h).trans (s.rejectFrame_eq w)

theorem State.takePixel_joins {s : State} {w : Writing} {p : CameraProfile} (rgb : BitVec 24) (hcol : w.col < p.width)
    (hbuf : s.cam.buf.length < 2048) :
    s.takePixel p w rgb =
      s.setCam { s.cam with
                 buf := s.cam.buf ++ [0xFF#8 ++ rgb], bursts := s.cam.bursts ++ burstAt p w.slot (w.lines - 1) w.col,
                 writing := some { w with
                   col := w.col + 1,
                   outstanding := w.outstanding + (burstAt p w.slot (w.lines - 1) w.col).length } } :=
  if_neg (by show ¬(p.width ≤ w.col ∨ 2048 ≤ s.cam.buf.length); omega)

/-- Settles O54, row by row. -/
theorem cameraPixelRows : Obligations.CameraPixelRows := by
  intro s w p rgb hw hp
  refine ⟨fun hpassed hopen hlines => ?_, fun hpassed hopen hlines => ?_, fun hopen hcol hbuf => ?_, fun hopen hbeyond => ?_,
    fun hopen hcol => ?_, fun hopen hcol => ?_⟩
  · rw [exec_cameraLineStart hw hp hpassed hopen, if_neg (by omega)]
  · rw [exec_cameraLineStart hw hp hpassed hopen, if_pos hlines]
  · refine ⟨_, burstAt p w.slot (w.lines - 1) w.col, exec_cameraPixel hw hp rgb hopen, ?_⟩
    rw [State.takePixel_joins rgb hcol hbuf]
    exact ⟨rfl, rfl, fun h => if_pos h, fun h => if_neg h⟩
  · rw [exec_cameraPixel hw hp rgb hopen, State.takePixel_rejects rgb hbeyond]
  · rw [exec_cameraLineEnd hw hp hopen, if_neg (by omega)]
  · rw [exec_cameraLineEnd hw hp hopen, if_pos hcol]

/-! ### The end of a frame, and its bursts (R101, R102, R105) -/

section
variable {s : State} {w : Writing} {p : CameraProfile} (hw : s.cam.writing = some w) (hp : s.camProfile = some p)
  (hpassed : w.passed = false)
include hw hp hpassed

/-- R101: an open line that is short ends the frame's storing. -/
theorem exec_cameraFrameEnd_short (hopen : w.lineOpen = true) (hcol : w.col < p.width) :
    exec .cameraFrameEnd s = .next (s.withFrameRejected w) := by
  change execCameraFrameEnd s = _
  unfold execCameraFrameEnd
  simp only [hw, hp, hpassed, hopen, hcol, State.rejectFrame_eq]
  rfl

theorem exec_cameraFrameEnd_checked (hline : w.lineOpen = true → p.width ≤ w.col) :
    exec .cameraFrameEnd s = .next (s.checkFrame p { w with lineOpen := false }) := by
  have hwhole : (w.lineOpen && decide (w.col < p.width)) = false := by
    cases hopen : w.lineOpen with
    | false => rfl
    | true => simpa using hline hopen
  change execCameraFrameEnd s = _
  unfold execCameraFrameEnd
  simp only [hw, hp, hpassed, hwhole]
  rfl

end

theorem State.checkFrame_rejects {s : State} {p : CameraProfile} {w : Writing} (h : w.lines < p.height) :
    s.checkFrame p w = s.withFrameRejected w := (if_pos h).trans (s.rejectFrame_eq w)

theorem State.checkFrame_completes {s : State} {p : CameraProfile} {w : Writing} (h : p.height ≤ w.lines)
    (hout : w.outstanding = 0) : s.checkFrame p w = s.completeCamera w :=
  (if_neg (Nat.not_lt.mpr h)).trans (if_pos hout)

theorem State.checkFrame_waits {s : State} {p : CameraProfile} {w : Writing} (h : p.height ≤ w.lines)
    (hout : w.outstanding ≠ 0) :
    s.checkFrame p w = s.setCam { s.cam with writing := some { w with passed := true } } :=
  (if_neg (Nat.not_lt.mpr h)).trans (if_neg hout)

section
variable {s : State} {f : Flight} {n : Nat} (hf : s.dueFlight = some f) (ho : f.owner = .camera n)
include hf ho

theorem exec_cameraBurstComplete_dead (hdead : f.live = false) (err : Bool) :
    exec (.cameraBurstComplete err) s = .next s.popFlight := by
  change execCameraBurstComplete err s = _
  unfold execCameraBurstComplete
  simp only [hf, ho, hdead]
  cases s.cam.writing <;> rfl

variable {w : Writing} (hlive : f.live = true) (hw : s.cam.writing = some w)
include hlive hw

theorem exec_cameraBurstComplete_error :
    exec (.cameraBurstComplete true) s = .next (s.popFlight.countFetchError.withFrameRejected w) := by
  change execCameraBurstComplete true s = _
  unfold execCameraBurstComplete
  simp only [hf, ho, hlive, hw, State.rejectFrame_eq]
  rfl

/-- R105: a burst is back, and with the last one of a frame that has passed its check the frame completes. -/
theorem exec_cameraBurstComplete_back :
    exec (.cameraBurstComplete false) s =
      .next (if w.passed = true ∧ w.outstanding - 1 = 0 then
          s.popFlight.completeCamera { w with outstanding := w.outstanding - 1 }
        else s.popFlight.setCam { s.cam with writing := some { w with outstanding := w.outstanding - 1 } }) := by
  change execCameraBurstComplete false s = _
  unfold execCameraBurstComplete
  simp only [hf, ho, hlive, hw, Bool.and_eq_true, beq_iff_eq]
  exact (apply_ite Host.Outcome.next _ _ _).symm

end

/-- Settles O55: the check at the frame's end, and a burst's completion dead, in error, or counted. -/
theorem cameraFrameCompletes : Obligations.CameraFrameCompletes := by
  refine ⟨fun s w p hw hp hpassed => ⟨exec_cameraFrameEnd_short hw hp hpassed, fun hline hlines hout => ?_,
      fun hline hlines hout => ?_, fun hlines => ?_⟩,
    fun err s f n hf ho hdead => exec_cameraBurstComplete_dead hf ho hdead err,
    fun s f n w hf ho hlive hw => ⟨fun hpassed hout => ?_, fun hmore => ?_, exec_cameraBurstComplete_error hf ho hlive hw⟩⟩
  · rw [exec_cameraFrameEnd_checked hw hp hpassed hline,
      State.checkFrame_completes (w := { w with lineOpen := false }) hlines hout]
    rfl
  · rw [exec_cameraFrameEnd_checked hw hp hpassed hline,
      State.checkFrame_waits (w := { w with lineOpen := false }) hlines hout]
    rfl
  · by_cases hshort : w.lineOpen = true ∧ w.col < p.width
    · exact exec_cameraFrameEnd_short hw hp hpassed hshort.1 hshort.2
    · rw [exec_cameraFrameEnd_checked hw hp hpassed fun hopen => Nat.not_lt.mp fun hcol => hshort ⟨hopen, hcol⟩,
        State.checkFrame_rejects (w := { w with lineOpen := false }) hlines]
      rfl
  · rw [exec_cameraBurstComplete_back hf ho hlive hw, if_pos ⟨hpassed, by omega⟩]; rfl
  · rw [exec_cameraBurstComplete_back hf ho hlive hw, if_neg]
    · rfl
    · rintro ⟨hpassed, hlast⟩
      rcases hmore with h | h
      · rw [hpassed] at h; cases h
      · omega

end Sys2Proof.Machine
end

section
/-! PROOFS. The camera work of a centre blank event, GUIDE's part of it and the report it raises (R106, R110, R114, R121,
R122, R177, R178). O37. -/

namespace Sys2Proof.Machine

open Sys2Proof

/-! ### CAM and RVC (R106, R110) -/

/-- RVC after the camera work of a blank event (R110 step 3). -/
def RvcState.blanked (r : RvcState) (made shown : Bool) : RvcState :=
  match r.phase with
  | .engaging => if shown && r.fresh then { r with phase := .showing, engage := none } else r
  | .lost => if made then { r with phase := .showing } else r
  | .off | .showing | .releasing => r

theorem State.blankTransition_eq (s : State) (made shown : Bool) :
    s.blankTransition made shown =
      { s with
        rvc := s.rvc.blanked made shown
        load := { s.load with
          causes := if (s.rvc.blanked made shown).phase = s.rvc.phase then s.load.causes
            else s.load.causes ||| 0x004#10 } } := by
  unfold State.blankTransition RvcState.blanked
  cases hp : s.rvc.phase with
  | engaging =>
    dsimp only
    split
    · rw [State.rvcEnter_eq]; rfl
    · rfl
  | lost =>
    dsimp only
    split
    · rw [State.rvcEnter_eq]; rfl
    · rfl
  | off => dsimp only; rw [hp]; rfl
  | showing => dsimp only; rw [hp]; rfl
  | releasing => dsimp only; rw [hp]; rfl

/-- CAM after a centre blank event of `s`, with whether a slot has been made SHOWING (R106). -/
def State.blankCam (s : State) : CamState × Bool :=
  s.cam.blank (if s.rvc.phase = .off then .host else .rear) s.rvc.fresh

/-- RVC after a centre blank event of `s`. -/
def State.blankRvc (s : State) : RvcState := s.rvc.blanked s.blankCam.2 s.blankCam.1.shown.isSome

theorem State.viewSet_view (s : State) (ha : Nat) :
    (s.viewSet ha).centre.view = if s.rvc.phase = .off then .host else .rear := by
  have hrvc : ((s.setDisplay .centre (s.disp.c.atLine ha true)).adoptStaged .centre).rvc = s.rvc :=
    State.adoptStaged_rvc _ _
  show (if (((s.setDisplay .centre _).adoptStaged .centre).rvc.phase != .off) = true then View.rear else .host) = _
  rw [hrvc]
  cases s.rvc.phase <;> rfl

theorem State.viewSet_cam (s : State) (ha : Nat) : (s.viewSet ha).cam = s.cam := by
  rw [State.viewSet, State.setView_cam, State.adoptStaged_cam]; rfl

/-- R110: the camera work of a blank event, for the view that it sets. -/
theorem State.cameraWork_eq (s : State) (ha : Nat) :
    (s.viewSet ha).cameraWork =
      { s.viewSet ha with
        cam := s.blankCam.1
        rvc := s.blankRvc
        load := { s.load with
          causes := if s.blankRvc.phase = s.rvc.phase then s.load.causes else s.load.causes ||| 0x004#10 } } := by
  have hcam : (s.viewSet ha).cam.blank (s.viewSet ha).centre.view (s.viewSet ha).rvc.fresh = s.blankCam := by
    rw [State.viewSet_view, State.viewSet_cam, State.viewSet_rvc]; rfl
  unfold State.cameraWork
  rw [hcam, State.blankTransition_eq, State.setCam_rvc, State.setCam_load, State.viewSet_rvc, State.viewSet_load]
  rfl

section
variable {s : State}

theorem State.blankCam_off (h : s.rvc.phase = .off) : s.blankCam = (s.cam.hideSlot, false) := by
  unfold State.blankCam; rw [if_pos h]; rfl

theorem State.blankCam_stale (h : s.rvc.phase ≠ .off) (hf : s.rvc.fresh = false) : s.blankCam = (s.cam, false) := by
  unfold State.blankCam; rw [if_neg h, hf]; rfl

theorem State.blankCam_shows (h : s.rvc.phase ≠ .off) (hf : s.rvc.fresh = true) {j : Nat}
    (hj : s.cam.laterComplete = some j) : s.blankCam = (s.cam.showSlot j, true) := by
  unfold State.blankCam CamState.blank; rw [if_neg h, hf, hj]; rfl

theorem State.blankCam_none (h : s.rvc.phase ≠ .off) (hj : s.cam.laterComplete = none) : s.blankCam = (s.cam, false) := by
  unfold State.blankCam CamState.blank; rw [if_neg h, hj]
  cases s.rvc.fresh <;> rfl

/-- R110: out of OFF a slot is made SHOWING where a frame is fresh and a later one is COMPLETE. -/
theorem State.blankCam_made (h : s.rvc.phase ≠ .off) :
    s.blankCam.2 = true ↔ s.rvc.fresh = true ∧ s.cam.laterComplete.isSome = true := by
  cases hj : s.cam.laterComplete with
  | none => rw [State.blankCam_none h hj]; simp
  | some j =>
    cases hf : s.rvc.fresh with
    | false => rw [State.blankCam_stale h hf]; simp
    | true => rw [State.blankCam_shows h hf hj]; simp

theorem State.blankRvc_engaging (h : s.rvc.phase = .engaging) :
    s.blankRvc = if s.blankCam.1.shown.isSome = true ∧ s.rvc.fresh = true then
      { s.rvc with phase := .showing, engage := none } else s.rvc := by
  unfold State.blankRvc RvcState.blanked; rw [h]; simp only [Bool.and_eq_true]

theorem State.blankRvc_lost (h : s.rvc.phase = .lost) :
    s.blankRvc = if s.rvc.fresh = true ∧ s.cam.laterComplete.isSome = true then { s.rvc with phase := .showing }
      else s.rvc := by
  have hmade := s.blankCam_made (by rw [h]; nofun)
  unfold State.blankRvc RvcState.blanked; rw [h]; simp only [hmade]

theorem State.blankRvc_kept (h : s.rvc.phase = .off ∨ s.rvc.phase = .showing ∨ s.rvc.phase = .releasing) :
    s.blankRvc = s.rvc := by
  unfold State.blankRvc RvcState.blanked
  rcases h with h | h | h <;> rw [h]

end

/-! ### A report falls due (R177, R178) -/

/-- The page does not show the report in flight, nor LOAD's slot. -/
theorem State.statusPage_setLoad (s : State) (l : LoadState) (r : Option Report) (w : Option LoadReq) :
    (s.setLoad { l with report := r, slot := w }).statusPage = (s.setLoad l).statusPage := rfl

theorem State.reportDue_frame (s : State) :
    s.reportDue.load =
      { s.load with
        reportSeq := s.reportDue.load.reportSeq, report := s.reportDue.load.report, slot := s.reportDue.load.slot,
        skipped := s.reportDue.load.skipped } := by
  unfold State.reportDue
  split
  · split
    · rfl
    · dsimp only
      rw [State.setLoad_load, LoadState.present_eq]; rfl
  · rfl

theorem State.reportDue_idle {s : State} (h : s.load.begun = false) : s.reportDue = s := if_neg (by rw [h]; nofun)

theorem State.reportDue_skips {s : State} (hb : s.load.begun = true) {r : Report} (hr : s.load.report = some r) :
    s.reportDue.load = { s.load with skipped := min (s.load.skipped + 1) 65535 } := by
  unfold State.reportDue
  rw [if_pos hb, hr]; rfl

/-- R177: with no report in flight one is formed, of the page as it then stands. -/
theorem State.reportDue_forms {s : State} (hb : s.load.begun = true) (hr : s.load.report = none) :
    s.reportDue.load.reportSeq = s.load.reportSeq + 1 ∧ s.reportDue.load.skipped = s.load.skipped ∧
      s.reportDue.load.report =
        some { page := s.reportDue.statusPage, granted := 0, back := 0, err := false,
               carried := s.reportDue.load.causes } ∧
      (s.load.slot = none → s.reportDue.load.slot = some (.reportBurst 0)) ∧
      (∀ w, s.load.slot = some w → s.reportDue.load.slot = some w) := by
  obtain ⟨u, hu⟩ : ∃ u, u = s.setLoad { s.load with reportSeq := s.load.reportSeq + 1 } := ⟨_, rfl⟩
  obtain ⟨r, hr'⟩ : ∃ r : Report,
      r = { page := u.statusPage, granted := 0, back := 0, err := false, carried := u.load.causes } := ⟨_, rfl⟩
  have hdue : s.reportDue = u.setLoad (LoadState.present { u.load with report := some r }) := by
    rw [hr', hu]
    unfold State.reportDue
    rw [if_pos hb, hr]
  obtain ⟨l, hl⟩ : ∃ l : LoadState, l = { u.load with report := some r } := ⟨_, rfl⟩
  rw [← hl] at hdue
  have hslot : l.slot = s.load.slot := by rw [hl, hu]; rfl
  have hreport : l.report = some r := by rw [hl]
  have hpage : s.reportDue.statusPage = u.statusPage := by
    rw [hdue, l.present_eq, hl]
    exact u.statusPage_setLoad u.load _ _
  have hcauses : s.reportDue.load.causes = u.load.causes := by rw [hdue, State.setLoad_load, l.present_eq, hl]
  refine ⟨?_, ?_, ?_, fun hs => ?_, fun w hs => ?_⟩
  · rw [hdue, State.setLoad_load, l.present_eq, hl, hu]; rfl
  · rw [hdue, State.setLoad_load, l.present_eq, hl, hu]; rfl
  · rw [hpage, hcauses, ← hr', hdue, State.setLoad_load, l.present_eq, hl]
  · rw [hdue, State.setLoad_load]
    have hgranted : r.granted = 0 := by rw [hr']
    rw [(LoadState.present_empty (hslot.trans hs)).1 r hreport (by rw [hgranted]; decide), hgranted]
  · have hkept : l.present = l := by unfold LoadState.present; rw [hslot, hs]
    rw [hdue, State.setLoad_load, hkept]
    exact hslot.trans hs

/-! ### The event -/

/-- The state of a centre blank event whose report falls due: the record is latched, GUIDE has done its part (R121). -/
def State.centreGuided (s : State) (ha : Nat) : State :=
  (s.centreLatched ha).setGuide
    ((s.centreLatched ha).guide.blank ((s.centreLatched ha).rvc.phase == .showing) (s.centreLatched ha).link.snapshot)

theorem exec_centreBlankEvent {s : State} {tm : DispTiming} (ht : s.timing .centre = some tm)
    (hr : s.disp.c.running = true) : exec .centreBlankEvent s = .next (s.centreGuided tm.ha).reportDue := by
  change execCentreBlankEvent s = _
  unfold execCentreBlankEvent
  rw [ht]
  exact if_pos hr

section
variable (s : State) (ha : Nat)

theorem State.centreGuided_cam : (s.centreGuided ha).cam = s.blankCam.1 := by
  rw [State.centreGuided, State.setGuide_cam, State.centreLatched, State.latchFrame_cam]
  exact congrArg State.cam (s.cameraWork_eq ha)

theorem State.centreGuided_rvc : (s.centreGuided ha).rvc = s.blankRvc := by
  rw [State.centreGuided, State.setGuide_rvc, State.centreLatched_rvc, State.cameraWork_eq]

theorem State.centreGuided_load :
    (s.centreGuided ha).load =
      { s.load with
        causes := if s.blankRvc.phase = s.rvc.phase then s.load.causes else s.load.causes ||| 0x004#10 } := by
  rw [State.centreGuided, State.setGuide_load, State.centreLatched_load, State.cameraWork_eq]

/-- R121, R122: GUIDE builds from the snapshot of the steering where RVC is SHOWING, and empties its front table elsewhere. -/
theorem State.centreGuided_guide :
    (s.centreGuided ha).guide =
      if s.blankRvc.phase = .showing then
        { s.guide with
          build := some { angle := s.link.angle, valid := s.link.valid, stale := s.link.steering.stale },
          work := 0, back := SpanTable.empty, waiting := false }
      else { s.guide with front := SpanTable.empty } := by
  have hguide : (s.centreLatched ha).guide = s.guide := by
    rw [State.centreLatched, State.latchFrame_guide]
    refine (congrArg State.guide (s.cameraWork_eq ha)).trans ?_
    rw [State.viewSet]; simp
  have hlink : (s.centreLatched ha).link = s.link := by
    rw [State.centreLatched, State.latchFrame_link]
    refine (congrArg State.link (s.cameraWork_eq ha)).trans ?_
    rw [State.viewSet]; simp
  have hrvc : (s.centreLatched ha).rvc = s.blankRvc := s.centreGuided_rvc ha
  rw [State.centreGuided, State.setGuide_guide, hguide, hlink, hrvc]
  unfold GuideState.blank
  by_cases h : s.blankRvc.phase = .showing
  · rw [if_pos h, if_pos (by rw [h]; rfl)]; rfl
  · rw [if_neg h, if_neg (by simpa using h)]

end

/-- R114: the base choice of the record a blank event latches, by the slot then SHOWING. -/
theorem centreBlankEvent_camBase {s t : State} {tm : DispTiming} (ht : s.timing .centre = some tm)
    (hr : s.disp.c.running = true) (hexec : exec .centreBlankEvent s = .next t) (hc : t.cam.Sound) :
    ∃ fr, t.disp.c.frame = some fr ∧ (t.rvc.phase = .engaging → fr.camBase = .engagingFill) ∧
      (t.rvc.phase = .lost → fr.camBase = .unavailableFill) ∧
      (∀ k, t.cam.slot k = .showing → t.rvc.phase = .showing → fr.camBase = .slot k) ∧
      (∀ k, t.cam.slot k = .showing → t.rvc.phase = .releasing → t.rvc.fresh = true → fr.camBase = .slot k) ∧
      (t.rvc.phase = .releasing → t.rvc.fresh = false ∨ (∀ k, t.cam.slot k ≠ .showing) →
        fr.camBase = .unavailableFill) := by
  obtain ⟨u, hu, -, -, -, -, -, -, -, -, -, -, -, -, -, -, -, -, -, -, -, -, -, hframe, -⟩ := centreBlankEventTaken s tm ht hr
  cases hexec.symm.trans hu
  obtain ⟨fr, hfr, -, -, -, -, -, hfill, hslot, hgone⟩ := hframe
  refine ⟨fr, hfr, fun h => hfill (.inr h), fun h => hgone (.inl h), fun k hk h => hslot k (hc.shown_eq hk) (.inl h),
    fun k hk h hf => hslot k (hc.shown_eq hk) (.inr ⟨h, hf⟩), fun h hno => hgone (.inr (.inr ⟨h, ?_⟩))⟩
  exact hno.imp_right CamState.shown_none.mpr

/-- Settles O37: the slots, RVC, GUIDE and the report part by part. -/
theorem centreBlankCameraWork : Obligations.CentreBlankCameraWork := by
  intro s tm ht hr hc
  have hexec := exec_centreBlankEvent ht hr
  obtain ⟨u, hu⟩ : ∃ u, u = s.centreGuided tm.ha := ⟨_, rfl⟩
  obtain ⟨t, hts⟩ : ∃ t, t = u.reportDue := ⟨_, rfl⟩
  rw [← hu, ← hts] at hexec
  have hcam : t.cam = s.blankCam.1 := by rw [hts, State.reportDue_cam, hu, State.centreGuided_cam]
  have hrvc : t.rvc = s.blankRvc := by rw [hts, State.reportDue_rvc, hu, State.centreGuided_rvc]
  have hguide := s.centreGuided_guide tm.ha
  rw [← hu, ← u.reportDue_guide, ← hts, ← hrvc] at hguide
  have hload := s.centreGuided_load tm.ha
  rw [← hu, ← hrvc] at hload
  have hbegun : u.load.begun = s.load.begun := by rw [hload]
  have hreport : u.load.report = s.load.report := by rw [hload]
  refine ⟨t, hexec, fun j => CamState.Sound.laterComplete_iff hc j, fun h => ?off, fun h hf => ?stale,
    fun j h hf hj => ?shows, fun h hj => ?none, fun h => ?engaging, fun h => ?lost, fun h => ?kept, fun h => ?built,
    fun h => ?emptied, centreBlankEvent_camBase ht hr hexec (exec_cameraSound hc hexec),
    fun hb => ⟨?frame, fun hn => ?formed, fun hn => ?skipped⟩, fun hb => ?idle⟩
  case off =>
    obtain ⟨hslots, harr⟩ := CamState.Sound.hideSlot_spec hc
    rw [hcam, hrvc, State.blankCam_off h]
    exact ⟨hslots, harr, State.blankRvc_kept (.inl h)⟩
  case stale => rw [hcam, State.blankCam_stale h hf]
  case shows =>
    have hlt : j < s.cam.slots.length :=
      CamState.slot_lt (by rw [((CamState.Sound.laterComplete_iff hc j).mp hj).1]; nofun)
    rw [hcam, State.blankCam_shows h hf hj]
    exact ⟨by rw [CamState.showSlot_eq], CamState.showSlot_slot hlt⟩
  case none => rw [hcam, State.blankCam_none h hj]
  case engaging => rw [hrvc, hcam, State.blankRvc_engaging h]
  case lost => rw [hrvc, State.blankRvc_lost h]
  case kept => rw [hrvc, State.blankRvc_kept (.inr h)]
  case built => rw [hguide, if_pos h]
  case emptied => rw [hguide, if_neg h]
  case frame =>
    have h := u.reportDue_frame
    rw [← hts, hload] at h
    exact h
  case formed =>
    have h := State.reportDue_forms (hbegun.trans hb) (hreport.trans hn)
    rw [← hts, hload] at h
    exact h
  case skipped =>
    obtain ⟨r, hsome⟩ := Option.ne_none_iff_exists'.mp hn
    have h := State.reportDue_skips (hbegun.trans hb) (hreport.trans hsome)
    rw [← hts, hload] at h
    rw [h]
    exact ⟨rfl, rfl, rfl, rfl⟩
  case idle =>
    rw [hts, State.reportDue_idle (hbegun.trans hb), hload]
    exact ⟨rfl, rfl⟩

end Sys2Proof.Machine
end

section
/-! PROOFS. The rows of a span table: what an insertion does to a row, and R134 of every row it leaves. -/

namespace Sys2Proof.Machine

open Sys2Proof

/-! ### Spans of one band (R135) -/

/-- Two spans that R134 lets stand in one row: of different bands, or with a column between them. -/
def Span.Apart (a b : Span) : Prop := a.band = b.band → a.e + 1 < b.s ∨ b.e + 1 < a.s

/-- R135: the span that two spans of one band make together. -/
def Span.join (n x : Span) : Span := { s := min n.s x.s, e := max n.e x.e, band := n.band }

theorem Span.Apart.symm {a b : Span} (h : a.Apart b) : b.Apart a := fun hband => (h hband.symm).symm

theorem Span.meets_eq_false {n x : Span} : n.meets x = false ↔ n.Apart x := by
  simp only [Span.meets, Span.Apart, Bool.and_eq_false_imp, beq_iff_eq, decide_eq_false_iff_not, eq_comm (a := x.band)]
  exact imp_congr_right fun _ => by omega

theorem Span.meets_iff {n x : Span} : n.meets x = true ↔ x.band = n.band ∧ x.s ≤ n.e + 1 ∧ n.s ≤ x.e + 1 := by
  simp [Span.meets]

theorem Span.join_ordered {n : Span} (hn : n.s ≤ n.e) (x : Span) : (n.join x).s ≤ (n.join x).e :=
  (Nat.min_le_left ..).trans (hn.trans (Nat.le_max_left ..))

/-- R135: joining a span of the row to the new one brings no other span of that row nearer to it. -/
theorem Span.join_meets {n x y : Span} (hy : y.s ≤ y.e) (hm : n.meets x = true)
    (hxy : x.Apart y) : (n.join x).meets y = n.meets y := by
  obtain ⟨hband, hbelow, habove⟩ := Span.meets_iff.mp hm
  rw [Bool.eq_iff_iff, Span.meets_iff, Span.meets_iff]
  refine and_congr_right fun hby => ?_
  have hgap := hxy (hband.trans hby.symm)
  simp only [Span.join]
  omega

theorem foldl_join (n : Span) (l : List Span) :
    l.foldl Span.join n =
      { s := l.foldl (fun z x => min z x.s) n.s, e := l.foldl (fun z x => max z x.e) n.e, band := n.band } := by
  induction l generalizing n with
  | nil => rfl
  | cons x l ih => exact ih (n.join x)

theorem foldl_join_ordered {n : Span} (hn : n.s ≤ n.e) (l : List Span) : (l.foldl Span.join n).s ≤ (l.foldl Span.join n).e := by
  induction l generalizing n with
  | nil => exact hn
  | cons x l ih => exact ih (n.join_ordered hn x)

theorem foldl_join_lt {n : Span} {w : Nat} (hn : n.e < w) {l : List Span} (hl : ∀ x ∈ l, x.e < w) :
    (l.foldl Span.join n).e < w := by
  induction l generalizing n with
  | nil => exact hn
  | cons x l ih =>
    obtain ⟨hx, hrest⟩ := List.forall_mem_cons.mp hl
    exact ih (max_lt hn hx) hrest

/-! ### Merging (R135 step 1) -/

/-- R135: no span that the merging leaves in the row meets the merged one. -/
theorem absorb_apart {fuel : Nat} {row : List Span} {n : Span} (hfuel : row.length ≤ fuel) :
    ∀ y ∈ (absorb fuel row n).1, (absorb fuel row n).2.Apart y := by
  induction fuel generalizing row n with
  | zero => rw [List.length_eq_zero_iff.mp (Nat.le_zero.mp hfuel)]; nofun
  | succ fuel ih =>
    unfold absorb
    split
    next hnone => exact fun y hy => Span.meets_eq_false.mp (Bool.eq_false_iff.mpr (List.find?_eq_none.mp hnone y hy))
    next x hsome =>
      refine ih ?_
      rw [List.length_erase_of_mem (List.mem_of_find?_eq_some hsome)]
      omega

/-- R135: in a row within R134 the merging takes out exactly the spans that meet the new one, and joins them to it. -/
theorem absorb_eq {fuel : Nat} {row : List Span} {n : Span} (hfuel : row.length ≤ fuel) (hn : n.s ≤ n.e)
    (hord : ∀ x ∈ row, x.s ≤ x.e) (hapart : row.Pairwise Span.Apart) :
    absorb fuel row n = (row.filter (fun x => !n.meets x), (row.filter n.meets).foldl Span.join n) := by
  induction fuel generalizing row n with
  | zero => rw [List.length_eq_zero_iff.mp (Nat.le_zero.mp hfuel)]; rfl
  | succ fuel ih =>
    unfold absorb
    split
    next hnone =>
      have hno : ∀ x ∈ row, n.meets x = false := fun x hx => Bool.eq_false_iff.mpr (List.find?_eq_none.mp hnone x hx)
      rw [List.filter_eq_self.mpr fun x hx => by simp [hno x hx], List.filter_eq_nil_iff.mpr fun x hx => by simp [hno x hx]]
      rfl
    next x hsome =>
      obtain ⟨hmeets, as, bs, rfl, has⟩ := List.find?_eq_some_iff_append.mp hsome
      have hxas : x ∉ as := fun hx => by simpa [hmeets] using has x hx
      obtain ⟨-, hrest⟩ := List.forall_mem_cons.mp fun y hy => hord y (List.perm_middle.mem_iff.mpr hy)
      obtain ⟨hxapart, hpairs⟩ :=
        List.pairwise_cons.mp ((List.perm_middle.pairwise_iff fun h => Span.Apart.symm h).mp hapart)
      have hsame : ∀ y ∈ as ++ bs, (n.join x).meets y = n.meets y := fun y hy =>
        Span.join_meets (hrest y hy) hmeets (hxapart y hy)
      have hnone : as.filter n.meets = [] := List.filter_eq_nil_iff.mpr fun y hy => by simpa using has y hy
      rw [List.erase_append_right _ hxas, List.erase_cons_head]
      refine (ih (n := n.join x) (by simp at hfuel ⊢; omega) (n.join_ordered hn x) hrest hpairs).trans ?_
      rw [List.filter_congr fun y hy => congrArg (!·) (hsame y hy), List.filter_congr hsame]
      simp [hmeets, hnone]

/-! ### The order of a row (R134) -/

theorem insertSpan_eq (n : Span) (row : List Span) :
    ∃ pre post, row = pre ++ post ∧ insertSpan n row = pre ++ n :: post := by
  induction row with
  | nil => exact ⟨[], [], rfl, rfl⟩
  | cons x row ih =>
    unfold insertSpan
    split
    · obtain ⟨pre, post, hrow, hins⟩ := ih
      exact ⟨x :: pre, post, by rw [hrow]; rfl, by rw [hins]; rfl⟩
    · exact ⟨[], x :: row, rfl, rfl⟩

theorem Span.before_iff {a b : Span} : a.before b = true ↔ a.s < b.s ∨ (a.s = b.s ∧ a.band ≤ b.band) := by
  simp [Span.before]

theorem insertSpan_sorted {row : List Span} (n : Span) (h : row.Pairwise (fun a b => a.before b = true)) :
    (insertSpan n row).Pairwise (fun a b => a.before b = true) := by
  induction row with
  | nil => exact List.pairwise_singleton _ _
  | cons x row ih =>
    obtain ⟨hx, hrow⟩ := List.pairwise_cons.mp h
    unfold insertSpan
    split
    next hxn =>
      refine List.pairwise_cons.mpr ⟨fun y hy => ?_, ih hrow⟩
      rcases List.mem_cons.mp ((insertSpan_perm n row).mem_iff.mp hy) with rfl | hy
      · exact hxn
      · exact hx y hy
    next hxn =>
      have hnx : n.before x = true := by rw [Span.before_iff] at hxn ⊢; omega
      refine List.pairwise_cons.mpr ⟨List.forall_mem_cons.mpr ⟨hnx, fun y hy => ?_⟩, h⟩
      have hxy := hx y hy
      rw [Span.before_iff] at hnx hxy ⊢
      omega

/-! ### An insertion (R135, R136) -/

/-- A span that R133 lets into a row: not reversed, of band 1, 2, 3 or 4 (R134). -/
def Span.Ok (n : Span) : Prop := n.s ≤ n.e ∧ 1 ≤ n.band ∧ n.band ≤ 4

theorem SpanRow.sound_iff {r : SpanRow} :
    r.Sound ↔ r.spans.length ≤ 6 ∧ r.spans.Pairwise (fun a b => a.before b = true) ∧ (∀ a ∈ r.spans, a.Ok) ∧
      r.spans.Pairwise Span.Apart := Iff.rfl

/-- What an insertion leaves of a row beside the new span (R135). -/
def SpanRow.kept (r : SpanRow) (n : Span) : List Span := r.spans.filter (fun x => !n.meets x)

/-- The new span with those it meets (R135). -/
def SpanRow.merged (r : SpanRow) (n : Span) : Span := (r.spans.filter n.meets).foldl Span.join n

section
variable {r : SpanRow} {n : Span}

theorem SpanRow.absorb_eq (hr : r.Sound) (hn : n.s ≤ n.e) : absorb r.spans.length r.spans n = (r.kept n, r.merged n) := by
  obtain ⟨-, -, hok, hapart⟩ := SpanRow.sound_iff.mp hr
  exact Machine.absorb_eq le_rfl hn (fun x hx => (hok x hx).1) hapart

/-- R135: a row with room takes the merged span at its place. -/
theorem SpanRow.insert_room (hr : r.Sound) (hn : n.s ≤ n.e) (h : (r.kept n).length < 6) :
    r.insert n = { r with spans := insertSpan (r.merged n) (r.kept n) } := by
  simp only [SpanRow.insert, SpanRow.absorb_eq hr hn, if_pos h]

/-- R136: a row with 6 spans left beside the new one is marked overfull and stays. -/
theorem SpanRow.insert_full (hr : r.Sound) (hn : n.s ≤ n.e) (h : 6 ≤ (r.kept n).length) :
    r.insert n = { r with overfull := true } := by
  simp only [SpanRow.insert, SpanRow.absorb_eq hr hn, if_neg (Nat.not_lt.mpr h)]

theorem SpanRow.merged_eq (r : SpanRow) (n : Span) :
    r.merged n =
      { s := (r.spans.filter n.meets).foldl (fun z x => min z x.s) n.s,
        e := (r.spans.filter n.meets).foldl (fun z x => max z x.e) n.e, band := n.band } := foldl_join _ _

theorem SpanRow.merged_ok (r : SpanRow) (hn : n.Ok) : (r.merged n).Ok := by
  obtain ⟨hord, hband⟩ := hn
  exact ⟨foldl_join_ordered hord _, by rw [r.merged_eq]; exact hband⟩

theorem SpanRow.merged_apart (hr : r.Sound) (hn : n.s ≤ n.e) : ∀ y ∈ r.kept n, (r.merged n).Apart y := by
  have h := absorb_apart (row := r.spans) (n := n) le_rfl
  rwa [SpanRow.absorb_eq hr hn] at h

theorem SpanRow.insert_sound (hr : r.Sound) (hn : n.Ok) : (r.insert n).Sound := by
  rcases Nat.lt_or_ge (r.kept n).length 6 with hroom | hfull
  · rw [SpanRow.insert_room hr hn.1 hroom]
    obtain ⟨-, hord, hok, hapart⟩ := SpanRow.sound_iff.mp hr
    have hperm := insertSpan_perm (r.merged n) (r.kept n)
    refine SpanRow.sound_iff.mpr ⟨hperm.length_eq.trans_le hroom, insertSpan_sorted _ (hord.filter _), fun a ha => ?_, ?_⟩
    · rcases List.mem_cons.mp (hperm.mem_iff.mp ha) with rfl | ha
      · exact r.merged_ok hn
      · exact hok a (List.mem_of_mem_filter ha)
    · exact (hperm.pairwise_iff fun h => Span.Apart.symm h).mpr
        (List.pairwise_cons.mpr ⟨SpanRow.merged_apart hr hn.1, hapart.filter _⟩)
  · rw [SpanRow.insert_full hr hn.1 hfull]
    exact hr

theorem SpanRow.insert_lt {w : Nat} (hr : r.Sound) (hn : n.s ≤ n.e) (hw : ∀ a ∈ r.spans, a.e < w) (hnw : n.e < w) :
    ∀ a ∈ (r.insert n).spans, a.e < w := by
  rcases Nat.lt_or_ge (r.kept n).length 6 with hroom | hfull
  · rw [SpanRow.insert_room hr hn hroom]
    intro a ha
    rcases List.mem_cons.mp ((insertSpan_perm _ _).mem_iff.mp ha) with rfl | ha
    · exact foldl_join_lt hnw fun x hx => hw x (List.mem_of_mem_filter hx)
    · exact hw a (List.mem_of_mem_filter ha)
  · rw [SpanRow.insert_full hr hn hfull]
    exact hw

end

end Sys2Proof.Machine
end

section
/-! PROOFS. The candidates of a build and the table they give (R129 to R136), and what the rows do to the span tables. O12. -/

namespace Sys2Proof.Machine

open Sys2Proof

/-! ### The bands of the candidates (R129, R132) -/

theorem rowStack_band {w band : Nat} {v c0 c1 : Int} {x : Candidate} (h : x ∈ rowStack w v c0 c1 band) : x.band = band := by
  obtain ⟨i, -, rfl⟩ := List.mem_map.mp h
  rfl

theorem segment_band {w cw ch band : Nat} {p q : ImgPoint} {x : Candidate} (h : x ∈ segment w cw ch p q band) :
    x.band = band := by
  unfold segment at h
  dsimp only at h
  split at h
  · exact rowStack_band h
  · split at h
    · obtain ⟨v, -, rfl⟩ := List.mem_map.mp h
      rfl
    · obtain ⟨u, -, hx⟩ := List.mem_flatMap.mp h
      exact rowStack_band hx

/-- A band of R134: 1, 2, 3, or 4 in static mode. -/
def Candidate.Banded (x : Candidate) : Prop := 1 ≤ x.band ∧ x.band ≤ 4

theorem bandOf_range (g : GuideProfile) (isStatic : Bool) (s : Nat) : 1 ≤ bandOf g isStatic s ∧ bandOf g isStatic s ≤ 4 := by
  unfold bandOf
  split_ifs <;> decide

theorem edgeCandidates_banded {g : GuideProfile} {cw ch : Nat} {isStatic : Bool} {pts : Nat → Option ImgPoint}
    {x : Candidate} (h : x ∈ edgeCandidates g cw ch isStatic pts) : x.Banded := by
  obtain ⟨i, -, hx⟩ := List.mem_flatMap.mp h
  split at hx
  · unfold Candidate.Banded
    rw [segment_band hx]
    exact bandOf_range ..
  · cases hx

theorem marker_band {g : GuideProfile} {kappa : Int} {lb b : Nat} {x : Candidate} (h : x ∈ marker g kappa lb b) :
    x.band = b := by
  unfold marker at h
  split at h
  · split at h
    · obtain ⟨i, -, rfl⟩ := List.mem_map.mp h
      rfl
    · cases h
  · cases h

theorem candidates_banded {g : GuideProfile} {c : CameraProfile} {n : Snapshot} {x : Candidate}
    (h : x ∈ candidates g c n) : x.Banded := by
  unfold candidates at h
  rcases List.mem_append.mp h with hedge | hmarker
  · exact (List.mem_append.mp hedge).elim edgeCandidates_banded edgeCandidates_banded
  · unfold Candidate.Banded
    split at hmarker
    · cases hmarker
    · simp only [List.mem_append] at hmarker
      rcases hmarker with (h | h) | h <;> rw [marker_band h] <;> decide

theorem insertedBy_banded {g : GuideProfile} {c : CameraProfile} {n : Snapshot} {work : Nat} :
    ∀ x ∈ insertedBy g c n work, x.Banded := fun _ hx => candidates_banded (List.mem_of_mem_take hx)

/-! ### Clipping (R133) -/

theorem clipTo_eq (cw : Nat) (x : Candidate) :
    clipTo cw x = if max x.s 0 ≤ min x.e ((cw : Int) - 1) then
        some { s := (max x.s 0).toNat, e := (min x.e ((cw : Int) - 1)).toNat, band := x.band }
      else none := by
  simp only [clipTo, ← Int.not_le, ite_not]

theorem clipTo_ok {cw : Nat} {x : Candidate} {a : Span} (hx : x.Banded) (h : clipTo cw x = some a) : a.Ok ∧ a.e < cw := by
  rw [clipTo_eq] at h
  split at h
  · obtain rfl := Option.some.inj h
    exact ⟨⟨by dsimp only; omega, hx⟩, by dsimp only; omega⟩
  · cases h

/-! ### The table of a build (R120, R134, R136) -/

/-- A row of a table of an image `w` columns wide: within R134, and within the image. -/
def SpanRow.Fits (w : Nat) (r : SpanRow) : Prop := r.Sound ∧ ∀ a ∈ r.spans, a.e < w

theorem SpanRow.empty_fits (w : Nat) : SpanRow.empty.Fits w :=
  ⟨SpanRow.sound_iff.mpr ⟨Nat.zero_le 6, .nil, List.forall_mem_nil _, .nil⟩, List.forall_mem_nil _⟩

theorem SpanRow.insert_fits {w : Nat} {r : SpanRow} {a : Span} (hr : r.Fits w) (ha : a.Ok ∧ a.e < w) :
    (r.insert a).Fits w := by
  obtain ⟨hsound, hlt⟩ := hr
  obtain ⟨hok, hw⟩ := ha
  exact ⟨SpanRow.insert_sound hsound hok, SpanRow.insert_lt hsound hok.1 hlt hw⟩

theorem buildRow_fits (w : Nat) {cands : List Candidate} (h : ∀ x ∈ cands, x.Banded) (r : Nat) :
    (buildRow w cands r).Fits w := by
  refine List.foldlRecOn _ _ (SpanRow.empty_fits w) fun row hrow x hx => ?_
  split
  next a ha => exact SpanRow.insert_fits hrow (clipTo_ok (h x (List.mem_of_mem_filter hx)) ha)
  next => exact hrow

theorem buildTable_fits {c : CameraProfile} (n : Snapshot) {cands : List Candidate} (h : ∀ x ∈ cands, x.Banded) :
    ∀ r ∈ (buildTable c n cands).rows, r.Fits c.width := by
  intro r hr
  obtain ⟨i, -, rfl⟩ := List.mem_map.mp hr
  exact buildRow_fits c.width h i

theorem buildTable_length (c : CameraProfile) (n : Snapshot) (cands : List Candidate) :
    (buildTable c n cands).rows.length = c.height := by
  simp [buildTable]

theorem buildTable_overfull (c : CameraProfile) (n : Snapshot) (cands : List Candidate) :
    (buildTable c n cands).overfullRows = (buildTable c n cands).rows.countP (·.overfull) :=
  List.countP_eq_length_filter.symm

theorem buildTable_sound {c : CameraProfile} (n : Snapshot) {cands : List Candidate} (h : ∀ x ∈ cands, x.Banded) :
    (buildTable c n cands).Sound :=
  ⟨fun r hr => (buildTable_fits n h r hr).1, buildTable_overfull c n cands⟩

/-! ### The span tables (R120, R134) -/

/-- What `SpansSound` says of one of the two tables: it is within R134, and within the profile's image once there is a
profile, and empty before. -/
def SpanTable.Fits (profile : Option Profile) (t : SpanTable) : Prop :=
  t.Sound ∧ (profile = none → t.rows = []) ∧ ∀ p, profile = some p → t.Within p.cam

theorem spansSound_iff {s : State} :
    SpansSound s ↔ s.guide.front.Fits s.boot.profile ∧ s.guide.back.Fits s.boot.profile := by
  unfold SpansSound SpanTable.Fits
  constructor
  · rintro ⟨hfront, hback, hnone, hsome⟩
    exact ⟨⟨hfront, fun h => (hnone h).1, fun p h => (hsome p h).1⟩, ⟨hback, fun h => (hnone h).2, fun p h => (hsome p h).2⟩⟩
  · rintro ⟨⟨hfront, hnone, hsome⟩, ⟨hback, hnone', hsome'⟩⟩
    exact ⟨hfront, hback, fun h => ⟨hnone h, hnone' h⟩, fun p h => ⟨hsome p h, hsome' p h⟩⟩

/-- A table with no rows fits every image. -/
theorem SpanTable.fits_of_noRows {t : SpanTable} (ht : t.Sound) (h : t.rows = []) (profile : Option Profile) :
    t.Fits profile :=
  ⟨ht, fun _ => h, fun _ _ => ⟨.inl h, by rw [h]; nofun⟩⟩

theorem SpanTable.empty_fits (profile : Option Profile) : SpanTable.empty.Fits profile :=
  SpanTable.fits_of_noRows ⟨List.forall_mem_nil _, rfl⟩ rfl profile

theorem buildTable_fits_profile {p : Profile} (n : Snapshot) {cands : List Candidate} (h : ∀ x ∈ cands, x.Banded) :
    (buildTable p.cam n cands).Fits (some p) := by
  refine ⟨buildTable_sound n h, nofun, fun q hq => ?_⟩
  obtain rfl := Option.some.inj hq
  exact ⟨.inr (buildTable_length ..), fun r hr => (buildTable_fits n h r hr).2⟩

/-! ### GUIDE (R121, R124, R125) -/

/-- Both tables of GUIDE fit the profile. -/
def GuideState.Fits (profile : Option Profile) (g : GuideState) : Prop := g.front.Fits profile ∧ g.back.Fits profile

section
variable {g : GuideState} {profile : Option Profile}

theorem GuideState.init_fits (profile : Option Profile) : GuideState.init.Fits profile :=
  ⟨SpanTable.empty_fits _, SpanTable.empty_fits _⟩

theorem GuideState.blank_fits (h : g.Fits profile) (showing : Bool) (n : Snapshot) : (g.blank showing n).Fits profile := by
  obtain ⟨hfront, hback⟩ := h
  unfold GuideState.blank
  split
  · exact ⟨hfront, SpanTable.empty_fits _⟩
  · exact ⟨SpanTable.empty_fits _, hback⟩

theorem GuideState.active_fits (h : g.Fits profile) : (g.active profile).Fits profile := by
  obtain ⟨hfront, hback⟩ := h
  unfold GuideState.active
  split
  next n _ =>
    refine ⟨hfront, ?_⟩
    cases profile with
    | none => exact hback
    | some p => exact buildTable_fits_profile n insertedBy_banded
  next =>
    split
    · exact ⟨hback, hfront⟩
    · exact ⟨hfront, hback⟩

theorem GuideState.completed_fits (h : g.Fits profile) : (g.completed profile).Fits profile := by
  unfold GuideState.completed
  split
  next n p _ => exact ⟨h.1, buildTable_fits_profile n fun _ hx => candidates_banded hx⟩
  next => exact h

end

/-! ### The rows -/

/-- What a row or a reference tick makes of GUIDE: it starts anew at power-on, and elsewhere only its three events (R121,
R124, R125) touch the span tables. -/
inductive GuideStep (s : State) : GuideState → Prop
  | kept {g : GuideState} (front : g.front = s.guide.front) (back : g.back = s.guide.back) : GuideStep s g
  | reset : GuideStep s GuideState.init
  | blank (showing : Bool) (n : Snapshot) : GuideStep s (s.guide.blank showing n)
  | active : GuideStep s (s.guide.active s.boot.profile)
  | completed : GuideStep s (s.guide.completed s.boot.profile)

theorem GuideStep.fits {s : State} {g : GuideState} (h : GuideStep s g) (hs : s.guide.Fits s.boot.profile) :
    g.Fits s.boot.profile := by
  cases h with
  | kept front back => unfold GuideState.Fits; rw [front, back]; exact hs
  | reset => exact GuideState.init_fits _
  | blank showing n => exact GuideState.blank_fits hs showing n
  | active => exact GuideState.active_fits hs
  | completed => exact GuideState.completed_fits hs

theorem State.advance_guideStep (s : State) (n : Nat) : GuideStep s (s.advance n).guide := by
  rw [s.advance_guide]
  split <;> exact .kept rfl rfl

theorem exec_centreBlankEvent_guideStep {s t : State} (h : exec .centreBlankEvent s = .next t) : GuideStep s t.guide := by
  cases ht : s.timing .centre with
  | none =>
    simp only [exec, execCentreBlankEvent, ht] at h
    injection h with h; rw [← h]; exact .kept rfl rfl
  | some tm =>
    cases hr : s.disp.c.running with
    | false =>
      simp only [exec, execCentreBlankEvent, ht, hr] at h
      injection h with h; rw [← h]; exact .kept rfl rfl
    | true =>
      rw [exec_centreBlankEvent ht hr] at h
      injection h with h
      rw [← h, State.reportDue_guide, State.centreGuided_guide]
      split
      · exact .blank true _
      · exact .blank false s.link.snapshot

theorem exec_guideStep {c : Instr} {s t : State} (h : exec c s = .next t) : GuideStep s t.guide := by
  cases c with
  | powerOnReset => injection h with h; rw [← h]; exact .reset
  | clockCheckEnd e =>
    simp only [exec, execClockCheckEnd] at h
    split at h
    · split at h <;> (injection h with h; rw [← h])
      · rw [State.startReferenceBlocks_guide]; exact s.advance_guideStep e
      · exact s.advance_guideStep e
    · injection h with h; rw [← h]; exact .kept rfl rfl
  | cameraFrameStart e =>
    simp only [exec, execCameraFrameStart] at h
    split at h <;> (injection h with h; rw [← h]; exact s.advance_guideStep e)
  | centreBlankEvent => exact exec_centreBlankEvent_guideStep h
  | centreActiveEvent =>
    simp only [exec, execCentreActiveEvent] at h
    split at h <;> (injection h with h; rw [← h])
    · rw [State.noteUrgent_guide]; exact .active
    · exact .kept rfl rfl
  | guideBuildComplete =>
    simp only [exec, execGuideBuildComplete] at h
    injection h with h; rw [← h]; exact .completed
  | _ => rw [exec_frame h]; exact .kept rfl rfl

/-! ### Every step -/

/-- R185: the profile comes when no table has a row yet. -/
theorem exec_cameraRegionDefine_spansSound {s t : State} (h : exec .cameraRegionDefine s = .next t) (hs : SpansSound s)
    (hbefore : BeforeRunning s) : SpansSound t := by
  rcases exec_cameraRegionDefine_cases h with rfl | ⟨hread, -⟩
  · exact hs
  · obtain ⟨hnone, -⟩ := hbefore (by rw [hread]; nofun)
    obtain ⟨⟨hfront, hf, -⟩, ⟨hback, hb, -⟩⟩ := spansSound_iff.mp hs
    rw [spansSound_iff, congrArg State.guide (exec_frame h)]
    exact ⟨SpanTable.fits_of_noRows hfront (hf hnone) _, SpanTable.fits_of_noRows hback (hb hnone) _⟩

theorem exec_spansSound {c : Instr} {s t : State} (hs : SpansSound s) (hbefore : BeforeRunning s)
    (h : exec c s = .next t) : SpansSound t := by
  by_cases hreset : c = .powerOnReset
  · subst hreset
    injection h with h
    rw [← h]
    exact spansSound_iff.mpr (GuideState.init_fits _)
  by_cases hdefine : c = .cameraRegionDefine
  · subst hdefine
    exact exec_cameraRegionDefine_spansSound h hs hbefore
  rw [spansSound_iff, exec_profile h hreset hdefine]
  exact (exec_guideStep h).fits (spansSound_iff.mp hs)

theorem SpansSound.advance {s : State} (hs : SpansSound s) (n : Nat) : SpansSound (s.advance n) := by
  have hprofile : (s.advance n).boot.profile = s.boot.profile := by rw [s.advance_boot]; split <;> rfl
  rw [spansSound_iff, hprofile]
  exact (s.advance_guideStep n).fits (spansSound_iff.mp hs)

/-- Settles O12: the rows by `exec_spansSound`, the passing of time by `SpansSound.advance`. -/
theorem stepKeepsSpans : Obligations.StepKeepsSpans := by
  intro s t ⟨hs, hbefore⟩ h
  unfold step at h
  split at h
  next =>
    injection h with h
    exact h ▸ hs.advance 1
  next c rest _ => exact exec_spansSound (s := s.setPending rest) hs hbefore h

end Sys2Proof.Machine
end

section
/-! PROOFS. Division to the nearest (00_scope 1.6) and the curvature of a steered build (R126). O60. -/

namespace Sys2Proof.Machine

open Sys2Proof

/-! ### Division to the nearest (00_scope 1.6) -/

theorem roundDiv_zero (d : Int) : roundDiv 0 d = 0 := by
  have hq : (2 * (0 : Int).natAbs + d.natAbs) / (2 * d.natAbs) = 0 := by
    rw [Int.natAbs_zero, Nat.mul_zero, Nat.zero_add, Nat.div_eq_zero_iff]
    omega
  simp only [roundDiv, hq, Nat.cast_zero, Int.neg_zero, ite_self]

/-- The multiple of the divisor that division to the nearest takes has the sign of the dividend. -/
theorem roundDiv_mul (n : Int) {d : Int} (hd : d ≠ 0) :
    roundDiv n d * d = n.sign * ((2 * n.natAbs + d.natAbs) / (2 * d.natAbs) * d.natAbs : Nat) := by
  rcases lt_trichotomy n 0 with hn | rfl | hn <;> rcases lt_or_gt_of_ne hd with hd | hd
  · simp [roundDiv, Int.sign_eq_neg_one_of_neg hn, Int.sign_eq_neg_one_of_neg hd, abs_of_neg hd]
  · simp [roundDiv, Int.sign_eq_neg_one_of_neg hn, Int.sign_eq_one_of_pos hd, abs_of_pos hd]
  · simp [roundDiv_zero]
  · simp [roundDiv_zero]
  · simp [roundDiv, Int.sign_eq_one_of_pos hn, Int.sign_eq_neg_one_of_neg hd, abs_of_neg hd]
  · simp [roundDiv, Int.sign_eq_one_of_pos hn, Int.sign_eq_one_of_pos hd, abs_of_pos hd]

/-- 00_scope 1.6: the quotient is a nearest one, and of two nearest the one further from zero. -/
theorem roundDiv_nearest (n : Int) {d : Int} (hd : d ≠ 0) :
    2 * (n - roundDiv n d * d).natAbs ≤ d.natAbs ∧
      (2 * (n - roundDiv n d * d).natAbs = d.natAbs → n.natAbs ≤ (roundDiv n d * d).natAbs) := by
  have hmul := roundDiv_mul n hd
  generalize roundDiv n d * d = z at hmul ⊢
  have hpos : 0 < 2 * d.natAbs := by omega
  have hlow := Nat.div_mul_le_self (2 * n.natAbs + d.natAbs) (2 * d.natAbs)
  have hup := Nat.lt_div_mul_add (a := 2 * n.natAbs + d.natAbs) hpos
  rw [Nat.mul_left_comm] at hlow hup
  generalize (2 * n.natAbs + d.natAbs) / (2 * d.natAbs) * d.natAbs = m at hmul hlow hup
  rcases lt_trichotomy n 0 with hn | rfl | hn
  · rw [Int.sign_eq_neg_one_of_neg hn] at hmul; omega
  · rw [Int.sign_zero] at hmul; omega
  · rw [Int.sign_eq_one_of_pos hn] at hmul; omega

theorem roundDiv_le {n a d : Int} (hd : 0 < d) (h : n ≤ a * d) : roundDiv n d ≤ a := by
  obtain ⟨hnear, -⟩ := roundDiv_nearest n hd.ne'
  by_contra hlt
  have hstep : (a + 1) * d ≤ roundDiv n d * d := Int.mul_le_mul_of_nonneg_right (by omega) hd.le
  rw [Int.add_mul] at hstep
  omega

theorem le_roundDiv {n a d : Int} (hd : 0 < d) (h : a * d ≤ n) : a ≤ roundDiv n d := by
  obtain ⟨hnear, -⟩ := roundDiv_nearest n hd.ne'
  by_contra hlt
  have hstep : roundDiv n d * d ≤ (a - 1) * d := Int.mul_le_mul_of_nonneg_right (by omega) hd.le
  rw [Int.sub_mul] at hstep
  omega

theorem roundDiv_mul_self (a : Int) {d : Int} (hd : 0 < d) : roundDiv (a * d) d = a :=
  le_antisymm (roundDiv_le hd le_rfl) (le_roundDiv hd le_rfl)

/-- Linear interpolation with the exact product stays between its ends. -/
theorem interpolate_between (a b : Int) {f d : Int} (hd : 0 < d) (hf : 0 ≤ f) (hfd : f ≤ d) :
    min a b ≤ a + roundDiv ((b - a) * f) d ∧ a + roundDiv ((b - a) * f) d ≤ max a b := by
  rcases le_total a b with h | h
  · have hlow : 0 ≤ roundDiv ((b - a) * f) d := le_roundDiv hd (by
      rw [Int.zero_mul]; exact Int.mul_nonneg (by omega) hf)
    have hup : roundDiv ((b - a) * f) d ≤ b - a := roundDiv_le hd (Int.mul_le_mul_of_nonneg_left hfd (by omega))
    omega
  · have hup : roundDiv ((b - a) * f) d ≤ 0 := roundDiv_le hd (by
      rw [Int.zero_mul]; exact Int.mul_nonpos_of_nonpos_of_nonneg (by omega) hf)
    have hlow : b - a ≤ roundDiv ((b - a) * f) d := le_roundDiv hd (Int.mul_le_mul_of_nonpos_left (by omega) hfd)
    omega

/-! ### The curvature (R122, R126) -/

theorem clampAngle_range (a : Int) : -7800 ≤ clampAngle a ∧ clampAngle a ≤ 7800 := by
  unfold clampAngle clampInt
  omega

/-- R126: the knot of K below an angle, the last but one for the greatest angle. -/
def knotBelow (a : Int) : Nat := if (a + 7800) / 975 = 16 then 15 else ((a + 7800) / 975).toNat

theorem knotBelow_spec {a : Int} (h : -7800 ≤ a) (h' : a ≤ 7800) :
    knotBelow a ≤ 15 ∧ 0 ≤ a + 7800 - 975 * knotBelow a ∧ a + 7800 - 975 * knotBelow a ≤ 975 := by
  unfold knotBelow
  split <;> omega

/-- R126: between its knots the curvature is interpolated. -/
theorem curvature_eq (k : List Int) {a : Int} (h : -7800 ≤ a) :
    curvature k a = k.getD (knotBelow a) 0 +
      roundDiv ((k.getD (knotBelow a + 1) 0 - k.getD (knotBelow a) 0) * (a + 7800 - 975 * knotBelow a)) 975 := by
  have ht : ((a + 7800).toNat : Int) = a + 7800 := Int.toNat_of_nonneg (by omega)
  have hknot : (if (a + 7800).toNat / 975 = 16 then 15 else (a + 7800).toNat / 975) = knotBelow a := by
    unfold knotBelow
    split_ifs <;> omega
  simp only [curvature, hknot, ht]

/-- R126: at a knot the curvature is the knot's. -/
theorem curvature_knot (k : List Int) {j : Nat} (hj : j ≤ 16) : curvature k (975 * j - 7800) = k.getD j 0 := by
  rw [curvature_eq k (by omega)]
  rcases Nat.lt_or_eq_of_le hj with hlt | rfl
  · have hknot : knotBelow (975 * j - 7800) = j := by
      unfold knotBelow
      split_ifs <;> omega
    rw [hknot, Int.sub_add_cancel, Int.sub_self, Int.mul_zero, roundDiv_zero, Int.add_zero]
  · rw [show knotBelow (975 * (16 : Nat) - 7800) = 15 from rfl]
    have hlast := roundDiv_mul_self (k.getD 16 0 - k.getD 15 0) (d := 975) (by decide)
    refine (congrArg (k.getD 15 0 + ·) hlast).trans ?_
    omega

theorem Snapshot.kappa_steered {n : Snapshot} (hs : n.stale = false) (hv : n.valid = true) (g : GuideProfile) :
    n.kappa g = curvature g.k (clampAngle n.angle) := by
  simp [Snapshot.kappa, Snapshot.isStatic, hs, hv]

/-- Settles O60: the knot below the angle, the interpolation between it and the next, and the knots themselves. -/
theorem curvatureInterpolates : Obligations.CurvatureInterpolates := by
  intro n g hs hv
  obtain ⟨hlow, hup⟩ := clampAngle_range n.angle
  obtain ⟨hi, hf0, hf1⟩ := knotBelow_spec hlow hup
  have hknots : ∀ j : Nat, j ≤ 16 → clampAngle n.angle = 975 * j - 7800 → n.kappa g = g.k.getD j 0 := fun j hj ha => by
    rw [Snapshot.kappa_steered hs hv, ha, curvature_knot g.k hj]
  have heq := (Snapshot.kappa_steered hs hv g).trans (curvature_eq g.k hlow)
  obtain ⟨hmin, hmax⟩ := interpolate_between (g.k.getD (knotBelow (clampAngle n.angle)) 0)
    (g.k.getD (knotBelow (clampAngle n.angle) + 1) 0) (by decide : (0 : Int) < 975) hf0 hf1
  refine ⟨hi, hf0, hf1, heq, heq ▸ hmin, heq ▸ hmax, fun h => ?_, fun h => ?_, hknots⟩
  · have ha : clampAngle n.angle = 7800 := by unfold clampAngle clampInt; omega
    exact ⟨by rw [ha]; rfl, by rw [ha]; rfl, hknots 16 (by decide) ha⟩
  · have ha : clampAngle n.angle = -7800 := by unfold clampAngle clampInt; omega
    exact ⟨by rw [ha]; rfl, by rw [ha]; rfl, hknots 0 (by decide) ha⟩

end Sys2Proof.Machine
end

section
/-! PROOFS. A build that completes (R120, R123, R124, R127 to R136): the points, the pixels of segments and markers, the
candidates in drawing order, and the insertion. O59. -/

namespace Sys2Proof.Machine

open Sys2Proof

/-! ### The points of an edge (R127, R128) -/

theorem clampInt_eq {lo hi : Int} (h : lo ≤ hi) (x : Int) :
    clampInt lo hi x = if x < lo then lo else if hi < x then hi else x := by
  unfold clampInt
  split_ifs <;> omega

theorem clampAngle_eq (a : Int) : clampAngle a = if a < -7800 then -7800 else if 7800 < a then 7800 else a :=
  clampInt_eq (by decide) a

/-- R127, R128: the two points of a distance, each clamped where the rules clamp. -/
theorem edgePoints_eq (g : GuideProfile) (kappa : Int) (s : Nat) :
    let xc := roundDiv (kappa * ((s * s : Nat) : Int)) 33554432
    let at32 : Int → Int := fun x => if x < -32768 then -32768 else if 32767 < x then 32767 else x
    let edge : Int → Int := fun x => if x < -32767 then -32767 else if 32767 < x then 32767 else x
    let y : Int := ((g.yb + s : Nat) : Int)
    let image : Int → Option ImgPoint := fun x =>
      let den := g.c1 * x + g.c2 * y + g.c3
      if den ≤ 0 then none
      else some { u := at32 (roundDiv (g.a1 * x + g.a2 * y + g.a3) den),
                  v := at32 (roundDiv (g.b1 * x + g.b2 * y + g.b3) den) }
    edgePoints g kappa s =
      (image (edge (xc - ((g.w / 2 : Nat) : Int))), image (edge (xc + ((g.w / 2 : Nat) : Int)))) := by
  intro xc at32 edge y image
  have hpoint : (fun x => clampInt (-32768) 32767 x) = at32 := funext fun x => clampInt_eq (by decide) x
  have hedge : (fun x => clampInt (-32767) 32767 x) = edge := funext fun x => clampInt_eq (by decide) x
  have hproject : (fun x => project g x y) = image := by
    funext x
    simp only [image, ← hpoint]
    rfl
  simp only [← hedge, ← hproject]
  rfl

/-! ### The pixels of a segment (R130, R131) -/

theorem visited_up {a b : Int} (h : a ≤ b) (hi : Nat) :
    visited a b hi = (List.range (min b ((hi : Int) - 1) - max a 0 + 1).toNat).map (fun i : Nat => max a 0 + (i : Int)) := by
  simp only [visited, if_pos h]
  exact (congrArg _ List.map_eq_flatMap.symm).trans List.map_map

theorem visited_down {a b : Int} (h : b < a) (hi : Nat) :
    visited a b hi =
      (List.range (min a ((hi : Int) - 1) - max b 0 + 1).toNat).map (fun i : Nat => min a ((hi : Int) - 1) - (i : Int)) := by
  simp only [visited, if_neg (Int.not_le.mpr h)]
  exact (congrArg _ List.map_eq_flatMap.symm).trans List.map_map

theorem mem_visited {a b v : Int} {hi : Nat} :
    v ∈ visited a b hi ↔ min a b ≤ v ∧ v ≤ max a b ∧ 0 ≤ v ∧ v < (hi : Int) := by
  rcases lt_or_ge b a with h | h
  · simp only [visited_down h, List.mem_map, List.mem_range]
    exact ⟨fun ⟨i, hi, hv⟩ => by omega, fun hv => ⟨(min a ((hi : Int) - 1) - v).toNat, by omega, by omega⟩⟩
  · simp only [visited_up h, List.mem_map, List.mem_range]
    exact ⟨fun ⟨i, hi, hv⟩ => by omega, fun hv => ⟨(v - max a 0).toNat, by omega, by omega⟩⟩

theorem visited_ascending {a b : Int} (h : a ≤ b) (hi : Nat) : (visited a b hi).Pairwise (· < ·) := by
  rw [visited_up h, List.pairwise_map]
  exact List.pairwise_lt_range.imp fun hlt => by omega

theorem visited_descending {a b : Int} (h : b < a) (hi : Nat) : (visited a b hi).Pairwise (fun x y => y < x) := by
  rw [visited_down h, List.pairwise_map]
  exact List.pairwise_lt_range.imp fun hlt => by omega

theorem mem_rowStack {w band : Nat} {v c0 c1 : Int} {x : Candidate} :
    x ∈ rowStack w v c0 c1 band ↔
      ∃ i : Nat, i < w ∧ x = { row := lineStart w v + (i : Int), s := c0, e := c1, band := band } := by
  simp only [rowStack, List.mem_map, List.mem_range, eq_comm]

theorem rowStack_ascending (w band : Nat) (v c0 c1 : Int) :
    (rowStack w v c0 c1 band).Pairwise (fun x y => x.row < y.row) := by
  simp only [rowStack, List.pairwise_map]
  exact List.pairwise_lt_range.imp fun hlt => by omega

section
variable {w cw ch band : Nat} {a b : ImgPoint}

/-- The columns of a segment's line at row `v`, where the segment is at least as high as wide (R130). -/
def steepSpan (w band : Nat) (a b : ImgPoint) (v : Int) : Candidate :=
  { row := v, s := lineStart w (a.u + roundDiv ((v - a.v) * (b.u - a.u)) (b.v - a.v)),
    e := lineStart w (a.u + roundDiv ((v - a.v) * (b.u - a.u)) (b.v - a.v)) + (w : Int) - 1, band := band }

/-- The rows of a segment's line at column `u`, where the segment is wider than high (R131). -/
def flatStack (w band : Nat) (a b : ImgPoint) (u : Int) : List Candidate :=
  rowStack w (a.v + roundDiv ((u - a.u) * (b.v - a.v)) (b.u - a.u)) u u band

theorem segment_point : segment w cw ch a a band =
    rowStack w a.v (lineStart w a.u) (lineStart w a.u + (w : Int) - 1) band := by
  simp only [segment, Int.sub_self, and_self, if_true]

theorem segment_steep (hne : a ≠ b) (h : (b.u - a.u).natAbs ≤ (b.v - a.v).natAbs) :
    segment w cw ch a b band = (visited a.v b.v ch).map (steepSpan w band a b) := by
  have hmoves : ¬(b.u - a.u = 0 ∧ b.v - a.v = 0) := fun ⟨hu, hv⟩ => hne (by
    cases a; cases b; simp only [ImgPoint.mk.injEq] at hu hv ⊢; omega)
  simp only [segment, if_neg hmoves, if_pos h]
  rfl

theorem segment_flat (h : (b.v - a.v).natAbs < (b.u - a.u).natAbs) :
    segment w cw ch a b band = (visited a.u b.u cw).flatMap (flatStack w band a b) := by
  have hmoves : ¬(b.u - a.u = 0 ∧ b.v - a.v = 0) := by omega
  simp only [segment, if_neg hmoves, if_neg (Nat.not_le.mpr h)]
  rfl

theorem mem_segment_steep (hne : a ≠ b) (h : (b.u - a.u).natAbs ≤ (b.v - a.v).natAbs) {x : Candidate} :
    x ∈ segment w cw ch a b band ↔ ∃ v : Int, min a.v b.v ≤ v ∧ v ≤ max a.v b.v ∧ 0 ≤ v ∧ v < (ch : Int) ∧
      x = steepSpan w band a b v := by
  simp only [segment_steep hne h, List.mem_map, mem_visited, and_assoc, eq_comm]

theorem mem_segment_flat (h : (b.v - a.v).natAbs < (b.u - a.u).natAbs) {x : Candidate} :
    x ∈ segment w cw ch a b band ↔ ∃ (u : Int) (i : Nat), min a.u b.u ≤ u ∧ u ≤ max a.u b.u ∧ 0 ≤ u ∧
      u < (cw : Int) ∧ i < w ∧
      x = { row := lineStart w (a.v + roundDiv ((u - a.u) * (b.v - a.v)) (b.u - a.u)) + (i : Int), s := u, e := u,
            band := band } := by
  simp only [segment_flat h, List.mem_flatMap, flatStack, mem_rowStack, mem_visited, and_assoc, exists_and_left]

/-- R130, R131: a segment is drawn from its first point to its last. -/
theorem segment_steep_order (hne : a ≠ b) (h : (b.u - a.u).natAbs ≤ (b.v - a.v).natAbs) :
    (a.v ≤ b.v → (segment w cw ch a b band).Pairwise (fun x y => x.row < y.row)) ∧
      (b.v < a.v → (segment w cw ch a b band).Pairwise (fun x y => y.row < x.row)) := by
  simp only [segment_steep hne h, List.pairwise_map]
  exact ⟨fun hv => visited_ascending hv ch, fun hv => visited_descending hv ch⟩

/-- The stacks of a flat segment follow one another as its columns do, each from its first row to its last. -/
theorem flatStacks_order {R : Int → Int → Prop} {us : List Int} (h : us.Pairwise R) :
    (us.flatMap (flatStack w band a b)).Pairwise (fun x y => R x.s y.s ∨ (x.s = y.s ∧ x.row < y.row)) := by
  have hcol : ∀ {u : Int} {x : Candidate}, x ∈ flatStack w band a b u → x.s = u := fun hx => by
    obtain ⟨i, -, rfl⟩ := mem_rowStack.mp hx
    rfl
  refine List.pairwise_flatMap.mpr ⟨fun u _ => ?_, h.imp fun hR x hx y hy => .inl ?_⟩
  · refine (rowStack_ascending ..).imp_of_mem fun {x y} hx hy hrow => .inr ⟨?_, hrow⟩
    exact (hcol (u := u) hx).trans (hcol hy).symm
  · rwa [hcol hx, hcol hy]

theorem segment_flat_order (h : (b.v - a.v).natAbs < (b.u - a.u).natAbs) :
    (a.u ≤ b.u →
        (segment w cw ch a b band).Pairwise (fun x y => x.s < y.s ∨ (x.s = y.s ∧ x.row < y.row))) ∧
      (b.u < a.u → (segment w cw ch a b band).Pairwise (fun x y => y.s < x.s ∨ (x.s = y.s ∧ x.row < y.row))) := by
  rw [segment_flat h]
  exact ⟨fun hu => flatStacks_order (visited_ascending hu cw), fun hu => flatStacks_order (visited_descending hu cw)⟩

end

/-! ### The candidates in drawing order (R123, R129, R132) -/

theorem Snapshot.isStatic_iff (n : Snapshot) : n.isStatic = true ↔ n.stale = true ∨ n.valid = false := by
  simp [Snapshot.isStatic]

theorem Snapshot.bandOf_eq (n : Snapshot) (g : GuideProfile) (s : Nat) :
    bandOf g n.isStatic s =
      if n.stale = true ∨ n.valid = false then 4 else if s < g.l1 then 1 else if s < g.l2 then 2 else 3 := by
  simp only [bandOf, n.isStatic_iff]

/-- R132: a marker bar is drawn where its limit is a sampled distance whose points are both valid. -/
theorem marker_eq (g : GuideProfile) (kappa : Int) (lb b : Nat) :
    marker g kappa lb b =
      match edgePoints g kappa lb with
      | (some l, some r) =>
        if lb % 250 = 0 ∧ lb ≤ g.smax then
          (List.range g.markerHeight).map (fun (i : Nat) =>
            { row := l.v + (i : Int), s := min l.u r.u, e := max l.u r.u, band := b })
        else []
      | _ => [] := by
  rcases h : edgePoints g kappa lb with ⟨_ | l, _ | r⟩ <;> simp [marker, h]

theorem Snapshot.kappa_static {n : Snapshot} (h : n.isStatic = true) (g : GuideProfile) : n.kappa g = 0 := by
  rw [Snapshot.kappa, if_pos h]

/-- R129: the candidates of the left edge, then those of the right edge. -/
def edgesOf (g : GuideProfile) (c : CameraProfile) (n : Snapshot) : List Candidate :=
  edgeCandidates g c.width c.height n.isStatic (fun s => (edgePoints g (n.kappa g) s).1) ++
    edgeCandidates g c.width c.height n.isStatic (fun s => (edgePoints g (n.kappa g) s).2)

theorem candidates_static {n : Snapshot} (h : n.isStatic = true) (g : GuideProfile) (c : CameraProfile) :
    candidates g c n = edgesOf g c n := by
  simp only [candidates, edgesOf, if_pos h, List.append_nil]

theorem candidates_steered {n : Snapshot} (h : ¬n.isStatic = true) (g : GuideProfile) (c : CameraProfile) :
    candidates g c n =
      edgesOf g c n ++ (marker g (n.kappa g) g.l1 1 ++ marker g (n.kappa g) g.l2 2 ++ marker g (n.kappa g) g.l3 3) := by
  simp only [candidates, edgesOf, if_neg h]

/-! ### The completion (R120, R123, R124, R133) -/

theorem buildRow_eq (cw : Nat) (cands : List Candidate) (r : Nat) :
    buildRow cw cands r =
      (cands.filter (fun x => x.row == (r : Int))).foldl
        (fun (row : SpanRow) x =>
          if max x.s 0 ≤ min x.e ((cw : Int) - 1) then
            row.insert { s := (max x.s 0).toNat, e := (min x.e ((cw : Int) - 1)).toNat, band := x.band }
          else row) { spans := [], overfull := false } := by
  unfold buildRow SpanRow.empty
  congr 1
  funext row x
  rw [clipTo_eq]
  split_ifs <;> rfl

theorem buildTable_row (c : CameraProfile) (n : Snapshot) (cands : List Candidate) {r : Nat} (hr : r < c.height) :
    (buildTable c n cands).rows[r]? = some (buildRow c.width cands r) := by
  simp [buildTable, hr]

theorem buildTable_angle (c : CameraProfile) (n : Snapshot) (cands : List Candidate) :
    (buildTable c n cands).angle = (if n.stale = true ∨ n.valid = false then 0
      else if n.angle < -7800 then -7800 else if 7800 < n.angle then 7800 else n.angle) := by
  simp only [buildTable, n.isStatic_iff, clampAngle_eq]

/-- R124: what a completion leaves in GUIDE. -/
theorem exec_guideBuildComplete {s : State} {n : Snapshot} {p : Profile} (hb : s.guide.build = some n)
    (hp : s.boot.profile = some p) :
    exec .guideBuildComplete s = .next (s.setGuide
      { s.guide with
        build := none, work := 0, back := buildTable p.cam n (candidates p.guide p.cam n), waiting := true }) := by
  simp only [exec, execGuideBuildComplete, GuideState.completed, hb, hp]

/-! ### The statement -/

/-- R135, R136: where the insertion puts the merged span, and the mark where there is no room. -/
theorem SpanRow.insert_spec {r : SpanRow} {n : Span} (hr : r.Sound) (hn : n.s ≤ n.e) :
    ((r.kept n).length < 6 → (r.insert n).overfull = r.overfull ∧
      ∃ pre post, r.kept n = pre ++ post ∧ (r.insert n).spans = pre ++ r.merged n :: post) ∧
    (6 ≤ (r.kept n).length → r.insert n = { r with overfull := true }) := by
  refine ⟨fun hroom => ?_, SpanRow.insert_full hr hn⟩
  rw [SpanRow.insert_room hr hn hroom]
  exact ⟨rfl, insertSpan_eq _ _⟩

/-- Settles O59: the completion, division to the nearest, the points, the candidates, the segments and the insertion. -/
theorem guideBuildCompleted : Obligations.GuideBuildCompleted := by
  refine ⟨fun s n p hb hp => ?completion, fun n d hd => roundDiv_nearest n hd, edgePoints_eq, fun g c n => ?drawing,
    fun w cw ch a b band _ => ⟨?point, fun hne h => ⟨fun x => mem_segment_steep hne h, segment_steep_order hne h⟩,
      fun h => ⟨fun x => mem_segment_flat h, segment_flat_order h⟩⟩, fun r n hr hn h1 h4 => ?insertion⟩
  case completion =>
    have hbanded : ∀ x ∈ candidates p.guide p.cam n, x.Banded := fun _ => candidates_banded
    exact ⟨_, exec_guideBuildComplete hb hp, rfl, rfl, rfl, rfl, rfl, buildTable_length .., buildTable_sound n hbanded, rfl,
      buildTable_angle .., buildTable_overfull .., fun r hr => (buildTable_row _ _ _ hr).trans (congrArg some (buildRow_eq ..))⟩
  case drawing =>
    intro still kappa band line bar edges
    have hband : bandOf g n.isStatic = band := funext (n.bandOf_eq g)
    have hbar : marker g kappa = bar := by
      funext lb b
      exact marker_eq g kappa lb b
    have hedges : edgesOf g c n = edges := by
      clear_value band
      subst hband
      rfl
    rw [← hbar, ← hedges]
    exact ⟨fun h => ⟨Snapshot.kappa_static (n.isStatic_iff.mpr h) g, candidates_static (n.isStatic_iff.mpr h) g c⟩,
      fun h => candidates_steered (fun hst => h (n.isStatic_iff.mp hst)) g c⟩
  case point =>
    rintro rfl
    exact segment_point
  case insertion =>
    have hspec := SpanRow.insert_spec hr hn
    rw [r.merged_eq] at hspec
    exact ⟨SpanRow.insert_sound hr ⟨hn, h1, h4⟩, hspec⟩

end Sys2Proof.Machine
end

section
/-! PROOFS. The status page (Tables 66 and 67, R187): which bytes stand at which offset, record by record. O35. -/

namespace Sys2Proof.Machine

open Sys2Proof

/-! ### Bytes at an offset -/

/-- Byte `i` of a list of bytes as a number; 0 beyond it. -/
def byteOf (l : List Byte) (i : Nat) : Nat := (l.getD i 0).toNat

/-- The bytes `bs` stand in `l` at offset `o`. -/
def BytesAt (l : List Byte) (o : Nat) (bs : List Byte) : Prop := bs <+: l.drop o

section
variable {l a b fs : List Byte} {o n x i : Nat}

theorem BytesAt.refl (l : List Byte) : BytesAt l 0 l := List.prefix_rfl

theorem byteOf_append_left (h : i < a.length) : byteOf (a ++ b) i = byteOf a i :=
  congrArg BitVec.toNat (List.getD_append a b 0 i h)

theorem byteOf_append_right (h : a.length ≤ i) : byteOf (a ++ b) i = byteOf b (i - a.length) :=
  congrArg BitVec.toNat (List.getD_append_right a b 0 i h)

theorem byteOf_drop (l : List Byte) (o i : Nat) : byteOf (l.drop o) i = byteOf l (o + i) := by
  simp only [byteOf, List.getD_eq_getElem?_getD, List.getElem?_drop]

theorem BytesAt.byteOf_eq (h : BytesAt l o a) (hi : i < a.length) : byteOf l (o + i) = byteOf a i := by
  obtain ⟨rest, hrest⟩ := h
  rw [← byteOf_drop, ← hrest, byteOf_append_left hi]

/-- A field of a record stands in the page at the record's offset and its own. -/
theorem BytesAt.field (h : BytesAt l o a) (hf : BytesAt a i fs) : BytesAt l (o + i) fs := by
  obtain ⟨rest, hrest⟩ := h
  obtain ⟨post, hpost⟩ := hf
  by_cases hi : i ≤ a.length
  · refine ⟨post ++ rest, ?_⟩
    rw [← List.drop_drop, ← hrest, List.drop_append_of_le_length hi, ← hpost, List.append_assoc]
  · rw [List.drop_eq_nil_of_le (by omega), List.append_eq_nil_iff] at hpost
    rw [BytesAt, hpost.1]
    exact List.nil_prefix

theorem BytesAt.first (h : BytesAt l o a) (hf : BytesAt a 0 fs) : BytesAt l o fs := h.field hf

theorem BytesAt.split (h : BytesAt l o (a ++ b)) (hn : a.length = n) : BytesAt l o a ∧ BytesAt l (o + n) b := by
  refine ⟨(List.prefix_append a b).trans h, h.field ⟨[], ?_⟩⟩
  rw [← hn, List.drop_left, List.append_nil]

/-! ### The kinds of field -/

@[simp] theorem bytesLE_length (n x : Nat) : (bytesLE n x).length = n := by
  induction n generalizing x with
  | zero => rfl
  | succ n ih => exact congrArg Nat.succ (ih _)

theorem byteOf_bytesLE (h : i < n) (x : Nat) : byteOf (bytesLE n x) i = x / 256 ^ i % 256 := by
  induction n generalizing x i with
  | zero => omega
  | succ n ih =>
    cases i with
    | zero => simp [byteOf, bytesLE]
    | succ i =>
      refine (ih (Nat.lt_of_succ_lt_succ h) (x / 256)).trans ?_
      rw [Nat.div_div_eq_div_mul, ← Nat.pow_succ']

theorem BytesAt.number (h : BytesAt l o (bytesLE n x)) (hi : i < n) : byteOf l (o + i) = x / 256 ^ i % 256 :=
  (h.byteOf_eq (by rwa [bytesLE_length])).trans (byteOf_bytesLE hi x)

theorem BytesAt.byte (h : BytesAt l o (bytesLE 1 x)) : byteOf l o = x % 256 := by
  simpa using h.number (i := 0) (by decide)

/-- A code or a set of flags in one byte. -/
theorem BytesAt.code (h : BytesAt l o (bytesLE 1 x)) (hx : x < 256) : byteOf l o = x :=
  h.byte.trans (Nat.mod_eq_of_lt hx)

theorem BytesAt.word2_eq (h : BytesAt l o (bytesLE 2 x)) : word2 (byteOf l) o = x % 65536 := by
  have h0 := h.number (i := 0) (by decide)
  have h1 := h.number (i := 1) (by decide)
  simp only [Nat.pow_zero, Nat.pow_one, Nat.div_one, Nat.add_zero] at h0 h1
  simp only [word2]
  omega

theorem BytesAt.word4_eq (h : BytesAt l o (bytesLE 4 x)) : word4 (byteOf l) o = x % 4294967296 := by
  have h0 := h.number (i := 0) (by decide)
  have h1 := h.number (i := 1) (by decide)
  have h2 := h.number (i := 2) (by decide)
  have h3 := h.number (i := 3) (by decide)
  simp only [Nat.pow_zero, Nat.pow_one, Nat.reducePow, Nat.div_one, Nat.add_zero] at h0 h1 h2 h3
  simp only [word4, word2, Nat.add_assoc, Nat.reduceAdd]
  omega

theorem BytesAt.word4_bitVec {w : Nat} {v : BitVec w} (h : BytesAt l o (bytesLE 4 v.toNat)) (hw : w ≤ 32) :
    word4 (byteOf l) o = v.toNat :=
  h.word4_eq.trans (Nat.mod_eq_of_lt (v.isLt.trans_le (Nat.pow_le_pow_right (by decide) hw)))

/-- Bytes without a field between two fields. -/
theorem BytesAt.zeros (h : BytesAt l o (bytesLE n 0)) (hlow : o ≤ i) (hup : i < o + n) : byteOf l i = 0 := by
  obtain ⟨k, rfl⟩ := Nat.exists_eq_add_of_le hlow
  rw [h.number (by omega), Nat.zero_div]

@[simp] theorem padZero_length (h : a.length ≤ n) : (padZero n a).length = n := by
  simp only [padZero, List.length_append, List.length_replicate]
  omega

theorem BytesAt.padded (h : BytesAt l o (padZero n a)) : BytesAt l o a := (h.split rfl).1

/-- Bytes without a field at the end of a record. -/
theorem BytesAt.padding (h : BytesAt l o (padZero n a)) (hlow : o + a.length ≤ i) (hup : i < o + n) :
    byteOf l i = 0 := by
  obtain ⟨k, rfl⟩ := Nat.exists_eq_add_of_le ((Nat.le_add_right ..).trans hlow)
  rw [h.byteOf_eq (by rw [padZero_length] <;> omega), padZero, byteOf_append_right (by omega)]
  exact congrArg BitVec.toNat (List.getD_replicate _ (by omega))

/-! ### Collections (R187) -/

@[simp] theorem collection_length (n : Nat) (xs : List Nat) : (collection n xs).length = n := by
  simp only [collection, List.length_append, List.length_map, List.length_take, List.length_replicate]
  omega

theorem BytesAt.collection_byte {xs : List Nat} (h : BytesAt l o (collection n xs)) (hi : i < n) :
    byteOf l (o + i) = (xs[i]?.getD 0xFF) % 256 := by
  rw [h.byteOf_eq (by rwa [collection_length]), collection]
  rcases Nat.lt_or_ge i xs.length with hlt | hge
  · rw [byteOf_append_left (by simp; omega)]
    simp [byteOf, hi, hlt]
  · rw [byteOf_append_right (by simp; omega)]
    have hmin : i - min n xs.length < n - xs.length := by omega
    simp [byteOf, hge, hmin]

end

/-! ### Codes and flags (Table 67) -/

theorem flag_le (b : Bool) : flag b ≤ 1 := by cases b <;> decide

theorem causeWord_lt (causes : BitVec 10) (powerOn hostRst : Bool) : causeWord causes powerOn hostRst < 2 ^ 32 := by
  have := causes.isLt
  unfold causeWord
  split_ifs <;> omega

/-- Table 66: the causes in bits 0 to 9, POWER_ON in bit 30, HOST_RESET in bit 31. -/
theorem causeWord_testBit (causes : BitVec 10) (powerOn hostRst : Bool) :
    (∀ i, i < 10 → (causeWord causes powerOn hostRst).testBit i = causes.getLsbD i) ∧
      (∀ i, 10 ≤ i → i < 30 → (causeWord causes powerOn hostRst).testBit i = false) ∧
      (causeWord causes powerOn hostRst).testBit 30 = powerOn ∧
      (causeWord causes powerOn hostRst).testBit 31 = hostRst := by
  have hsum : causeWord causes powerOn hostRst = 2 ^ 30 * (flag powerOn + 2 * flag hostRst) + causes.toNat := by
    unfold causeWord flag
    split_ifs <;> omega
  have hlt : causes.toNat < 2 ^ 30 := causes.isLt.trans (by decide)
  have hbit : ∀ i, (causeWord causes powerOn hostRst).testBit i =
      if i < 30 then causes.toNat.testBit i else (flag powerOn + 2 * flag hostRst).testBit (i - 30) := fun i => by
    rw [hsum, Nat.testBit_two_pow_mul_add _ hlt]
  refine ⟨fun i hi => ?_, fun i hlow hup => ?_, ?_, ?_⟩
  · rw [hbit, if_pos (by omega)]; rfl
  · rw [hbit, if_pos hup]
    exact Nat.testBit_lt_two_pow (causes.isLt.trans_le (Nat.pow_le_pow_right (by decide) hlow))
  · rw [hbit]; cases powerOn <;> cases hostRst <;> rfl
  · rw [hbit]; cases powerOn <;> cases hostRst <;> rfl

end Sys2Proof.Machine
end

section
/-! PROOFS. The records of the status page and their fields (Table 66). O35. -/

namespace Sys2Proof.Machine

open Sys2Proof

/-! ### The records -/

/-- The fields of LOAD's record after its cause word. -/
def headFields (s : State) : List Byte :=
  let l := s.load
  bytesLE 1 s.boot.startup.code ++ (bytesLE 1 s.boot.profState.code ++ (bytesLE 2 s.boot.refCount ++
    (bytesLE 4 l.mask.toNat ++ (bytesLE 1 l.phase.code ++ (bytesLE 1 l.outcome.code ++ (bytesLE 1 l.code.code ++
    (bytesLE 1 l.badIndex ++ (bytesLE 4 l.loaded.toNat ++ (bytesLE 4 l.refused.toNat ++ (bytesLE 4 l.latestGen.toNat ++
    (bytesLE 4 l.loadGen.toNat ++ (bytesLE 2 l.restarts ++ bytesLE 2 l.skipped))))))))))))

theorem pageHead_eq (s : State) :
    pageHead s = padZero 64 (bytesLE 4 s.load.reportSeq.toNat ++
      (bytesLE 4 (causeWord s.load.causes s.load.powerOn s.load.hostRst) ++ headFields s)) := by
  simp only [pageHead, headFields, List.append_assoc]

theorem headFields_length (s : State) : (headFields s).length = 32 := by
  simp only [headFields, List.length_append, bytesLE_length]

@[simp] theorem pageHead_length (s : State) : (pageHead s).length = 64 := by
  rw [pageHead_eq]
  exact padZero_length (by simp only [List.length_append, bytesLE_length, headFields_length]; decide)

@[simp] theorem centreRecord_length (s : State) : (centreRecord s).length = 64 := rfl
@[simp] theorem cameraRecord_length (s : State) : (cameraRecord s).length = 16 := rfl
@[simp] theorem guideLinkRecord_length (s : State) : (guideLinkRecord s).length = 16 := rfl
@[simp] theorem streamRecord_length (x : Stream) : (streamRecord x).length = 16 := rfl
@[simp] theorem pathRecord_length (s : State) : (pathRecord s).length = 9 := rfl
@[simp] theorem bufferStates_length (b : Option BufSet) : (bufferStates b).length = 3 := collection_length ..

/-- The fields of a rear record before its buffer states. -/
def rearHead (s : State) (k : Seat) : List Byte :=
  let r := s.rearOf k
  displayHead (s.display (.rear k)) 0 (flag r.reduced) ++ bytesLE 1 (r.presented.getD 0xFF) ++
    bytesLE 1 (((r.presented.bind s.setAt).bind BufSet.shown).getD 0xFF)

/-- The fields of a rear record after its buffer states. -/
def rearTail (s : State) (k : Seat) : List Byte :=
  let r := s.rearOf k
  bytesLE 4 (shownSequence (r.presented.bind s.setAt)) ++ bytesLE 2 r.dropped ++ bytesLE 2 r.repeated ++
    bytesLE 2 r.reclaimed ++ bytesLE 2 r.torn ++ bytesLE 2 r.late

theorem rearRecord_eq (s : State) (k : Seat) :
    rearRecord s k =
      padZero 64 (rearHead s k ++ (bufferStates ((s.rearOf k).presented.bind s.setAt) ++ rearTail s k)) := by
  simp only [rearRecord, rearHead, rearTail, List.append_assoc]

theorem rearFields_length (s : State) (k : Seat) :
    (rearHead s k ++ (bufferStates ((s.rearOf k).presented.bind s.setAt) ++ rearTail s k)).length = 30 := by
  simp only [List.length_append, bufferStates_length]
  rfl

@[simp] theorem rearRecord_length (s : State) (k : Seat) : (rearRecord s k).length = 64 := by
  rw [rearRecord_eq]
  exact padZero_length (by rw [rearFields_length]; decide)

/-- The bytes of the slot results. -/
def resultBytes (c : ChimeState) : List Byte := c.results.flatMap (fun r => bytesLE 1 r.code)

theorem resultBytes_eq (c : ChimeState) : resultBytes c = c.results.map (fun r => BitVec.ofNat 8 r.code) :=
  List.map_eq_flatMap.symm

/-- The fields of the chime record before its collections. -/
def chimeHead (c : ChimeState) : List Byte :=
  bytesLE 1 c.phase.code ++ bytesLE 1 ((c.playing.map (·.pattern)).getD 0xFF) ++ bytesLE 1 c.stack.length ++
    bytesLE 1 c.waiting.length

/-- The chime record without its padding. -/
def chimeFields (c : ChimeState) : List Byte :=
  chimeHead c ++ (collection 4 (c.stack.map (·.pattern)) ++ (collection 8 (c.waiting.map (·.pattern)) ++ resultBytes c))

theorem chimeRecord_eq (c : ChimeState) : chimeRecord c = padZero 24 (chimeFields c) := by
  simp only [chimeRecord, chimeFields, chimeHead, resultBytes, List.append_assoc]

theorem chimeFields_length {c : ChimeState} (h : c.results.length = 4) : (chimeFields c).length = 20 := by
  simp only [chimeFields, List.length_append, collection_length, resultBytes_eq, List.length_map, h]
  rfl

theorem chimeRecord_length {c : ChimeState} (h : c.results.length = 4) : (chimeRecord c).length = 24 := by
  rw [chimeRecord_eq]
  exact padZero_length (by rw [chimeFields_length h]; decide)

/-! ### Their places in the page -/

/-- The page without its padding and its last word. -/
def pageFields (s : State) : List Byte :=
  pageHead s ++ (centreRecord s ++ (rearRecord s .left ++ (rearRecord s .right ++ (cameraRecord s ++
    (guideLinkRecord s ++ (streamRecord s.aud.streams.l ++ (streamRecord s.aud.streams.r ++ (chimeRecord s.chime ++
      pathRecord s))))))))

theorem statusPage_eq (s : State) :
    s.statusPage = padZero 0x3FC (pageFields s) ++ bytesLE 4 s.load.reportSeq.toNat := by
  simp only [State.statusPage, pageFields, List.append_assoc]

theorem pageFields_length {s : State} (h : s.chime.results.length = 4) : (pageFields s).length = 0x161 := by
  simp only [pageFields, List.length_append, pageHead_length, centreRecord_length, rearRecord_length, cameraRecord_length,
    guideLinkRecord_length, streamRecord_length, chimeRecord_length h, pathRecord_length]

/-- Where the records of a state stand in a page (Table 66). -/
structure RecordsAt (l : List Byte) (s : State) : Prop where
  head : BytesAt l 0 (pageHead s)
  centre : BytesAt l 0x040 (centreRecord s)
  left : BytesAt l 0x080 (rearRecord s .left)
  right : BytesAt l 0x0C0 (rearRecord s .right)
  camera : BytesAt l 0x100 (cameraRecord s)
  guide : BytesAt l 0x110 (guideLinkRecord s)
  streamL : BytesAt l 0x120 (streamRecord s.aud.streams.l)
  streamR : BytesAt l 0x130 (streamRecord s.aud.streams.r)
  chime : BytesAt l 0x140 (chimeRecord s.chime)
  path : BytesAt l 0x158 (pathRecord s)
  /-- The whole, with its padding. -/
  fields : BytesAt l 0 (padZero 0x3FC (pageFields s))
  last : BytesAt l 0x3FC (bytesLE 4 s.load.reportSeq.toNat)

section
variable {s : State} (h : s.chime.results.length = 4)
include h

theorem statusPage_length : s.statusPage.length = 1024 := by
  rw [statusPage_eq, List.length_append, padZero_length (by rw [pageFields_length h]; decide), bytesLE_length]

theorem statusPage_records : RecordsAt s.statusPage s := by
  have hpage := BytesAt.refl s.statusPage
  rw [statusPage_eq] at hpage ⊢
  obtain ⟨fields, last⟩ := hpage.split (padZero_length (by rw [pageFields_length h]; decide))
  obtain ⟨head, hrest⟩ := fields.padded.split (pageHead_length s)
  obtain ⟨centre, hrest⟩ := hrest.split (centreRecord_length s)
  obtain ⟨left, hrest⟩ := hrest.split (rearRecord_length s .left)
  obtain ⟨right, hrest⟩ := hrest.split (rearRecord_length s .right)
  obtain ⟨camera, hrest⟩ := hrest.split (cameraRecord_length s)
  obtain ⟨guide, hrest⟩ := hrest.split (guideLinkRecord_length s)
  obtain ⟨streamL, hrest⟩ := hrest.split (streamRecord_length _)
  obtain ⟨streamR, hrest⟩ := hrest.split (streamRecord_length _)
  obtain ⟨chime, path⟩ := hrest.split (chimeRecord_length h)
  exact ⟨head, centre, left, right, camera, guide, streamL, streamR, chime, path, fields, last⟩

end

/-! ### The fields of LOAD -/

theorem BytesAt.pageHead_parts {l : List Byte} {o : Nat} {s : State} (h : BytesAt l o (pageHead s)) :
    BytesAt l o (bytesLE 4 s.load.reportSeq.toNat) ∧
      BytesAt l (o + 4) (bytesLE 4 (causeWord s.load.causes s.load.powerOn s.load.hostRst)) ∧
      BytesAt l (o + 8) (headFields s) := by
  rw [pageHead_eq] at h
  obtain ⟨hseq, hrest⟩ := h.padded.split (bytesLE_length 4 _)
  exact ⟨hseq, hrest.split (bytesLE_length 4 _)⟩

/-- The fields of the record from its offset 0x008: BOOT, the mask, the outcome of a load, the generations. -/
theorem BytesAt.headFields_fields {l : List Byte} {o : Nat} {s : State} (h : BytesAt l o (headFields s)) :
    byteOf l o = s.boot.startup.code ∧ byteOf l (o + 1) = s.boot.profState.code ∧
      word2 (byteOf l) (o + 2) = s.boot.refCount % 65536 ∧
      word4 (byteOf l) (o + 4) = s.load.mask.toNat ∧
      byteOf l (o + 8) = s.load.phase.code ∧ byteOf l (o + 9) = s.load.outcome.code ∧
      byteOf l (o + 10) = s.load.code.code ∧ byteOf l (o + 11) = s.load.badIndex % 256 ∧
      word4 (byteOf l) (o + 12) = s.load.loaded.toNat ∧
      word4 (byteOf l) (o + 16) = s.load.refused.toNat ∧
      word4 (byteOf l) (o + 20) = s.load.latestGen.toNat ∧
      word4 (byteOf l) (o + 24) = s.load.loadGen.toNat ∧
      word2 (byteOf l) (o + 28) = s.load.restarts % 65536 ∧
      word2 (byteOf l) (o + 30) = s.load.skipped % 65536 :=
  ⟨(h.first (fs := bytesLE 1 _) ⟨_, rfl⟩).code (by cases s.boot.startup <;> decide),
    (h.field ⟨_, rfl⟩).code (by cases s.boot.profState <;> decide), (h.field ⟨_, rfl⟩).word2_eq,
    (h.field ⟨_, rfl⟩).word4_bitVec (by decide), (h.field ⟨_, rfl⟩).code (by cases s.load.phase <;> decide),
    (h.field ⟨_, rfl⟩).code (by cases s.load.outcome <;> decide),
    (h.field ⟨_, rfl⟩).code (by cases s.load.code <;> decide), (h.field ⟨_, rfl⟩).byte,
    (h.field ⟨_, rfl⟩).word4_bitVec (by decide), (h.field ⟨_, rfl⟩).word4_bitVec (by decide),
    (h.field ⟨_, rfl⟩).word4_bitVec (by decide), (h.field ⟨_, rfl⟩).word4_bitVec (by decide), (h.field ⟨_, rfl⟩).word2_eq,
    (h.field ⟨_, rfl⟩).word2_eq⟩

/-! ### The fields of a display -/

section
variable {l : List Byte} {o : Nat}

/-- Offsets +0 to +10 of a display record, beside its view and its quality mode. -/
theorem BytesAt.displayHead_fields {x : Display} {view quality : Nat} (h : BytesAt l o (displayHead x view quality)) :
    byteOf l o = flag x.running ∧ byteOf l (o + 1) = x.content.code ∧
      word4 (byteOf l) (o + 4) = x.frameNo.toNat ∧
      word2 (byteOf l) (o + 8) = x.underruns % 65536 ∧
      byteOf l (o + 10) = flag x.fault0 + 2 * flag x.fault1 := by
  have hrun := flag_le x.running
  have hf0 := flag_le x.fault0
  have hf1 := flag_le x.fault1
  exact ⟨(h.first (fs := bytesLE 1 _) ⟨_, rfl⟩).code (by omega), (h.field ⟨_, rfl⟩).code (by cases x.content <;> decide),
    (h.field ⟨_, rfl⟩).word4_bitVec (by decide), (h.field ⟨_, rfl⟩).word2_eq, (h.field ⟨_, rfl⟩).code (by omega)⟩

theorem BytesAt.streamRecord_fields {x : Stream} (h : BytesAt l o (streamRecord x)) :
    byteOf l o = x.phase.code ∧ word4 (byteOf l) (o + 4) = x.blockSeq % 4294967296 ∧
      word2 (byteOf l) (o + 8) = x.underruns % 65536 ∧
      word2 (byteOf l) (o + 10) = x.lateWrites % 65536 :=
  ⟨(h.first (fs := bytesLE 1 _) ⟨_, rfl⟩).code (by cases x.phase <;> decide), (h.field ⟨_, rfl⟩).word4_eq, (h.field ⟨_, rfl⟩).word2_eq,
    (h.field ⟨_, rfl⟩).word2_eq⟩

/-! ### The fields of a rear display (R81, R187) -/

theorem BytesAt.rearRecord_parts {s : State} {k : Seat} (h : BytesAt l o (rearRecord s k)) :
    BytesAt l o (rearHead s k) ∧ BytesAt l (o + 13) (bufferStates ((s.rearOf k).presented.bind s.setAt)) ∧
      BytesAt l (o + 16) (rearTail s k) := by
  rw [rearRecord_eq] at h
  obtain ⟨hhead, hrest⟩ := h.padded.split (n := 13) rfl
  exact ⟨hhead, hrest.split (bufferStates_length _)⟩

theorem BytesAt.rearHead_fields {s : State} {k : Seat} (h : BytesAt l o (rearHead s k)) :
    BytesAt l o (displayHead (s.display (.rear k)) 0 (flag (s.rearOf k).reduced)) ∧
      byteOf l (o + 2) = 0 ∧ byteOf l (o + 3) = flag (s.rearOf k).reduced ∧
      byteOf l (o + 11) = ((s.rearOf k).presented.getD 0xFF) % 256 ∧
      byteOf l (o + 12) = ((((s.rearOf k).presented.bind s.setAt).bind BufSet.shown).getD 0xFF) % 256 := by
  have hred := flag_le (s.rearOf k).reduced
  exact ⟨h.first ⟨_, rfl⟩, (h.field (fs := bytesLE 1 0) ⟨_, rfl⟩).byte,
    (h.field ⟨_, rfl⟩).code (by omega), (h.field ⟨_, rfl⟩).byte, (h.field ⟨_, rfl⟩).byte⟩

theorem BytesAt.bufferStates_byte {set : Option BufSet} (h : BytesAt l o (bufferStates set)) {i : Nat} (hi : i < 3) :
    (∀ b, set = some b → ∀ f, b.bufs[i]? = some f → byteOf l (o + i) = f.phase.code) ∧
      ((∀ b, set = some b → b.bufs.length ≤ i) → byteOf l (o + i) = 0xFF) := by
  have hbyte := BytesAt.collection_byte h hi
  refine ⟨?_, fun hno => ?_⟩
  · rintro b rfl f hf
    rw [hbyte]
    simp only [List.getElem?_map, hf, Option.map_some, Option.getD_some]
    exact Nat.mod_eq_of_lt (by cases f.phase <;> decide)
  · cases set with
    | none => exact hbyte
    | some b =>
      rw [hbyte]
      simp only [List.getElem?_map, List.getElem?_eq_none (hno b rfl)]
      rfl

theorem shownSequence_some {b : BufSet} {i : Nat} {tag : TagRecord} (hi : b.shown = some i)
    (ht : (b.buf i).tag = some tag) : shownSequence (some b) = tag.seqNo.toNat := by
  simp only [shownSequence, hi, ht]

theorem shownSequence_none {set : Option BufSet} (h : ∀ b, set = some b → b.shown = none) : shownSequence set = 0 := by
  cases set with
  | none => rfl
  | some b => simp only [shownSequence, h b rfl]

theorem BytesAt.rearTail_fields {s : State} {k : Seat} (h : BytesAt l o (rearTail s k)) :
    BytesAt l o (bytesLE 4 (shownSequence ((s.rearOf k).presented.bind s.setAt))) ∧
      word2 (byteOf l) (o + 4) = (s.rearOf k).dropped % 65536 ∧
      word2 (byteOf l) (o + 6) = (s.rearOf k).repeated % 65536 ∧
      word2 (byteOf l) (o + 8) = (s.rearOf k).reclaimed % 65536 ∧
      word2 (byteOf l) (o + 10) = (s.rearOf k).torn % 65536 ∧
      word2 (byteOf l) (o + 12) = (s.rearOf k).late % 65536 :=
  ⟨h.first ⟨_, rfl⟩, (h.field ⟨_, rfl⟩).word2_eq, (h.field ⟨_, rfl⟩).word2_eq, (h.field ⟨_, rfl⟩).word2_eq,
    (h.field ⟨_, rfl⟩).word2_eq, (h.field ⟨_, rfl⟩).word2_eq⟩

/-! ### The fields of the chimes (R164, R187) -/

theorem BytesAt.chimeRecord_parts {c : ChimeState} (h : BytesAt l o (chimeRecord c)) :
    BytesAt l o (chimeHead c) ∧ BytesAt l (o + 4) (collection 4 (c.stack.map (·.pattern))) ∧
      BytesAt l (o + 8) (collection 8 (c.waiting.map (·.pattern))) ∧ BytesAt l (o + 16) (resultBytes c) := by
  rw [chimeRecord_eq] at h
  obtain ⟨hhead, hrest⟩ := h.padded.split (n := 4) rfl
  obtain ⟨hstack, hrest⟩ := hrest.split (collection_length ..)
  obtain ⟨hwaiting, hresults⟩ := hrest.split (collection_length ..)
  exact ⟨hhead, hstack, hwaiting, hresults⟩

theorem BytesAt.chimeHead_fields {c : ChimeState} (h : BytesAt l o (chimeHead c)) :
    byteOf l o = c.phase.code ∧ byteOf l (o + 1) = ((c.playing.map (·.pattern)).getD 0xFF) % 256 ∧
      byteOf l (o + 2) = c.stack.length % 256 ∧ byteOf l (o + 3) = c.waiting.length % 256 :=
  ⟨(h.first (fs := bytesLE 1 _) ⟨_, rfl⟩).code (by cases c.phase <;> decide), (h.field ⟨_, rfl⟩).byte, (h.field ⟨_, rfl⟩).byte,
    (h.field ⟨_, rfl⟩).byte⟩

theorem BytesAt.resultBytes_byte {c : ChimeState} (h : BytesAt l o (resultBytes c)) {i : Nat} {r : SlotResult}
    (hr : c.results[i]? = some r) : byteOf l (o + i) = r.code := by
  have hlen : i < c.results.length := (List.getElem?_eq_some_iff.mp hr).1
  rw [resultBytes_eq] at h
  rw [h.byteOf_eq (by rwa [List.length_map]), byteOf, List.getD_eq_getElem?_getD, List.getElem?_map, hr]
  cases r <;> rfl

end

end Sys2Proof.Machine
end

section
/-! PROOFS. The status page as Table 66 lists it. O35. -/

namespace Sys2Proof.Machine

open Sys2Proof

section
variable {l : List Byte} {o : Nat} {s : State}

/-! ### The fields of the centre, the camera, the guide and the path -/

theorem BytesAt.centreRecord_fields (h : BytesAt l o (centreRecord s)) :
    BytesAt l o (displayHead s.disp.c s.centre.view.code 0) ∧
      byteOf l (o + 2) = s.centre.view.code ∧ byteOf l (o + 3) = 0 := by
  have hhead : BytesAt l o (displayHead s.disp.c s.centre.view.code 0) := BytesAt.padded h
  exact ⟨hhead, (hhead.field ⟨_, rfl⟩).code (by cases s.centre.view <;> decide),
    (hhead.field (fs := bytesLE 1 0) ⟨_, rfl⟩).byte⟩

theorem BytesAt.cameraRecord_fields (h : BytesAt l o (cameraRecord s)) :
    byteOf l o = s.cam.phase.code ∧ byteOf l (o + 1) = s.rvc.phase.code ∧
      BytesAt l (o + 2) (bytesLE 2 0) ∧ word4 (byteOf l) (o + 4) = s.cam.reported % 4294967296 ∧
      word2 (byteOf l) (o + 8) = s.cam.received % 65536 ∧
      word2 (byteOf l) (o + 10) = s.cam.rejected % 65536 :=
  ⟨(h.first (fs := bytesLE 1 _) ⟨_, rfl⟩).code (by cases s.cam.phase <;> decide),
    (h.field ⟨_, rfl⟩).code (by cases s.rvc.phase <;> decide), h.field ⟨_, rfl⟩, (h.field ⟨_, rfl⟩).word4_eq,
    (h.field ⟨_, rfl⟩).word2_eq, (h.field ⟨_, rfl⟩).word2_eq⟩

/-- A signed field gives the number modulo 2^16. -/
theorem BytesAt.signed {x : Int} (h : BytesAt l o (signedField x)) :
    ((word2 (byteOf l) o : Nat) : Int) = x % 65536 := by
  rw [BytesAt.word2_eq h]
  omega

theorem BytesAt.guideLinkRecord_fields (h : BytesAt l o (guideLinkRecord s)) :
    ((word2 (byteOf l) o : Nat) : Int) = s.guide.front.angle % 65536 ∧
      byteOf l (o + 2) = flag s.guide.front.isStatic ∧ byteOf l (o + 3) = 0 ∧
      word2 (byteOf l) (o + 4) = s.guide.front.overfullRows % 65536 ∧
      word2 (byteOf l) (o + 6) = s.guide.overruns % 65536 ∧
      word2 (byteOf l) (o + 8) = s.link.good % 65536 ∧
      word2 (byteOf l) (o + 10) = s.link.checkErrors % 65536 ∧
      word2 (byteOf l) (o + 12) = s.link.gaps % 65536 ∧
      byteOf l (o + 14) = flag s.link.steering.stale + 2 * flag s.link.conditions.stale := by
  have hstatic := flag_le s.guide.front.isStatic
  have hsteering := flag_le s.link.steering.stale
  have hconditions := flag_le s.link.conditions.stale
  exact ⟨(h.first (fs := signedField _) ⟨_, rfl⟩).signed, (h.field ⟨_, rfl⟩).code (by omega),
    (h.field (fs := bytesLE 1 0) ⟨_, rfl⟩).byte, (h.field ⟨_, rfl⟩).word2_eq, (h.field ⟨_, rfl⟩).word2_eq,
    (h.field ⟨_, rfl⟩).word2_eq, (h.field ⟨_, rfl⟩).word2_eq, (h.field ⟨_, rfl⟩).word2_eq, (h.field ⟨_, rfl⟩).code (by omega)⟩

theorem BytesAt.pathRecord_fields (h : BytesAt l o (pathRecord s)) :
    word2 (byteOf l) o = s.path.dropped % 65536 ∧
      word2 (byteOf l) (o + 2) = s.path.partialWatch % 65536 ∧
      word2 (byteOf l) (o + 4) = s.path.split % 65536 ∧
      word2 (byteOf l) (o + 6) = s.path.fetchErrors % 65536 ∧
      byteOf l (o + 8) = flag s.bl.c.latch + 2 * flag s.bl.l.latch + 4 * flag s.bl.r.latch := by
  have hc := flag_le s.bl.c.latch
  have hl := flag_le s.bl.l.latch
  have hr := flag_le s.bl.r.latch
  exact ⟨(h.first (fs := bytesLE 2 _) ⟨_, rfl⟩).word2_eq, (h.field ⟨_, rfl⟩).word2_eq, (h.field ⟨_, rfl⟩).word2_eq,
    (h.field ⟨_, rfl⟩).word2_eq, (h.field ⟨_, rfl⟩).code (by omega)⟩

/-! ### The bytes without a field -/

theorem BytesAt.pageHead_rest (h : BytesAt l o (pageHead s)) {i : Nat} (hlow : o + 0x28 ≤ i) (hup : i < o + 0x40) :
    byteOf l i = 0 := by
  rw [pageHead_eq] at h
  exact h.padding (by simpa only [List.length_append, bytesLE_length, headFields_length] using hlow) hup

theorem BytesAt.centreRecord_rest (h : BytesAt l o (centreRecord s)) {i : Nat} (hlow : o + 11 ≤ i)
    (hup : i < o + 0x40) : byteOf l i = 0 := BytesAt.padding h hlow hup

theorem BytesAt.rearRecord_rest {k : Seat} (h : BytesAt l o (rearRecord s k)) {i : Nat} (hlow : o + 30 ≤ i)
    (hup : i < o + 0x40) : byteOf l i = 0 := by
  rw [rearRecord_eq] at h
  exact h.padding (by rwa [rearFields_length]) hup

theorem BytesAt.cameraRecord_rest (h : BytesAt l o (cameraRecord s)) {i : Nat} (hlow : o + 12 ≤ i)
    (hup : i < o + 16) : byteOf l i = 0 := BytesAt.padding h hlow hup

theorem BytesAt.guideLinkRecord_rest (h : BytesAt l o (guideLinkRecord s)) {i : Nat} (hlow : o + 15 ≤ i)
    (hup : i < o + 16) : byteOf l i = 0 := BytesAt.padding h hlow hup

theorem BytesAt.streamRecord_rest {x : Stream} (h : BytesAt l o (streamRecord x)) {i : Nat}
    (hi : (o + 1 ≤ i ∧ i < o + 4) ∨ (o + 12 ≤ i ∧ i < o + 16)) : byteOf l i = 0 := by
  rcases hi with ⟨hlow, hup⟩ | ⟨hlow, hup⟩
  · exact (h.field (i := 1) (fs := bytesLE 3 0) ⟨_, rfl⟩).zeros hlow hup
  · exact BytesAt.padding h hlow hup

end

/-! ### The page -/

/-- The rear record of the status page, field by field (Table 66, R81, R187). -/
theorem rearRecord_layout {l : List Byte} {o : Nat} {s : State} {k : Seat} (h : BytesAt l o (rearRecord s k)) :
    let rd := byteOf l
    let x := s.rearOf k
    let set := x.presented.bind s.setAt
    rd (o + 2) = 0 ∧ rd (o + 3) = flag x.reduced ∧ rd (o + 11) = (x.presented.getD 0xFF) % 256 ∧
      rd (o + 12) = ((set.bind BufSet.shown).getD 0xFF) % 256 ∧
      (∀ i, i < 3 → (∀ b, set = some b → ∀ f, b.bufs[i]? = some f → rd (o + 13 + i) = f.phase.code) ∧
        ((∀ b, set = some b → b.bufs.length ≤ i) → rd (o + 13 + i) = 0xFF)) ∧
      (∀ b i tag, set = some b → b.shown = some i → (b.buf i).tag = some tag → word4 rd (o + 16) = tag.seqNo.toNat) ∧
      ((∀ b, set = some b → b.shown = none) → word4 rd (o + 16) = 0) ∧ word2 rd (o + 20) = x.dropped % 65536 ∧
      word2 rd (o + 22) = x.repeated % 65536 ∧ word2 rd (o + 24) = x.reclaimed % 65536 ∧
      word2 rd (o + 26) = x.torn % 65536 ∧ word2 rd (o + 28) = x.late % 65536 := by
  obtain ⟨hhead, hstates, htail⟩ := h.rearRecord_parts
  obtain ⟨-, hview, hreduced, hindex, hshown⟩ := hhead.rearHead_fields
  obtain ⟨hseq, hcounters⟩ := htail.rearTail_fields
  refine ⟨hview, hreduced, hindex, hshown, fun i hi => hstates.bufferStates_byte hi, fun b i tag hset hi ht => ?_, fun hno => ?_,
    hcounters⟩
  · rw [hset, shownSequence_some hi ht] at hseq
    exact hseq.word4_bitVec (by decide)
  · rw [shownSequence_none hno] at hseq
    exact hseq.word4_eq

/-- The chime record, field by field (R164, R187). -/
theorem chimeRecord_layout {l : List Byte} {o : Nat} {c : ChimeState} (h : BytesAt l o (chimeRecord c)) :
    byteOf l o = c.phase.code ∧ byteOf l (o + 1) = ((c.playing.map (·.pattern)).getD 0xFF) % 256 ∧
      byteOf l (o + 2) = c.stack.length % 256 ∧ byteOf l (o + 3) = c.waiting.length % 256 ∧
      (∀ i, i < 4 → byteOf l (o + 4 + i) = (((c.stack[i]?).map (·.pattern)).getD 0xFF) % 256) ∧
      (∀ i, i < 8 → byteOf l (o + 8 + i) = (((c.waiting[i]?).map (·.pattern)).getD 0xFF) % 256) ∧
      (∀ i r, c.results[i]? = some r → byteOf l (o + 16 + i) = r.code) := by
  obtain ⟨hhead, hstack, hwaiting, hresults⟩ := h.chimeRecord_parts
  obtain ⟨hphase, hplaying, hdepth, hcount⟩ := hhead.chimeHead_fields
  refine ⟨hphase, hplaying, hdepth, hcount, fun i hi => ?_, fun i hi => ?_, fun i r hr => hresults.resultBytes_byte hr⟩
  · rw [hstack.collection_byte hi, List.getElem?_map]
  · rw [hwaiting.collection_byte hi, List.getElem?_map]

/-- R187: the bytes of the page in which no record has a field. -/
theorem RecordsAt.rest {l : List Byte} {s : State} (h : RecordsAt l s) (hres : s.chime.results.length = 4) {i : Nat}
    (hi : (0x028 ≤ i ∧ i < 0x040) ∨ i = 0x043 ∨ (0x04B ≤ i ∧ i < 0x080) ∨ (0x09E ≤ i ∧ i < 0x0C0) ∨
      (0x0DE ≤ i ∧ i < 0x100) ∨ i = 0x102 ∨ i = 0x103 ∨ (0x10C ≤ i ∧ i < 0x110) ∨ i = 0x113 ∨ i = 0x11F ∨
      (0x121 ≤ i ∧ i < 0x124) ∨ (0x12C ≤ i ∧ i < 0x130) ∨ (0x131 ≤ i ∧ i < 0x134) ∨ (0x13C ≤ i ∧ i < 0x140) ∨
      (0x154 ≤ i ∧ i < 0x158) ∨ (0x161 ≤ i ∧ i < 0x3FC)) : byteOf l i = 0 := by
  obtain ⟨-, -, hcam, -⟩ := h.camera.cameraRecord_fields
  have hchime : BytesAt l 0x140 (padZero 24 (chimeFields s.chime)) := chimeRecord_eq s.chime ▸ h.chime
  rcases hi with hi | rfl | hi | hi | hi | rfl | rfl | hi | rfl | rfl | hi | hi | hi | hi | hi | hi
  · exact h.head.pageHead_rest (by omega) (by omega)
  · exact h.centre.centreRecord_fields.2.2
  · exact h.centre.centreRecord_rest hi.1 hi.2
  · exact h.left.rearRecord_rest hi.1 hi.2
  · exact h.right.rearRecord_rest hi.1 hi.2
  · exact hcam.zeros (by decide) (by decide)
  · exact hcam.zeros (by decide) (by decide)
  · exact h.camera.cameraRecord_rest hi.1 hi.2
  · exact h.guide.guideLinkRecord_fields.2.2.1
  · exact h.guide.guideLinkRecord_rest (by decide) (by decide)
  · exact h.streamL.streamRecord_rest (.inl hi)
  · exact h.streamL.streamRecord_rest (.inr hi)
  · exact h.streamR.streamRecord_rest (.inl hi)
  · exact h.streamR.streamRecord_rest (.inr hi)
  · exact hchime.padding (by rw [chimeFields_length hres]; exact hi.1) hi.2
  · exact h.fields.padding (by rw [pageFields_length hres]; omega) (by omega)

/-- Settles O35: each field from its record (`statusPage_records`), the other bytes by `RecordsAt.rest`. -/
theorem statusPageLayout : Obligations.StatusPageLayout := by
  intro s hres
  have hpage := statusPage_records hres
  obtain ⟨seq, causes, head⟩ := hpage.head.pageHead_parts
  obtain ⟨startup, prof, ref, mask, phase, outcome, code, bad, loaded, refused, latest, loadGen, restarts, skipped⟩ :=
    head.headFields_fields
  obtain ⟨centre, view, -⟩ := hpage.centre.centreRecord_fields
  obtain ⟨left, -⟩ := hpage.left.rearRecord_parts.1.rearHead_fields
  obtain ⟨right, -⟩ := hpage.right.rearRecord_parts.1.rearHead_fields
  obtain ⟨cam, rvc, -, reported, received, rejected⟩ := hpage.camera.cameraRecord_fields
  obtain ⟨angle, static, -, overfull, overruns, good, check, gaps, stale⟩ := hpage.guide.guideLinkRecord_fields
  obtain ⟨chime, playing, depth, count, stack, waiting, results⟩ := chimeRecord_layout hpage.chime
  obtain ⟨dropped, watch, split, fetch, latches⟩ := hpage.path.pathRecord_fields
  obtain ⟨hlow, hmid, hpower, hhost⟩ := causeWord_testBit s.load.causes s.load.powerOn s.load.hostRst
  have hcauses : word4 (byteOf s.statusPage) 0x004 < 2 ^ 32 ∧
      (∀ i, i < 10 → (word4 (byteOf s.statusPage) 0x004).testBit i = s.load.causes.getLsbD i) ∧
      (∀ i, 10 ≤ i → i < 30 → (word4 (byteOf s.statusPage) 0x004).testBit i = false) ∧
      (word4 (byteOf s.statusPage) 0x004).testBit 30 = s.load.powerOn ∧
      (word4 (byteOf s.statusPage) 0x004).testBit 31 = s.load.hostRst := by
    rw [show word4 (byteOf s.statusPage) 0x004 = _ from causes.word4_eq.trans (Nat.mod_eq_of_lt (causeWord_lt ..))]
    exact ⟨causeWord_lt .., hlow, hmid, hpower, hhost⟩
  exact ⟨statusPage_length hres, seq.word4_bitVec (by decide), hpage.last.word4_bitVec (by decide), hcauses, startup, prof, ref, mask, phase,
    outcome, code, bad, loaded, refused, latest, loadGen, restarts, skipped, centre.displayHead_fields, view, left.displayHead_fields,
    rearRecord_layout hpage.left, right.displayHead_fields, rearRecord_layout hpage.right, cam, rvc, reported, received, rejected,
    angle, static, overfull, overruns, good, check, gaps, stale, hpage.streamL.streamRecord_fields, hpage.streamR.streamRecord_fields,
    chime, playing, depth, count, stack, waiting, results, dropped, watch, split, fetch, latches,
    fun _ hi => hpage.rest hres hi⟩

end Sys2Proof.Machine
end

section
/-! PROOFS. LINK, the body status link receiver (R139 to R148): the conditions handed to CHIME, and the
rows of the receiver and its timers. O57. -/

namespace Sys2Proof.Machine

open Sys2Proof

/-! ### Conditions handed to CHIME (R145, R152, R155) -/

theorem conditionsOf_new (new old : BitVec 32) :
    conditionsOf (new &&& ~~~ old) = (List.range 32).filter (fun k => new.getLsbD k && !old.getLsbD k) := by
  refine List.filter_congr fun k hk => ?_
  have hlt : k < 32 := List.mem_range.mp hk
  simp [hlt]

/-- R145: the rises in ascending order, then the falls in ascending order. -/
theorem State.handConditions_eq (s : State) (old new : BitVec 32) :
    s.handConditions old new =
      ((List.range 32).filter (fun k => old.getLsbD k && !new.getLsbD k)).foldl (fun u k => u.chimeCancel (.cond k))
        (((List.range 32).filter (fun k => new.getLsbD k && !old.getLsbD k)).foldl State.conditionRise s) := by
  unfold State.handConditions
  rw [conditionsOf_new, conditionsOf_new]; rfl

/-- R146: with no condition left, every held condition falls and none rises. -/
theorem State.handConditions_zero (s : State) (old : BitVec 32) :
    s.handConditions old 0 =
      ((List.range 32).filter (fun k => old.getLsbD k)).foldl (fun u k => u.chimeCancel (.cond k)) s := by
  simp [State.handConditions_eq]

/-- A run of cancels acts on CHIME's state alone. -/
theorem State.foldl_chimeCancel_chime (ks : List Nat) (s : State) :
    (ks.foldl (fun u k => u.chimeCancel (.cond k)) s).chime = ks.foldl (fun c k => c.cancel (.cond k)) s.chime := by
  induction ks generalizing s with
  | nil => rfl
  | cons k ks ih => exact ih _

theorem State.conditionRise_maps {s : State} {p : Profile} {k : Nat} (hp : s.boot.profile = some p)
    (hpat : p.condMap.getD k 0xFF ≤ 15) (hcount : (patternAt s.patterns (p.condMap.getD k 0xFF)).count ≠ 0) :
    s.conditionRise k = s.chimeRequest (.cond k) (p.condMap.getD k 0xFF) := by
  unfold State.conditionRise; rw [hp]
  exact if_pos (playable_iff.mpr ⟨hpat, hcount⟩)

/-- R148: a condition that maps to no pattern, or to an empty one, is ignored. -/
theorem State.conditionRise_ignored {s : State} {k : Nat}
    (h : s.boot.profile = none ∨ (∃ p, s.boot.profile = some p ∧ (15 < p.condMap.getD k 0xFF ∨
      (patternAt s.patterns (p.condMap.getD k 0xFF)).count = 0))) : s.conditionRise k = s := by
  unfold State.conditionRise
  rcases h with hp | ⟨p, hp, hno⟩ <;> rw [hp]
  refine if_neg fun hplay => ?_
  obtain ⟨hpat, hcount⟩ := playable_iff.mp hplay
  exact hno.elim (Nat.not_lt.mpr hpat) hcount

theorem State.linkTimeout_profile {s : State} {p : Profile} (hp : s.boot.profile = some p) :
    s.linkTimeout .steering = p.steerMs ∧ s.linkTimeout .conditions = p.condMs := by
  unfold State.linkTimeout; rw [hp]; exact ⟨rfl, rfl⟩

/-! ### The receiver (R139, Table 44) -/

theorem LinkState.inByte_iff {l : LinkState} : l.inByte = true ↔ l.started = true ∧ l.rx = .inByte := by
  simp [LinkState.inByte]

theorem sampledByte_getLsbD (line : Nat → Bool) {i : Nat} (hi : i < 8) :
    (sampledByte line).getLsbD i = line (144 + 96 * i) := by
  have htick : sampleTick (i + 1) = 144 + 96 * i := by unfold sampleTick; omega
  simp [sampledByte, hi, htick]

theorem exec_linkStartBit {s : State} (hs : s.link.started = true) (hrx : s.link.rx ≠ .inByte) :
    exec .linkStartBit s = .next (s.setLink { s.link with rx := .inByte, gap := none }) :=
  if_pos (by simp [hs, hrx])

theorem exec_linkStartBit_inByte {s : State} (hrx : s.link.rx = .inByte) : exec .linkStartBit s = .next s :=
  if_neg (by simp [hrx])

theorem exec_linkStopBitError_outside {s : State} (hrx : s.link.rx ≠ .inByte) :
    exec .linkStopBitError s = .next s :=
  if_neg fun h => hrx (LinkState.inByte_iff.mp h).2

theorem exec_linkByteTaken_outside {s : State} (hrx : s.link.rx ≠ .inByte) (b : Byte) :
    exec (.linkByteTaken b) s = .next s :=
  if_neg fun h => hrx (LinkState.inByte_iff.mp h).2

theorem exec_linkStopBitError {s : State} (hs : s.link.started = true) (hrx : s.link.rx = .inByte) :
    exec .linkStopBitError s =
      .next (s.setLink { (if s.link.held.isEmpty then s.link else s.link.discard) with rx := .waitHigh }) :=
  if_pos (LinkState.inByte_iff.mpr ⟨hs, hrx⟩)

/-- R139: a byte has ended with its stop bit high: the receiver watches for the next fall. -/
def State.byteEnded (s : State) : State := s.setLink { s.link with rx := .watching }

theorem exec_linkByteTaken {s : State} (hs : s.link.started = true) (hrx : s.link.rx = .inByte) (b : Byte) :
    exec (.linkByteTaken b) s = .next (s.byteEnded.takeByte b) :=
  if_pos (LinkState.inByte_iff.mpr ⟨hs, hrx⟩)

/-! ### The timers (R141, R146) -/

theorem exec_gapTimerExpiry {s : State} (h : s.link.gap.isSome = true) :
    exec .gapTimerExpiry s = .next (s.setLink s.link.discard) := by
  obtain ⟨n, hn⟩ := Option.isSome_iff_exists.mp h
  change execGapTimerExpiry s = _
  unfold execGapTimerExpiry; rw [hn]

theorem exec_freshnessTimerExpiry_steering {s : State} (h : s.link.steering.timer.isSome = true) :
    exec (.freshnessTimerExpiry .steering) s =
      .next ((s.setLink { s.link with steering := { last := none, stale := true, timer := none } }).raise .linkStale) := by
  obtain ⟨n, hn⟩ := Option.isSome_iff_exists.mp h
  change execFreshnessTimerExpiry .steering s = _
  unfold execFreshnessTimerExpiry LinkState.kind; dsimp only; rw [hn]; rfl

theorem exec_freshnessTimerExpiry_conditions {s : State} (h : s.link.conditions.timer.isSome = true) :
    exec (.freshnessTimerExpiry .conditions) s =
      .next (((s.setLink
        { s.link with conds := 0, conditions := { last := none, stale := true, timer := none } }).handConditions
          s.link.conds 0).raise .linkStale) := by
  obtain ⟨n, hn⟩ := Option.isSome_iff_exists.mp h
  change execFreshnessTimerExpiry .conditions s = _
  unfold execFreshnessTimerExpiry LinkState.kind; dsimp only; rw [hn]; rfl

/-- R145, R146: the conditions going stale: every held one falls, and LINK_STALE is raised. -/
theorem freshnessTimerExpiry_falls {s : State} (h : s.link.conditions.timer.isSome = true) :
    ∃ t, exec (.freshnessTimerExpiry .conditions) s = .next t ∧
      t = { s with link := t.link, chime := t.chime, load := t.load } ∧
      t.link = { s.link with conds := 0, conditions := { last := none, stale := true, timer := none } } ∧
      t.load.causes.getLsbD 7 = true ∧
      t.chime = (((List.range 32).filter (fun k => s.link.conds.getLsbD k)).foldl
        (fun u k => u.chimeCancel (.cond k)) s).chime := by
  have hexec := exec_freshnessTimerExpiry_conditions h
  refine ⟨_, hexec, execFreshnessTimerExpiry_frame .conditions hexec, ?_, ?_, ?_⟩
  · rw [State.raise_link, State.handConditions_link]; rfl
  · simp [withCause, Cause.mask, Cause.bit]
  · rw [State.raise_chime, State.handConditions_zero, State.foldl_chimeCancel_chime, State.foldl_chimeCancel_chime]; rfl

/-- Settles O57, row by row. -/
theorem linkRows : Obligations.LinkRows := by
  intro s hs
  refine ⟨fun hrx => ⟨exec_linkStartBit hs hrx, exec_linkStopBitError_outside hrx, exec_linkByteTaken_outside hrx⟩,
    exec_linkStartBit_inByte, fun line => ⟨fun hstart => if_pos hstart, fun hstart hstop => ?_, fun hstart hstop => ?_⟩,
    fun hrx hheld => ?_, fun hrx hheld => ?_, exec_gapTimerExpiry, exec_freshnessTimerExpiry_steering,
    freshnessTimerExpiry_falls⟩
  · simp [fallRows, sampleTick, hstart, hstop]
  · exact ⟨sampledByte line, by simp [fallRows, sampleTick, hstart, hstop], fun i hi => sampledByte_getLsbD line hi⟩
  · rw [exec_linkStopBitError hs hrx, if_pos (List.isEmpty_iff.mpr hheld)]; rfl
  · rw [exec_linkStopBitError hs hrx, if_neg (mt List.isEmpty_iff.mp hheld)]; rfl

end Sys2Proof.Machine
end

section
/-! PROOFS. A taken byte (R140 to R148): whether it fits the open frame, and what a complete frame is acted on. O58. -/

namespace Sys2Proof.Machine

open Sys2Proof

/-! ### Bytes that do not fit (R140) -/

/-- The upper four bits of a byte are zero exactly below 16. -/
theorem extractHigh_eq_zero (b : Byte) : b.extractLsb' 4 4 = 0 ↔ b.toNat < 16 := by
  have hlt := b.isLt
  rw [← BitVec.toNat_inj]
  simp only [BitVec.extractLsb'_toNat, Nat.shiftRight_eq_div_pow, BitVec.toNat_zero, BitVec.ofNat_eq_ofNat]
  omega

theorem badByte_iff {held : List Byte} {b : Byte} :
    badByte held b = true ↔ held.length = 1 ∧ b ≠ 1 ∧ b ≠ 2 ∨ held.length = 2 ∧ 16 ≤ b.toNat := by
  simp only [badByte, Bool.or_eq_true, Bool.and_eq_true, beq_iff_eq, bne_iff_ne, and_assoc]
  rw [ne_eq (b.extractLsb' 4 4), extractHigh_eq_zero, Nat.not_lt]

/-- R140: what fits an open frame of fewer than 7 bytes is not a byte that discards it. -/
theorem badByte_of_fits {held : List Byte} {b : Byte}
    (h : (held.length = 1 ∧ (b = 1 ∨ b = 2)) ∨ (held.length = 2 ∧ b.toNat < 16) ∨ (3 ≤ held.length ∧ held.length ≤ 6)) :
    badByte held b ≠ true := by
  rw [ne_eq, badByte_iff]
  rintro (⟨hone, hsteer, hcond⟩ | ⟨htwo, hhigh⟩)
  · rcases h with ⟨-, hb⟩ | h | h
    · exact hb.elim hsteer hcond
    · omega
    · omega
  · omega

/-! ### The assembler (R140, R142) -/

/-- R140: the assembler holds a frame no more and hunts for the next marker. -/
def State.frameClosed (s : State) : State := s.setLink { s.link with held := [], gap := none }

section
variable {s : State} {b : Byte}

theorem State.takeByte_marker (hheld : s.link.held = []) (hb : b = startMarker) :
    s.takeByte b = s.setLink { s.link with held := [b], gap := some 0 } := by
  simp [State.takeByte, hheld, hb]

theorem State.takeByte_hunting (hheld : s.link.held = []) (hb : b ≠ startMarker) : s.takeByte b = s := by
  simp [State.takeByte, hheld, hb]

theorem State.takeByte_bad (hbad : badByte s.link.held b = true) : s.takeByte b = s.setLink s.link.discard := by
  have hne : s.link.held ≠ [] := by rintro h; rw [h] at hbad; exact absurd hbad (by simp [badByte])
  simp [State.takeByte, hne, hbad]

theorem State.takeByte_joins (hne : s.link.held ≠ []) (hlen : s.link.held.length ≠ 7)
    (hfits : badByte s.link.held b ≠ true) :
    s.takeByte b = s.setLink { s.link with held := s.link.held ++ [b], gap := some 0 } := by
  simp [State.takeByte, hne, hlen, hfits]

end

/-- R142: the check of a frame's eight bytes. -/
theorem checkAgrees_iff {b0 b1 b2 b3 b4 b5 b6 b : Byte} :
    checkAgrees [b0, b1, b2, b3, b4, b5, b6, b] = true ↔ 0xFF - (b1 + b2 + b3 + b4 + b5 + b6) = b := by
  simp [checkAgrees]

/-- R142: the eighth byte completes the frame where its check agrees, and discards it otherwise. -/
theorem State.takeByte_eighth {s : State} {b0 b1 b2 b3 b4 b5 b6 : Byte} (b : Byte)
    (hheld : s.link.held = [b0, b1, b2, b3, b4, b5, b6]) :
    s.takeByte b =
      if 0xFF - (b1 + b2 + b3 + b4 + b5 + b6) = b then
        s.frameClosed.completeFrame [b0, b1, b2, b3, b4, b5, b6, b]
      else s.setLink s.link.discard := by
  simp [State.takeByte, State.frameClosed, badByte, hheld, checkAgrees_iff]

/-! ### Complete frames (R143 to R146) -/

section
variable {s : State} {b0 b2 b3 b4 b5 b6 b : Byte}

theorem State.completeFrame_steering (hlast : s.link.steering.last ≠ some b2.toNat) :
    s.completeFrame [b0, 1, b2, b3, b4, b5, b6, b] =
      s.setLink { s.link.accepted .steering b2.toNat (s.linkTimeout .steering) with
                  angle := (b4 ++ b3).toInt, valid := b5.getLsbD 0 } := by
  rw [← signed16_bytes]
  exact if_neg hlast

theorem State.completeFrame_conditions (hlast : s.link.conditions.last ≠ some b2.toNat) :
    s.completeFrame [b0, 2, b2, b3, b4, b5, b6, b] =
      (s.setLink { s.link.accepted .conditions b2.toNat (s.linkTimeout .conditions) with
                   conds := b6 ++ b5 ++ b4 ++ b3 }).handConditions s.link.conds (b6 ++ b5 ++ b4 ++ b3) :=
  if_neg hlast

/-- R143: a steering frame that repeats the last accepted counter is ignored. -/
theorem State.completeFrame_steering_duplicate (hlast : s.link.steering.last = some b2.toNat) :
    s.completeFrame [b0, 1, b2, b3, b4, b5, b6, b] = s := if_pos hlast

/-- R143: so is a conditions frame. -/
theorem State.completeFrame_conditions_duplicate (hlast : s.link.conditions.last = some b2.toNat) :
    s.completeFrame [b0, 2, b2, b3, b4, b5, b6, b] = s := if_pos hlast

end

/-- R143: the first accepted frame of a kind counts no gap. -/
theorem LinkState.accepted_gaps_none {l : LinkState} {k : LinkKind} (counter timeout : Nat)
    (hlast : (l.kind k).last = none) : (l.accepted k counter timeout).gaps = l.gaps := by
  cases k <;> simp [LinkState.accepted, LinkState.setKind, hlast]

/-- R143: after another frame of its kind, a gap is counted exactly where the counter is not the next. -/
theorem LinkState.accepted_gaps_some {l : LinkState} {k : LinkKind} {c : Nat} (counter timeout : Nat)
    (hlast : (l.kind k).last = some c) :
    (l.accepted k counter timeout).gaps =
      if counter = (c + 1) % 16 then l.gaps else min (l.gaps + 1) 65535 := by
  cases k <;> simp [LinkState.accepted, LinkState.setKind, hlast, satInc]

theorem LinkState.accepted_gaps (l : LinkState) (k : LinkKind) (counter timeout : Nat) :
    (l.accepted k counter timeout).gaps =
      (match (l.kind k).last with
        | none => l.gaps
        | some c => if counter = (c + 1) % 16 then l.gaps else min (l.gaps + 1) 65535) := by
  cases hlast : (l.kind k).last with
  | none => exact LinkState.accepted_gaps_none counter timeout hlast
  | some c => exact LinkState.accepted_gaps_some counter timeout hlast

/-! ### The row -/

section
variable {s : State} (hs : s.link.started = true) (hrx : s.link.rx = .inByte)
include hs hrx

/-- R140: a byte that does not fit discards the open frame. -/
theorem linkByteTaken_discards {b : Byte}
    (h : s.link.held.length = 1 ∧ b ≠ 1 ∧ b ≠ 2 ∨ s.link.held.length = 2 ∧ 16 ≤ b.toNat) :
    exec (.linkByteTaken b) s = .next (s.setLink { s.link.discard with rx := .watching }) := by
  rw [exec_linkByteTaken hs hrx, State.takeByte_bad (s := s.byteEnded) (badByte_iff.mpr h)]; rfl

theorem linkByteTaken_joins {b : Byte}
    (h : (s.link.held.length = 1 ∧ (b = 1 ∨ b = 2)) ∨ (s.link.held.length = 2 ∧ b.toNat < 16) ∨
      (3 ≤ s.link.held.length ∧ s.link.held.length ≤ 6)) :
    exec (.linkByteTaken b) s =
      .next (s.setLink { s.link with rx := .watching, held := s.link.held ++ [b], gap := some 0 }) := by
  have hlen : 1 ≤ s.link.held.length ∧ s.link.held.length ≠ 7 := by omega
  rw [exec_linkByteTaken hs hrx,
    State.takeByte_joins (s := s.byteEnded) (List.ne_nil_of_length_pos hlen.1) hlen.2 (badByte_of_fits h)]; rfl

variable {b0 b1 b2 b3 b4 b5 b6 b : Byte} (hheld : s.link.held = [b0, b1, b2, b3, b4, b5, b6])
include hheld

/-- R142: the eighth byte of a frame whose check does not agree discards it. -/
theorem linkByteTaken_badCheck (hcheck : 0xFF - (b1 + b2 + b3 + b4 + b5 + b6) ≠ b) :
    exec (.linkByteTaken b) s = .next (s.setLink { s.link.discard with rx := .watching }) := by
  rw [exec_linkByteTaken hs hrx, State.takeByte_eighth (s := s.byteEnded) b hheld, if_neg hcheck]; rfl

/-- R142: the eighth byte of a frame whose check agrees completes it. -/
theorem linkByteTaken_completes (hcheck : 0xFF - (b1 + b2 + b3 + b4 + b5 + b6) = b) :
    exec (.linkByteTaken b) s =
      .next (s.byteEnded.frameClosed.completeFrame [b0, b1, b2, b3, b4, b5, b6, b]) := by
  rw [exec_linkByteTaken hs hrx, State.takeByte_eighth (s := s.byteEnded) b hheld, if_pos hcheck]

end

/-- Settles O58: the assembler byte by byte, then the complete frames by kind. -/
theorem linkByteRows : Obligations.LinkByteRows := by
  intro b s hs hrx
  refine ⟨fun p hp => State.linkTimeout_profile hp, fun hheld hb => ?_, fun hheld hb => ?_, linkByteTaken_joins hs hrx,
    linkByteTaken_discards hs hrx, fun b0 b1 b2 b3 b4 b5 b6 hheld hcheck => linkByteTaken_badCheck hs hrx hheld hcheck,
    fun b0 b2 b3 b4 b5 b6 hheld hcheck hlast => ?_, fun b0 b2 b3 b4 b5 b6 hheld hcheck hlast => ?_,
    fun k => ⟨fun p hp => State.conditionRise_maps hp, State.conditionRise_ignored⟩,
    fun b0 b2 b3 b4 b5 b6 hheld hcheck hlast => ?_, fun b0 b2 b3 b4 b5 b6 hheld hcheck hlast => ?_⟩
  · rw [exec_linkByteTaken hs hrx, State.takeByte_marker (s := s.byteEnded) hheld hb]; rfl
  · rw [exec_linkByteTaken hs hrx, State.takeByte_hunting (s := s.byteEnded) hheld hb]; rfl
  · rw [linkByteTaken_completes hs hrx hheld hcheck, State.completeFrame_steering (s := s.byteEnded.frameClosed) hlast]
    exact ⟨_, rfl, rfl, rfl, LinkState.accepted_gaps s.link .steering b2.toNat (s.linkTimeout .steering)⟩
  · have hexec := linkByteTaken_completes hs hrx hheld hcheck
    rw [State.completeFrame_conditions (s := s.byteEnded.frameClosed) hlast] at hexec
    refine ⟨_, hexec, execLinkByteTaken_frame b hexec, ?_⟩
    rw [State.handConditions_link]
    exact ⟨rfl, LinkState.accepted_gaps s.link .conditions b2.toNat (s.linkTimeout .conditions),
      State.handConditions_eq _ _ _⟩
  · rw [linkByteTaken_completes hs hrx hheld hcheck,
      State.completeFrame_steering_duplicate (s := s.byteEnded.frameClosed) hlast]; rfl
  · rw [linkByteTaken_completes hs hrx hheld hcheck,
      State.completeFrame_conditions_duplicate (s := s.byteEnded.frameClosed) hlast]; rfl

end Sys2Proof.Machine
end

section
/-! PROOFS. The range of a chime sample (R149, R150), the end of a step, the end of a fade and the successor (R156 to
R158, R162). O50, O51, O52. -/

namespace Sys2Proof.Machine

open Sys2Proof

/-! ### The range of a sample (R149, R150) -/

/-- The triangle of an accumulator of 24 bits keeps to a signed word of 16 bits. -/
theorem triangle_range {acc : Nat} (h : acc < 2 ^ 24) : -32768 ≤ triangle acc ∧ triangle acc ≤ 32767 := by
  unfold triangle
  dsimp only
  split <;> omega

/-- What lies within `b` of zero lies within `b * n` of it when scaled by at most `n`. -/
theorem scaled_range {x b : Int} {k n : Nat} (hk : k ≤ n) (hlo : -b ≤ x) (hhi : x ≤ b) :
    -(b * n) ≤ x * k ∧ x * k ≤ b * n := by
  have hb : 0 ≤ b := by omega
  have hkn : b * (k : Int) ≤ b * n := Int.mul_le_mul_of_nonneg_left (by exact_mod_cast hk) hb
  have hl : -b * (k : Int) ≤ x * k := Int.mul_le_mul_of_nonneg_right hlo (Int.natCast_nonneg k)
  have hu : x * (k : Int) ≤ b * k := Int.mul_le_mul_of_nonneg_right hhi (Int.natCast_nonneg k)
  rw [Int.neg_mul] at hl
  omega

theorem toneSample_range {st : ChimeStep} {acc env : Nat} (hlevel : st.level ≤ 255) (henv : env ≤ 256)
    (hacc : acc < 2 ^ 24) : -32640 ≤ toneSample st acc env ∧ toneSample st acc env ≤ 32640 := by
  unfold toneSample
  split
  · decide
  · obtain ⟨hlo, hhi⟩ := triangle_range hacc
    have hscaled := scaled_range (b := 32768) hlevel hlo (by omega)
    have hshaped := scaled_range (x := triangle acc * (st.level : Int) / 256) (b := 32640) henv (by omega) (by omega)
    omega

theorem nextAcc_lt {st : ChimeStep} {acc : Nat} (h : acc < 2 ^ 24) : nextAcc st acc < 2 ^ 24 := by
  unfold nextAcc
  split
  · exact h
  · exact Nat.mod_lt _ (by decide)

theorem envelope_le (st : ChimeStep) (n : Nat) : envelope st n ≤ 256 := by
  unfold envelope
  dsimp only
  refine (Nat.min_le_left _ _).trans ?_
  split
  · next h => exact scaled_le h.le
  · exact Nat.le_refl _

/-- Settles O50, from the range of the triangle scaled by the level and then by the envelope. -/
theorem chimeSampleInRange : Obligations.ChimeSampleInRange :=
  ⟨fun _ _ _ hlevel henv hacc =>
    ⟨(toneSample_range hlevel henv hacc).1, (toneSample_range hlevel henv hacc).2, nextAcc_lt hacc⟩, envelope_le⟩

/-! ### An entry that starts (R153, R157, R158) -/

/-- R157, R158: CHIME has come to `c` by the start of the entry `x`: at its resume point, or at step 0 with its full
passes. -/
def ChimeState.Begins (pats : List Pattern) (x : ChimeEntry) (c : ChimeState) : Prop :=
  c.phase = .playing ∧ c.playing = some { x with resume := none } ∧ c.frame = 0 ∧ c.acc = 0 ∧ c.fade = none ∧
    (∀ r, x.resume = some r → c.step = r.step ∧ c.passes = r.passes) ∧
    (x.resume = none → c.step = 0 ∧
      c.passes = if (patternAt pats x.pattern).repeats = 0 then none else some (patternAt pats x.pattern).repeats)

theorem ChimeState.start_begins (c : ChimeState) (pats : List Pattern) (x : ChimeEntry) :
    (c.start pats x).Begins pats x := by
  refine ⟨rfl, rfl, rfl, rfl, rfl, fun r hr => ?_, fun hr => ?_⟩
  · simp only [ChimeState.start, hr, Option.getD_some, and_self]
  · simp only [ChimeState.start, hr, Option.getD_none, true_and]
    rfl

/-! ### The successor (R157) -/

section
variable {c : ChimeState} {pats : List Pattern} {x w : ChimeEntry}

theorem ChimeState.succeed_top (hx : c.stack.getLast? = some x)
    (hw : ∀ w, c.waiting.head? = some w → w.priority ≤ x.priority) :
    c.succeed pats = ChimeState.start { c with stack := c.stack.dropLast } pats x := by
  cases hc : c.waiting with
  | nil => simp only [ChimeState.succeed, hx, hc]
  | cons w ws => simp only [ChimeState.succeed, hx, hc, if_pos (hw w (by rw [hc]; rfl))]

theorem ChimeState.succeed_head (hw : c.waiting.head? = some w)
    (hx : ∀ x, c.stack.getLast? = some x → x.priority < w.priority) :
    c.succeed pats = ChimeState.start { c with waiting := c.waiting.tail } pats w := by
  obtain ⟨ws, hc⟩ := List.head?_eq_some_iff.mp hw
  cases hs : c.stack.getLast? with
  | none => simp only [ChimeState.succeed, hs, hc, List.tail_cons]
  | some x => simp only [ChimeState.succeed, hs, hc, List.tail_cons, if_neg (Nat.not_le.mpr (hx x hs))]

theorem ChimeState.succeed_nobody (hs : c.stack = []) (hw : c.waiting = []) :
    c.succeed pats = { c with phase := .idle, playing := none, fade := none } := by
  simp only [ChimeState.succeed, hs, hw, List.getLast?_nil]

/-- R157: the stack top is chosen, or the head of the pending list is, or there is neither. -/
theorem ChimeState.successor_cases (c : ChimeState) :
    (∃ x, c.stack.getLast? = some x ∧ ∀ w, c.waiting.head? = some w → w.priority ≤ x.priority) ∨
    (∃ w, c.waiting.head? = some w ∧ ∀ x, c.stack.getLast? = some x → x.priority < w.priority) ∨
    (c.stack = [] ∧ c.waiting = []) := by
  cases hs : c.stack.getLast? with
  | none =>
    cases hw : c.waiting.head? with
    | none => exact .inr (.inr ⟨List.getLast?_eq_none_iff.mp hs, List.head?_eq_none_iff.mp hw⟩)
    | some w => exact .inr (.inl ⟨w, rfl, nofun⟩)
  | some x =>
    by_cases h : ∀ w, c.waiting.head? = some w → w.priority ≤ x.priority
    · exact .inl ⟨x, rfl, h⟩
    · push Not at h
      obtain ⟨w, hw, hlt⟩ := h
      exact .inr (.inl ⟨w, hw, fun y hy => Option.some.inj hy ▸ hlt⟩)

/-- A successor sets no result. -/
theorem ChimeState.succeed_results (c : ChimeState) (pats : List Pattern) : (c.succeed pats).results = c.results := by
  rcases c.successor_cases with ⟨x, hx, hle⟩ | ⟨w, hw, hlt⟩ | ⟨hs, hw⟩
  · rw [ChimeState.succeed_top hx hle]; rfl
  · rw [ChimeState.succeed_head hw hlt]; rfl
  · rw [ChimeState.succeed_nobody hs hw]

end

/-! ### CHIME_STEP_END (R156) -/

/-- CHIME at the start of a step of the playing entry. -/
def ChimeState.atStep (c : ChimeState) (step : Nat) (passes : Option Nat) : ChimeState :=
  { c with step := step, frame := 0, acc := 0, passes := passes }

/-- CHIME without the entry that has finished, its host slots DONE (R162). -/
def ChimeState.finished (c : ChimeState) (e : ChimeEntry) : ChimeState :=
  { c with playing := none, results := setSlotResults e.sources .done c.results }

section
variable {c : ChimeState} {pats : List Pattern} {e : ChimeEntry} (hph : c.phase = .playing) (hp : c.playing = some e)
include hph hp

theorem ChimeState.stepEnd_advances (h : c.step + 1 < (patternAt pats e.pattern).count) :
    c.stepEnd pats = (c.atStep (c.step + 1) c.passes, false) := by
  simp only [ChimeState.stepEnd, ChimeState.atStep, hph, hp, if_pos h]

theorem ChimeState.stepEnd_repeats (h : (patternAt pats e.pattern).count ≤ c.step + 1) (hn : c.passes = none) :
    c.stepEnd pats = (c.atStep 0 none, false) := by
  simp only [ChimeState.stepEnd, ChimeState.atStep, hph, hp, if_neg (Nat.not_lt.mpr h), hn]

theorem ChimeState.stepEnd_nextPass {n : Nat} (h : (patternAt pats e.pattern).count ≤ c.step + 1)
    (hn : c.passes = some n) (hlt : 1 < n) : c.stepEnd pats = (c.atStep 0 (some (n - 1)), false) := by
  simp only [ChimeState.stepEnd, ChimeState.atStep, hph, hp, if_neg (Nat.not_lt.mpr h), hn, if_pos hlt]

theorem ChimeState.stepEnd_finishes {n : Nat} (h : (patternAt pats e.pattern).count ≤ c.step + 1)
    (hn : c.passes = some n) (hle : n ≤ 1) :
    c.stepEnd pats = ((c.finished e).succeed pats, hasSlot e.sources) := by
  simp only [ChimeState.stepEnd, ChimeState.finished, hph, hp, if_neg (Nat.not_lt.mpr h), hn,
    if_neg (Nat.not_lt.mpr hle)]

end

/-- R174: a cause raised is in the set. -/
theorem withCause_bit (set : BitVec 10) (c : Cause) : (withCause set c).getLsbD c.bit = true := by
  have hbit : c.bit < 10 := by cases c <;> decide
  simp [withCause, Cause.mask, hbit]

theorem execChimeStepEnd_eq (s : State) : exec .chimeStepEnd s = .next (s.takeChime (s.chime.stepEnd s.patterns)) := rfl

/-- Settles O51, case by case. -/
theorem chimeStepEndTaken : Obligations.ChimeStepEndTaken := by
  intro s e hph hp count
  refine ⟨fun h => ?_, fun h hn => ?_, fun n h hn hlt => ?_, fun n h hn hle => ?_⟩
  · rw [execChimeStepEnd_eq, ChimeState.stepEnd_advances hph hp h]; rfl
  · rw [execChimeStepEnd_eq, ChimeState.stepEnd_repeats hph hp h hn, ← hn]; rfl
  · rw [execChimeStepEnd_eq, ChimeState.stepEnd_nextPass hph hp h hn hlt]; rfl
  · obtain ⟨hraised, hquiet⟩ := s.takeChime_load (x := ((s.chime.finished e).succeed s.patterns, hasSlot e.sources))
    refine ⟨s.takeChime ((s.chime.finished e).succeed s.patterns, hasSlot e.sources), ?_, State.takeChime_frame _ _,
      ?_⟩
    · rw [execChimeStepEnd_eq, ChimeState.stepEnd_finishes hph hp h hn hle]
    rw [State.takeChime_chime, ChimeState.succeed_results]
    refine ⟨fun j hj hlt => ⟨setSlotResults_named hj _ _ hlt, ?_⟩, fun j hj => setSlotResults_other hj _ _,
      fun hno => ?_, ⟨fun x hx hle => ?_, fun w hw hlt => ?_⟩, fun hs hw => ?_⟩
    · rw [hraised (hasSlot_iff.mpr ⟨j, hj⟩)]
      exact withCause_bit s.load.causes .chimeResult
    · exact hquiet (Bool.eq_false_iff.mpr fun hh => (hasSlot_iff.mp hh).elim hno)
    · rw [ChimeState.succeed_top (c := s.chime.finished e) hx hle]
      exact ⟨ChimeState.start_begins _ _ _, rfl, rfl⟩
    · rw [ChimeState.succeed_head (c := s.chime.finished e) hw hlt]
      exact ⟨ChimeState.start_begins _ _ _, rfl, rfl⟩
    · rw [ChimeState.succeed_nobody (c := s.chime.finished e) hs hw]
      exact ⟨rfl, rfl, rfl⟩

/-! ### FADE_END (R157, R158) -/

section
variable {c : ChimeState} {pats : List Pattern}

theorem ChimeState.fadeOver_starts {e : ChimeEntry} (hph : c.phase = .switching) (hp : c.playing = some e) :
    c.fadeOver pats = c.start pats e := by
  simp only [ChimeState.fadeOver, hph, hp]

theorem ChimeState.fadeOver_succeeds (hph : c.phase = .switching) (hp : c.playing = none) :
    c.fadeOver pats = c.succeed pats := by
  simp only [ChimeState.fadeOver, hph, hp]

/-- R158: outside SWITCHING no fade ends. -/
theorem ChimeState.fadeOver_other (hph : c.phase ≠ .switching) : c.fadeOver pats = c := by
  cases h : c.phase with
  | idle => simp only [ChimeState.fadeOver, h]
  | playing => simp only [ChimeState.fadeOver, h]
  | switching => exact absurd h hph

end

/-- Settles O52: the waiting playing entry, the stack top, the head of the pending list, or nobody. -/
theorem successorChosen : Obligations.SuccessorChosen := by
  intro s hs hph
  obtain ⟨-, -, -, -, -, -, hsuspended, hfresh⟩ := hs
  refine ⟨s.setChime (s.chime.fadeOver s.patterns), rfl, rfl, fun e hp => ?_, fun e hp he hle => ?_,
    fun w hp hw hlt => ?_, fun hp hstack hwaiting => ?_⟩ <;> rw [State.setChime_chime]
  · rw [ChimeState.fadeOver_starts hph hp]
    obtain ⟨hphase, hplaying, hframe, hacc, hfade, hresumes, hfull⟩ := s.chime.start_begins s.patterns e
    exact ⟨hphase, hplaying, hframe, hacc, hfade, hresumes, hfull, rfl, rfl⟩
  · obtain ⟨r, hr⟩ := Option.isSome_iff_exists.mp (hsuspended e (List.mem_of_getLast? he))
    rw [ChimeState.fadeOver_succeeds hph hp, ChimeState.succeed_top he hle]
    obtain ⟨hphase, hplaying, hframe, -, -, hresumes, -⟩ :=
      ChimeState.start_begins { s.chime with stack := s.chime.stack.dropLast } s.patterns e
    exact ⟨r, hr, hphase, hplaying, (hresumes r hr).1, hframe, (hresumes r hr).2, rfl, rfl⟩
  · have hr : w.resume = none := hfresh w (List.mem_of_head? hw)
    rw [ChimeState.fadeOver_succeeds hph hp, ChimeState.succeed_head hw hlt]
    obtain ⟨hphase, hplaying, hframe, -, -, -, hfull⟩ :=
      ChimeState.start_begins { s.chime with waiting := s.chime.waiting.tail } s.patterns w
    refine ⟨hphase, hplaying.trans ?_, (hfull hr).1, hframe, (hfull hr).2, rfl, rfl⟩
    rw [← hr]
  · rw [ChimeState.fadeOver_succeeds hph hp, ChimeState.succeed_nobody hstack hwaiting]
    exact ⟨rfl, rfl, rfl⟩

end Sys2Proof.Machine
end

section
/-! PROOFS. The chime entries as lists (R151, R152, R153): what a withdrawn, joined, moved or inserted entry leaves of
the order of the lists, of their patterns and of their sources. -/

namespace Sys2Proof.Machine

open Sys2Proof

/-! ### Entries apart from their resume points and sources -/

/-- An entry apart from its resume point. -/
def ChimeEntry.bare (e : ChimeEntry) : ChimeEntry := { e with resume := none }

/-- An entry apart from its resume point and its sources. -/
def ChimeEntry.face (e : ChimeEntry) : ChimeEntry := { e with sources := [], resume := none }

theorem subperm_map {α β : Type} (f : α → β) {l l' : List α} (h : l'.Subperm l) : (l'.map f).Subperm (l.map f) := by
  obtain ⟨k, hperm, hsub⟩ := h
  exact ⟨k.map f, hperm.map f, hsub.map f⟩

section
variable {e e' : ChimeEntry} {keep : Source → Bool} {src : Source} {pat : Nat}

/-- An entry that some sources have left is the same but for them, and has one left if it had one. -/
theorem ChimeEntry.keeping_eq (h : e.keeping keep = some e') :
    e' = { e with sources := e.sources.filter keep } ∧ (e.sources ≠ [] → e'.sources ≠ []) := by
  unfold ChimeEntry.keeping at h
  split at h
  · next hall =>
    injection h with h
    rw [List.filter_eq_self.mpr (List.all_eq_true.mp hall), ← h]
    exact ⟨rfl, id⟩
  · split at h
    · cases h
    · next hleft =>
      injection h with h
      exact ⟨h.symm, fun _ => h ▸ hleft⟩

/-- A joined entry is the same but for its sources, of which the joining one alone is new (R152). -/
theorem ChimeEntry.join_eq (src : Source) (pat : Nat) (e : ChimeEntry) :
    e.join src pat = e ∨
      (e.pattern = pat ∧ src ∉ e.sources ∧ e.join src pat = { e with sources := e.sources ++ [src] }) := by
  unfold ChimeEntry.join
  split
  · next h => exact .inr ⟨h.1, h.2, rfl⟩
  · exact .inl rfl

theorem ChimeEntry.join_face (src : Source) (pat : Nat) (e : ChimeEntry) : (e.join src pat).face = e.face := by
  rcases e.join_eq src pat with h | ⟨-, -, h⟩
  · rw [h]
  · rw [h]; rfl

theorem ChimeEntry.join_resume (src : Source) (pat : Nat) (e : ChimeEntry) : (e.join src pat).resume = e.resume := by
  rcases e.join_eq src pat with h | ⟨-, -, h⟩ <;> rw [h]

theorem ChimeEntry.mem_join_sources {x : Source} (h : x ∈ (e.join src pat).sources) :
    x ∈ e.sources ∨ (x = src ∧ e.pattern = pat) := by
  rcases e.join_eq src pat with he | ⟨hpat, -, he⟩ <;> rw [he] at h
  · exact .inl h
  · exact (List.mem_append.mp h).imp_right fun hx => ⟨List.mem_singleton.mp hx, hpat⟩

end

section
variable {l l' : List ChimeEntry}

theorem faces_of_bare (h : (l'.map (·.bare)).Subperm (l.map (·.bare))) :
    (l'.map (·.face)).Subperm (l.map (·.face)) := by
  have hf := subperm_map ChimeEntry.face h
  rw [List.map_map, List.map_map] at hf
  exact hf

theorem filterMap_keeping_faces (keep : Source → Bool) :
    ∀ l : List ChimeEntry, ((l.filterMap (ChimeEntry.keeping keep)).map (·.face)).Sublist (l.map (·.face))
  | [] => .slnil
  | e :: l => by
    cases he : e.keeping keep with
    | none =>
      rw [List.filterMap_cons_none he]
      exact (filterMap_keeping_faces keep l).cons _
    | some e' =>
      have hface : e'.face = e.face := by rw [(ChimeEntry.keeping_eq he).1]; rfl
      rw [List.filterMap_cons_some he, List.map_cons, List.map_cons, hface]
      exact (filterMap_keeping_faces keep l).cons_cons _

theorem map_join_faces (src : Source) (pat : Nat) (l : List ChimeEntry) :
    (l.map (ChimeEntry.join src pat)).map (·.face) = l.map (·.face) := by
  rw [List.map_map]
  exact List.map_congr_left fun e _ => e.join_face src pat

end

/-! ### One entry of a pattern, and arrivals below the next (R152, R153) -/

/-- R151: each pattern has at most one entry, and each entry has arrived before the number `n`. -/
def DistinctEntries (n : Nat) (l : List ChimeEntry) : Prop :=
  (l.map (·.pattern)).Nodup ∧ ∀ e ∈ l, e.arrival < n

section
variable {n : Nat} {e : ChimeEntry} {l l' : List ChimeEntry}

theorem DistinctEntries.of_faces (h : DistinctEntries n l) (hf : (l'.map (·.face)).Subperm (l.map (·.face))) :
    DistinctEntries n l' := by
  refine ⟨?_, fun e he => ?_⟩
  · have hpat := subperm_map (fun e : ChimeEntry => e.pattern) hf
    rw [List.map_map, List.map_map] at hpat
    obtain ⟨k, hperm, hsub⟩ := hpat
    exact hperm.nodup_iff.mp (h.1.sublist hsub)
  · obtain ⟨x, hx, hxe⟩ := List.mem_map.mp (hf.subset (List.mem_map_of_mem he))
    show e.face.arrival < n
    rw [← hxe]
    exact h.2 x hx

theorem DistinctEntries.cons (h : DistinctEntries n l) (hnew : ∀ x ∈ l, x.pattern ≠ e.pattern) (he : e.arrival = n) :
    DistinctEntries (n + 1) (e :: l) := by
  refine ⟨List.nodup_cons.mpr ⟨fun hm => ?_, h.1⟩, fun x hx => ?_⟩
  · obtain ⟨x, hx, hxe⟩ := List.mem_map.mp hm
    exact hnew x hx hxe
  · rcases List.mem_cons.mp hx with rfl | hx
    · omega
    · exact Nat.lt_succ_of_lt (h.2 x hx)

end

/-! ### The pending list (R153) -/

/-- R153: at most 8 entries wait, by priority and then by arrival. -/
def QueuedEntries (l : List ChimeEntry) : Prop :=
  l.length ≤ 8 ∧
    l.Pairwise (fun a b => b.priority < a.priority ∨ (a.priority = b.priority ∧ a.arrival < b.arrival))

section
variable {e w : ChimeEntry} {l l' : List ChimeEntry}

theorem QueuedEntries.of_faces (h : QueuedEntries l) (hf : (l'.map (·.face)).Sublist (l.map (·.face))) :
    QueuedEntries l' := by
  refine ⟨?_, ?_⟩
  · have hlength := hf.length_le
    rw [List.length_map, List.length_map] at hlength
    exact hlength.trans h.1
  · have hfaces : (l.map (·.face)).Pairwise
        (fun a b => b.priority < a.priority ∨ (a.priority = b.priority ∧ a.arrival < b.arrival)) :=
      List.pairwise_map.mpr h.2
    exact List.pairwise_map.mp (hfaces.sublist hf)

theorem QueuedEntries.le_head (h : QueuedEntries l) (hw : l.head? = some w) : ∀ x ∈ l, x.priority ≤ w.priority := by
  obtain ⟨ws, rfl⟩ := List.head?_eq_some_iff.mp hw
  intro x hx
  rcases List.mem_cons.mp hx with rfl | hx
  · exact Nat.le_refl _
  · have hord := (List.pairwise_cons.mp h.2).1 x hx
    omega

/-- R153: an entry that arrives last takes its place by priority behind those of equal priority. -/
theorem insertWaiting_pairwise (harrival : ∀ x ∈ l, x.arrival < e.arrival)
    (h : l.Pairwise (fun a b => b.priority < a.priority ∨ (a.priority = b.priority ∧ a.arrival < b.arrival))) :
    (insertWaiting e l).Pairwise
      (fun a b => b.priority < a.priority ∨ (a.priority = b.priority ∧ a.arrival < b.arrival)) := by
  induction l with
  | nil => exact List.pairwise_singleton _ _
  | cons x xs ih =>
    obtain ⟨hx, hxs⟩ := List.pairwise_cons.mp h
    unfold insertWaiting
    split
    · next hle =>
      refine List.pairwise_cons.mpr ⟨fun y hy => ?_, ih (fun y hy => harrival y (List.mem_cons_of_mem _ hy)) hxs⟩
      rcases List.mem_cons.mp ((insertWaiting_perm e xs).subset hy) with rfl | hy
      · have hlast := harrival x List.mem_cons_self
        omega
      · exact hx y hy
    · next hlt =>
      refine List.pairwise_cons.mpr ⟨fun y hy => ?_, h⟩
      rcases List.mem_cons.mp hy with rfl | hy
      · omega
      · have hord := hx y hy
        omega

theorem QueuedEntries.insert (h : QueuedEntries l) (hroom : l.length < 8) (harrival : ∀ x ∈ l, x.arrival < e.arrival) :
    QueuedEntries (insertWaiting e l) :=
  ⟨by rw [(insertWaiting_perm e l).length_eq]; exact hroom, insertWaiting_pairwise harrival h.2⟩

end

/-! ### Sources (R151, R152) -/

/-- R151, R152: every entry has a source, each once, that asks for its pattern; a source belongs to at most one. -/
def SourcedEntries (asks : Source → Nat → Prop) (l : List ChimeEntry) : Prop :=
  (∀ e ∈ l, e.sources ≠ [] ∧ e.sources.Nodup ∧ ∀ x ∈ e.sources, asks x e.pattern) ∧
    l.Pairwise (fun a b => ∀ x ∈ a.sources, x ∉ b.sources)

section
variable {asks : Source → Nat → Prop} {l l' : List ChimeEntry} {e : ChimeEntry} {src : Source} {pat : Nat}

/-- A resume point is no matter of the sources. -/
theorem sourcedEntries_bare : SourcedEntries asks (l.map (·.bare)) ↔ SourcedEntries asks l := by
  unfold SourcedEntries
  rw [List.forall_mem_map, List.pairwise_map]
  rfl

theorem SourcedEntries.subperm (h : SourcedEntries asks l) (hsub : l'.Subperm l) : SourcedEntries asks l' := by
  refine ⟨fun e he => h.1 e (hsub.subset he), ?_⟩
  obtain ⟨k, hperm, hk⟩ := hsub
  exact (hperm.pairwise_iff fun hab x hx hx' => hab x hx' hx).mp (h.2.sublist hk)

theorem SourcedEntries.of_bare (h : SourcedEntries asks l) (hsub : (l'.map (·.bare)).Subperm (l.map (·.bare))) :
    SourcedEntries asks l' :=
  sourcedEntries_bare.mp ((sourcedEntries_bare.mpr h).subperm hsub)

/-- R155: entries that some sources have left. -/
theorem SourcedEntries.keeping (h : SourcedEntries asks l) (keep : Source → Bool) :
    SourcedEntries asks (l.filterMap (ChimeEntry.keeping keep)) := by
  have hfewer : ∀ e e', ChimeEntry.keeping keep e = some e' → ∀ x ∈ e'.sources, x ∈ e.sources := fun e e' he x hx => by
    rw [(ChimeEntry.keeping_eq he).1] at hx
    exact (List.mem_filter.mp hx).1
  refine ⟨fun e' he' => ?_, h.2.filterMap _ fun a b hab a' ha b' hb x hx hx' => ?_⟩
  · obtain ⟨e, he, hk⟩ := List.mem_filterMap.mp he'
    obtain ⟨hne, hnodup, hasks⟩ := h.1 e he
    obtain ⟨heq, hleft⟩ := ChimeEntry.keeping_eq hk
    refine ⟨hleft hne, by rw [heq]; exact hnodup.filter _, fun x hx => ?_⟩
    rw [ChimeEntry.keeping_pattern hk]
    exact hasks x (hfewer e e' hk x hx)
  · exact hab x (hfewer a a' ha x hx) (hfewer b b' hb x hx')

/-- R153: an entry made for a source that no other has. -/
theorem SourcedEntries.cons (h : SourcedEntries asks l) (he : e.sources = [src]) (hasks : asks src e.pattern)
    (hfree : ∀ x ∈ l, src ∉ x.sources) : SourcedEntries asks (e :: l) := by
  refine ⟨fun x hx => ?_, List.pairwise_cons.mpr ⟨fun x hx y hy => ?_, h.2⟩⟩
  · rcases List.mem_cons.mp hx with rfl | hx
    · rw [he]
      exact ⟨List.cons_ne_nil _ _, List.nodup_singleton _, fun y hy => (List.mem_singleton.mp hy) ▸ hasks⟩
    · exact h.1 x hx
  · rw [he, List.mem_singleton] at hy
    exact hy ▸ hfree x hx

/-- R152: a source joins the entry of a pattern, where no entry of another pattern has it. -/
theorem SourcedEntries.join (h : SourcedEntries asks l) (hdistinct : (l.map (·.pattern)).Nodup) (hasks : asks src pat)
    (hown : ∀ x ∈ l, src ∈ x.sources → x.pattern = pat) : SourcedEntries asks (l.map (ChimeEntry.join src pat)) := by
  refine ⟨fun e' he' => ?_, List.pairwise_map.mpr ?_⟩
  · obtain ⟨e, he, rfl⟩ := List.mem_map.mp he'
    obtain ⟨hne, hnodup, hask⟩ := h.1 e he
    rcases e.join_eq src pat with heq | ⟨hpat, hnew, heq⟩
    · rw [heq]
      exact ⟨hne, hnodup, hask⟩
    · rw [heq]
      refine ⟨List.append_ne_nil_of_left_ne_nil hne _, ?_, fun x hx => ?_⟩
      · rw [List.nodup_append_comm]
        exact List.nodup_cons.mpr ⟨hnew, hnodup⟩
      · rcases List.mem_append.mp hx with hx | hx
        · exact hask x hx
        · rw [List.mem_singleton.mp hx]
          exact hpat ▸ hasks
  · have hapart : l.Pairwise (fun a b => a.pattern ≠ b.pattern) := List.pairwise_map.mp hdistinct
    refine (h.2.and hapart).imp_of_mem fun {a b} ha hb hab x hxa hxb => ?_
    obtain ⟨hdisjoint, hpattern⟩ := hab
    rcases ChimeEntry.mem_join_sources hxa with hxa | ⟨rfl, hpa⟩ <;>
      rcases ChimeEntry.mem_join_sources hxb with hxb | ⟨hx, hpb⟩
    · exact hdisjoint x hxa hxb
    · exact hpattern ((hown a ha (hx ▸ hxa)).trans hpb.symm)
    · exact hpattern (hpa.trans (hown b hb hxb).symm)
    · exact hpattern (hpa.trans hpb.symm)

end

end Sys2Proof.Machine
end

section
/-! PROOFS. What a row can make of CHIME, said once (`ChimeMove`), and that each of these moves keeps the entries, their
order, their sources and their resume points (R151 to R159). -/

namespace Sys2Proof.Machine

open Sys2Proof

/-! ### The invariants in their parts -/

/-- R151, R159: CHIME in IDLE holds nothing, in PLAYING it holds a playing entry; a suspended entry has a resume point,
a waiting one has none. -/
def ChimeState.Posed (c : ChimeState) : Prop :=
  (c.phase = .idle → c.entries = []) ∧ (c.phase = .playing → c.playing.isSome = true) ∧
    (∀ e ∈ c.stack, e.resume.isSome = true) ∧ (∀ e ∈ c.waiting, e.resume = none)

theorem ChimeState.sound_iff {c : ChimeState} :
    c.Sound ↔ DistinctEntries c.nextArrival c.entries ∧ QueuedEntries c.waiting ∧ c.Posed :=
  ⟨fun ⟨h1, h2, h3, h4, h5⟩ => ⟨⟨h1, h3⟩, ⟨h2, h4⟩, h5⟩, fun ⟨⟨h1, h3⟩, ⟨h2, h4⟩, h5⟩ => ⟨h1, h2, h3, h4, h5⟩⟩

theorem ChimeState.Sound.distinct {c : ChimeState} (h : c.Sound) : DistinctEntries c.nextArrival c.entries :=
  (ChimeState.sound_iff.mp h).1

theorem ChimeState.Sound.queued {c : ChimeState} (h : c.Sound) : QueuedEntries c.waiting := by
  obtain ⟨-, hqueued, -⟩ := ChimeState.sound_iff.mp h
  exact hqueued

theorem ChimeState.Sound.posed {c : ChimeState} (h : c.Sound) : c.Posed := by
  obtain ⟨-, -, hposed⟩ := ChimeState.sound_iff.mp h
  exact hposed

/-- R151: priorities rise to the stack's top, the playing entry's lies above them and at or above every waiting one. -/
def ChimeState.Rising (c : ChimeState) : Prop :=
  c.stack.Pairwise (fun a b => a.priority < b.priority) ∧
    ∀ e, c.playing = some e → (∀ x ∈ c.stack, x.priority < e.priority) ∧ ∀ w ∈ c.waiting, w.priority ≤ e.priority

/-- R117, R148, R152: a source asks for a pattern of the profile. -/
def Profile.Asks (p : Profile) : Source → Nat → Prop
  | .cond k, pat => pat = p.condMap.getD k 0xFF
  | .slot j, _ => j < 4
  | .reverse, pat => pat = p.rev.chime

/-- A source asks for a pattern of the profile the machine holds. -/
def State.Asks (s : State) (src : Source) (pat : Nat) : Prop := ∀ p, s.boot.profile = some p → p.Asks src pat

/-- `ChimeRanked`, of a CHIME in a machine with the profile of `s`. -/
structure ChimeState.Filed (s : State) (c : ChimeState) : Prop where
  sourced : SourcedEntries s.Asks c.entries
  rising : c.Rising
  deep : c.stack.length ≤ s.stackDepth
  silent : s.boot.profile = none → c.entries = []

theorem chimeRanked_iff {s : State} : ChimeRanked s ↔ s.chime.Filed s := by
  constructor
  · rintro ⟨⟨hsources, hdisjoint, hrising⟩, hdeep, hsilent, hasks⟩
    refine ⟨⟨fun e he => ⟨(hsources e he).1, (hsources e he).2, fun x hx p hp => ?_⟩, hdisjoint⟩, hrising, hdeep,
      hsilent⟩
    obtain ⟨hcond, hreverse, hslot⟩ := hasks p hp e he
    cases x with
    | cond k => exact hcond k hx
    | slot j => exact hslot j hx
    | reverse => exact hreverse hx
  · rintro ⟨⟨hsources, hdisjoint⟩, hrising, hdeep, hsilent⟩
    refine ⟨⟨fun e he => ?_, hdisjoint, hrising⟩, hdeep, hsilent, fun p hp e he => ?_⟩
    · obtain ⟨hne, hnodup, -⟩ := hsources e he
      exact ⟨hne, hnodup⟩
    · obtain ⟨-, -, hask⟩ := hsources e he
      exact ⟨fun k hk => hask _ hk p hp, fun hr => hask _ hr p hp, fun j hj => hask _ hj p hp⟩

/-- A CHIME without entries files nothing wrongly. -/
theorem ChimeState.Filed.of_empty {s : State} {c : ChimeState} (h : c.entries = []) : c.Filed s := by
  obtain ⟨hplaying, hwaiting⟩ := List.append_eq_nil_iff.mp h
  obtain ⟨hplaying, hstack⟩ := List.append_eq_nil_iff.mp hplaying
  refine ⟨by rw [h]; exact ⟨nofun, .nil⟩, ⟨by rw [hstack]; exact .nil, fun e he => ?_⟩,
    by rw [hstack]; exact Nat.zero_le _, fun _ => h⟩
  rw [Option.toList_eq_nil_iff.mp hplaying] at he
  cases he

/-! ### Moves that bring no entry -/

theorem exists_priority_of_faces {l l' : List ChimeEntry} {x : ChimeEntry}
    (h : (l'.map (·.face)).Sublist (l.map (·.face))) (hx : x ∈ l') : ∃ y ∈ l, y.priority = x.priority := by
  obtain ⟨y, hy, hyx⟩ := List.mem_map.mp (h.subset (List.mem_map_of_mem hx))
  have hprio : y.face.priority = x.face.priority := by rw [hyx]
  exact ⟨y, hy, hprio⟩

/-- Every entry of `c'` is one of `c` in the same place, but perhaps for its sources and its resume point. -/
structure ChimeState.Thins (c c' : ChimeState) : Prop where
  playing : (c'.playing.toList.map (·.face)).Sublist (c.playing.toList.map (·.face))
  stack : (c'.stack.map (·.face)).Sublist (c.stack.map (·.face))
  waiting : (c'.waiting.map (·.face)).Sublist (c.waiting.map (·.face))
  arrival : c'.nextArrival = c.nextArrival

section
variable {c c' : ChimeState}

theorem ChimeState.Thins.entries (h : c.Thins c') : (c'.entries.map (·.face)).Sublist (c.entries.map (·.face)) := by
  unfold ChimeState.entries
  rw [List.map_append, List.map_append, List.map_append, List.map_append]
  exact (h.playing.append h.stack).append h.waiting

theorem ChimeState.Thins.empty (h : c.Thins c') (hc : c.entries = []) : c'.entries = [] := by
  have hsub := h.entries
  rw [hc] at hsub
  exact List.map_eq_nil_iff.mp (List.sublist_nil.mp hsub)

theorem ChimeState.Thins.sound (h : c.Thins c') (hs : c.Sound) (hposed : c'.Posed) : c'.Sound := by
  exact ChimeState.sound_iff.mpr
    ⟨h.arrival.symm ▸ hs.distinct.of_faces h.entries.subperm, hs.queued.of_faces h.waiting, hposed⟩

theorem ChimeState.Thins.rising (h : c.Thins c') (hr : c.Rising) : c'.Rising := by
  obtain ⟨hstack, habove⟩ := hr
  have hfaces : (c.stack.map (·.face)).Pairwise (fun a b => a.priority < b.priority) := List.pairwise_map.mpr hstack
  have hthin := hfaces.sublist h.stack
  rw [List.pairwise_map] at hthin
  refine ⟨hthin, fun e' he' => ?_⟩
  obtain ⟨e, he, hprio⟩ := exists_priority_of_faces h.playing (Option.mem_toList.mpr he')
  obtain ⟨hbelow, hbehind⟩ := habove e (Option.mem_toList.mp he)
  refine ⟨fun x hx => ?_, fun w hw => ?_⟩
  · obtain ⟨y, hy, hyx⟩ := exists_priority_of_faces h.stack hx
    rw [← hyx, ← hprio]
    exact hbelow y hy
  · obtain ⟨y, hy, hyw⟩ := exists_priority_of_faces h.waiting hw
    rw [← hyw, ← hprio]
    exact hbehind y hy

theorem ChimeState.Thins.filed {s : State} (h : c.Thins c') (hf : c.Filed s)
    (hsourced : SourcedEntries s.Asks c'.entries) : c'.Filed s := by
  have hlength := h.stack.length_le
  rw [List.length_map, List.length_map] at hlength
  exact ⟨hsourced, h.rising hf.rising, hlength.trans hf.deep, fun hp => h.empty (hf.silent hp)⟩

end

/-! ### CHIME with the same entries -/

/-- `c'` has the phase, the entries and the next arrival number of `c`. -/
structure ChimeState.Alike (c c' : ChimeState) : Prop where
  phase : c'.phase = c.phase
  playing : c'.playing = c.playing
  stack : c'.stack = c.stack
  waiting : c'.waiting = c.waiting
  arrival : c'.nextArrival = c.nextArrival

section
variable {c c' : ChimeState}

theorem ChimeState.Alike.entries (h : c.Alike c') : c'.entries = c.entries := by
  unfold ChimeState.entries
  rw [h.playing, h.stack, h.waiting]

theorem ChimeState.Alike.thins (h : c.Alike c') : c.Thins c' :=
  ⟨by rw [h.playing], by rw [h.stack], by rw [h.waiting], h.arrival⟩

theorem ChimeState.Alike.posed (h : c.Alike c') (hp : c.Posed) : c'.Posed := by
  unfold ChimeState.Posed
  rw [h.phase, h.entries, h.playing, h.stack, h.waiting]
  exact hp

end

/-! ### The playing entry gone (R156) -/

/-- CHIME without its playing entry, about to choose a successor. -/
def ChimeState.vacated (c : ChimeState) : ChimeState := { c with phase := .switching, playing := none }

theorem ChimeState.vacated_thins (c : ChimeState) : c.Thins c.vacated :=
  ⟨List.nil_sublist _, .refl _, .refl _, rfl⟩

theorem ChimeState.vacated_entries (c : ChimeState) : c.vacated.entries.Sublist c.entries :=
  ((List.nil_sublist _).append_right _).append_right _

theorem ChimeState.vacated_posed {c : ChimeState} (h : c.Posed) : c.vacated.Posed := by
  obtain ⟨-, -, hstack, hwaiting⟩ := h
  exact ⟨nofun, nofun, hstack, hwaiting⟩

/-! ### The playing entry started (R158) -/

section
variable {c : ChimeState} {pats : List Pattern} {e : ChimeEntry}

theorem ChimeState.start_thins (hp : c.playing = some e) : c.Thins (c.start pats e) := by
  refine ⟨?_, .refl _, .refl _, rfl⟩
  rw [hp]
  exact .refl _

theorem ChimeState.start_bare (hp : c.playing = some e) :
    (c.start pats e).entries.map (·.bare) = c.entries.map (·.bare) := by
  unfold ChimeState.entries
  rw [hp]
  rfl

theorem ChimeState.start_posed (h : c.Posed) : (c.start pats e).Posed := by
  obtain ⟨-, -, hstack, hwaiting⟩ := h
  exact ⟨nofun, fun _ => rfl, hstack, hwaiting⟩

end

/-! ### The successor (R157) -/

/-- CHIME with the successor it has chosen as its playing entry: from the stack, or from the pending list. -/
def ChimeState.chosen (c : ChimeState) (x : ChimeEntry) (stack waiting : List ChimeEntry) : ChimeState :=
  { c with phase := .switching, playing := some x, stack := stack, waiting := waiting }

/-- R157: without a playing entry, the successor is chosen and starts, or CHIME is left with nothing. -/
theorem ChimeState.succeed_cases (c : ChimeState) (pats : List Pattern) (hp : c.playing = none) :
    (∃ x, c.stack.getLast? = some x ∧ (∀ w, c.waiting.head? = some w → w.priority ≤ x.priority) ∧
      c.succeed pats = (c.chosen x c.stack.dropLast c.waiting).start pats x) ∨
    (∃ w, c.waiting.head? = some w ∧ (∀ x, c.stack.getLast? = some x → x.priority < w.priority) ∧
      c.succeed pats = (c.chosen w c.stack c.waiting.tail).start pats w) ∨
    (c.entries = [] ∧ c.succeed pats = { c with phase := .idle, playing := none, fade := none }) := by
  rcases c.successor_cases with ⟨x, hx, hle⟩ | ⟨w, hw, hlt⟩ | ⟨hs, hw⟩
  · exact .inl ⟨x, hx, hle, ChimeState.succeed_top hx hle⟩
  · exact .inr (.inl ⟨w, hw, hlt, ChimeState.succeed_head hw hlt⟩)
  · refine .inr (.inr ⟨?_, ChimeState.succeed_nobody hs hw⟩)
    rw [ChimeState.entries, hp, hs, hw]
    rfl

section
variable {c : ChimeState} {x w : ChimeEntry}

theorem ChimeState.chosen_top_entries (hp : c.playing = none) (hx : c.stack.getLast? = some x) :
    (c.chosen x c.stack.dropLast c.waiting).entries.Perm c.entries := by
  have hstack : c.stack.dropLast ++ [x] = c.stack := List.dropLast_append_getLast? x hx
  unfold ChimeState.entries
  rw [hp]
  refine List.Perm.append_right c.waiting ?_
  show (x :: c.stack.dropLast).Perm c.stack
  conv_rhs => rw [← hstack]
  exact (List.perm_append_singleton x _).symm

theorem ChimeState.chosen_head_entries (hp : c.playing = none) (hw : c.waiting.head? = some w) :
    (c.chosen w c.stack c.waiting.tail).entries.Perm c.entries := by
  obtain ⟨ws, hws⟩ := List.head?_eq_some_iff.mp hw
  unfold ChimeState.entries
  rw [hp]
  show (w :: (c.stack ++ c.waiting.tail)).Perm (c.stack ++ c.waiting)
  rw [hws]
  exact List.perm_middle.symm

theorem ChimeState.chosen_sound {stack waiting : List ChimeEntry} (hs : c.Sound)
    (hentries : (c.chosen x stack waiting).entries.Perm c.entries) (hstack : stack ⊆ c.stack)
    (hwaiting : waiting.Sublist c.waiting) : (c.chosen x stack waiting).Sound := by
  obtain ⟨hdistinct, hqueued, -, -, hsuspended, hfresh⟩ := ChimeState.sound_iff.mp hs
  exact ChimeState.sound_iff.mpr ⟨hdistinct.of_faces (hentries.map _).subperm, hqueued.of_faces (hwaiting.map _), nofun,
    nofun, fun e he => hsuspended e (hstack he), fun e he => hfresh e (hwaiting.subset he)⟩

/-- The stack's priorities rise to its top. -/
theorem ChimeState.Rising.top (h : c.Rising) (hx : c.stack.getLast? = some x) :
    (∀ y ∈ c.stack.dropLast, y.priority < x.priority) ∧ ∀ y ∈ c.stack, y.priority ≤ x.priority := by
  have hstack : c.stack.dropLast ++ [x] = c.stack := List.dropLast_append_getLast? x hx
  have hord := h.1
  rw [← hstack, List.pairwise_append] at hord
  obtain ⟨-, -, hlast⟩ := hord
  have hbelow : ∀ y ∈ c.stack.dropLast, y.priority < x.priority := fun y hy => hlast y hy x (List.mem_singleton_self x)
  refine ⟨hbelow, fun y hy => ?_⟩
  rw [← hstack] at hy
  rcases List.mem_append.mp hy with hy | hy
  · exact (hbelow y hy).le
  · rw [List.mem_singleton.mp hy]

theorem ChimeState.chosen_top_rising (hr : c.Rising) (hq : QueuedEntries c.waiting) (hx : c.stack.getLast? = some x)
    (hle : ∀ w, c.waiting.head? = some w → w.priority ≤ x.priority) :
    (c.chosen x c.stack.dropLast c.waiting).Rising := by
  refine ⟨hr.1.sublist (List.dropLast_sublist _), fun e he => ?_⟩
  obtain rfl : x = e := Option.some.inj he
  refine ⟨(hr.top hx).1, fun y hy => ?_⟩
  obtain ⟨w, hw⟩ : ∃ w, c.waiting.head? = some w :=
    Option.isSome_iff_exists.mp (List.isSome_head?.mpr (List.ne_nil_of_mem hy))
  exact (hq.le_head hw y hy).trans (hle w hw)

theorem ChimeState.chosen_head_rising (hr : c.Rising) (hq : QueuedEntries c.waiting) (hw : c.waiting.head? = some w)
    (hlt : ∀ x, c.stack.getLast? = some x → x.priority < w.priority) :
    (c.chosen w c.stack c.waiting.tail).Rising := by
  refine ⟨hr.1, fun e he => ?_⟩
  obtain rfl : w = e := Option.some.inj he
  refine ⟨fun y hy => ?_, fun y hy => hq.le_head hw y (List.mem_of_mem_tail hy)⟩
  have hx := List.getLast?_eq_some_getLast (List.ne_nil_of_mem hy)
  exact ((hr.top hx).2 y hy).trans_lt (hlt _ hx)

end

theorem ChimeState.succeed_sound {c : ChimeState} {pats : List Pattern} (hp : c.playing = none) (hs : c.Sound) :
    (c.succeed pats).Sound := by
  have hstart : ∀ {x : ChimeEntry} {d : ChimeState}, d.playing = some x → d.Sound → (d.start pats x).Sound :=
    fun hd hsound => (ChimeState.start_thins hd).sound hsound (ChimeState.start_posed hsound.posed)
  rcases c.succeed_cases pats hp with ⟨x, hx, -, heq⟩ | ⟨w, hw, -, heq⟩ | ⟨hnone, heq⟩ <;> rw [heq]
  · exact hstart rfl (ChimeState.chosen_sound hs (ChimeState.chosen_top_entries hp hx) (List.dropLast_subset _)
      (.refl _))
  · exact hstart rfl (ChimeState.chosen_sound hs (ChimeState.chosen_head_entries hp hw) (List.Subset.refl _)
      (List.tail_sublist _))
  · have hthins : c.Thins { c with phase := .idle, playing := none, fade := none } :=
      ⟨List.nil_sublist _, .refl _, .refl _, rfl⟩
    obtain ⟨-, -, hsuspended, hfresh⟩ := hs.posed
    exact hthins.sound hs ⟨fun _ => hthins.empty hnone, nofun, hsuspended, hfresh⟩

theorem ChimeState.succeed_filed {s : State} {c : ChimeState} {pats : List Pattern} (hp : c.playing = none)
    (hs : c.Sound) (hf : c.Filed s) : (c.succeed pats).Filed s := by
  have hqueued := hs.queued
  have hstart : ∀ {x : ChimeEntry} {d : ChimeState}, d.playing = some x → d.entries.Perm c.entries → d.Rising →
      d.stack.length ≤ c.stack.length → (d.start pats x).Filed s := fun {x d} hd hentries hrising hlength => by
    have hfiled : d.Filed s := ⟨hf.sourced.subperm hentries.subperm, hrising, hlength.trans hf.deep,
      fun hnone => List.perm_nil.mp (hf.silent hnone ▸ hentries)⟩
    refine (ChimeState.start_thins hd).filed hfiled (hfiled.sourced.of_bare ?_)
    rw [ChimeState.start_bare hd]
  rcases c.succeed_cases pats hp with ⟨x, hx, hle, heq⟩ | ⟨w, hw, hlt, heq⟩ | ⟨hnone, heq⟩ <;> rw [heq]
  · exact hstart rfl (ChimeState.chosen_top_entries hp hx) (ChimeState.chosen_top_rising hf.rising hqueued hx hle)
      (List.dropLast_sublist _).length_le
  · exact hstart rfl (ChimeState.chosen_head_entries hp hw) (ChimeState.chosen_head_rising hf.rising hqueued hw hlt)
      (Nat.le_refl _)
  · refine .of_empty ?_
    rw [ChimeState.entries, hp] at hnone
    exact hnone

/-! ### Cancels (R155) -/

section
variable (c : ChimeState) (src : Source)

theorem ChimeState.cancel_collections :
    (c.cancel src).playing = c.playing.bind (ChimeEntry.keeping (· != src)) ∧
      (c.cancel src).stack = c.stack.filterMap (ChimeEntry.keeping (· != src)) ∧
      (c.cancel src).waiting = c.waiting.filterMap (ChimeEntry.keeping (· != src)) ∧
      (c.cancel src).nextArrival = c.nextArrival := by
  rw [(c.cancel_withdrawn src).frame]
  exact ⟨rfl, rfl, rfl, rfl⟩

theorem toList_bind_eq_filterMap {α β : Type} (f : α → Option β) : ∀ o : Option α,
    (o.bind f).toList = o.toList.filterMap f
  | none => rfl
  | some a => by cases h : f a <;> simp [h]

theorem ChimeState.cancel_entries :
    (c.cancel src).entries = c.entries.filterMap (ChimeEntry.keeping (· != src)) := by
  obtain ⟨hplaying, hstack, hwaiting, -⟩ := c.cancel_collections src
  rw [ChimeState.entries, hplaying, hstack, hwaiting, toList_bind_eq_filterMap, ← List.filterMap_append,
    ← List.filterMap_append]
  rfl

/-- A source that is cancelled is a source of no entry. -/
theorem ChimeState.cancel_free : ∀ e ∈ (c.cancel src).entries, src ∉ e.sources := by
  intro e' he' hsrc
  rw [c.cancel_entries] at he'
  obtain ⟨e, -, hk⟩ := List.mem_filterMap.mp he'
  rw [(ChimeEntry.keeping_eq hk).1] at hsrc
  simpa using (List.mem_filter.mp hsrc).2

/-- R155, R158: a fade begins, or the phase stays and a sounding entry keeps a source. -/
theorem ChimeState.cancel_phase :
    (c.cancel src).phase = .switching ∨ ((c.cancel src).phase = c.phase ∧
      (c.phase = .playing → ∀ e, c.playing = some e → e.keeping (· != src) ≠ none)) := by
  have hw := c.cancel_withdrawn src
  by_cases hfade : c.phase = .playing ∧ ∃ e, c.playing = some e ∧ e.keeping (· != src) = none
  · obtain ⟨hph, e, he, hgone⟩ := hfade
    exact .inl (hw.fades e hph he hgone).1
  · have hkept : c.phase = .playing → ∀ e, c.playing = some e → e.keeping (· != src) ≠ none :=
      fun hph e he hgone => hfade ⟨hph, e, he, hgone⟩
    refine .inr ⟨(hw.stays ?_).1, hkept⟩
    by_cases hph : c.phase = .playing
    · exact .inr (hkept hph)
    · exact .inl hph

theorem ChimeState.cancel_thins : c.Thins (c.cancel src) := by
  obtain ⟨hplaying, hstack, hwaiting, harrival⟩ := c.cancel_collections src
  refine ⟨?_, ?_, ?_, harrival⟩
  · rw [hplaying, toList_bind_eq_filterMap]; exact filterMap_keeping_faces _ _
  · rw [hstack]; exact filterMap_keeping_faces _ _
  · rw [hwaiting]; exact filterMap_keeping_faces _ _

end

/-- A withdrawal leaves each entry its resume point. -/
theorem ChimeEntry.keeping_resume {keep : Source → Bool} {e e' : ChimeEntry} (h : e.keeping keep = some e') :
    e'.resume = e.resume := by
  rw [(ChimeEntry.keeping_eq h).1]

theorem ChimeState.cancel_posed {c : ChimeState} (h : c.Posed) (src : Source) : (c.cancel src).Posed := by
  obtain ⟨hidle, hplays, hsuspended, hfresh⟩ := h
  obtain ⟨hplaying, hstack, hwaiting, -⟩ := c.cancel_collections src
  have hresume : ∀ {l : List ChimeEntry} {P : Option Resume → Prop}, (∀ e ∈ l, P e.resume) →
      ∀ e' ∈ l.filterMap (ChimeEntry.keeping (· != src)), P e'.resume := fun hP e' he' => by
    obtain ⟨e, he, hk⟩ := List.mem_filterMap.mp he'
    rw [ChimeEntry.keeping_resume hk]
    exact hP e he
  refine ⟨fun hph => ?_, fun hph => ?_, ?_, ?_⟩
  · rcases c.cancel_phase src with h | ⟨h, -⟩ <;> rw [h] at hph
    · cases hph
    · exact (c.cancel_thins src).empty (hidle hph)
  · rcases c.cancel_phase src with h | ⟨h, hstays⟩ <;> rw [h] at hph
    · cases hph
    · obtain ⟨e, he⟩ := Option.isSome_iff_exists.mp (hplays hph)
      rw [hplaying, he]
      exact Option.isSome_iff_ne_none.mpr (hstays hph e he)
  · rw [hstack]; exact hresume (P := fun r => r.isSome = true) hsuspended
  · rw [hwaiting]; exact hresume (P := fun r => r = none) hfresh

/-! ### A source joins (R152) -/

section
variable (c : ChimeState) (src : Source) (pat : Nat)

theorem ChimeState.join_entries : (c.join src pat).entries = c.entries.map (ChimeEntry.join src pat) := by
  unfold ChimeState.entries ChimeState.join
  rw [List.map_append, List.map_append]
  cases c.playing <;> rfl

theorem ChimeState.join_thins : c.Thins (c.join src pat) := by
  refine ⟨?_, ?_, ?_, rfl⟩
  · cases hp : c.playing with
    | none => simp only [ChimeState.join, hp, Option.map_none]; exact .refl _
    | some e =>
      simp only [ChimeState.join, hp, Option.map_some]
      exact (map_join_faces src pat [e]).symm ▸ .refl _
  · exact (map_join_faces src pat c.stack).symm ▸ .refl _
  · exact (map_join_faces src pat c.waiting).symm ▸ .refl _

theorem ChimeState.join_posed {c : ChimeState} (h : c.Posed) : (c.join src pat).Posed := by
  obtain ⟨hidle, hplays, hsuspended, hfresh⟩ := h
  refine ⟨fun hph => (c.join_thins src pat).empty (hidle hph), fun hph => ?_, fun e he => ?_, fun e he => ?_⟩
  · rw [ChimeState.join, Option.isSome_map]
    exact hplays hph
  · obtain ⟨x, hx, rfl⟩ := List.mem_map.mp he
    rw [ChimeEntry.join_resume]
    exact hsuspended x hx
  · obtain ⟨x, hx, rfl⟩ := List.mem_map.mp he
    rw [ChimeEntry.join_resume]
    exact hfresh x hx

end

/-! ### A new entry placed (R153, R159) -/

section
variable {c : ChimeState} {pats : List Pattern} {depth : Nat} {e : ChimeEntry}

/-- R153, R159: a new entry starts from IDLE, preempts, waits, or is refused. -/
theorem ChimeState.place_cases (c : ChimeState) (pats : List Pattern) (depth : Nat) (e : ChimeEntry) :
    (c.phase = .idle ∧ (c.place pats depth e).1 = c.start pats e) ∨
    (∃ old, c.phase ≠ .idle ∧ c.playing = some old ∧ old.priority < e.priority ∧
      (c.place pats depth e).1 = (c.preempt pats depth old e).1) ∨
    (c.phase ≠ .idle ∧ (∀ old, c.playing = some old → e.priority ≤ old.priority) ∧ c.waiting.length < 8 ∧
      (c.place pats depth e).1 = { c with waiting := insertWaiting e c.waiting }) ∨
    c.Alike (c.place pats depth e).1 := by
  by_cases hidle : c.phase = .idle
  · exact .inl ⟨hidle, by rw [ChimeState.place_idle hidle]⟩
  · by_cases hpre : ∃ old, c.playing = some old ∧ old.priority < e.priority
    · obtain ⟨old, hp, hlt⟩ := hpre
      exact .inr (.inl ⟨old, hidle, hp, hlt, by rw [ChimeState.place_preempts hidle hp hlt]⟩)
    · have hle : ∀ old, c.playing = some old → e.priority ≤ old.priority :=
        fun old hp => Nat.not_lt.mp fun hlt => hpre ⟨old, hp, hlt⟩
      by_cases hroom : c.waiting.length < 8
      · exact .inr (.inr (.inl ⟨hidle, hle, hroom, by rw [ChimeState.place_waits hidle hle hroom]⟩))
      · rw [ChimeState.place_refused hidle hle (Nat.not_lt.mp hroom)]
        exact .inr (.inr (.inr ⟨rfl, rfl, rfl, rfl, rfl⟩))

/-- R159: the playing entry goes onto the stack, with a resume point, above what a full stack keeps. -/
theorem ChimeState.preempt_collections {old : ChimeEntry} (hbusy : c.phase ≠ .idle) :
    ∃ (kept : List ChimeEntry) (r : Resume), kept.Sublist c.stack ∧
      (0 < depth → c.stack.length ≤ depth → kept.length + 1 ≤ depth) ∧
      (c.preempt pats depth old e).1.phase = .switching ∧ (c.preempt pats depth old e).1.playing = some e ∧
      (c.preempt pats depth old e).1.stack = kept ++ [{ old with resume := some r }] ∧
      (c.preempt pats depth old e).1.waiting = c.waiting ∧
      (c.preempt pats depth old e).1.nextArrival = c.nextArrival := by
  rw [ChimeState.preempt_chime hbusy]
  refine ⟨_, _, List.drop_sublist _ _, fun hpos hdeep => ?_, rfl, rfl, rfl, rfl, rfl⟩
  rw [List.length_drop]
  split
  · rw [List.length_take]; omega
  · rw [List.length_nil]; omega

theorem ChimeState.place_nextArrival (c : ChimeState) (pats : List Pattern) (depth : Nat) (e : ChimeEntry) :
    (c.place pats depth e).1.nextArrival = c.nextArrival := by
  rcases c.place_cases pats depth e with ⟨-, h⟩ | ⟨old, hbusy, -, -, h⟩ | ⟨-, -, -, h⟩ | h
  · rw [h]; rfl
  · obtain ⟨_, _, -, -, -, -, -, -, harrival⟩ := ChimeState.preempt_collections (pats := pats) (depth := depth)
      (e := e) (old := old) hbusy
    rw [h, harrival]
  · rw [h]
  · exact h.arrival

/-- The entries of a CHIME that has placed `e` are among those it had and `e`. -/
theorem ChimeState.place_bare (c : ChimeState) (pats : List Pattern) (depth : Nat) (e : ChimeEntry) :
    ((c.place pats depth e).1.entries.map (·.bare)).Subperm ((e :: c.entries).map (·.bare)) := by
  rcases c.place_cases pats depth e with ⟨-, h⟩ | ⟨old, hbusy, hp, -, h⟩ | ⟨-, -, -, h⟩ | h
  · rw [h]
    exact (c.vacated_entries.map _).cons_cons e.bare |>.subperm
  · obtain ⟨kept, r, hkept, -, -, hplaying, hstack, hwaiting, -⟩ :=
      ChimeState.preempt_collections (pats := pats) (depth := depth) (e := e) (old := old) hbusy
    rw [h, ChimeState.entries, ChimeState.entries, hplaying, hstack, hwaiting, hp]
    have hmoved : (kept.map (·.bare) ++ [old.bare] ++ c.waiting.map (·.bare)).Perm
        (old.bare :: (kept.map (·.bare) ++ c.waiting.map (·.bare))) :=
      (List.append_assoc _ _ _).symm ▸ List.perm_middle
    have hsub : (old.bare :: (kept.map (·.bare) ++ c.waiting.map (·.bare))).Sublist
        (old.bare :: (c.stack.map (·.bare) ++ c.waiting.map (·.bare))) :=
      ((hkept.map _).append_right _).cons_cons _
    have hall := (List.subperm_cons e.bare).mpr (hmoved.subperm.trans hsub.subperm)
    have hold : ({ old with resume := some r } : ChimeEntry).bare = old.bare := rfl
    simpa [hold] using hall
  · rw [h]
    have hentries := ((insertWaiting_perm e c.waiting).append_left (c.playing.toList ++ c.stack)).trans List.perm_middle
    exact (hentries.map _).subperm
  · rw [h.entries]
    exact (List.sublist_cons_self _ _).subperm

theorem ChimeState.place_posed (h : c.Posed) (he : e.resume = none) : (c.place pats depth e).1.Posed := by
  obtain ⟨hidle, hplays, hsuspended, hfresh⟩ := h
  rcases c.place_cases pats depth e with ⟨-, h⟩ | ⟨old, hbusy, hp, -, h⟩ | ⟨hbusy, -, -, h⟩ | h
  · rw [h]
    exact ChimeState.start_posed ⟨hidle, hplays, hsuspended, hfresh⟩
  · obtain ⟨kept, r, hkept, -, hphase, -, hstack, hwaiting, -⟩ :=
      ChimeState.preempt_collections (pats := pats) (depth := depth) (e := e) (old := old) hbusy
    unfold ChimeState.Posed
    rw [h, hphase, hstack, hwaiting]
    refine ⟨nofun, nofun, fun x hx => ?_, hfresh⟩
    rcases List.mem_append.mp hx with hx | hx
    · exact hsuspended x (hkept.subset hx)
    · rw [List.mem_singleton.mp hx]; rfl
  · rw [h]
    refine ⟨fun hph => absurd hph hbusy, hplays, hsuspended, fun x hx => ?_⟩
    rcases List.mem_cons.mp ((insertWaiting_perm e c.waiting).subset hx) with rfl | hx
    · exact he
    · exact hfresh x hx
  · exact h.posed ⟨hidle, hplays, hsuspended, hfresh⟩

theorem ChimeState.place_queued (h : QueuedEntries c.waiting) (he : ∀ x ∈ c.waiting, x.arrival < e.arrival) :
    QueuedEntries (c.place pats depth e).1.waiting := by
  rcases c.place_cases pats depth e with ⟨-, hplace⟩ | ⟨old, hbusy, -, -, hplace⟩ | ⟨-, -, hroom, hplace⟩ | hplace
  · rw [hplace]; exact h
  · obtain ⟨_, _, -, -, -, -, -, hwaiting, -⟩ := ChimeState.preempt_collections (pats := pats) (depth := depth)
      (e := e) (old := old) hbusy
    rw [hplace, hwaiting]; exact h
  · rw [hplace]; exact h.insert hroom he
  · rw [hplace.waiting]; exact h

theorem ChimeState.place_rising (h : c.Rising) (hidle : c.phase = .idle → c.entries = []) :
    (c.place pats depth e).1.Rising := by
  obtain ⟨hstack, habove⟩ := h
  rcases c.place_cases pats depth e with ⟨hph, h⟩ | ⟨old, hbusy, hp, hlt, h⟩ | ⟨-, hle, -, h⟩ | h
  · obtain ⟨hnone, hwaiting⟩ := List.append_eq_nil_iff.mp (hidle hph)
    rw [h]
    refine ⟨hstack, fun x _ => ⟨fun y hy => ?_, fun y hy => ?_⟩⟩
    · exact absurd ((List.append_eq_nil_iff.mp hnone).2 ▸ hy) List.not_mem_nil
    · exact absurd (hwaiting ▸ hy) List.not_mem_nil
  · obtain ⟨kept, r, hkept, -, -, hplaying, hstack', hwaiting, -⟩ :=
      ChimeState.preempt_collections (pats := pats) (depth := depth) (e := e) (old := old) hbusy
    obtain ⟨hbelow, hbehind⟩ := habove old hp
    unfold ChimeState.Rising
    rw [h, hplaying, hstack', hwaiting]
    refine ⟨List.pairwise_append.mpr ⟨hstack.sublist hkept, List.pairwise_singleton _ _, fun x hx y hy => ?_⟩,
      fun x hx => ?_⟩
    · rw [List.mem_singleton.mp hy]
      exact hbelow x (hkept.subset hx)
    · obtain rfl := Option.some.inj hx
      refine ⟨fun y hy => ?_, fun w hw => (hbehind w hw).trans hlt.le⟩
      rcases List.mem_append.mp hy with hy | hy
      · exact (hbelow y (hkept.subset hy)).trans hlt
      · rw [List.mem_singleton.mp hy]; exact hlt
  · rw [h]
    refine ⟨hstack, fun x hx => ⟨(habove x hx).1, fun w hw => ?_⟩⟩
    rcases List.mem_cons.mp ((insertWaiting_perm e c.waiting).subset hw) with rfl | hw
    · exact hle x hx
    · exact (habove x hx).2 w hw
  · exact h.thins.rising ⟨hstack, habove⟩

theorem ChimeState.place_deep (h : c.stack.length ≤ depth) (hpos : 0 < depth) :
    (c.place pats depth e).1.stack.length ≤ depth := by
  rcases c.place_cases pats depth e with ⟨-, hplace⟩ | ⟨old, hbusy, -, -, hplace⟩ | ⟨-, -, -, hplace⟩ | hplace
  · rw [hplace]; exact h
  · obtain ⟨kept, r, -, hdeep, -, -, hstack, -, -⟩ := ChimeState.preempt_collections (pats := pats) (depth := depth)
      (e := e) (old := old) hbusy
    rw [hplace, hstack, List.length_append]
    exact hdeep hpos h
  · rw [hplace]; exact h
  · rw [hplace.stack]; exact h

end

section
variable {s : State} {c : ChimeState} {src : Source} {pat : Nat}

/-- R153: a request of a pattern that has no entry keeps the order of the entries. -/
theorem ChimeState.place_sound {pats : List Pattern} {depth : Nat} (hnew : ∀ e ∈ c.entries, e.pattern ≠ pat)
    (hs : c.Sound) :
    (c.numbered.place pats depth (c.asked pats src pat)).1.Sound := by
  obtain ⟨hdistinct, hqueued, hposed⟩ := ChimeState.sound_iff.mp hs
  have hcons : DistinctEntries (c.nextArrival + 1) (c.asked pats src pat :: c.entries) := hdistinct.cons hnew rfl
  refine ChimeState.sound_iff.mpr ⟨?_, ChimeState.place_queued (c := c.numbered) hqueued fun x hx => ?_,
    ChimeState.place_posed (c := c.numbered) hposed rfl⟩
  · rw [ChimeState.place_nextArrival]
    exact hcons.of_faces (faces_of_bare (c.numbered.place_bare pats depth _))
  · exact hdistinct.2 x (List.mem_append_right _ hx)

/-- R153, R159: a request of a source that has no entry keeps the ranks and the sources. -/
theorem ChimeState.place_filed (hs : c.Sound) (hf : c.Filed s) (hpos : 0 < s.stackDepth)
    (hprofile : s.boot.profile ≠ none) (hasks : s.Asks src pat) (hfree : ∀ e ∈ c.entries, src ∉ e.sources) :
    ChimeState.Filed s (c.numbered.place s.patterns s.stackDepth (c.asked s.patterns src pat)).1 := by
  obtain ⟨hidle, -⟩ := hs.posed
  have hcons : SourcedEntries s.Asks (c.asked s.patterns src pat :: c.entries) :=
    hf.sourced.cons (src := src) rfl hasks hfree
  exact ⟨hcons.of_bare (c.numbered.place_bare _ _ _), ChimeState.place_rising (c := c.numbered) hf.rising hidle,
    ChimeState.place_deep (c := c.numbered) hf.deep hpos, fun h => absurd h hprofile⟩

end

/-! ### The moves -/

/-- What one move of a row, in a machine with the profile of `s`, makes of CHIME. Asking for a pattern takes a profile,
and a host slot asks only once it has left its entry (R154). -/
inductive ChimeMove (s : State) (c : ChimeState) : ChimeState → Prop
  /-- The entries stay: positions, results and the fade alone change. -/
  | alike (c' : ChimeState) (h : c.Alike c') : ChimeMove s c c'
  /-- The playing entry has finished (R156). -/
  | vacates : ChimeMove s c c.vacated
  /-- The playing entry starts at the end of a fade (R158). -/
  | starts (e : ChimeEntry) (hp : c.playing = some e) : ChimeMove s c (c.start s.patterns e)
  /-- A successor is chosen (R157). -/
  | succeeds (hp : c.playing = none) : ChimeMove s c (c.succeed s.patterns)
  /-- A source leaves (R155). -/
  | cancels (src : Source) : ChimeMove s c (c.cancel src)
  /-- A source joins the entry of its pattern (R152). -/
  | joins (src : Source) (pat : Nat) (hasks : s.Asks src pat)
      (hfree : ∀ j, src = .slot j → ∀ e ∈ c.entries, src ∉ e.sources) : ChimeMove s c (c.join src pat)
  /-- A new entry is placed (R153, R159). -/
  | places (src : Source) (pat : Nat) (hprofile : s.boot.profile ≠ none) (hasks : s.Asks src pat)
      (hfree : ∀ j, src = .slot j → ∀ e ∈ c.entries, src ∉ e.sources) (hnew : ∀ e ∈ c.entries, e.pattern ≠ pat) :
      ChimeMove s c (c.numbered.place s.patterns s.stackDepth (c.asked s.patterns src pat)).1

theorem ChimeMove.sound {s : State} {c c' : ChimeState} (h : ChimeMove s c c') (hs : c.Sound) : c'.Sound := by
  have hposed := hs.posed
  cases h with
  | alike _ h => exact h.thins.sound hs (h.posed hposed)
  | vacates => exact c.vacated_thins.sound hs (ChimeState.vacated_posed hposed)
  | starts e hp => exact (ChimeState.start_thins hp).sound hs (ChimeState.start_posed hposed)
  | succeeds hp => exact ChimeState.succeed_sound hp hs
  | cancels src => exact (c.cancel_thins src).sound hs (ChimeState.cancel_posed hposed src)
  | joins src pat => exact (c.join_thins src pat).sound hs (ChimeState.join_posed src pat hposed)
  | places src pat _ _ _ hnew => exact ChimeState.place_sound hnew hs

/-- R152: an entry that has a source holds the pattern the source asks for; a host slot that asks has no entry. -/
theorem ChimeState.Filed.pattern_of_source {s : State} {c : ChimeState} {src : Source} {pat : Nat} (hf : c.Filed s)
    (hasks : s.Asks src pat) (hfree : ∀ j, src = .slot j → ∀ e ∈ c.entries, src ∉ e.sources) :
    ∀ e ∈ c.entries, src ∈ e.sources → e.pattern = pat := by
  intro e he hsrc
  obtain ⟨p, hp⟩ : ∃ p, s.boot.profile = some p :=
    Option.ne_none_iff_exists'.mp fun hnone => by rw [hf.silent hnone] at he; cases he
  obtain ⟨-, -, hask⟩ := hf.sourced.1 e he
  have hown := hask src hsrc p hp
  have hpat := hasks p hp
  cases src with
  | cond k => exact hown.trans hpat.symm
  | slot j => exact absurd hsrc (hfree j rfl e he)
  | reverse => exact hown.trans hpat.symm

theorem ChimeMove.filed {s : State} {c c' : ChimeState} (h : ChimeMove s c c') (hs : c.Sound) (hf : c.Filed s)
    (hpos : s.boot.profile ≠ none → 0 < s.stackDepth) : c'.Filed s := by
  cases h with
  | alike _ h => exact h.thins.filed hf (h.entries ▸ hf.sourced)
  | vacates => exact c.vacated_thins.filed hf (hf.sourced.subperm c.vacated_entries.subperm)
  | starts e hp =>
    refine (ChimeState.start_thins hp).filed hf (hf.sourced.of_bare ?_)
    rw [ChimeState.start_bare hp]
  | succeeds hp => exact ChimeState.succeed_filed hp hs hf
  | cancels src => exact (c.cancel_thins src).filed hf (c.cancel_entries src ▸ hf.sourced.keeping _)
  | joins src pat hasks hfree =>
    refine (c.join_thins src pat).filed hf (c.join_entries src pat ▸ hf.sourced.join ?_ hasks ?_)
    · exact hs.distinct.1
    · exact hf.pattern_of_source hasks hfree
  | places src pat hprofile hasks hfree hnew =>
    refine ChimeState.place_filed hs hf (hpos hprofile) hprofile hasks fun e he hsrc => ?_
    exact hnew e he (hf.pattern_of_source hasks hfree e he hsrc)

/-- A run of moves. -/
abbrev ChimeMoves (s : State) : ChimeState → ChimeState → Prop := Relation.ReflTransGen (ChimeMove s)

theorem ChimeMoves.sound {s : State} {c c' : ChimeState} (h : ChimeMoves s c c') (hs : c.Sound) : c'.Sound := by
  induction h with
  | refl => exact hs
  | tail _ hmove ih => exact hmove.sound ih

theorem ChimeMoves.filed {s : State} {c c' : ChimeState} (h : ChimeMoves s c c') (hs : c.Sound) (hf : c.Filed s)
    (hpos : s.boot.profile ≠ none → 0 < s.stackDepth) : c'.Filed s := by
  induction h with
  | refl => exact hf
  | tail hmoves hmove ih => exact hmove.filed (ChimeMoves.sound hmoves hs) ih hpos

end Sys2Proof.Machine
end

section
/-! PROOFS. The rows as moves of CHIME: requests, cancels, slot words, conditions, the reverse view and the resets (R53,
R54, R117, R145, R152 to R163). -/

namespace Sys2Proof.Machine

open Sys2Proof

/-! ### Requests and cancels as moves (R152, R154, R155) -/

theorem State.profile_of_playable {s : State} {pat : Nat} (h : playable s.patterns pat = true) :
    s.boot.profile ≠ none := by
  intro hp
  obtain ⟨-, hcount⟩ := playable_iff.mp h
  unfold State.patterns at hcount
  rw [hp] at hcount
  exact hcount rfl

section
variable {s : State} {c : ChimeState} {src : Source} {pat : Nat}

theorem ChimeMoves.cancel (s : State) (c : ChimeState) (src : Source) : ChimeMoves s c (c.cancel src) :=
  .single (.cancels src)

theorem ChimeMoves.setResult (s : State) (c : ChimeState) (j : Nat) (r : SlotResult) :
    ChimeMoves s c (c.setResult j r) :=
  .single (.alike _ ⟨rfl, rfl, rfl, rfl, rfl⟩)

theorem ChimeMoves.request (hprofile : s.boot.profile ≠ none) (hasks : s.Asks src pat)
    (hfree : ∀ j, src = .slot j → ∀ e ∈ c.entries, src ∉ e.sources) :
    ChimeMoves s c (c.request s.patterns s.stackDepth src pat).1 := by
  unfold ChimeState.request
  split
  · exact .single (.joins src pat hasks hfree)
  · next hnot =>
    exact .single (.places src pat hprofile hasks hfree fun e he hpat => hnot (ChimeState.holds_iff.mpr ⟨e, he, hpat⟩))

/-- R154: a slot that asks has left its entry before. -/
theorem ChimeMoves.command {j : Nat} (hj : j < 4) (action : Nat) :
    ChimeMoves s c (c.command s.patterns s.stackDepth j action pat).1 := by
  unfold ChimeState.command
  split
  · exact .setResult s c j _
  · split
    · split
      · next hplay =>
        refine ((ChimeMoves.cancel s c (.slot j)).trans (ChimeMoves.setResult s _ j .blank)).trans
          (ChimeMoves.request (State.profile_of_playable hplay) (fun _ _ => hj) ?_)
        exact fun _ _ => c.cancel_free (.slot j)
      · exact .setResult s c j _
    · split
      · split
        · exact .setResult s c j _
        · split
          · exact (ChimeMoves.cancel s c (.slot j)).trans (ChimeMoves.setResult s _ j _)
          · exact .refl
      · exact .setResult s c j _

end

/-! ### Conditions, the reverse chime and the slot words in the machine (R53, R117, R145, R152) -/

/-- From `s` to `t` BOOT has stayed, and CHIME has gone on by moves. -/
structure ChimesOn (s t : State) : Prop where
  boot : t.boot = s.boot
  moves : ChimeMoves s s.chime t.chime

theorem ChimeMove.of_boot {s t : State} (h : t.boot = s.boot) {c c' : ChimeState} (hm : ChimeMove t c c') :
    ChimeMove s c c' := by
  have hpats : t.patterns = s.patterns := by unfold State.patterns; rw [h]
  have hdepth : t.stackDepth = s.stackDepth := by unfold State.stackDepth; rw [h]
  have hasks : ∀ src pat, t.Asks src pat → s.Asks src pat := fun src pat ha => by
    unfold State.Asks at ha ⊢
    rwa [h] at ha
  cases hm with
  | alike _ h => exact .alike _ h
  | vacates => exact .vacates
  | starts e hp => rw [hpats]; exact .starts e hp
  | succeeds hp => rw [hpats]; exact .succeeds hp
  | cancels src => exact .cancels src
  | joins src pat ha hfree => exact .joins src pat (hasks src pat ha) hfree
  | places src pat hprofile ha hfree hnew =>
    rw [hpats, hdepth]
    exact .places src pat (h ▸ hprofile) (hasks src pat ha) hfree hnew

section
variable {s t u : State}

theorem ChimesOn.refl (s : State) : ChimesOn s s := ⟨rfl, .refl⟩

/-- A change outside BOOT and CHIME. -/
theorem ChimesOn.outside (hboot : t.boot = s.boot) (hchime : t.chime = s.chime) : ChimesOn s t :=
  ⟨hboot, hchime ▸ .refl⟩

theorem ChimesOn.trans (h : ChimesOn s t) (h' : ChimesOn t u) : ChimesOn s u :=
  ⟨h'.boot.trans h.boot, h.moves.trans (Relation.ReflTransGen.mono (fun _ _ => ChimeMove.of_boot h.boot) _ _ h'.moves)⟩

theorem ChimesOn.foldl {α : Type} {f : State → α → State} (hf : ∀ s a, ChimesOn s (f s a)) (l : List α) :
    ∀ s, ChimesOn s (l.foldl f s) := by
  induction l with
  | nil => exact ChimesOn.refl
  | cons a l ih => exact fun s => (hf s a).trans (ih _)

theorem ChimesOn.takeChime {x : ChimeState × Bool} (h : ChimeMoves s s.chime x.1) : ChimesOn s (s.takeChime x) :=
  ⟨State.takeChime_boot .., by rw [State.takeChime_chime]; exact h⟩

theorem ChimesOn.chimeCancel (s : State) (src : Source) : ChimesOn s (s.chimeCancel src) := ⟨rfl, .cancel s s.chime src⟩

theorem ChimesOn.conditionRise (s : State) (k : Nat) : ChimesOn s (s.conditionRise k) := by
  unfold State.conditionRise
  split
  · next p hp =>
    split
    · refine .takeChime (.request (by rw [hp]; nofun) (fun q hq => ?_) nofun)
      obtain rfl := Option.some.inj (hp.symm.trans hq)
      rfl
    · exact .refl s
  · exact .refl s

theorem ChimesOn.reverseChime (s : State) : ChimesOn s s.reverseChime := by
  unfold State.reverseChime
  split
  · next p hp =>
    split
    · refine .takeChime (.request (by rw [hp]; nofun) (fun q hq => ?_) nofun)
      obtain rfl := Option.some.inj (hp.symm.trans hq)
      rfl
    · exact .refl s
  · exact .refl s

theorem ChimesOn.handConditions (s : State) (old new : BitVec 32) : ChimesOn s (s.handConditions old new) :=
  (ChimesOn.foldl ChimesOn.conditionRise _ s).trans (ChimesOn.foldl (fun s k => ChimesOn.chimeCancel s (.cond k)) _ _)

theorem ChimesOn.setLink (s : State) (l : LinkState) : ChimesOn s (s.setLink l) := .outside rfl rfl

theorem ChimesOn.completeFrame (s : State) (bytes : List Byte) : ChimesOn s (s.completeFrame bytes) := by
  unfold State.completeFrame
  generalize (if bytes.getD 1 0 = 1 then LinkKind.steering else .conditions) = k
  dsimp only
  split
  · exact .refl s
  · cases k with
    | steering => exact .setLink s _
    | conditions => exact (ChimesOn.setLink s _).trans (.handConditions _ _ _)

theorem ChimesOn.takeByte (s : State) (b : Byte) : ChimesOn s (s.takeByte b) := by
  unfold State.takeByte
  dsimp only
  split
  · split
    · exact .setLink s _
    · exact .refl s
  · split
    · exact .setLink s _
    · split
      · split
        · exact (ChimesOn.setLink s _).trans (.completeFrame _ _)
        · exact .setLink s _
      · exact .setLink s _

end

/-! ### The slot words (R53, R54) -/

/-- R53: a slot word names one of the four slots. -/
theorem slot_of_watchedNotice {off j action pat : Nat} {b : WBeat} {seqNo : BitVec 16}
    (h : watchedNotice off b = some (.chimeWrite j seqNo action pat)) : j < 4 := by
  unfold watchedNotice at h
  dsimp only at h
  split at h
  · cases h
  · split at h
    · cases h
    · split at h
      · simp only [Option.some.injEq, Notice.chimeWrite.injEq] at h
        omega
      · cases h

theorem slot_of_plainNotice {cb a j action pat : Nat} {b : WBeat} {seqNo : BitVec 16}
    (h : Notice.chimeWrite j seqNo action pat ∈ plainNotice cb a b) : j < 4 := by
  unfold plainNotice at h
  split at h
  · cases h
  · next n hn =>
    have hword : watchedNotice (a - cb) b = some n := by
      by_cases hle : cb ≤ a
      · rwa [if_pos hle] at hn
      · rw [if_neg hle] at hn; cases hn
    split at h
    · obtain rfl := List.mem_singleton.mp h
      exact slot_of_watchedNotice hword
    · split at h
      · cases List.mem_singleton.mp h
      · cases h

theorem mem_of_mem_ite_nil {α : Type} {p : Prop} [Decidable p] {a : α} {l : List α} (h : a ∈ if p then l else []) :
    a ∈ l := by
  split at h
  · exact h
  · cases h

/-- Of the notices of a piece, those of slot words alone are for CHIME (Table 20). -/
theorem slot_of_notices {p : PathState} {cb j action pat : Nat} {q : HostReq} {x : Piece} {seqNo : BitVec 16}
    (h : Notice.chimeWrite j seqNo action pat ∈ p.notices cb q x) : j < 4 := by
  unfold PathState.notices at h
  dsimp only at h
  split at h
  · obtain ⟨y, -, hy⟩ := List.mem_flatMap.mp h
    exact slot_of_plainNotice hy
  · cases List.mem_singleton.mp (mem_of_mem_ite_nil h)
  · unfold tagNotice at h
    dsimp only at h
    (repeat' split at h) <;> first | cases List.mem_singleton.mp h | cases h
  · have hmem := mem_of_mem_ite_nil h
    unfold audioNotices at hmem
    dsimp only at hmem
    split at hmem
    · obtain ⟨i, -, hi⟩ := List.mem_map.mp hmem
      cases hi
    · cases hmem
  · cases h

theorem slot_of_noticesOf {p : PathState} {cb j action pat : Nat} {q : HostReq} {x : Piece} {r : Reply}
    {seqNo : BitVec 16} (h : Notice.chimeWrite j seqNo action pat ∈ p.noticesOf cb q x r) : j < 4 := by
  unfold PathState.noticesOf at h
  split at h
  · split at h
    · exact slot_of_notices h
    · cases h
  · cases h

theorem ChimesOn.notice {s : State} {n : Notice}
    (hslot : ∀ j seqNo action pat, n = .chimeWrite j seqNo action pat → j < 4) : ChimesOn s (s.notice n) := by
  cases n with
  | chimeWrite j seqNo action pat =>
    have hj := hslot j seqNo action pat rfl
    by_cases h : s.path.shadows.getD j 0 = seqNo
    · rw [State.chimeWrite_same h]; exact .refl s
    · rw [State.chimeWrite_command h]
      exact (ChimesOn.outside rfl rfl : ChimesOn s (s.shadowed j seqNo)).trans (.takeChime (.command hj action))
  | filmPixel i j => exact .outside (State.filmPixelWrite_boot ..) (State.filmPixelWrite_chime ..)
  | filmTag i j bytes => exact .outside (State.filmTagWrite_boot ..) (State.filmTagWrite_chime ..)
  | generation gen scope => exact .outside rfl rfl
  | acknowledge w => exact .outside rfl rfl
  | audioBlock i j e => exact .outside rfl rfl
  | partialWrite => exact .outside rfl rfl

theorem ChimesOn.notify (ns : List Notice) :
    ∀ {s : State}, (∀ j seqNo action pat, Notice.chimeWrite j seqNo action pat ∈ ns → j < 4) →
      ChimesOn s (s.notify ns) := by
  induction ns with
  | nil => exact fun _ => .refl _
  | cons n ns ih =>
    exact fun h => (ChimesOn.notice fun j seqNo action pat hn => h j seqNo action pat (hn ▸ List.mem_cons_self)).trans
      (ih fun j seqNo action pat hn => h j seqNo action pat (List.mem_cons_of_mem n hn))

/-! ### The reverse view (R109, R113, R115, R117) -/

section
variable (s : State)

theorem ChimesOn.leaveOff : ChimesOn s s.leaveOff := by
  have hleft : ChimesOn s s.offLeft := by
    rw [State.offLeft_eq]
    exact .outside rfl rfl
  exact hleft.trans (.reverseChime _)

theorem ChimesOn.enterOff : ChimesOn s s.enterOff :=
  ⟨State.enterOff_boot s, s.enterOff_chime ▸ .cancel s s.chime .reverse⟩

theorem ChimesOn.rvcEnter (r : RvcState) : ChimesOn s (s.rvcEnter r) :=
  .outside (State.rvcEnter_boot ..) (State.rvcEnter_chime ..)

theorem ChimesOn.setPins (p : Pins) : ChimesOn s (s.setPins p) := .outside rfl rfl

theorem ChimesOn.setRvc (r : RvcState) : ChimesOn s (s.setRvc r) := .outside rfl rfl

theorem ChimesOn.reverseOn : ChimesOn s s.reverseOn := by
  unfold State.reverseOn
  split
  · exact .leaveOff s
  · exact .rvcEnter s _
  all_goals exact .refl s

theorem ChimesOn.beginRelease : ChimesOn s s.beginRelease := by
  unfold State.beginRelease
  split
  · exact .enterOff s
  · exact .rvcEnter s _

theorem ChimesOn.reverseOff : ChimesOn s s.reverseOff := by
  unfold State.reverseOff
  split
  · exact .refl s
  · exact .refl s
  all_goals exact .beginRelease s

theorem ChimesOn.takeLevel : ChimesOn s s.takeLevel := by
  unfold State.takeLevel
  split
  · exact .setRvc s _
  · dsimp only
    split
    · exact (ChimesOn.setRvc s _).trans (.reverseOn _)
    · exact (ChimesOn.setRvc s _).trans (.reverseOff _)

end

/-! ### The rows -/

theorem ChimeMoves.hostReset (s : State) (c : ChimeState) : ChimeMoves s c c.hostReset :=
  ((((ChimeMoves.cancel s c (.slot 0)).trans (ChimeMoves.cancel s _ (.slot 1))).trans
    (ChimeMoves.cancel s _ (.slot 2))).trans (ChimeMoves.cancel s _ (.slot 3))).tail
    (.alike _ ⟨rfl, rfl, rfl, rfl, rfl⟩)

/-- An output frame moves the position or the fade alone (R149, R158). -/
theorem ChimeMoves.advance (s : State) (c : ChimeState) (pats : List Pattern) : ChimeMoves s c (c.advance pats) := by
  refine .single (.alike _ ?_)
  unfold ChimeState.advance
  (repeat' split) <;> exact ⟨rfl, rfl, rfl, rfl, rfl⟩

/-- Whether CHIME was sounding does not matter to its successor. -/
theorem ChimeState.succeed_vacated (c : ChimeState) (pats : List Pattern) :
    c.vacated.succeed pats = c.succeed pats := by
  rcases c.successor_cases with ⟨x, hx, hle⟩ | ⟨w, hw, hlt⟩ | ⟨hs, hw⟩
  · rw [ChimeState.succeed_top hx hle, ChimeState.succeed_top (c := c.vacated) hx hle]; rfl
  · rw [ChimeState.succeed_head hw hlt, ChimeState.succeed_head (c := c.vacated) hw hlt]; rfl
  · rw [ChimeState.succeed_nobody hs hw, ChimeState.succeed_nobody (c := c.vacated) hs hw]; rfl

theorem ChimeMoves.stepEnd (s : State) (c : ChimeState) : ChimeMoves s c (c.stepEnd s.patterns).1 := by
  by_cases hsounds : c.phase = .playing ∧ ∃ e, c.playing = some e
  · obtain ⟨hph, e, hp⟩ := hsounds
    have again : ∀ step passes, ChimeMoves s c (c.atStep step passes) :=
      fun _ _ => .single (.alike _ ⟨rfl, rfl, rfl, rfl, rfl⟩)
    by_cases hstep : c.step + 1 < (patternAt s.patterns e.pattern).count
    · rw [ChimeState.stepEnd_advances hph hp hstep]; exact again _ _
    · cases hpasses : c.passes with
      | none => rw [ChimeState.stepEnd_repeats hph hp (Nat.not_lt.mp hstep) hpasses]; exact again _ _
      | some n =>
        by_cases hlast : 1 < n
        · rw [ChimeState.stepEnd_nextPass hph hp (Nat.not_lt.mp hstep) hpasses hlast]; exact again _ _
        · rw [ChimeState.stepEnd_finishes hph hp (Nat.not_lt.mp hstep) hpasses (Nat.not_lt.mp hlast),
            ← ChimeState.succeed_vacated]
          have hgone : ChimeMoves s c c.vacated := .single .vacates
          have hdone : ChimeMove s c.vacated (c.finished e).vacated := .alike _ ⟨rfl, rfl, rfl, rfl, rfl⟩
          exact (hgone.tail hdone).tail (.succeeds rfl)
  · have hnone : c.stepEnd s.patterns = (c, false) := by
      unfold ChimeState.stepEnd
      split
      · next e hph hp => exact absurd ⟨hph, e, hp⟩ hsounds
      · rfl
    rw [hnone]

theorem ChimeMoves.fadeOver (s : State) (c : ChimeState) : ChimeMoves s c (c.fadeOver s.patterns) := by
  by_cases hph : c.phase = .switching
  · cases hp : c.playing with
    | none => rw [ChimeState.fadeOver_succeeds hph hp]; exact .single (.succeeds hp)
    | some e => rw [ChimeState.fadeOver_starts hph hp]; exact .single (.starts e hp)
  · rw [ChimeState.fadeOver_other hph]

/-- R148 to R163: every row but power-on reset and the entry to RUNNING makes moves of CHIME, or leaves it. -/
theorem exec_chimeMoves {c : Instr} {s t : State} (h : exec c s = .next t) (hreset : c ≠ .powerOnReset)
    (hdefine : c ≠ .cameraRegionDefine) : ChimeMoves s s.chime t.chime := by
  cases c with
  | powerOnReset => exact absurd rfl hreset
  | cameraRegionDefine => exact absurd rfl hdefine
  | hostReset =>
    simp only [exec, execHostReset] at h
    (repeat' split at h) <;> (injection h with h; subst h)
    · exact .refl
    · exact .refl
    · obtain ⟨-, -, -, -, -, -, -, hchime, -⟩ := (s.setPins { s.pins with hrstnLow := true }).applyHostReset_blocks
      rw [hchime]
      exact .hostReset s s.chime
  | hostPieceComplete r =>
    simp only [exec, execHostPieceComplete] at h
    (repeat' split at h) <;> first | (injection h with h; subst h) | cases h
    · exact (ChimesOn.trans (s := s) (t := s.popFlight.setPath _) (.outside rfl rfl)
        (.notify _ fun _ _ _ _ => slot_of_noticesOf)).moves
    all_goals exact .refl
  | outputFrame =>
    simp only [exec, execOutputFrame] at h
    split at h <;> (injection h with h; subst h)
    · exact .advance s s.chime _
    · exact .refl
  | chimeStepEnd =>
    injection h with h
    rw [← h, State.takeChime_chime]
    exact .stepEnd s s.chime
  | fadeEnd =>
    injection h with h
    rw [← h, State.setChime_chime]
    exact .fadeOver s s.chime
  | revinChange =>
    simp only [exec, execRevinChange] at h
    (repeat' split at h) <;> (injection h with h; subst h)
    · exact ((ChimesOn.setPins s _).trans (.takeLevel _)).moves
    all_goals exact .refl
  | debounceExpiry =>
    simp only [exec, execDebounceExpiry] at h
    split at h <;> (injection h with h; subst h)
    · exact (ChimesOn.takeLevel s).moves
    · exact .refl
  | releaseTimerExpiry =>
    simp only [exec, execReleaseTimerExpiry] at h
    (repeat' split at h) <;> (injection h with h; subst h)
    · exact (ChimesOn.enterOff s).moves
    all_goals exact .refl
  | linkByteTaken b =>
    simp only [exec, execLinkByteTaken] at h
    split at h <;> (injection h with h; subst h)
    · exact ((ChimesOn.setLink s _).trans (.takeByte _ b)).moves
    · exact .refl
  | freshnessTimerExpiry k =>
    simp only [exec, execFreshnessTimerExpiry] at h
    split at h
    · injection h with h; subst h; exact .refl
    · cases k <;> (injection h with h; subst h)
      · exact .refl
      · exact ((ChimesOn.setLink s _).trans (.handConditions _ _ _)).moves
  | _ => rw [exec_frame h]; exact .refl

end Sys2Proof.Machine
end

section
/-! PROOFS. The profile that BOOT holds (R182 to R186), and that every step keeps the chime entries in order (R151 to
R153, R159). O14. -/

namespace Sys2Proof.Machine

open Sys2Proof

/-! ### The profile (R182 to R186) -/

section
variable {s t : State}

/-- The counts of the reference and the state of the read are no matter of the profile's checks. -/
theorem ProfileSound.of_boot (hs : ProfileSound s)
    (h : t.boot = { s.boot with
      clkCount := t.boot.clkCount, refCount := t.boot.refCount, profState := t.boot.profState }) : ProfileSound t := by
  unfold ProfileSound
  rw [h]
  exact hs

/-- Before BOOT asks for the camera region only the profile it holds has been checked. -/
theorem ProfileSound.of_notAsked (hasked : t.boot.asked = false)
    (hprofile : ∀ p, t.boot.profile = some p → p.ok t.boot.cbBase = true) : ProfileSound t :=
  ⟨fun _ => hasked, fun _ h => absurd (hasked.symm.trans h) (by decide), hprofile⟩

theorem ProfileSound.of_noProfile (hasked : t.boot.asked = false) (hprofile : t.boot.profile = none) : ProfileSound t :=
  .of_notAsked hasked fun _ hp => nomatch hprofile.symm.trans hp

theorem ProfileSound.advance (hs : ProfileSound s) (n : Nat) : ProfileSound (s.advance n) := by
  refine hs.of_boot ?_
  rw [s.advance_boot]
  split <;> rfl

/-- R183: the profile's stack depth is 2 or 4. -/
theorem ProfileSound.depth_pos (hs : ProfileSound s) (h : s.boot.profile ≠ none) : 0 < s.stackDepth := by
  obtain ⟨p, hp⟩ := Option.ne_none_iff_exists'.mp h
  obtain ⟨-, -, hok⟩ := hs
  have hrev := hok p hp
  simp only [Profile.ok, ReverseProfile.ok, Bool.and_eq_true, decide_eq_true_eq] at hrev
  unfold State.stackDepth
  rw [hp]
  show 0 < p.rev.depth
  omega

/-- R44, R185: the entry to RUNNING, where it happens, as BOOT and CHIME see it. -/
theorem exec_cameraRegionDefine_wakes (h : exec .cameraRegionDefine s = .next t) :
    t = s ∨ (s.boot.asked = true ∧ s.boot.startup = .profileRead ∧
      t.boot = { s.boot with startup := .running, profile := some (readProfile s.boot.image) } ∧
      t.chime = { s.chime with started := true }) := by
  obtain ⟨-, hmayDefine, hdefine⟩ := cameraRegionDefined
  obtain ⟨hmoment, hnone⟩ := hmayDefine s
  cases hmay : s.mayDefine with
  | false =>
    rw [hnone hmay] at h
    injection h with h
    exact .inl h.symm
  | true =>
    obtain ⟨hasked, hstartup, -, -⟩ := hmoment.mp hmay
    obtain ⟨u, -, hexec, -, hboot, -, -, -, -, hchime, -⟩ := hdefine s hmay
    rw [hexec] at h
    injection h with h
    subst h
    exact .inr ⟨hasked, hstartup, hboot, hchime⟩

theorem exec_profileSound {c : Instr} (hs : ProfileSound s) (hb : BeforeRunning s) (h : exec c s = .next t) :
    ProfileSound t := by
  obtain ⟨hnotYet, hread, hok⟩ := hs
  cases c with
  | powerOnReset =>
    injection h with h
    obtain ⟨hprofile, -⟩ := State.powerOn_dormant s.pins s.pending
    exact h ▸ .of_noProfile rfl hprofile
  | pornRelease b =>
    simp only [exec, execPornRelease] at h
    split at h <;> (injection h with h; subst h)
    · next hreset =>
      obtain ⟨hprofile, -⟩ := hb (by rw [hreset]; nofun)
      exact .of_noProfile (hnotYet (.inl hreset)) hprofile
    · exact ⟨hnotYet, hread, hok⟩
  | clockCheckEnd e =>
    simp only [exec, execClockCheckEnd] at h
    split at h
    · next hcheck =>
      have hadvanced : ProfileSound (s.advance e) := ProfileSound.advance ⟨hnotYet, hread, hok⟩ e
      split at h <;> (injection h with h; subst h)
      · obtain ⟨hnotYet', -, hok'⟩ := hadvanced
        refine .of_notAsked ?_ ?_ <;> rw [State.startReferenceBlocks_boot, State.setBoot_boot]
        · exact hnotYet' (.inr ((s.advance_startup e).trans hcheck))
        · exact hok'
      · exact hadvanced.of_boot rfl
    · injection h with h; exact h ▸ ⟨hnotYet, hread, hok⟩
  | profileLengthRead b0 b1 =>
    simp only [exec, execProfileLengthRead] at h
    split at h
    · next hfirst =>
      have hasked : s.boot.asked = false := Bool.eq_false_iff.mpr fun ha => by
        obtain ⟨hlength, -⟩ := hread hfirst.1 ha
        rw [hfirst.2] at hlength
        cases hlength
      split at h <;> (injection h with h; subst h)
      all_goals exact .of_notAsked hasked hok
    · injection h with h; exact h ▸ ⟨hnotYet, hread, hok⟩
  | profileReadDone rest =>
    simp only [exec, execProfileReadDone] at h
    split at h
    · split at h
      · next hlast =>
        obtain ⟨hstartup, hasked, hlength⟩ := hlast
        split at h <;> (injection h with h; subst h)
        · next himage =>
          refine ⟨fun hearly => ?_, fun _ _ => ⟨?_, himage⟩, hok⟩
          · have hearly' : s.boot.startup = .reset ∨ s.boot.startup = .clockCheck := hearly
            rw [hstartup] at hearly'
            exact hearly'.elim nofun nofun
          · rw [State.setBoot_boot, State.setBoot_boot, hlength]
            rfl
        · exact .of_notAsked hasked hok
      · injection h with h; exact h ▸ ⟨hnotYet, hread, hok⟩
    · cases h
  | cameraRegionDefine =>
    rcases exec_cameraRegionDefine_wakes h with rfl | ⟨hasked, hstartup, hboot, -⟩
    · exact ⟨hnotYet, hread, hok⟩
    · obtain ⟨-, himage⟩ := hread hstartup hasked
      simp only [imageOk, Bool.and_eq_true] at himage
      obtain ⟨-, hfields⟩ := himage
      unfold ProfileSound
      rw [hboot]
      exact ⟨fun hearly => hearly.elim nofun nofun, nofun, fun p hp => Option.some.inj hp ▸ hfields⟩
  | cameraFrameStart e =>
    have hadvanced : ProfileSound (s.advance e) := ProfileSound.advance ⟨hnotYet, hread, hok⟩ e
    simp only [exec, execCameraFrameStart] at h
    split at h <;> (injection h with h; subst h)
    · exact hadvanced
    · exact hadvanced.of_boot rfl
  | _ => exact ProfileSound.of_boot ⟨hnotYet, hread, hok⟩ (by rw [exec_frame h]; rfl)

end

/-! ### Every step -/

section
variable {s t : State}

theorem exec_chimeSound {c : Instr} (hs : ChimeSound s) (h : exec c s = .next t) : ChimeSound t := by
  by_cases hreset : c = .powerOnReset
  · subst hreset
    injection h with h
    subst h
    exact ChimeState.sound_iff.mpr ⟨⟨.nil, nofun⟩, ⟨Nat.zero_le _, .nil⟩, fun _ => rfl, nofun, nofun, nofun⟩
  · by_cases hdefine : c = .cameraRegionDefine
    · subst hdefine
      rcases exec_cameraRegionDefine_wakes h with rfl | ⟨-, -, -, hchime⟩
      · exact hs
      · unfold ChimeSound
        rw [hchime]
        exact hs
    · exact (exec_chimeMoves h hreset hdefine).sound hs

/-- What is filed rightly for a profile is so in any machine that holds it. -/
theorem ChimeState.Filed.congr {c : ChimeState} (h : c.Filed s) (hp : t.boot.profile = s.boot.profile) : c.Filed t := by
  obtain ⟨hsourced, hrising, hdeep, hsilent⟩ := h
  have hasks : t.Asks = s.Asks := by funext src pat; unfold State.Asks; rw [hp]
  have hdepth : t.stackDepth = s.stackDepth := by unfold State.stackDepth; rw [hp]
  exact ⟨hasks ▸ hsourced, hrising, hdepth ▸ hdeep, fun hn => hsilent (hp ▸ hn)⟩

theorem exec_chimeRanked {c : Instr} (hs : ChimeSound s) (hr : ChimeRanked s) (hprof : ProfileSound s)
    (hb : BeforeRunning s) (h : exec c s = .next t) : ChimeRanked t := by
  by_cases hreset : c = .powerOnReset
  · subst hreset
    injection h with h
    subst h
    exact chimeRanked_iff.mpr (.of_empty rfl)
  · by_cases hdefine : c = .cameraRegionDefine
    · subst hdefine
      rcases exec_cameraRegionDefine_wakes h with rfl | ⟨-, hstartup, -, hchime⟩
      · exact hr
      · obtain ⟨-, -, -, -, -, -, -, -, hplaying, hstack, hwaiting⟩ := hb (by rw [hstartup]; nofun)
        refine chimeRanked_iff.mpr (.of_empty ?_)
        rw [hchime, ChimeState.entries, hplaying, hstack, hwaiting]
        rfl
    · have hfiled := (exec_chimeMoves h hreset hdefine).filed hs (chimeRanked_iff.mp hr) hprof.depth_pos
      exact chimeRanked_iff.mpr (hfiled.congr (exec_profile h hreset hdefine))

theorem State.advance_profile (s : State) (n : Nat) : (s.advance n).boot.profile = s.boot.profile := by
  rw [s.advance_boot]; split <;> rfl

theorem State.advance_beforeRunning (hb : BeforeRunning s) (n : Nat) : BeforeRunning (s.advance n) :=
  beforeRunning_iff.mpr fun ht => State.advance_dormant (hb (s.advance_startup n ▸ ht)) n

end

/-- Settles O14: a tick leaves CHIME and the profile, every row makes moves of CHIME that keep the entries in order, and
BOOT holds no profile that has not passed its checks. -/
theorem stepKeepsChimes : Obligations.StepKeepsChimes := by
  refine ⟨fun s t hs => step_keeps (P := ChimeSound) (fun _ _ h => h) (fun s h => ?_) (fun _ _ _ => exec_chimeSound) hs,
    fun s t hs h => ?_⟩
  · unfold ChimeSound
    rw [State.advance_chime]
    exact h
  · have hall := step_keeps (P := fun s => ChimeSound s ∧ ChimeRanked s ∧ ProfileSound s ∧ BeforeRunning s)
      (fun _ _ h => h) (fun s ⟨hsound, hranked, hprofile, hbefore⟩ => ?_)
      (fun c s t ⟨hsound, hranked, hprofile, hbefore⟩ he => ⟨exec_chimeSound hsound he,
        exec_chimeRanked hsound hranked hprofile hbefore he, exec_profileSound hprofile hbefore he,
        exec_beforeRunning hbefore he⟩) hs h
    · obtain ⟨-, hranked, hprofile, -⟩ := hall
      exact ⟨hranked, hprofile⟩
    · have hchime : (s.advance 1).chime = s.chime := State.advance_chime ..
      refine ⟨?_, ?_, hprofile.advance 1, State.advance_beforeRunning hbefore 1⟩
      · unfold ChimeSound
        rw [hchime]
        exact hsound
      · rw [chimeRanked_iff, hchime]
        exact (chimeRanked_iff.mp hranked).congr (s.advance_profile 1)

end Sys2Proof.Machine
end
